-- ==== Sys2Proof/Word.lean ====
section
/-!
DEFINITION. The words the manual numbers as bits, the fixed index types of one tile, and the plainest
arithmetic of the scope chapter.
-/
namespace Sys2Proof

/-- A byte of a packet, a frame or an NVM image. -/
abbrev Byte := BitVec 8
/-- A host-port word (R5). -/
abbrev Word := BitVec 16
/-- A 10-bit fabric address (R260). -/
abbrev Addr := BitVec 10
/-- A 48-bit UID (R29). -/
abbrev Uid := BitVec 48
/-- A link port L0 to L5 (Table ARCH-4). -/
abbrev Port := Fin 6
/-- A key ladder KEY0 to KEY7 (Table KEY-1). -/
abbrev Ladder := Fin 8
/-- A key of a ladder (Table KEY-4). -/
abbrev Key := Fin 8
/-- A tenant T0 to T15. -/
abbrev Tenant := Fin 16

end Sys2Proof
end

