-- ==== Sys2Proof/Syntax.lean ====
section
/-!
DEFINITION. The commands of one BV616 tile: one constructor for each row of the table of operations and
events, with the data the row's rule names as its operands (assumption log 7).
-/
namespace Sys2Proof

/-- What an accepted CMD brings from its header to the opcode that acts on it (Table PKT-1, R347). -/
structure CmdCtx where
  /-- TENANT of the CMD. -/
  tenant : Tenant
  /-- AUTH of the RSP: check 3 passed (R347). -/
  auth   : Bool
  /-- URG of the CMD (R340). -/
  urg    : Bool
  /-- FRAG of the CMD (R350). -/
  frag   : Bool
  /-- LAST of the CMD (R350). -/
  last   : Bool
  /-- SRC of the CMD: where the RSP goes (R347). -/
  src    : Addr
  /-- SEQ of the CMD (R347). -/
  seq    : Word
  deriving DecidableEq, Repr

/-- HELLO body (Table HEDGE-2). -/
structure Hello where
  uid        : Uid
  addr       : Addr
  panel      : BitVec 5
  u          : BitVec 8
  v          : BitVec 8
  port       : BitVec 3
  posValid   : Bool
  panelRoot  : Bool
  hedgeRoot  : Bool
  state      : BitVec 4
  depth      : BitVec 4
  lowestRoot : Uid
  rosterVer  : Word
  epoch      : Byte
  deriving DecidableEq, Repr

/-- A contact-id grant in SYNC: tile address and contact id (Table HEDGE-5). -/
structure IdGrant where
  tile : Addr
  id   : BitVec 6
  deriving DecidableEq, Repr

/-- SYNC body (Table HEDGE-5, continued). -/
structure SyncBody where
  fc       : BitVec 32
  tkAddr   : Addr
  depth    : BitVec 4
  epoch    : Byte
  hopCur   : BitVec 3
  hopNext  : BitVec 3
  changeIn : Byte
  digest   : Word
  grants   : List IdGrant
  deriving DecidableEq, Repr

/-- SEAM_H body (Table HEDGE-7). -/
structure SeamH where
  fc        : BitVec 32
  scanning  : Bool
  sagged    : Bool
  isPartial : Bool
  settling  : Bool
  swing     : Bool
  wet       : Bool
  nDrv      : BitVec 6
  nSns      : BitVec 5
  hop       : BitVec 3
  digest    : Word
  seamLines : BitVec 24
  deriving DecidableEq, Repr

/-- One node of SEAM_D: its delta, 0x8000 for none, and its two flags (Table HEDGE-7). -/
structure SeamNode where
  delta    : BitVec 16
  ranging  : Bool
  coppiced : Bool
  deriving DecidableEq, Repr

/-- SEAM_D body (Table HEDGE-7): one part of the band's deltas and the self deltas of the crossing lines. -/
structure SeamD where
  fc    : BitVec 32
  part  : BitVec 4
  parts : BitVec 4
  first : Word
  nodes : List SeamNode
  selfs : List (BitVec 16)
  deriving DecidableEq, Repr

/-- A band peak's position and the contact it matched, 0xFF for none (Table HEDGE-7, SEAM_X). -/
structure SeamMatch where
  x  : BitVec 24
  y  : BitVec 24
  id : Byte
  deriving DecidableEq, Repr

/-- A position in panel coordinates as it travels, s24 tu each way. -/
structure PosBits where
  x : BitVec 24
  y : BitVec 24
  deriving DecidableEq, Repr

/-- The state block of a contact or candidate (text after Table HEDGE-7). -/
structure StateBlock where
  id           : BitVec 6
  /-- It holds an id; a candidate may wait for one. -/
  hasId        : Bool
  candidate    : Bool
  handover     : Bool
  confirm      : BitVec 3
  last         : PosBits
  prev         : PosBits
  down         : PosBits
  anchor       : PosBits
  runSym       : BitVec 3
  runCnt       : Byte
  syms         : List (BitVec 3)
  overlong     : Bool
  life         : Word
  longDone     : Bool
  downSettling : Bool
  /-- Its DOWN position depends on an interpolated node (R42). -/
  downCop      : Bool
  sawEdge      : Bool
  sawRanging   : Bool
  /-- It has stayed within TAP_SLOP of its DOWN position (R181). -/
  still        : Bool
  /-- Its DOWN hit a MASK zone (R179). -/
  masked       : Bool
  engaged      : BitVec 16
  flags        : BitVec 6
  reported     : List (Tenant × PosBits)
  deriving DecidableEq, Repr

/-- SEAM_X body (Table HEDGE-7). -/
structure SeamX where
  fc      : BitVec 32
  /-- The body goes on in a further frame (R290). -/
  more    : Bool
  matched : List SeamMatch
  blocks  : List StateBlock
  deriving DecidableEq, Repr

/-- TILE_REPORT payload (Table HEDGE-6, continued). -/
structure TileReport where
  fc         : BitVec 32
  state      : BitVec 4
  sagged     : Bool
  idsReq     : BitVec 4
  inUse      : BitVec 64
  returned   : BitVec 64
  digest     : Word
  frameTicks : BitVec 32
  surveys    : List (Byte × BitVec 32)
  deriving DecidableEq, Repr

/-- One tile of a ROSTER (Table HEDGE-3, 12 bytes). -/
structure RosterTile where
  uid   : Uid
  addr  : Addr
  u     : BitVec 8
  v     : BitVec 8
  mask  : BitVec 6
  state : BitVec 4
  lost  : Bool
  deriving DecidableEq, Repr

/-- ROSTER body (Table HEDGE-3). -/
structure Roster where
  version : Word
  tiles   : List RosterTile
  deriving DecidableEq, Repr

/-- JOIN_GRANT payload (Table HEDGE-3). -/
structure JoinGrant where
  uid       : Uid
  addr      : Addr
  u         : BitVec 8
  v         : BitVec 8
  panel     : BitVec 5
  epoch     : Byte
  rosterVer : Word
  deriving DecidableEq, Repr

/-- Reason of a JOIN_REFUSE (Table HEDGE-3, in its order). -/
inductive RefuseReason where
  | panelFull | hedgeFull | positionConflict
  deriving DecidableEq, Repr

/-- What an ADMIT carries: the payload of JOIN_GRANT or of JOIN_REFUSE (Table HEDGE-1). -/
inductive Admission where
  | grant  (g : JoinGrant)
  | refuse (uid : Uid) (reason : RefuseReason)
  deriving DecidableEq, Repr

/-- Cause of a loss (Table HEDGE-3, Table PKT-7 event 0x10). -/
inductive LossCause where
  | severed | keepalive | wakeFail
  deriving DecidableEq, Repr

/-- LOSS payload (Table HEDGE-3). -/
structure LossReport where
  port    : BitVec 3
  partner : Addr
  uid     : Uid
  cause   : LossCause
  deriving DecidableEq, Repr

/-- A WIRE link of a PANEL_ADVERT: gateway address, port, far panel (Table HEDGE-3). -/
structure WireLink where
  gw   : Addr
  port : BitVec 3
  far  : BitVec 5
  deriving DecidableEq, Repr

/-- PANEL_ADVERT payload (Table HEDGE-3). A block is named by its first address. -/
structure PanelAdvert where
  rootUid     : Uid
  rootAddr    : Addr
  panel       : BitVec 5
  tileCount   : Byte
  blocks      : List Addr
  /-- Single addresses held from other panels' blocks (R263). -/
  singles     : List Addr
  provisional : Bool
  wires       : List WireLink
  deriving DecidableEq, Repr

/-- PANEL_GRANT payload (Table HEDGE-3, R266). -/
structure PanelGrant where
  panel   : BitVec 5
  blocks  : List Addr
  /-- Single addresses from other panels' blocks (R263). -/
  singles : List Addr
  refused : Bool
  deriving DecidableEq, Repr

/-- A route-table entry (Table HEDGE-4). -/
structure RouteEntry where
  lo       : Addr
  hi       : Addr
  gw       : Addr
  port     : BitVec 3
  metric   : BitVec 4
  isStatic : Bool
  deriving DecidableEq, Repr

/-- A fault found by quick BIST: its class of Table REPAIR-3, and for class 1 its bank and column group. -/
structure BistFault where
  cls    : Byte
  bank   : Fin 6
  column : Fin 16
  deriving DecidableEq, Repr

/-- What the scrub's three reads of a row showed (R399). -/
structure ScrubRead where
  corrected     : Bool
  marginDiffers : Bool
  uncorrectable : Bool
  deriving DecidableEq, Repr

/-- What leg timing measured on one drive pin: for each leg the ticks to the crossing, none for no crossing
(R382). -/
structure LegCheck where
  leg0 : Option Nat
  leg1 : Option Nat
  deriving DecidableEq, Repr

/-- Converter samples of one window: one list of s12 samples. -/
abbrev Samples := List (BitVec 12)

/-- The samples of a MUTUAL slot, a list of 26 channels each: the pre-roll's, those of each of the 32 steps, and those after the last step
(R95, R99, Table ACQ-10). -/
structure ScanSamples where
  pre   : List Samples
  steps : List (List Samples)
  tail  : List Samples
  deriving DecidableEq, Repr

/-- The commands of the tile, in the order of the table of operations and events. -/
inductive Instr where
  -- supply, reset, boot
  | powerOn
  | brownOut
  | brownOutRecovery
  | nvmInhibit
  | nvmInhibitClear
  | resetPin
  | testenHold (high : Bool)
  | vioAbsent
  | vioPresent
  | refloss
  | referenceQualified
  | resetRelease
  | pllLock (bist : List BistFault)
  | linkQuietEnd
  | refrdy
  -- wake and Doze entry
  | csWake
  | linkStartEdgeWake (p : Port)
  | ladderWake (l : Ladder)
  | encoderEdgeWake (e : Fin 2)
  | rtcAlarm
  | dozeEntrySwitchover (comparators : BitVec 8)
  | dozeEntryAbandon
  | dozeEntryRetry
  | runIdleElapsed
  | quietIdleElapsed
  | bareIdleElapsed
  -- frame slots
  | frameBoundary
  | noiseSlot (windows : List (List Samples)) (gains : List (BitVec 16))
  | mutualSlot (scan : ScanSamples) (sag : Bool)
  | selfSlot (crossings : List (List Nat))
  | seamSlot (legs : List LegCheck)
  | computeSlot
  | seamDDeadline (p : Port)
  | seamXDeadline (p : Port)
  | reportSlot
  | keeperEvaluation
  | watchBurst (counts : List (Option Nat))
  -- SAR, keys, encoders, combinations
  | sarConversionDone (code : BitVec 12)
  | batteryLowRepeat
  | systemSequenceRun
  | userSequenceRun
  | keyLong (l : Ladder) (k : Key)
  | keyStuck (l : Ladder) (k : Key)
  | ladderFault (l : Ladder)
  | ladderArm (l : Ladder)
  | ladderWakeSpurious (l : Ladder)
  | ladderMaskEnd (l : Ladder)
  | encoderTransition (e : Fin 2) (a b : Bool)
  | encoderReport (e : Fin 2)
  | combinationA
  | combinationB
  | provisioningHold
  | presenceEnd
  | provPin
  -- link ports
  | linkCharacter (p : Port) (start : Nat) (bits : List (List Bool))
  | linkFrameEnd (p : Port)
  | linkTransmit (p : Port) (launch : Nat)
  | linkConfigApply (p : Port)
  | linkHuntStart (p : Port)
  | lineLive (p : Port)
  | lineBreak (p : Port)
  | lineBreakClear (p : Port)
  | severed (p : Port)
  | echoCharacter (p : Port)
  | echoTimeout (p : Port)
  | linkWakeSpurious (p : Port)
  | linkWakeMaskEnd (p : Port)
  -- link frames and the hedge layer
  | data (p : Port) (lseq : BitVec 4) (packet : List Byte)
  | ack (p : Port) (lseq : BitVec 4)
  | nak (p : Port) (lseq : BitVec 4) (reason : Byte)
  | ackTimeout (p : Port)
  | nakBusyRepeat (p : Port)
  | hello (p : Port) (lseq : BitVec 4) (body : Hello)
  | helloPeriodic
  | join (p : Port) (lseq : BitVec 4) (body : Hello) (requested : Addr)
  | admission (p : Port) (lseq : BitVec 4) (answer : Admission)
  | sync (p : Port) (edge : Int) (body : SyncBody)
  | syncSend
  | syncLost
  | timekeeperClaim
  | xtrimAdjust
  | seamH (p : Port) (lseq : BitVec 4) (body : SeamH)
  | seamD (p : Port) (lseq : BitVec 4) (body : SeamD)
  | seamX (p : Port) (lseq : BitVec 4) (body : SeamX)
  | ka (p : Port) (state : Byte)
  | keepaliveSend (p : Port)
  | keepaliveLoss (p : Port)
  | doze (p : Port) (lseq : BitVec 4) (state : Byte)
  | echoReq (p : Port) (lseq : BitVec 4)
  | wake (p : Port) (lseq : BitVec 4) (target : Byte) (number : Word) (scope : Byte)
  | quickset (p : Port)
  | ready (p : Port)
  | delayProbe (p : Port) (edge : Nat)
  | wakeThroughTimeout (p : Port)
  | delayMeasure (p : Port)
  | panelRootElection
  | hedgeRootElection
  | joinReq (sponsor : Addr) (body : Hello) (requested : Addr) (sponsorPort : BitVec 3)
  | joinGrant (g : JoinGrant)
  | joinRefuse (uid : Uid) (reason : RefuseReason)
  | joinRetry
  | hedgeRoster (r : Roster)
  | tileReport (src : Addr) (r : TileReport)
  | frameTimingStop
  | loss (src : Addr) (r : LossReport)
  | lossDecision
  | contactIdFree (tile : Addr)
  | panelAdvert (a : PanelAdvert)
  | panelAdvertPeriodic
  | panelGrant (g : PanelGrant)
  | panelRequestRetry
  | hedgeRoutes (entries : List RouteEntry)
  | rootHandover
  | relayWaitExpiry (index : Nat)
  | rptPacket (packet : List Byte)
  | rptSend (t : Tenant)
  -- host port and registers
  | transactionStart (highTicks : Nat) (header : Word)
  | transactionEnd (edges : Nat)
  | registerWrite (addr : BitVec 6) (w : Word)
  | hoststatWrite (w : Word)
  | attnsrcWrite (w : Word)
  | req (w : Word)
  | floor (w : Word)
  | hostctlReset (w : Word)
  | pktinWrite (w : Word)
  | pktoutRead (completed : Bool)
  | pktoutlvlRead (completed : Bool)
  | wakesrcRead (completed : Bool)
  | encstatRead (completed : Bool)
  | htfc0Read (completed : Bool)
  | sarminRead (completed : Bool)
  | rtc0Read (completed : Bool)
  | linkstatRead (completed : Bool)
  | linkdataRead (completed : Bool)
  | linkdataWrite (w : Word)
  | linkselWrite (w : Word)
  | op (w : Word)
  | txbrk (w : Word)
  | flush (w : Word)
  | start (w : Word)
  | close (w : Word)
  | useqSettingsWrite (addr : BitVec 6) (w : Word)
  | sarurg (w : Word)
  -- opcodes
  | getInfo (c : CmdCtx) (payload : List Byte)
  | getState (c : CmdCtx) (payload : List Byte)
  | setState (c : CmdCtx) (payload : List Byte)
  | reset (c : CmdCtx) (payload : List Byte)
  | resetCommandExecute
  | getFresh (c : CmdCtx) (payload : List Byte)
  | profileRead (c : CmdCtx) (payload : List Byte)
  | profileWrite (c : CmdCtx) (payload : List Byte)
  | transferAbandon
  | profileCommit (c : CmdCtx) (payload : List Byte)
  | nvmOperationDone (verified : Bool)
  | profileGen (c : CmdCtx) (payload : List Byte)
  | provKey (c : CmdCtx) (payload : List Byte)
  | tenantDefine (c : CmdCtx) (payload : List Byte)
  | tenantRemove (c : CmdCtx) (payload : List Byte)
  | tenantGet (c : CmdCtx) (payload : List Byte)
  | hedgeKey (c : CmdCtx) (payload : List Byte)
  | zones (c : CmdCtx) (payload : List Byte)
  | templates (c : CmdCtx) (payload : List Byte)
  | gestureFields (c : CmdCtx) (payload : List Byte)
  | wakeConfig (c : CmdCtx) (payload : List Byte)
  | framePlan (c : CmdCtx) (payload : List Byte)
  | senseLines (c : CmdCtx) (payload : List Byte)
  | compCodes (c : CmdCtx) (payload : List Byte)
  | compSeek (c : CmdCtx) (payload : List Byte)
  | seekStart
  | seekTimeout
  | baselineCapture (c : CmdCtx) (payload : List Byte)
  | nodeFields (c : CmdCtx) (payload : List Byte)
  | trackFields (c : CmdCtx) (payload : List Byte)
  | swing (c : CmdCtx) (payload : List Byte)
  | selfFields (c : CmdCtx) (payload : List Byte)
  | nodeMap (c : CmdCtx) (payload : List Byte)
  | noise (c : CmdCtx) (payload : List Byte)
  | sampleView (c : CmdCtx) (payload : List Byte)
  | selfTest (c : CmdCtx) (payload : List Byte)
  | telemetry (c : CmdCtx) (payload : List Byte)
  | wearMap (c : CmdCtx) (payload : List Byte)
  | linkCounts (c : CmdCtx) (payload : List Byte)
  | faults (c : CmdCtx) (payload : List Byte)
  | ladders (c : CmdCtx) (payload : List Byte)
  | encoders (c : CmdCtx) (payload : List Byte)
  | keyStatus (c : CmdCtx) (payload : List Byte)
  | comboRead (c : CmdCtx) (payload : List Byte)
  | routes (c : CmdCtx) (payload : List Byte)
  | linkConfig (c : CmdCtx) (payload : List Byte)
  | rawLink (c : CmdCtx) (payload : List Byte)
  | discover (c : CmdCtx) (payload : List Byte)
  | roster (c : CmdCtx) (payload : List Byte)
  | renumber (c : CmdCtx) (payload : List Byte)
  | repairStatus (c : CmdCtx) (payload : List Byte)
  | coppiceSet (c : CmdCtx) (payload : List Byte)
  | coppiceClear (c : CmdCtx) (payload : List Byte)
  | fingerprint (c : CmdCtx) (payload : List Byte)
  | bgTask (c : CmdCtx) (payload : List Byte)
  | deferredCommandApply
  -- repair and endurance
  | sliceCalibrationDone (converter : Fin 2) (gain : Int) (offset : Int)
  | sliceHandoverForced (converter : Fin 2)
  | slicecalDue (converter : Fin 2)
  | dailySelftestDue
  | selftestForced
  | selftestConfirm
  | suspectSelftest
  | deferForced (task : Fin 5)
  | nvmScrub (row : Nat) (read : ScrubRead)
  | nvmRefresh (row : Nat) (verified : Bool)
  | telemetryFlush
  | nvmFragile
  -- further events
  | falseStart (p : Port)
  | linkFrameSent (p : Port)
  | fingerprintTimeout
  | selfTestTimeout
  | otpProgramDone (verified : Bool)
  | provRelease
  | retentionRecordLost
  | overclk
  deriving DecidableEq, Repr

end Sys2Proof
end

