-- ==== Sys2Proof/Config.lean ====
section
/-!
DEFINITION. Values the manual leaves open: constants without a body, of which nothing can be proved (log 3).
-/
namespace Sys2Proof.Config

/-- The stepping byte of GET_INFO, which differs from part to part (R357). -/
opaque stepping : Byte

/-- Codes by which XTRIM moves after 64 frames, from the draw number, XTRIM before and the summed corrections: R284 gives the
direction and not the amount. -/
opaque xtrimAmount : Nat → BitVec 10 → Int → Nat

/-- Characters that the hedge layer's receive buffer of a port holds beside one frame of the largest size (R235). -/
opaque linkBuffer : Nat

/-- FRESH of a HEDGE packet with AUTH = 1, by the packet's number: R345 gives a value to tenants' packets only. -/
opaque hedgeFresh : Nat → BitVec 32

/-- A supply or temperature extreme of a telemetry interval without a monitor burst (Table REPAIR-9). -/
opaque teleExtreme : Nat → Word

/-- The record byte of NVM_UNCORRECTABLE, whose code the manual does not list (Table REPAIR-10). -/
opaque nvmRecordCode : Nat → Byte

/-- Kind (argument: the state code) and signature (16 more) of a fault-list entry in state COMPLIM, WATCH_SHORT or
REF_FAULT, which the manual does not give (R388). -/
opaque faultCode : Nat → Byte

/-- A failing column (bank, column group) that an SRAM march finds, or none: a fact of the part (R387, R388). -/
opaque marchFault : Nat → Option (Fin 6 × Fin 16)

/-- A row of NVM fails verify after a program or an erase: a fact of the part, by the number of the draw (R397). -/
opaque rowFails : Nat → Bool

/-- Fault entries that a SELF_TEST of kind 2 or 3 finds, as kind, index and signature: facts of the part (R388). -/
opaque testFaults : Nat → List (Byte × Byte × Byte)

end Sys2Proof.Config
end

