-- ==== Sys2Proof/Machine/Arith.lean ====
section
/-!
DEFINITION. The arithmetic helpers of the scope chapter, the two CRCs, and little-endian packing.
-/
namespace Sys2Proof.Machine

/-- asr(x, n): arithmetic shift right, floor(x / 2^n) (scope, Helpers). -/
def asr (x : Int) (n : Nat) : Int := x / (2 ^ n)

/-- rhu(x, n): round-half-up division by 2^n (R6). -/
def rhu (x : Int) (n : Nat) : Int := if n = 0 then x else asr (x + 2 ^ (n - 1)) n

/-- sat(x, N): clamp to the symmetric range of N bits (R7). -/
def sat (x : Int) (n : Nat) : Int :=
  if x < -(2 ^ (n - 1) - 1) then -(2 ^ (n - 1) - 1) else if 2 ^ (n - 1) - 1 < x then 2 ^ (n - 1) - 1 else x

/-- sat16(x) (scope, Helpers). -/
def sat16 (x : Int) : Int := sat x 16

/-- usat(x, N): clamp to [0, 2^N - 1] (scope, Helpers). -/
def usat (x : Int) (n : Nat) : Int := if x < 0 then 0 else if 2 ^ n - 1 < x then 2 ^ n - 1 else x

/-- A count that saturates at the top of N bits. -/
def satCount (n : Nat) (x : Nat) : Nat := min x (2 ^ n - 1)

/-- divr(a, b): round-half-up quotient for b > 0 (chapter 05, Position, size and signal sum). -/
def divr (a b : Int) : Int := (2 * a + b) / (2 * b)

/-- Chebyshev length of a displacement. -/
def cheb (dx dy : Int) : Int := max (Int.natAbs dx : Int) (Int.natAbs dy : Int)

/-- One bit through the CRC-16 of R251 (polynomial 0x1021, not reflected). -/
def crc16Step (c : BitVec 16) : BitVec 16 := if c.msb then (c <<< 1) ^^^ 0x1021#16 else c <<< 1

/-- One byte through the CRC-16 of R251. -/
def crc16Byte (c : BitVec 16) (b : Byte) : BitVec 16 :=
  (List.range 8).foldl (fun c _ => crc16Step c) (c ^^^ (b.zeroExtend 16 <<< 8))

/-- The CRC-16 of R251: initial value 0xFFFF, no final inversion. -/
def crc16 (bs : List Byte) : BitVec 16 := bs.foldl crc16Byte 0xFFFF#16

/-- One bit through the reflected CRC-32 of R338. -/
def crc32Step (c : BitVec 32) : BitVec 32 := if c.getLsbD 0 then (c >>> 1) ^^^ 0xEDB88320#32 else c >>> 1

/-- One byte through the reflected CRC-32 of R338. -/
def crc32Byte (c : BitVec 32) (b : Byte) : BitVec 32 :=
  (List.range 8).foldl (fun c _ => crc32Step c) (c ^^^ b.zeroExtend 32)

/-- The CRC-32 of R338: initial value and final XOR 0xFFFFFFFF. -/
def crc32 (bs : List Byte) : BitVec 32 := bs.foldl crc32Byte 0xFFFFFFFF#32 ^^^ 0xFFFFFFFF#32

/-- The low `n` bytes of a number, little-endian (R5). -/
def le (n : Nat) (x : Nat) : List Byte := (List.range n).map (fun i => BitVec.ofNat 8 (x / 256 ^ i))

/-- The low `n` bytes of an integer in two's complement, little-endian. -/
def leInt (n : Nat) (x : Int) : List Byte := le n (x % (256 ^ n : Int)).toNat

/-- The number a little-endian byte list holds (R5). -/
def ofLe : List Byte → Nat
  | [] => 0
  | b :: bs => b.toNat + 256 * ofLe bs

/-- Bytes `i` to `i + n - 1` of a list, as a number; bytes that are not there count as 0. -/
def leAt (bs : List Byte) (i n : Nat) : Nat := ofLe ((bs.drop i).take n)

/-- One byte of a list; a byte that is not there counts as 0. -/
def byteAt (bs : List Byte) (i : Nat) : Byte := bs.getD i 0#8

/-- A list with one place replaced; no change past its end. -/
def setAt {α : Type} (l : List α) (i : Nat) (x : α) : List α := l.set i x

/-- A list with one place passed through a function. -/
def modifyAt {α : Type} (l : List α) (i : Nat) (f : α → α) : List α :=
  match l[i]? with
  | some x => l.set i (f x)
  | none => l

/-- Put a value in its place in a sorted list, behind the values it does not precede. -/
def insertBy {α : Type} (lt : α → α → Bool) (x : α) : List α → List α
  | [] => [x]
  | y :: ys => if lt x y then x :: y :: ys else y :: insertBy lt x ys

/-- A list sorted, equal values in their order. -/
def sortBy {α : Type} (lt : α → α → Bool) (l : List α) : List α := l.foldl (fun acc x => insertBy lt x acc) []

/-- A Bool as a number, 0 or 1. -/
def bit (b : Bool) : Nat := if b then 1 else 0

/-- A u16 count that saturates at 65 535, raised by one. -/
def incSat (x : Word) : Word := if x = 0xFFFF#16 then x else x + 1#16

/-- The Hadamard sign H[s][d] = (-1)^popcount(s AND d) (R92), for 5-bit indices. -/
def hadamard (s d : Nat) : Int :=
  let a := s &&& d
  if (a + a / 2 + a / 4 + a / 8 + a / 16) % 2 == 0 then 1 else -1

/-- A list cut into pieces of `n`. -/
def chunks {α : Type} (n : Nat) (l : List α) : List (List α) :=
  (List.range (l.length / n)).map (fun i => (l.drop (n * i)).take n)

end Sys2Proof.Machine
end

