-- ==== Sys2Proof/Machine/Profile.lean ====
section
/-!
DEFINITION. The profile: every field the manual lets a tile hold as configuration, as tables of field
specifications (one entry per row of the manual's tables), their factory values, their range rules, and the
packing of a profile image (R362, R363, R443).
-/
namespace Sys2Proof.Machine

/-- One field, or one array of equal fields, of a profile record: how many, in how many bytes, which bits of
those bytes hold it, its range and its factory value. -/
structure FieldSpec where
  count : Nat
  bytes : Nat
  bits  : Nat
  lo    : Int
  hi    : Int
  dflt  : List Int
  deriving DecidableEq, Repr

/-- A single field. -/
def one (bytes : Nat) (lo hi dflt : Int) : FieldSpec :=
  { count := 1, bytes := bytes, bits := 8 * bytes, lo := lo, hi := hi, dflt := [dflt] }

/-- An array of `n` equal fields, all with the same factory value. -/
def many (n bytes : Nat) (lo hi dflt : Int) : FieldSpec :=
  { count := n, bytes := bytes, bits := 8 * bytes, lo := lo, hi := hi, dflt := List.replicate n dflt }

/-- An array with its own factory values. -/
def listed (bytes : Nat) (lo hi : Int) (dflt : List Int) : FieldSpec :=
  { count := dflt.length, bytes := bytes, bits := 8 * bytes, lo := lo, hi := hi, dflt := dflt }

/-- A single field in the low `bits` bits of its bytes; the other bits are reserved (R440, R11). -/
def low (bits bytes : Nat) (lo hi dflt : Int) : FieldSpec :=
  { count := 1, bytes := bytes, bits := bits, lo := lo, hi := hi, dflt := [dflt] }

/-- Table ACQ-5: FRAME_TICKS, the seven slot reservations, HOP_COUNT, HOP_ORDER, SWING, N_DRV, N_SNS,
GUARD_MODE. NOISE_T and MUTUAL_T are bounded by R105. -/
def frameSpec : List FieldSpec :=
  [ one 4 3333333 80000000 6666667, one 3 4000 80000 8000, one 3 0 16777215 279552,
    one 3 0 16777215 1707264, one 3 0 4000000 800000, one 3 40000 2000000 400000,
    one 3 400000 8000000 1600000, one 3 40000 2000000 400000,
    one 1 1 8 8, listed 1 0 7 [0, 1, 2, 3, 4, 5, 6, 7], one 1 0 1 0, one 1 1 32 32, one 1 1 24 24,
    listed 1 0 3 [0, 0, 0, 0, 2, 2, 2, 2] ]

/-- Table NUM-1. -/
def nodeSpec : List FieldSpec :=
  [ one 1 0 1 0, one 1 0 7 1, one 1 8 16 12, one 1 0 3 1, one 2 1 32767 40, one 1 1 15 3,
    one 3 (-65536) 65535 0, one 2 0 65535 1024, many 24 2 0 65535 940, many 24 2 0 65535 3760,
    many 24 1 (-127) 127 0, one 1 0 7 0, one 1 8 16 12 ]

/-- Table CONTACT-1, in table order. -/
def trackFieldSpec : List FieldSpec :=
  [ one 2 20 2000 100, one 2 20 2000 100, one 2 (-32768) 32767 0, one 2 (-32768) 32767 0,
    one 2 1 32767 200, one 2 1 32767 120, one 2 0 32767 60, one 1 1 3 2, one 1 2 4 2, one 1 1 25 14,
    one 2 1 65535 600, one 1 0 255 2, one 1 0 255 32, one 1 1 15 3, one 1 1 255 120,
    one 2 0 32767 300, one 2 0 32767 200 ]

/-- Record 0x03: Table CONTACT-1, then PITCH_X and PITCH_Y (Table PKT-6, Table PKT-10). -/
def trackSpec : List FieldSpec :=
  trackFieldSpec ++ [ one 2 0 65535 2400, one 2 0 65535 3200 ]

/-- Record 0x04: 64 zone entries of 16 bytes (Table CONTACT-4). -/
def zoneSpec : List FieldSpec := [ many 1024 1 0 255 0 ]

/-- Record 0x05: 8 templates of 5 bytes (Table CONTACT-8). -/
def templateSpec : List FieldSpec := [ many 40 1 0 255 0 ]

/-- Table CONTACT-6. -/
def gestureSpec : List FieldSpec :=
  [ one 1 1 255 30, one 2 0 65535 100, one 1 1 255 36, one 2 0 65535 200, one 2 2 65535 96,
    one 2 1 65535 1000, one 2 1 65535 60, one 2 8 4000 80, one 1 1 7 2 ]

/-- Table CONTACT-9, then Table ACQ-8. -/
def wakeSpec : List FieldSpec :=
  [ one 1 0 3 1, one 1 2 4 3, listed 1 0 3 [0, 1, 2, 3], one 1 1 7 2, one 1 0 15 0,
    one 1 1 4 4,
    listed 7 0 (2 ^ 56 - 1) [63 * 2 ^ 32, 63 * 2 ^ 38, 63 * 2 ^ 44, 63 * 2 ^ 50],
    one 1 1 16 4, one 1 0 7 4, one 2 64 4095 1024, one 1 4 255 16, one 1 1 255 12, one 1 1 4 2,
    one 1 2 7 5 ]

/-- The factory CUSTOM bounds of one ladder (R206). -/
def customBounds : List Int := [227, 455, 682, 910, 1137, 1365, 1592, 1820]

/-- Record 0x08: the five scalar fields of Table KEY-6, then L_MODE, the CUSTOM bounds and KEY_BIND of the
eight ladders (Table PKT-10). DEDUCED (log 10): the order of the per-ladder fields follows LADDERS of
Table PKT-5, field by field as R362 packs arrays. -/
def keySpec : List FieldSpec :=
  [ one 1 1 8 1, one 1 1 255 20, one 1 1 255 40, one 2 0 65535 1000, one 1 1 255 60,
    many 8 1 0 3 0,
    listed 2 0 2047 (customBounds ++ customBounds ++ customBounds ++ customBounds ++
      customBounds ++ customBounds ++ customBounds ++ customBounds),
    many 64 2 0 65535 1 ]

/-- Table KEY-9. -/
def encSpec : List FieldSpec :=
  [ many 2 1 0 1 0, one 1 1 255 10, one 1 0 2 2, one 1 0 3 3, one 1 0 1 0, one 1 5 255 20,
    many 2 2 0 65535 1 ]

/-- Table POWER-9 (R440). -/
def powerSpec : List FieldSpec :=
  [ low 4 1 2 5 3, one 2 1 3600 10, one 2 50 60000 1000, low 2 1 0 2 1, low 1 1 0 1 0 ]

/-- Record 0x0B: Table ACQ-2 field by field for 24 sense lines (PHASE by line, lane and hop set; SEAM_MAP by
line and lane), then the compensation codes sense line by sense line (R362). -/
def senseSpec : List FieldSpec :=
  [ many 24 1 0 3 1, many 24 1 0 1 0, many 576 1 0 255 0, many 72 1 0 7 7, many 768 1 0 63 0 ]

/-- Table ACQ-6. -/
def selfSpec : List FieldSpec :=
  [ one 1 0 3 1, one 1 0 7 4, listed 1 0 31 [12, 13, 16, 17] ]

/-- Record 0x0D: USEQ_LEN, USEQ_POLICY, USEQ_PERIOD, ACC_LOG and the 16 entries (Table PKT-10). -/
def useqSpec : List FieldSpec :=
  [ one 1 0 16 0, one 1 0 1 0, one 2 0 65535 0, one 1 0 12 4, many 16 1 0 13 0 ]

/-- The values of one record, flat, in the order of its specification. -/
abbrev Fields := List Int

/-- Factory values of a record. -/
def FieldSpec.defaults (specs : List FieldSpec) : Fields := specs.flatMap (fun f => f.dflt)

/-- The working configuration or a profile image's content: one list of values per record of Table PKT-6. -/
structure Profile where
  frame     : Fields
  node      : Fields
  track     : Fields
  zones     : Fields
  templates : Fields
  gesture   : Fields
  wake      : Fields
  keys      : Fields
  enc       : Fields
  power     : Fields
  sense     : Fields
  selfc     : Fields
  useq      : Fields
  deriving DecidableEq, Repr

/-- The factory profile (R443). -/
def Profile.factory : Profile where
  frame     := FieldSpec.defaults frameSpec
  node      := FieldSpec.defaults nodeSpec
  track     := FieldSpec.defaults trackSpec
  zones     := FieldSpec.defaults zoneSpec
  templates := FieldSpec.defaults templateSpec
  gesture   := FieldSpec.defaults gestureSpec
  wake      := FieldSpec.defaults wakeSpec
  keys      := FieldSpec.defaults keySpec
  enc       := FieldSpec.defaults encSpec
  power     := FieldSpec.defaults powerSpec
  sense     := FieldSpec.defaults senseSpec
  selfc     := FieldSpec.defaults selfSpec
  useq      := FieldSpec.defaults useqSpec

/-- Value `i` of a record. -/
def fld (f : Fields) (i : Nat) : Int := f.getD i 0

/-- Value `i` of a record whose range is not negative. -/
def fldN (f : Fields) (i : Nat) : Nat := (f.getD i 0).toNat

namespace Profile

/-- FRAME_TICKS. -/
def frameTicks (p : Profile) : Nat := fldN p.frame 0
/-- SYNC_T. -/
def syncT (p : Profile) : Nat := fldN p.frame 1
/-- NOISE_T. -/
def noiseT (p : Profile) : Nat := fldN p.frame 2
/-- MUTUAL_T. -/
def mutualT (p : Profile) : Nat := fldN p.frame 3
/-- SELF_T. -/
def selfT (p : Profile) : Nat := fldN p.frame 4
/-- SEAM_T. -/
def seamT (p : Profile) : Nat := fldN p.frame 5
/-- COMPUTE_T. -/
def computeT (p : Profile) : Nat := fldN p.frame 6
/-- REPORT_T. -/
def reportT (p : Profile) : Nat := fldN p.frame 7
/-- HOP_COUNT. -/
def hopCount (p : Profile) : Nat := fldN p.frame 8
/-- HOP_ORDER[i]. -/
def hopOrder (p : Profile) (i : Nat) : Nat := fldN p.frame (9 + i)
/-- The hop sets in use, in survey order. -/
def hopSets (p : Profile) : List Nat := (List.range p.hopCount).map p.hopOrder
/-- SWING: true for HIGH. -/
def swingHigh (p : Profile) : Bool := fldN p.frame 17 == 1
/-- N_DRV. -/
def nDrv (p : Profile) : Nat := fldN p.frame 18
/-- N_SNS. -/
def nSns (p : Profile) : Nat := fldN p.frame 19
/-- GUARD_MODE of a guard (0 GRDA, 1 GRDB) in NOISE, MUTUAL, SELF or Watch (0 to 3). -/
def guardMode (p : Profile) (slot guard : Nat) : Nat := fldN p.frame (20 + 2 * slot + guard)

/-- The median window W (Table NUM-1, MED_W). -/
def medW (p : Profile) : Nat := if fldN p.node 0 == 0 then 3 else 5
/-- DIIR_K. -/
def diirK (p : Profile) : Nat := fldN p.node 1
/-- BL_K. -/
def blK (p : Profile) : Nat := fldN p.node 2
/-- FREEZE_R. -/
def freezeR (p : Profile) : Nat := fldN p.node 3
/-- NEG_THRESH. -/
def negThresh (p : Profile) : Int := fld p.node 4
/-- NEG_FRAMES. -/
def negFrames (p : Profile) : Nat := fldN p.node 5
/-- B_SET. -/
def bSet (p : Profile) : Int := fld p.node 6
/-- KEEP_INT. -/
def keepInt (p : Profile) : Nat := fldN p.node 7
/-- LSB_CNT_F[k]. -/
def lsbF (p : Profile) (k : Nat) : Nat := fldN p.node (8 + k)
/-- LSB_CNT_C[k]. -/
def lsbC (p : Profile) (k : Nat) : Nat := fldN p.node (32 + k)
/-- TCO[k]. -/
def tco (p : Profile) (k : Nat) : Int := fld p.node (56 + k)
/-- SELF_SHIFT. -/
def selfShift (p : Profile) : Nat := fldN p.node 80
/-- SBL_K. -/
def sblK (p : Profile) : Nat := fldN p.node 81

/-- EPITCH_X. -/
def epitchX (p : Profile) : Int := fld p.track 0
/-- EPITCH_Y. -/
def epitchY (p : Profile) : Int := fld p.track 1
/-- GRID_X0. -/
def gridX0 (p : Profile) : Int := fld p.track 2
/-- GRID_Y0. -/
def gridY0 (p : Profile) : Int := fld p.track 3
/-- T_ON. -/
def tOn (p : Profile) : Int := fld p.track 4
/-- T_OFF. -/
def tOff (p : Profile) : Int := fld p.track 5
/-- CENT_FLOOR. -/
def centFloor (p : Profile) : Int := fld p.track 6
/-- SEP_MIN. -/
def sepMin (p : Profile) : Int := fld p.track 7
/-- CONFIRM. -/
def confirmN (p : Profile) : Nat := fldN p.track 8
/-- PALM_SIZE. -/
def palmSize (p : Profile) : Nat := fldN p.track 9
/-- TRACK_R. -/
def trackR (p : Profile) : Int := fld p.track 10
/-- MOVE_MIN. -/
def moveMin (p : Profile) : Int := fld p.track 11
/-- WATER_R. -/
def waterR (p : Profile) : Int := fld p.track 12
/-- WET_ENTER. -/
def wetEnter (p : Profile) : Nat := fldN p.track 13
/-- WET_EXIT. -/
def wetExit (p : Profile) : Nat := fldN p.track 14
/-- HOVER_ON. -/
def hoverOn (p : Profile) : Int := fld p.track 15
/-- HOVER_OFF. -/
def hoverOff (p : Profile) : Int := fld p.track 16
/-- PITCH_X. -/
def pitchX (p : Profile) : Int := fld p.track 17
/-- PITCH_Y. -/
def pitchY (p : Profile) : Int := fld p.track 18

/-- TAP_MAX. -/
def tapMax (p : Profile) : Nat := fldN p.gesture 0
/-- TAP_SLOP. -/
def tapSlop (p : Profile) : Int := fld p.gesture 1
/-- DTAP_GAP. -/
def dtapGap (p : Profile) : Nat := fldN p.gesture 2
/-- DTAP_SLOP. -/
def dtapSlop (p : Profile) : Int := fld p.gesture 3
/-- LONG_FRAMES. -/
def longFrames (p : Profile) : Nat := fldN p.gesture 4
/-- SWIPE_MIN. -/
def swipeMin (p : Profile) : Int := fld p.gesture 5
/-- SWIPE_MAX. -/
def swipeMax (p : Profile) : Nat := fldN p.gesture 6
/-- PATH_STEP. -/
def pathStep (p : Profile) : Int := fld p.gesture 7
/-- MIN_RUN. -/
def minRun (p : Profile) : Nat := fldN p.gesture 8

/-- WAKE_ON. -/
def wakeOn (p : Profile) : Nat := fldN p.wake 0
/-- WG_LEN. -/
def wgLen (p : Profile) : Nat := fldN p.wake 1
/-- WG_SEQ[i]. -/
def wgSeq (p : Profile) (i : Nat) : Nat := fldN p.wake (2 + i)
/-- WG_GAP. -/
def wgGap (p : Profile) : Nat := fldN p.wake 6
/-- WG_TENANT. -/
def wgTenant (p : Profile) : Nat := fldN p.wake 7
/-- W_GROUPS. -/
def wGroups (p : Profile) : Nat := fldN p.wake 8
/-- The mask of Watch group g. -/
def wMask (p : Profile) (g : Nat) : Nat := fldN p.wake (9 + g)
/-- W_RATE. -/
def wRate (p : Profile) : Nat := fldN p.wake 13
/-- CT_ATT. -/
def ctAtt (p : Profile) : Nat := fldN p.wake 14
/-- CT_MAX. -/
def ctMax (p : Profile) : Nat := fldN p.wake 15
/-- CT_MIN. -/
def ctMin (p : Profile) : Nat := fldN p.wake 16
/-- W_DELTA. -/
def wDelta (p : Profile) : Int := fld p.wake 17
/-- W_CONFIRM. -/
def wConfirm (p : Profile) : Nat := fldN p.wake 18
/-- W_K. -/
def wK (p : Profile) : Nat := fldN p.wake 19

/-- KEY_PERIOD. -/
def keyPeriod (p : Profile) : Nat := fldN p.keys 0
/-- PRESS_N = ceil(PRESS_MS / KEY_PERIOD) (R210). -/
def pressN (p : Profile) : Nat := (fldN p.keys 1 + p.keyPeriod - 1) / p.keyPeriod
/-- RELEASE_N = ceil(RELEASE_MS / KEY_PERIOD) (R210). -/
def releaseN (p : Profile) : Nat := (fldN p.keys 2 + p.keyPeriod - 1) / p.keyPeriod
/-- LONG_MS. -/
def longMs (p : Profile) : Nat := fldN p.keys 3
/-- STUCK_S. -/
def stuckS (p : Profile) : Nat := fldN p.keys 4
/-- L_MODE of ladder l. -/
def lMode (p : Profile) (l : Nat) : Nat := fldN p.keys (5 + l)
/-- CUSTOM bound i of ladder l. -/
def bound (p : Profile) (l i : Nat) : Nat := fldN p.keys (13 + 8 * l + i)
/-- KEY_BIND of key k of ladder l. -/
def keyBind (p : Profile) (l k : Nat) : BitVec 16 := BitVec.ofInt 16 (fld p.keys (77 + 8 * l + k))

/-- ENC_EN of encoder e. -/
def encEn (p : Profile) (e : Nat) : Bool := fldN p.enc e == 1
/-- ENC_FILT. -/
def encFilt (p : Profile) : Nat := fldN p.enc 2
/-- Edges per detent (ENC_EPD). -/
def encEpd (p : Profile) : Nat := 2 ^ fldN p.enc 3
/-- ENC_REST, A in bit 1. -/
def encRest (p : Profile) : BitVec 2 := BitVec.ofInt 2 (fld p.enc 4)
/-- ENC_INV. -/
def encInv (p : Profile) : Bool := fldN p.enc 5 == 1
/-- ENC_RPT. -/
def encRpt (p : Profile) : Nat := fldN p.enc 6
/-- ENC_BIND of encoder e. -/
def encBind (p : Profile) (e : Nat) : BitVec 16 := BitVec.ofInt 16 (fld p.enc (7 + e))

/-- STANDING, as a state code. -/
def standing (p : Profile) : Nat := fldN p.power 0
/-- RUN_IDLE in seconds. -/
def runIdle (p : Profile) : Nat := fldN p.power 1
/-- QUIET_IDLE in milliseconds. -/
def quietIdle (p : Profile) : Nat := fldN p.power 2
/-- WAKE_POLICY: 0 TILE, 1 NEIGHBOURS, 2 PANEL. -/
def wakePolicy (p : Profile) : Nat := fldN p.power 3
/-- MAINS. -/
def mains (p : Profile) : Bool := fldN p.power 4 == 1

/-- GAIN of sense line k. -/
def gain (p : Profile) (k : Nat) : Nat := fldN p.sense k
/-- RANGE of sense line k: true for COARSE. -/
def coarse (p : Profile) (k : Nat) : Bool := fldN p.sense (24 + k) == 1
/-- PHASE of sense line k, a lane and a hop set. -/
def phase (p : Profile) (k lane h : Nat) : Nat := fldN p.sense (48 + (k * 3 + lane) * 8 + h)
/-- SEAM_MAP of sense line k and a lane. -/
def seamMap (p : Profile) (k lane : Nat) : Nat := fldN p.sense (624 + k * 3 + lane)
/-- Compensation code of node (d, k). -/
def code (p : Profile) (d k : Nat) : Nat := fldN p.sense (696 + k * 32 + d)

/-- SC_I. -/
def scI (p : Profile) : Nat := fldN p.selfc 0
/-- SC_NLOG. -/
def scNlog (p : Profile) : Nat := fldN p.selfc 1
/-- GUARD_REF of a phase. -/
def guardRef (p : Profile) (ph : Nat) : Nat := fldN p.selfc (2 + ph)

end Profile

/-- Samples per step m of a hop set (Table ACQ-3). -/
def hopM (h : Nat) : Nat := [384, 448, 512, 576, 672, 768, 896, 1024].getD h 0

/-- Step length L = 52 m of a hop set (R99). -/
def hopL (h : Nat) : Nat := 52 * hopM h

/-- MUTUAL need in ticks: T_E + 32 L with T_E = 13 m / 4 (R99, Table ACQ-3). -/
def mutualNeed (h : Nat) : Nat := 13 * hopM h / 4 + 32 * hopL h

/-- Every value of a record lies in its range. -/
def inRange : List FieldSpec → Fields → Bool
  | [], [] => true
  | [], _ :: _ => false
  | f :: fs, vs =>
    (vs.take f.count).length == f.count &&
    (vs.take f.count).all (fun v => decide (f.lo ≤ v) && decide (v ≤ f.hi)) &&
    inRange fs (vs.drop f.count)

/-- The three largest of a list of step lengths. -/
def topThree (l : List Nat) : List Nat := (sortBy (fun a b => decide (b < a)) l).take 3

/-- No value of a list occurs twice. -/
def noRepeats : List Nat → Bool
  | [] => true
  | x :: xs => !xs.contains x && noRepeats xs

/-- The range rules of a frame plan (R16, R104, R105, R115, Table ACQ-5). -/
def framePlanOk (f : Fields) : Bool :=
  let p : Profile := { Profile.factory with frame := f }
  inRange frameSpec f &&
  ([p.syncT, p.noiseT, p.mutualT, p.selfT, p.seamT, p.computeT, p.reportT].all (fun t => t % 4 == 0)) &&
  (p.selfT == 0 || decide (40000 ≤ p.selfT)) &&
  decide (p.syncT + p.noiseT + p.mutualT + p.selfT + p.seamT + p.computeT + p.reportT ≤ p.frameTicks) &&
  noRepeats p.hopSets &&
  p.hopSets.all (fun h => decide (mutualNeed h ≤ p.mutualT)) &&
  decide (2 * (topThree (p.hopSets.map hopL)).sum ≤ p.noiseT) &&
  [p.guardMode 0 0, p.guardMode 0 1, p.guardMode 1 0, p.guardMode 1 1].all (fun g => g != 2)

/-- The range rules of the track-engine fields (Table CONTACT-1). -/
def trackFieldsOk (f : Fields) : Bool :=
  inRange trackFieldSpec f && decide (fld f 5 ≤ fld f 4) && decide (fld f 6 ≤ fld f 5 - 1) &&
  decide (fld f 16 ≤ fld f 15)

/-- The range rules of the Watch and wake-gesture fields (Tables CONTACT-9 and ACQ-8). -/
def wakeOk (f : Fields) : Bool :=
  inRange wakeSpec f &&
  ((List.range (fldN f 1 - 1)).all (fun i => fld f (2 + i) != fld f (3 + i)))

/-- The CUSTOM bounds of every ladder do not decrease (R206). -/
def boundsOk (f : Fields) : Bool :=
  (List.range 8).all (fun l => (List.range 7).all (fun i =>
    decide (fld f (13 + 8 * l + i) ≤ fld f (13 + 8 * l + i + 1))))

/-- LONG_MS is 0 or at least 100 (Table KEY-6). -/
def longOk (f : Fields) : Bool := fld f 3 == 0 || decide (100 ≤ fld f 3)

/-- SEAM_MAP never names port 6 (Table ACQ-2). -/
def seamMapOk (f : Fields) : Bool := (List.range 72).all (fun i => fld f (624 + i) != 6)

/-- GUARD_REF has the parity of its phase (R114): even for phases 0 and 2, odd for 1 and 3. -/
def guardRefOk (f : Fields) : Bool :=
  (List.range 4).all (fun i => fldN f (2 + i) % 2 == i % 2)

/-- A value lies in the s24 range. -/
def fitsS24 (x : Int) : Bool := decide (-8388608 ≤ x) && decide (x ≤ 8388607)

/-- PITCH_X is even, and the origin of every tile named lies within s24 (R27). -/
def pitchOk (f : Fields) (tiles : List (Int × Int)) : Bool :=
  fld f 17 % 2 == 0 &&
  tiles.all (fun t => fitsS24 (t.1 * fld f 17 + t.2 * (fld f 17 / 2)) && fitsS24 (t.2 * fld f 18))

/-- A two's complement value of the low `bits` bits of a number. -/
def signedOf (bits : Nat) (n : Nat) : Int := (BitVec.ofNat bits n).toInt

/-- Bounds and TYPE of one zone entry (R176): a used AREA, BUTTON or MASK entry has X0 < X1 and Y0 < Y1. -/
def zoneEntryOk (e : Fields) : Bool :=
  let s24 := fun i => signedOf 24 (fldN e i + 256 * fldN e (i + 1) + 65536 * fldN e (i + 2))
  fldN e 12 % 4 == 0 || (decide (s24 0 < s24 6) && decide (s24 3 < s24 9))

/-- Every zone entry obeys R176. -/
def zonesOk (z : Fields) : Bool :=
  (List.range 64).all (fun i => zoneEntryOk ((z.drop (16 * i)).take 16))

/-- LEN of a template is 2 to 8 (R185, Table CONTACT-8); an entry that is not VALID is not judged. -/
def templateEntryOk (e : Fields) : Bool :=
  fldN e 0 % 2 == 0 || (decide (2 ≤ fldN e 1 % 16) && decide (fldN e 1 % 16 ≤ 8))

/-- Every template obeys R185. -/
def templatesOk (t : Fields) : Bool :=
  (List.range 8).all (fun i => templateEntryOk ((t.drop (5 * i)).take 5))

/-- A ladder mode the OTP combinations allow (R220): the combination ladders keep their OTP mode or OFF. -/
def combosOk (f : Fields) (ctLadder ctMode pvLadder pvMode : Nat) : Bool :=
  (fldN f (5 + ctLadder) == 0 || fldN f (5 + ctLadder) == ctMode) &&
  (fldN f (5 + pvLadder) == 0 || fldN f (5 + pvLadder) == pvMode)

/-- STANDING = RUN needs a mains-derived supply (R51). -/
def powerOk (f : Fields) : Bool :=
  inRange powerSpec f && (fld f 0 != 5 || fld f 4 == 1)

/-- Facts outside the profile that its range rules use: the OTP combinations (R220) and the lattice positions
of the panel's tiles (R27). -/
structure CheckCtx where
  ctLadder : Nat
  ctMode   : Nat
  pvLadder : Nat
  pvMode   : Nat
  tiles    : List (Int × Int)
  deriving DecidableEq, Repr

/-- Every range rule PROFILE_COMMIT checks on an image's content (R363). -/
def Profile.ok (p : Profile) (c : CheckCtx) : Bool :=
  framePlanOk p.frame && inRange nodeSpec p.node &&
  (fld p.node 7 == 0 || decide (256 ≤ fld p.node 7)) &&
  inRange trackSpec p.track && trackFieldsOk (p.track.take 17) && pitchOk p.track c.tiles &&
  inRange zoneSpec p.zones && zonesOk p.zones && inRange templateSpec p.templates && templatesOk p.templates &&
  inRange gestureSpec p.gesture && wakeOk p.wake &&
  inRange keySpec p.keys && boundsOk p.keys && longOk p.keys &&
  combosOk p.keys c.ctLadder c.ctMode c.pvLadder c.pvMode &&
  inRange encSpec p.enc && powerOk p.power && inRange senseSpec p.sense && seamMapOk p.sense &&
  inRange selfSpec p.selfc && guardRefOk p.selfc && inRange useqSpec p.useq

end Sys2Proof.Machine
end

