-- ==== Sys2Proof/Machine/Types.lean ====
section
/-!
DEFINITION. The parts State is made of: plain data for every register, queue, counter and mode the manual
gives the tile. INVENTORY.md lists each with its rule and its reset value.
-/
namespace Sys2Proof.Machine

/-- Where the tile stands: the states of Table POWER-1, and reset and unpowered beside them. -/
inductive Phase where
  | unpowered | off | reset | boot | bare | doze | watch | quiet | run
  deriving DecidableEq, Repr

/-- The crystal (Table POWER-5, R48, R66). -/
inductive Xtal where
  | absent | starting | running
  deriving DecidableEq, Repr

/-- A Doze entry between its decision and step E3 (Table POWER-4, R441). -/
structure DozeEntry where
  /-- DOZE or WATCH. -/
  target : Phase
  /-- Entered by REQ: keys are released (R212) and FLOOR does not hold (R53). -/
  byReq  : Bool
  deriving DecidableEq, Repr

/-- Clock, power states, wake and PWRCTL. -/
structure Power where
  phase      : Phase
  xtal       : Xtal
  /-- RESET# is low (R410). -/
  holdPin    : Bool
  /-- TESTEN is high (R409). -/
  holdTesten : Bool
  /-- VIO is absent while VBAT is present (R413). -/
  holdVio    : Bool
  /-- PWRSTAT.CAUSE (R64). -/
  cause      : BitVec 3
  /-- Hold kind of cause 0x7 (Table PKT-7, TILE_RESET). -/
  holdKind   : Byte
  /-- HOSTSTAT.READY (R67). -/
  ready      : Bool
  /-- The link-quiet time of R65 has not ended. -/
  linkQuiet  : Bool
  /-- VBAT is below the NVM inhibit threshold (R80). -/
  nvmInhibit : Bool
  req        : BitVec 4
  floor      : BitVec 4
  /-- The present state was entered by REQ below FLOOR or STANDING and is kept (R52, R53). -/
  reqState   : Bool
  entry      : Option DozeEntry
  /-- An abandoned entry to be tried again 100 ms later (R60). -/
  retry      : Option DozeEntry
  /-- A wake from Doze or Watch is under way (Table POWER-4). -/
  waking     : Bool
  /-- The highest state a wake source has named (R54, R57). -/
  wakeTarget : Phase
  /-- One of the wake's sources was CS# (R319). -/
  csWoke     : Bool
  /-- WAKESRC (Table REGS-3). -/
  wakesrc    : Word
  /-- WAKECNT (R329). -/
  wakecnt    : Word
  /-- The alarm register (R46). -/
  alarm      : BitVec 32
  alarmSet   : Bool
  /-- RTC (R46). -/
  rtc        : BitVec 32
  refbuf     : Bool
  refrdy     : Bool
  /-- The charge pump runs (R50, R85). -/
  pump       : Bool
  /-- PWRMON.BATLOW (R201). -/
  batLow     : Bool
  /-- PROV# is low. -/
  provLow    : Bool
  /-- PROV# holds physical presence (R219): its level as sampled, which Doze and Watch hold (R327). -/
  provPin    : Bool
  /-- The provisioning pair holds physical presence for 120 s (R219). -/
  provKeys   : Bool
  /-- A RESET command waits for its RSP to leave, or 10 ms (Table PKT-5). -/
  resetDue   : Bool
  /-- RUN_IDLE has passed: the tile leaves Run at the next boundary (R36). -/
  idleDue    : Bool
  deriving DecidableEq, Repr

/-- A profile slot (R78). -/
inductive SlotId where
  | a | b
  deriving DecidableEq, Repr

/-- The retention record (R70). -/
structure Retention where
  /-- Its CRC-16 is correct (R71). -/
  valid     : Bool
  addr      : Addr
  u         : BitVec 8
  v         : BitVec 8
  panel     : BitVec 5
  panelRoot : Bool
  hedgeRoot : Bool
  cause     : BitVec 3
  boCount   : Word
  slot      : Option SlotId
  /-- Records lost with the latest reset, per tenant. -/
  lost      : List Byte
  deriving DecidableEq, Repr

/-- Header of a profile slot (R78). -/
structure SlotHeader where
  gen : BitVec 32
  len : Nat
  crc : BitVec 32
  deriving DecidableEq, Repr

/-- A profile slot: header, body, commit marker; an erased page carries none (R446). -/
structure Slot where
  header : Option SlotHeader
  body   : List Byte
  marker : Option (BitVec 64)
  deriving DecidableEq, Repr

/-- The steps of a commit (R79, R446). -/
inductive CommitStage where
  | erase (row : Nat)
  | body (page : Nat)
  | header
  | marker
  deriving DecidableEq, Repr

/-- A profile commit in progress: PROFILE_COMMIT's (R79), or the repair manager's own (R399). -/
structure CommitJob where
  slot  : SlotId
  image : List Byte
  gen   : BitVec 32
  stage : CommitStage
  /-- The command that waits for its RSP, none for PROFILE_REGEN. -/
  reply : Option CmdCtx
  deriving DecidableEq, Repr

/-- The stored settings of one port (Table LINK-1). -/
structure LinkCfg where
  mode : BitVec 2
  div  : BitVec 14
  par  : BitVec 2
  lead : Byte
  tail : Byte
  deriving DecidableEq, Repr

/-- Factory settings of a port (Table LINK-1). -/
def LinkCfg.factory : LinkCfg := { mode := 1#2, div := 2#14, par := 0#2, lead := 4#8, tail := 8#8 }

/-- One slot of the tenant record (R364). -/
structure TenantRec where
  isDefined : Bool
  enabled   : Bool
  rights    : Byte
  home      : Addr
  key       : Option (List Byte)
  /-- Command reservation S (R344). -/
  s         : BitVec 32
  /-- Transmit reservation (R345). -/
  txS       : BitVec 32
  deriving DecidableEq, Repr

/-- An empty tenant slot. -/
def TenantRec.empty : TenantRec :=
  { isDefined := false, enabled := false, rights := 0#8, home := 0#10, key := none, s := 0#32, txS := 0#32 }

/-- A repair-map entry (R373). -/
structure RepairEntry where
  kind   : Byte
  index  : Byte
  detail : Byte
  origin : Byte
  deriving DecidableEq, Repr

/-- An entry of the fault list (R388). -/
structure FaultEntry where
  kind   : Byte
  index  : Byte
  sign   : Byte
  state  : Byte
  first  : Word
  last   : Word
  derate : Byte
  deriving DecidableEq, Repr

/-- The fingerprint (R383): node values by (d, k), SCN of the 56 lines, CALDAC gains, leg counts (two per pin)
and the mean TD. -/
structure Fingerprint where
  gen  : BitVec 32
  x    : List Int
  scn  : List Nat
  gain : List Nat
  legs : List (Option Nat)
  td   : Int
  deriving DecidableEq, Repr

/-- A cell of the touch-wear map: frames and DOWNs (R403). -/
structure WearCell where
  frames : Nat
  downs  : Nat
  deriving DecidableEq, Repr

/-- Row information of an NVM row (R397), and the spare row that holds the row's content. -/
structure RowInfo where
  eraseDay   : Nat
  eraseCount : Nat
  spare      : Option Nat
  deriving DecidableEq, Repr

/-- A row that has never been erased in the field. -/
def RowInfo.fresh : RowInfo := { eraseDay := 0, eraseCount := 0, spare := none }

/-- The two-copy records of NVM (Table REPAIR-8). -/
inductive RecId where
  | link | tenant | repair | alloc | fingerprint | wear | life
  deriving DecidableEq, Repr

/-- One copy of a two-copy record (R396): its generation, and whether its CRC-32 and its commit marker are correct. -/
structure CopyMark where
  gen   : BitVec 32
  sound : Bool
  deriving DecidableEq, Repr

/-- The two copies of a record, in the order of their rows. -/
structure CopyPair where
  a : CopyMark
  b : CopyMark
  deriving DecidableEq, Repr

/-- The marks of every two-copy record. -/
structure Copies where
  link        : CopyPair
  tenant      : CopyPair
  repair      : CopyPair
  alloc       : CopyPair
  fingerprint : CopyPair
  wear        : CopyPair
  life        : CopyPair
  deriving DecidableEq, Repr

/-- Hedge allocations (R263): blocks granted to panel roots, and the addresses this root last granted. -/
structure Alloc where
  granted   : List (Addr × Uid)
  /-- Single addresses granted out of other panels' blocks (R263). -/
  singles   : List (Addr × Uid)
  ownBlocks : List Addr
  ownSingles : List Addr
  byAddr    : List (Addr × Uid)
  deriving DecidableEq, Repr

/-- Contents of the two-copy records (Table REPAIR-8). -/
structure Records where
  /-- The link record, none while absent (R222). -/
  linkRec     : Option (List LinkCfg)
  tenants     : List TenantRec
  hedgeKey    : Option (List Byte)
  fieldMap    : List RepairEntry
  faults      : List FaultEntry
  alloc       : Alloc
  fingerprint : Option Fingerprint
  wear        : List WearCell
  wearFirst   : Option (BitVec 32)
  wearLast    : BitVec 32
  lifeH       : BitVec 32
  deriving DecidableEq, Repr

/-- Non-volatile memory (Table REPAIR-8). The contents of each two-copy record are those of its valid copy with the higher generation
(R396), but for the fault list, which runs ahead of NVM while it cannot be written. -/
structure Nvm where
  slotA       : Slot
  slotB       : Slot
  job         : Option CommitJob
  /-- The link record, none while absent (R222). -/
  linkRec     : Option (List LinkCfg)
  tenants     : List TenantRec
  hedgeKey    : Option (List Byte)
  fieldMap    : List RepairEntry
  /-- Field-map entries in force that wait for VBAT to reach 2.25 V (R374). -/
  mapPending  : List RepairEntry
  faults      : List FaultEntry
  /-- The fault list as NVM holds it, where the one in use waits to be written (R80). -/
  faultsSaved : Option (List FaultEntry)
  alloc       : Alloc
  /-- Allocations in force that wait for VBAT to reach 2.25 V (R80). -/
  allocPending : Option Alloc
  fingerprint : Option Fingerprint
  wear        : List WearCell
  wearFirst   : Option (BitVec 32)
  wearLast    : BitVec 32
  lifeH       : BitVec 32
  /-- Telemetry records, newest first (R401). -/
  ring        : List (List Byte)
  ringSeq     : BitVec 32
  /-- Row named by a refresh buffer with a valid marker (R400). -/
  refreshBuf  : Option Nat
  rows        : List RowInfo
  sparesUsed  : Nat
  /-- Generations and validity of the two-copy records' copies (R396). -/
  copies      : Copies
  /-- What each record's other copy holds (R396). -/
  older       : Records
  deriving DecidableEq, Repr

/-- A transaction of the host port (R303, R304, R322). -/
structure Txn where
  /-- HOSTSTAT as captured (R304). -/
  captured : Word
  header   : Word
  /-- Data words completed. -/
  words    : Nat
  served   : Bool
  /-- Its CS# fell with READY = 1 (R322). -/
  ready    : Bool
  /-- PKTIN words of the rest of the transaction are discarded (R312). -/
  inSkip   : Bool
  outDone  : Bool
  deriving DecidableEq, Repr

/-- An RSP a tile forms, before its FRESH and tag (R347, R353). -/
structure Rsp where
  tenant  : Tenant
  auth    : Bool
  urg     : Bool
  frag    : Bool
  last    : Bool
  dst     : Addr
  seq     : Word
  opcode  : Byte
  status  : Byte
  payload : List Byte
  deriving DecidableEq, Repr

/-- An RSP waiting in PKTOUT: this tile's own, or one that crossed the hedge, as it arrived (R347). -/
inductive OutItem where
  | own (r : Rsp)
  | foreign (urg : Bool) (bytes : List Byte)
  deriving DecidableEq, Repr

/-- Where PKTOUT's head packet comes from (R371). -/
inductive OutSource where
  | rsp
  | records (t : Tenant) (evt : Bool) (count : Nat) (withFull : Bool)
  deriving DecidableEq, Repr

/-- The sealed head packet of PKTOUT: where it came from, its bytes, and the words read (R313, R314). An
unsealed head is a view of the queues. -/
structure OutHead where
  source : OutSource
  bytes  : List Byte
  pos    : Nat
  deriving DecidableEq, Repr

/-- A snapshot of HTFC1, HTSUB0, HTSUB1 (R326). -/
structure SnapHt where
  fc1  : Word
  sub0 : Word
  sub1 : Word
  deriving DecidableEq, Repr

/-- A snapshot of SARMAX, SARCNT, SARSUM0, SARSUM1 (R326). -/
structure SnapSar where
  max  : Word
  cnt  : Word
  sum0 : Word
  sum1 : Word
  deriving DecidableEq, Repr

/-- A snapshot of LINKMON, LINKDIV, LINKDLY (R326). -/
structure SnapLink where
  mon : Word
  div : Word
  dly : Word
  deriving DecidableEq, Repr

/-- The host port and the registers that live in it. -/
structure HostPort where
  /-- Sticky flags of HOSTSTAT, bits 4 to 9 in their places (Table HOST-5). -/
  flags      : Word
  /-- Event bits of ATTNSRC; the level bits OUTRDY and INROOM are read with them (R328). -/
  attnsrc    : Word
  attnen     : Word
  /-- ATTN# as it stood at step E3: the level it holds through Doze and Watch (R316). -/
  attnHeld   : Bool
  /-- The first accepted write has been made (R317). -/
  firstWrite : Bool
  txn        : Option Txn
  /-- The word last fetched for MISO (R306). -/
  miso       : Word
  /-- CS# was low when the port became live, so it waits for a rise (Table HOST-7). -/
  csHeld     : Bool
  /-- Bytes of the packet being assembled in PKTIN (R311). -/
  pktin      : List Byte
  outHead    : Option OutHead
  outRsp     : List OutItem
  evtPtr     : Tenant
  rptPtr     : Tenant
  snapHt     : Option SnapHt
  snapSar    : Option SnapSar
  snapRtc    : Option Word
  snapLink   : Option SnapLink
  /-- Flags an armed clear sequence will clear (R246). -/
  clrArm     : Option (BitVec 4)
  linksel    : Port
  sarvsel    : Word
  scratch0   : Word
  scratch1   : Word
  deriving DecidableEq, Repr

/-- A tracker with its accumulator (R122). -/
structure Tracker where
  mn    : Int
  mx    : Int
  count : Nat
  sum   : Int
  isEmpty : Bool
  deriving DecidableEq, Repr

/-- The reset of a tracker whose input runs from `lo` to `hi` (R122). -/
def Tracker.reset (lo hi : Int) : Tracker := { mn := hi, mx := lo, count := 0, sum := 0, isEmpty := true }

/-- Requesters of urgent conversions, in their order (R197). -/
inductive Requester where
  | tile | host | repair
  deriving DecidableEq, Repr

/-- An urgent request (R197): `left` conversions of its `count` remain. -/
structure UrgReq where
  who   : Requester
  chan  : Nat
  count : Nat
  left  : Nat
  win   : Tracker
  /-- Of a repair manager's request: twice the channel that DACMON reads, and one more at D = -1 024 (R381). -/
  tag   : Nat
  deriving DecidableEq, Repr

/-- An entry of the system sequence: a ladder, or a channel of a monitor burst (R195). -/
inductive SysEntry where
  | ladder (l : Ladder)
  | monitor (chan : Nat)
  deriving DecidableEq, Repr

/-- The conversion in progress (R198). `ready` tells whether REFRDY was set when it started (R194). -/
inductive Conv where
  | urgent
  | sys (e : SysEntry)
  | user (entry : Nat) (ready : Bool)
  deriving DecidableEq, Repr

/-- User-sequence settings (Table REGS-6). -/
structure UseqCfg where
  len     : Nat
  abort   : Bool
  accLog  : Nat
  period  : Nat
  entries : List Nat
  deriving DecidableEq, Repr

/-- The SAR converter and its sequencer. -/
structure Sar where
  /-- The queue of 4 places, the running request at its head (R197). -/
  urgent    : List UrgReq
  /-- Requests of the tile and of the repair manager that wait for a place (R197, log 15). -/
  urgWait   : List UrgReq
  cur       : Option Conv
  sysQ      : List SysEntry
  /-- System-sequence runs since the last counted burst (R195). -/
  sysRuns   : Nat
  /-- The next run carries a monitor burst: the first after REFRDY, or after a decision to leave Run. -/
  burstDue  : Bool
  /-- The burst due or under way is the one after a decision to leave Run, and yields TD_exit (R200). -/
  burstExit : Bool
  /-- Windows of a burst, channels 8 to 12. -/
  mon       : List Tracker
  monView   : List Tracker
  /-- USEQ registers as written, and the settings in force (R333). -/
  useqReg   : UseqCfg
  useq      : UseqCfg
  /-- Next entry of a user-sequence run under way (R196). -/
  userNext  : Option Nat
  /-- The run has started a conversion: new settings wait for its end (R333). -/
  userBegun : Bool
  usr       : List Tracker
  usrView   : List Tracker
  /-- Views of the urgent windows by requester. -/
  urgView   : List Tracker
  /-- The view of each ladder's decode tracker: its latest conversion (Table KEY-3). -/
  decode    : List Tracker
  refNotReady : Bool
  overrun   : Bool
  urgFull   : Bool
  refFault  : Bool
  vbatmv    : Word
  tdie      : Int
  tdExit    : Option Int
  tdNow     : Option Int
  deriving DecidableEq, Repr

/-- States of a key (Table KEY-7). -/
inductive KeyState where
  | idle | pendP | pressed | pendR
  deriving DecidableEq, Repr

/-- One key: its state, n, hold timer in ms, the timer at the first not-pressed sample of the run, and
whether LONG and STUCK have been reported (Table KEY-7, R211). -/
structure KeySt where
  st      : KeyState
  n       : Nat
  hold    : Nat
  relHold : Nat
  long    : Bool
  stuck   : Bool
  deriving DecidableEq, Repr

/-- A key at rest. -/
def KeySt.rest : KeySt := { st := .idle, n := 0, hold := 0, relHold := 0, long := false, stuck := false }

/-- One ladder beside its keys. -/
structure LadderSt where
  keys     : List KeySt
  armed    : Bool
  masked   : Bool
  latch    : Bool
  /-- RTC of the spurious wakes that count toward a mask (R208). -/
  spurious : List (BitVec 32)
  /-- The latest sample was invalid (R204). -/
  invalid  : Bool
  /-- The latest sample lay outside the idle window (R209). -/
  outside  : Bool
  lfault   : Bool
  /-- A key was decoded pressed since REFRDY (R208). -/
  seen     : Bool
  deriving DecidableEq, Repr

/-- One key of a combination under the fixed 20 ms and 40 ms debounce (R217): settled level and run length. -/
structure ComboKey where
  pressed : Bool
  run     : Nat
  deriving DecidableEq, Repr

/-- A combination pair: its ladder's eight keys under the fixed debounce, how long the pair has been held in
ms, and the length of a hold that has just ended (R217, R218). -/
structure ComboSt where
  keys : List ComboKey
  held : Option Nat
  done : Option Nat
  /-- ms since both keys were first pressed together in a sample. -/
  both : Option Nat
  deriving DecidableEq, Repr

/-- A quadrature encoder (R215, R216, R335). -/
structure Encoder where
  lvl     : BitVec 2
  q       : Int
  net     : Int
  pos     : BitVec 32
  err     : Bool
  errStat : Bool
  latch   : Bool
  deriving DecidableEq, Repr

/-- A record waiting to be placed, with the tenants it goes to. -/
structure PendRec where
  mask  : BitVec 16
  bytes : List Byte
  deriving DecidableEq, Repr

/-- Legacy controls. -/
structure Keys where
  ladders : List LadderSt
  caretaker : ComboSt
  provision : ComboSt
  encs    : List Encoder
  /-- Key records waiting for the REPORT slot (R213). -/
  recs    : List PendRec
  deriving DecidableEq, Repr

/-- Bodies of link frames (Table HEDGE-1) and the single-character frames (R252). -/
inductive LinkBody where
  | data (bytes : List Byte)
  | ack (lseq : BitVec 4)
  | nak (lseq : BitVec 4) (reason : Byte)
  | hello (h : Hello)
  | join (h : Hello) (requested : Addr)
  | admission (a : Admission)
  | sync (b : SyncBody)
  | seamH (b : SeamH)
  | seamD (b : SeamD)
  | seamX (b : SeamX)
  | ka (state : Byte)
  | doze (state : Byte)
  | echoReq
  | wake (target : Byte) (number : Word) (scope : Byte)
  | quickset
  | ready
  | probe
  deriving DecidableEq, Repr

/-- Where a frame waits on its port: ACK and NAK first, then quickset and READY (R254, R275). -/
def LinkBody.txRank : LinkBody → Nat
  | .ack _ | .nak _ _ => 0
  | .quickset | .ready => 1
  | _ => 2

/-- A frame to send: its body, its LSEQ once numbered, and the queue records it carries (R21). -/
structure TxFrame where
  body    : LinkBody
  lseq    : Option (BitVec 4)
  /-- Repeats made (R254). -/
  tries   : Nat
  /-- Tenant, record count, whether events, whether the QUEUE_FULL event, of an RPT or EVT packet of this
  tile's own queue. -/
  carries : Option (Tenant × Nat × Bool × Bool)
  /-- A DATA frame that was given up on another port and is offered here (R273). -/
  again   : Bool
  deriving DecidableEq, Repr

/-- A received character with its marks (R233, R245). -/
structure RxChar where
  data       : Byte
  fe         : Bool
  pe         : Bool
  frameStart : Bool
  deriving DecidableEq, Repr

/-- The line monitor's states (Table LINK-5). -/
inductive Mon where
  | absent | live | brk | severed
  deriving DecidableEq, Repr

/-- A frame the port has delivered to the hedge layer (R235): bytes and the first start edge. -/
structure Delivered where
  bytes : List Byte
  edge  : Nat
  deriving DecidableEq, Repr

/-- Echo operation of a port (R248, R249): characters to retransmit. -/
structure EchoSt where
  waiting : List RxChar
  started : Bool
  ended   : Bool
  deriving DecidableEq, Repr

/-- One port: the line (chapter 07). -/
structure LinkPort where
  cfg       : LinkCfg
  pendCfg   : Option LinkCfg
  op        : BitVec 2
  pendOp    : Option (BitVec 2)
  txbrk     : Bool
  mon       : Mon
  /-- The low now timed began in Doze or Watch: SEV_T is 10 ms (R239). -/
  lowDoze   : Bool
  /-- Wake masked since SEVERED (R62). -/
  sevMask   : Bool
  /-- Wake masked for noise (R63). -/
  noiseMask : Bool
  spurious  : List (BitVec 32)
  latch     : Bool
  /-- After a wake the receiver does not hunt yet (R242). -/
  noHunt    : Bool
  /-- READY has been sent and no valid character has come since (R63). -/
  woke      : Bool
  inFrame   : Bool
  rxBytes   : List RxChar
  rxEdge    : Nat
  rxLong    : Bool
  /-- A character of the frame being received carried FE, PE or OE (R235). -/
  rxBad     : Bool
  delivered : List Delivered
  rxFifo    : List RxChar
  txFifo    : List Byte
  /-- FE, PE, OE, TXOV of LINKSTAT, bits 0 to 3. -/
  flags     : BitVec 4
  cntFe     : Word
  cntPe     : Word
  cntNoise  : Word
  cntBreak  : Word
  cntBad    : Word
  /-- Frames waiting, an ACK or NAK ahead of others (R254). -/
  txq       : List TxFrame
  /-- The frame on the line. -/
  onLine    : Option TxFrame
  /-- The bytes of that frame. -/
  lineOut   : List Byte
  launch    : Nat
  /-- Raw characters are on the line (R245). -/
  rawOnLine : Bool
  /-- An echoed character is on the line (R248). -/
  echoOut   : Bool
  echo      : Option EchoSt
  deriving DecidableEq, Repr

/-- A delay measurement under way (R259): attempts left, sum of the echoes' doubled delays, how many came, and the launch
tick of a probe whose echo is awaited (R250). -/
structure DelayRun where
  left   : Nat
  sum    : Int
  got    : Nat
  launch : Option Nat
  deriving DecidableEq, Repr

/-- One port: the hedge layer (chapter 08). -/
structure HedgePort where
  partner   : Option Hello
  miswired  : Bool
  asleep    : Bool
  /-- The partner is there: heard since LIVE (WIRE: until KEEPALIVE_LOSS). -/
  present   : Bool
  lseqTx    : BitVec 4
  lseqRx    : BitVec 4
  outstanding : List TxFrame
  nakWait   : Bool
  /-- Delay d, u12.4 (R259). -/
  delay     : BitVec 16
  delayRun  : Option DelayRun
  /-- Failed attempts of a wake-through under way (R275). -/
  wakeTry   : Option Nat
  /-- SEAM_H of the frame. -/
  inH       : Option SeamH
  /-- Parts of SEAM_D of the frame, in order of arrival. -/
  inD       : List SeamD
  inX       : Option SeamX
  /-- What has come of a SEAM_X that goes on in further frames (R290). -/
  inXPart   : Option SeamX
  /-- The seam is a panel edge for the frame (R290, R33). -/
  edge      : Bool
  /-- The neighbour's seam digest differs from this tile's (R290). -/
  digestBad : Bool
  /-- State blocks last received (R296). -/
  lastX     : Option SeamX
  /-- Swing the neighbour announced for the next frame and the one in force (R129, R146). -/
  swingNow  : Bool
  swingNext : Bool
  /-- Matches and blocks sent in this frame's SEAM_X, and whether they are acknowledged (R293). -/
  outX      : Option SeamX
  /-- The frames of it not yet acknowledged (R290). -/
  outXLeft  : List SeamX
  outXAcked : Bool
  /-- The deadline for the neighbour's SEAM_X of this frame has passed (R290). -/
  xOver     : Bool
  /-- Lost while this tile ran frames: contacts of its band carry EDGE_UNCERTAIN (R296). -/
  uncertain : Bool
  /-- The lost tile's blocks are taken over in the next COMPUTE (R296). -/
  takeover  : Bool
  /-- Depth of the valid SYNC the partner delivered in this frame or the one before, and frames since (R278). -/
  syncD     : Option (BitVec 4)
  syncAge   : Nat
  deriving DecidableEq, Repr

/-- A packet waiting in the relay buffer (R273): its bytes, or an RSP of this tile that has no FRESH yet (R345);
the RTC at which it came, and the port it may no longer use, having been given up there. -/
structure RelayItem where
  bytes  : List Byte
  held   : Option Rsp
  came   : BitVec 32
  notVia : Option Port
  deriving DecidableEq, Repr

/-- A tile's ids as the timekeeper knows them (R165). -/
structure TkTile where
  addr   : Addr
  inUse  : BitVec 64
  wanted : Nat
  /-- The frame of its latest report (R286). -/
  fc     : BitVec 32
  deriving DecidableEq, Repr

/-- A freed id with the frame of its UP (R165). -/
structure FreedId where
  id : BitVec 6
  fc : BitVec 32
  deriving DecidableEq, Repr

/-- The panel figure of a hop set and the frame that gave it (R109). -/
structure PanelFigure where
  hop    : BitVec 3
  figure : BitVec 32
  fc     : BitVec 32
  deriving DecidableEq, Repr

/-- The timekeeper's part (R286, R287). -/
structure Timekeeper where
  timing    : Bool
  framesQuiet : Nat
  /-- FRAME_TICKS and plan digest taken from the first TILE_REPORT (R286). -/
  adopted   : Option (BitVec 32 × Word)
  tiles     : List TkTile
  freed     : List FreedId
  figures   : List PanelFigure
  noisyRun  : Nat
  sinceChange : Nat
  /-- Ids granted and not yet seen in use: tile, id, frame of the grant (R166). -/
  granted   : List (Addr × BitVec 6 × BitVec 32)
  deriving DecidableEq, Repr

/-- The hedge layer of the tile. -/
structure Hedge where
  uid       : Uid
  addr      : Addr
  confirmed : Bool
  panel     : BitVec 5
  u         : BitVec 8
  v         : BitVec 8
  posValid  : Bool
  panelRoot : Bool
  hedgeRoot : Bool
  epoch     : Byte
  depth     : BitVec 4
  parent    : Option Port
  /-- Address requested in JOIN (R71, R267). -/
  requested : Addr
  roster    : Roster
  hasRoster : Bool
  /-- Lowest panel-root UID known (Table HEDGE-2). -/
  lowestRoot : Uid
  /-- The address of the panel root as known from ROSTER or JOIN_GRANT (R348). -/
  rootAddr  : Addr
  routes    : List RouteEntry
  relay     : List RelayItem
  seen      : List (Addr × Word)
  wakesSeen : List Word
  wakeNo    : Word
  /-- SEQ of the tile's next HEDGE packet, counted as R367 counts its own (log 18). -/
  ownSeq    : Word
  /-- The MODEL's own: how many free values of FRESH its HEDGE packets have drawn (log 3). -/
  ownFresh  : Nat
  /-- The panel's frame count as this tile knows it (R281). -/
  fc        : BitVec 32
  /-- The frame count of the latest boundary this tile ran (R331). -/
  ranFc     : BitVec 32
  sub       : BitVec 24
  subPhase  : BitVec 4
  ranBoundary : Bool
  /-- Filtered phase error P and its residual, 1/16 tick (R282). -/
  p         : Int
  phi       : Int
  corrSum   : Int
  corrFrames : Nat
  xtrim     : BitVec 10
  /-- Ticks by which the current frame's idle time is changed (R282). -/
  idleAdj   : Int
  /-- Panel boundary at which the next frame starts after a synchronising reset, in own ticks (R283). -/
  realign   : Option Int
  lockedFor : Nat
  syncThis  : Bool
  framesNoSync : Nat
  /-- A valid SYNC has been received since frames began (R288). -/
  everSync  : Bool
  syncBody  : Option SyncBody
  grants    : List (BitVec 6)
  planMismatch : Bool
  /-- It would have depth 15 or more, and SYNC_DEPTH has been raised (R278). -/
  tooDeep   : Bool
  lossReports : List LossReport
  lost      : List (Addr × BitVec 64)
  /-- This tile takes over the roles 16 frames after its admission (R269). -/
  handoverDue : Bool
  /-- Two partners imply different positions (R258). -/
  posConflict : Bool
  /-- JOINs forwarded by this tile as sponsor: port and UID (R267). -/
  joinWait  : List (Port × Uid)
  adverts   : List PanelAdvert
  /-- RTC at which each root's PANEL_ADVERT was last received (R265, R266). -/
  advertAt  : List (Uid × BitVec 32)
  /-- The port by which a provisional root's PANEL_ADVERT last came: the way its PANEL_GRANT takes (R264). -/
  advertVia : List (Addr × Port)
  /-- WIRE links of other tiles of this panel that the root knows: gateway, port, and the tile at the far end (R272). -/
  farLinks  : List (Addr × BitVec 3 × Uid)
  blocks    : List Addr
  /-- Single addresses held from other panels' blocks (R263). -/
  singles   : List Addr
  provisional : Bool
  /-- The hedge root this panel root last knew, by its UID (R264). -/
  hedgeRootUid : Option Uid
  panelRefused : Bool
  panelNumbers : List (Uid × BitVec 5)
  joinRefused : Bool
  /-- This root joined through a WIRE partner and has no other tile yet (R267). -/
  wireJoined : Bool
  tk        : Timekeeper
  deriving DecidableEq, Repr

/-- Slots of a frame (R15). -/
inductive SlotName where
  | sync | noise | scan | self | seam | compute | report
  deriving DecidableEq, Repr

/-- A swing change that waits for its SEAM slot (R85, R86). -/
structure SwingPend where
  high   : Bool
  forced : Bool
  deriving DecidableEq, Repr

/-- Kinds of MAINT frame (R17, Table REPAIR-4). -/
inductive Maint where
  | seek | selftest | slicecal (converter : Fin 2)
  deriving DecidableEq, Repr

/-- One Watch group (R119 to R121). -/
structure WatchGroup where
  base     : Nat
  seeded   : Bool
  run      : Nat
  shortRun : Nat
  cand     : Bool
  n        : Nat
  full     : Bool
  deriving DecidableEq, Repr

/-- Views of one surveyed set: its number and three lanes (Table ACQ-10). -/
structure NoiseView where
  hop   : BitVec 3
  lanes : List Tracker
  deriving DecidableEq, Repr

/-- What the channel check of a SELFTEST frame has measured on one channel: the CALDAC gain in 1/4 096 of nominal (R383), and the sums
of the four DACMON conversions at D = +1 024 and at D = -1 024, once they have been made (R381). -/
structure ChannelCheck where
  gain : BitVec 16
  high : Option Nat
  low  : Option Nat
  deriving DecidableEq, Repr

/-- The acquisition front end. -/
structure Acq where
  slot      : Option SlotName
  running   : Bool
  joining   : Bool
  highNow   : Bool
  swingPend : Option SwingPend
  /-- A change announced in SEAM_H of this frame, applied at its end (R85). -/
  swingAnn  : Option Bool
  /-- SWING was forced to LOW and is not yet restored (PWRMON.FALLBACK). -/
  fallback  : Bool
  sagged    : Bool
  sagRun    : Nat
  hop       : BitVec 3
  /-- A hop-set change to come: the set and the frame count it takes effect at. -/
  hopPend   : Option (BitVec 3 × BitVec 32)
  /-- Frames left until seams are no longer edges for a set that differs from HOP_CUR (R281). -/
  hopEdge   : Bool
  surveyPtr : Nat
  /-- Channel of each sense line (R90). -/
  route     : List Nat
  /-- LEGS of each drive pin (R83). -/
  legs      : List (BitVec 2)
  /-- DAC codes by channel and step (R92). -/
  dac       : List (List Int)
  /-- Step sums by channel, lane and step (R102). -/
  sums      : List (List (List Int))
  clip      : List Bool
  sampleView : List Tracker
  noiseViews : List NoiseView
  /-- The NOISE slot of the frame is given up to a forced slot (R378, R388). -/
  noiseGiven : Bool
  /-- Counts SC of the 56 lines, none for STALL (R112, R113). -/
  sc        : List (Option Nat)
  selfRan   : Bool
  watch     : List WatchGroup
  /-- Step reached in the wake sequence and bursts since (R187). -/
  wgStep    : Nat
  wgAge     : Nat
  maintDue  : List Maint
  maint     : Option Maint
  /-- What the channel check and leg timing of a SELFTEST frame measured. -/
  checks    : List ChannelCheck
  legChecks : List LegCheck
  deriving DecidableEq, Repr

/-- A node (own or seam) and its filters (R131 to R140, R148). -/
structure NodeSt where
  /-- The latest measured value. -/
  x       : Int
  /-- The value of its latest included frame, x_ref of R148. -/
  ref     : Option Int
  win     : List Int
  f       : Int
  phi     : Int
  b       : Int
  rho     : Int
  neg     : Nat
  delta   : Int
  /-- Its next included frame fills the window and F (R141); with `seedB`, B too (R391). -/
  seed    : Bool
  seedB   : Bool
  /-- Its baseline is captured (R136). -/
  valid   : Bool
  /-- Frames of exclusion left (R148). -/
  excl    : Option Nat
  /-- Its step is taken as 0: its code did not change (R148). -/
  zero    : Bool
  /-- Its measured step updates the line's L (R145). -/
  learn   : Bool
  /-- A baseline capture names it (R137). -/
  recap   : Bool
  /-- It was included in the latest frame (R131). -/
  inc     : Bool
  /-- The latest frame lay in an exclusion of it (R149). -/
  ranging : Bool
  deriving DecidableEq, Repr

/-- A node never measured: its window holds W = 3 values from the start (R133), which nothing reads before it is seeded. -/
def NodeSt.fresh : NodeSt where
  x := 0
  ref := none
  win := [0, 0, 0]
  f := 0
  phi := 0
  b := 0
  rho := 0
  neg := 0
  delta := 0
  seed := true
  seedB := false
  valid := false
  excl := none
  zero := false
  learn := false
  recap := false
  inc := false
  ranging := false

/-- A line's self-capacitance arithmetic (R151, R152). -/
structure SelfSt where
  scn   : Nat
  sb    : Int
  res   : Int
  neg   : Nat
  delta : Int
  stall : Bool
  /-- It has been counted. -/
  known : Bool
  /-- Its self baseline is captured. -/
  valid : Bool
  /-- A baseline capture names it (R137, R152). -/
  recap : Bool
  /-- It was counted in the latest frame. -/
  inc   : Bool
  deriving DecidableEq, Repr

/-- A change of GAIN and RANGE waiting on a sense line (R147). -/
structure SensePend where
  gain   : Nat
  coarse : Bool
  forced : Bool
  deriving DecidableEq, Repr

/-- A change of codes waiting on a sense line (R147): drive lines and their new codes. -/
structure CodesPend where
  codes  : List (Nat × Nat)
  forced : Bool
  deriving DecidableEq, Repr

/-- A line's settings in a profile that has come into use (R136, R363). -/
structure LinePend where
  gain   : Nat
  coarse : Bool
  codes  : List Nat
  deriving DecidableEq, Repr

/-- A range change waiting on a sense line (R146, R147). -/
inductive RangePend where
  | sense (p : SensePend) | codes (p : CodesPend) | line (p : LinePend)
  deriving DecidableEq, Repr

/-- A compensation seek (R142). -/
structure SeekSt where
  ctx    : CmdCtx
  /-- Frame of the seek, 0 to 13; none while waiting for a boundary. -/
  frame  : Option Nat
  /-- Lines that step 3 has set to COARSE. -/
  coarse : List Bool
  /-- Codes decided so far, by line. -/
  codes  : List (List Nat)
  /-- Values measured at code c in step 4, by line. -/
  xAtC   : List (List Int)
  /-- Lines that clipped in step 4. -/
  clipped : List Bool
  deriving DecidableEq, Repr

/-- The node engine. -/
structure Node where
  /-- By lane, drive line, sense line: index lane * 768 + d * 24 + k. -/
  nodes   : List NodeSt
  /-- The baselines are valid (R136). -/
  valid   : Bool
  gain    : List Nat
  coarse  : List Bool
  codes   : List (List Nat)
  lsbF    : List Nat
  lsbC    : List Nat
  /-- The range change waiting on each sense line (R147). -/
  pend    : List (Option RangePend)
  /-- SETTLING frames left (R141). -/
  settle  : Nat
  /-- A synchronising reset waits for its first included frame. -/
  seedDue : Bool
  isPartial : Bool
  /-- This frame's outputs carry SETTLING. -/
  settling : Bool
  selfs   : List SelfSt
  seek    : Option SeekSt
  /-- The own lane was included in the latest frame (R131). -/
  ownInc  : Bool
  /-- Nodes frozen by the track engine in the latest frame (indices as `nodes`). -/
  frozen  : List Nat
  /-- Sense lines near a contact in the latest frame (R147). -/
  busy    : List Nat
  /-- The temperature correction of R153 is due. -/
  tempDue : Bool
  deriving DecidableEq, Repr

/-- A position in tu. -/
structure Pos where
  x : Int
  y : Int
  deriving DecidableEq, Repr

/-- The engagement of a contact with one tenant (R178). -/
structure Engage where
  tenant : Tenant
  /-- Through an AREA zone. -/
  area   : Bool
  /-- BUTTON zones held since touch-down. -/
  buttons : List Nat
  /-- Position last reported to the tenant. -/
  last   : Pos
  /-- Zone named last. -/
  zone   : Nat
  multi  : Bool
  deriving DecidableEq, Repr

/-- A contact or candidate (R161 to R185). -/
structure Contact where
  /-- Granted id; a contact has one, a candidate may wait. -/
  id       : Option (BitVec 6)
  isCand   : Bool
  /-- Consecutive frames matched (R164). -/
  seen     : Nat
  pos      : Pos
  prev     : Pos
  down     : Pos
  anchor   : Pos
  /-- The open run's symbol and count; count 0 is no run. -/
  runSym   : Nat
  runCnt   : Nat
  syms     : List Nat
  overlong : Bool
  life     : Nat
  /-- It has stayed within TAP_SLOP of its DOWN position (R181). -/
  still    : Bool
  longDone : Bool
  downSettling : Bool
  /-- Its DOWN position depends on an interpolated node (R42). -/
  downCop  : Bool
  sawEdge  : Bool
  sawRanging : Bool
  /-- Its DOWN hit a MASK zone (R179). -/
  masked   : Bool
  engaged  : List Engage
  /-- Zones hit at the DOWN (R183). -/
  downZones : List Nat
  downFc   : BitVec 32
  size     : Nat
  sum      : Nat
  /-- Flags SEAM, EDGE_UNCERTAIN, SETTLING, RANGING, WET, COPPICED (Table CONTACT-3, bits 10 to 15). -/
  flags    : BitVec 6
  lastFlags : BitVec 6
  /-- Taken over from a lost tile and not yet matched: without a match it ends without UP (R296). -/
  silent   : Bool
  deriving DecidableEq, Repr

/-- A hover (R171, R172). -/
structure Hover where
  pos     : Pos
  sum     : Nat
  /-- WET as its latest frame had it. -/
  wet     : Bool
  engaged : List Engage
  deriving DecidableEq, Repr

/-- A TAP this tile decided (R181). -/
structure TapSt where
  fc   : BitVec 32
  down : Pos
  deriving DecidableEq, Repr

/-- Where COMPUTE stands (R290). -/
inductive ComputePhase where
  | idle | waitD | waitX | done
  deriving DecidableEq, Repr

/-- A record of the frame: its tenant and bytes, in the order of R189. -/
structure OutRec where
  tenant : Tenant
  bytes  : List Byte
  deriving DecidableEq, Repr

/-- The track engine. -/
structure Track where
  contacts : List Contact
  wet      : Bool
  wetRun   : Nat
  dryRun   : Nat
  hover    : Option Hover
  /-- TAPs that may still begin a DOUBLE_TAP, newest first (R181). -/
  taps     : List TapSt
  out      : List OutRec
  /-- Ids to give back in the next TILE_REPORT (R165). -/
  returned : BitVec 64
  /-- Candidates this tile owns that wait for an id. -/
  wanted   : Nat
  phase    : ComputePhase
  /-- Water peaks in the frame (R170). -/
  waterNow : Bool
  deriving DecidableEq, Repr

/-- A tenant's SRAM side (R343, R345). -/
structure TenantSt where
  h     : BitVec 32
  /-- Bit i marks the value H - 1 - i. -/
  marks : BitVec 32
  txCtr : BitVec 32
  rptSeq : Word
  evtSeq : Word
  deriving DecidableEq, Repr

/-- A record in a queue with the full frame count and tile of its generation (R367). -/
structure QEnt where
  bytes  : List Byte
  fc     : BitVec 32
  origin : Addr
  fixed  : Bool
  deriving DecidableEq, Repr

/-- A QUEUE_FULL event in its reserved place (R370): records ahead of it, counts, FRAME16 of the first loss. -/
structure QFull where
  ahead : Nat
  du    : Nat
  other : Nat
  fc    : BitVec 32
  fixed : Bool
  deriving DecidableEq, Repr

/-- A tenant's queue on this tile (R21, R370). -/
structure Queue where
  recs : List QEnt
  full : Option QFull
  /-- Losses after the event was fixed. -/
  late : Option QFull
  deriving DecidableEq, Repr

/-- An inbound fragmented transfer (R351, R352). -/
structure Transfer where
  tenant : Tenant
  opcode : Byte
  total  : Nat
  bytes  : List Byte
  deriving DecidableEq, Repr

/-- An accepted frame-deferred command (R349). -/
structure Deferred where
  opcode  : Byte
  ctx     : CmdCtx
  payload : List Byte
  deriving DecidableEq, Repr

/-- The packet engine. -/
structure Packets where
  transfer : Option Transfer
  /-- The image the staging buffer holds once its LAST segment came. -/
  staged   : Option (List Byte)
  deferred : List Deferred
  deriving DecidableEq, Repr

/-- Rotation of one converter's slices (R377 to R379). -/
structure SliceRot where
  out     : Fin 11
  /-- The out slice's calibration is complete and waits for a boundary. -/
  doneCal : Bool
  /-- Gain and offset trims of every slice (R377): hundredths of a percent and LSB (log 7). -/
  trims   : List (Int × Int)
  /-- The out slice's new trims, in use once it returns to service (R377). -/
  newTrim : Int × Int
  /-- A slice that has failed and leaves service at the next boundary (R374). -/
  failDue : Option (Fin 11)
  failed  : List (Fin 11)
  /-- Slices whose latest calibration was out of range (R379). -/
  bad     : List (Fin 11)
  /-- Slice the SLICECAL frames calibrate next. -/
  next    : Fin 11
  deriving DecidableEq, Repr

/-- A signature found in a SELFTEST frame (Table REPAIR-5): code and line, channel, leg or pin. -/
structure Signature where
  code  : Nat
  index : Nat
  deriving DecidableEq, Repr

/-- A self-test run (R385, R387). -/
structure SelfTestRun where
  /-- SELFTEST frames completed. -/
  frames : Nat
  first  : List Signature
  second : List Signature
  drift  : Nat
  forced : Bool
  ctx    : Option CmdCtx
  deriving DecidableEq, Repr

/-- A fingerprint run (R383): frames taken and sums so far. -/
structure FingerRun where
  ctx    : CmdCtx
  frames : Nat
  x      : List Int
  scn    : List Nat
  td     : Int
  deriving DecidableEq, Repr

/-- Telemetry counts since the last flush (Table REPAIR-9). -/
structure Tele where
  runS      : Nat
  quietS    : Nat
  /-- Reference periods of Run and of Quiet not yet a full second. -/
  runT      : Nat
  quietT    : Nat
  wakes     : Nat
  downs     : Nat
  presses   : Nat
  detents   : Nat
  vbatLow   : Option Nat
  tdLow     : Option Int
  tdHigh    : Option Int
  sagged    : Nat
  clipped   : Nat
  noise     : Nat
  hops      : Nat
  events    : Nat
  authFail  : Nat
  linkErr   : Nat
  breaks    : Nat
  qLost     : Nat
  nvmFix    : Nat
  drift     : Nat
  deriving DecidableEq, Repr

/-- Counts all clear (R402). -/
def Tele.zero : Tele :=
  { runS := 0, quietS := 0, runT := 0, quietT := 0, wakes := 0, downs := 0, presses := 0, detents := 0,
    vbatLow := none, tdLow := none, tdHigh := none, sagged := 0, clipped := 0, noise := 0, hops := 0,
    events := 0, authFail := 0, linkErr := 0, breaks := 0, qLost := 0, nvmFix := 0, drift := 0 }

/-- RPRSTAT, RPRSPARE and BGDEFER as they stand while the tile is in Run (R336). -/
structure RprRegs where
  stat  : Word
  spare : Word
  defer : Word
  deriving DecidableEq, Repr

/-- The repair and background manager. -/
structure Repair where
  /-- Factory map as loaded at B5 (R372). -/
  factory   : List RepairEntry
  /-- Repairs in force that the full field map does not hold (R373). -/
  extra     : List RepairEntry
  grade     : BitVec 3
  bistf     : Bool
  complim   : Bool
  slices    : List SliceRot
  selftest  : Option SelfTestRun
  /-- A full self-test is wanted: by SELF_TEST or COPPICE_CLEAR, or the daily one is due. -/
  testDue   : Bool
  /-- COPPICE_CLEAR has removed a repair at grade 6, which stands until the self-test it made due has run (R376). -/
  clearTest : Bool
  testCtx   : Option CmdCtx
  /-- Suspect run counts per line and the suspect lines (R389): sense 0 to 23, drive 24 to 55. -/
  suspRun   : List Nat
  suspects  : List Nat
  finger    : Option FingerRun
  fingerWait : Option CmdCtx
  noFpRaised : Bool
  /-- Daily self-tests without a repair's signature, per field-map entry (R386). -/
  cleanRuns : List (RepairEntry × Nat)
  /-- Background task running (RPRSTAT.TASK). -/
  task      : BitVec 4
  /-- BGDEFER. -/
  bgdefer   : BitVec 5
  /-- The registers as latched at the latest boundary in Run. -/
  regs      : RprRegs
  /-- Tasks made due by BG_TASK or by their deadline: bit n for task n + 1. -/
  bgDue     : BitVec 5
  /-- Rows due for refresh, with the count of reference periods at which the scrub found each (R394, R399). -/
  refresh   : List (Nat × Nat)
  /-- A Watch group is out of approach detection after WATCH_FAULT (Table REPAIR-2). -/
  watchFault : Bool
  sparesOut : List Byte
  flushes   : Nat
  wearAcc   : List WearCell
  /-- Reference periods counted since LIFE_H was last saved (R398). -/
  lifeT     : Nat
  /-- RTC with its wraps: reference periods since the reset (R46, R394). -/
  rtcLong   : Nat
  /-- That count at the last completion of the daily self-test, the scrub and the telemetry flush (R387, R399, R402). -/
  doneAt    : List Nat
  tele      : Tele
  deriving DecidableEq, Repr

/-- A custodian-key area of the OTP (R445). -/
inductive KeyArea where
  | blank
  | spoiled
  | programmed (key : List Byte)
  deriving DecidableEq, Repr

/-- The hardware combinations (Table KEY-11). -/
structure Combo where
  ctLadder : Ladder
  ctMode   : BitVec 2
  ctKeyA   : Key
  ctKeyB   : Key
  pvLadder : Ladder
  pvMode   : BitVec 2
  pvKeyA   : Key
  pvKeyB   : Key
  /-- PV_HOLD in seconds. -/
  pvHold   : Nat
  deriving DecidableEq, Repr

/-- Programming of a custodian-key area under way (R365, R445). -/
structure KeyProg where
  key  : List Byte
  ctx  : CmdCtx
  deriving DecidableEq, Repr

/-- OTP content. -/
structure Otp where
  uid      : Uid
  uidCrcOk : Bool
  areas    : List KeyArea
  tofs     : Nat
  tslope   : Nat
  xtrim    : BitVec 10
  combo    : Combo
  /-- Factory repair map copies: none where the copy's CRC-16 fails (R372). -/
  mapA     : Option (List RepairEntry)
  mapB     : Option (List RepairEntry)
  deriving DecidableEq, Repr

/-- What step B5 of BOOT has read from OTP for use while the tile runs (Table POWER-6, R327). -/
structure OtpCopy where
  /-- The custodian key, none while unprogrammed. -/
  custodian : Option (List Byte)
  /-- Provisioning is open: no key and an unspoiled area left (R365, R445). -/
  provOpen  : Bool
  tofs      : Nat
  tslope    : Nat
  combo     : Combo
  deriving DecidableEq, Repr

end Sys2Proof.Machine
end

