-- ==== Sys2Proof/Machine/Image.lean ====
section
/-!
DEFINITION. The profile image (R362, R363, Table PKT-6): packing, reading, and slot validity (R78).
-/
namespace Sys2Proof.Machine

/-- Bytes of a record's fields, each value in its whole bytes. -/
def packFields : List FieldSpec → Fields → List Byte
  | [], _ => []
  | f :: fs, vs => (vs.take f.count).flatMap (leInt f.bytes) ++ packFields fs (vs.drop f.count)

/-- One value of a field read from its bytes: signed where its range goes below 0; reserved bits ignored (R11). -/
def readField (f : FieldSpec) (b : List Byte) : Int :=
  if f.lo < 0 then (BitVec.ofNat f.bits (ofLe b)).toInt else (ofLe b % 2 ^ f.bits : Nat)

/-- Values of a record's fields read from its bytes. -/
def readFields : List FieldSpec → List Byte → Fields
  | [], _ => []
  | f :: fs, b =>
    (List.range f.count).map (fun i => readField f ((b.drop (f.bytes * i)).take f.bytes)) ++
    readFields fs (b.drop (f.bytes * f.count))

/-- Length of a record's body in bytes. -/
def specLength (specs : List FieldSpec) : Nat := (specs.map (fun f => f.bytes * f.count)).sum

/-- Number of values of a record. -/
def specCount (specs : List FieldSpec) : Nat := (specs.map (fun f => f.count)).sum

/-- The record types of Table PKT-6 with their fields and whether they are mandatory. -/
def recordSpecs : List (Nat × List FieldSpec × Bool) :=
  [ (0x01, frameSpec, true), (0x02, nodeSpec, true), (0x03, trackSpec, true), (0x04, zoneSpec, false),
    (0x05, templateSpec, false), (0x06, gestureSpec, false), (0x07, wakeSpec, false), (0x08, keySpec, false),
    (0x09, encSpec, false), (0x0A, powerSpec, true), (0x0B, senseSpec, true), (0x0C, selfSpec, false),
    (0x0D, useqSpec, false) ]

/-- The fields of a profile under a record type. -/
def Profile.record (p : Profile) (t : Nat) : Fields :=
  match t with
  | 0x01 => p.frame
  | 0x02 => p.node
  | 0x03 => p.track
  | 0x04 => p.zones
  | 0x05 => p.templates
  | 0x06 => p.gesture
  | 0x07 => p.wake
  | 0x08 => p.keys
  | 0x09 => p.enc
  | 0x0A => p.power
  | 0x0B => p.sense
  | 0x0C => p.selfc
  | _ => p.useq

/-- A profile with the fields of one record type replaced. -/
def Profile.withRecord (p : Profile) (t : Nat) (f : Fields) : Profile :=
  match t with
  | 0x01 => { p with frame := f }
  | 0x02 => { p with node := f }
  | 0x03 => { p with track := f }
  | 0x04 => { p with zones := f }
  | 0x05 => { p with templates := f }
  | 0x06 => { p with gesture := f }
  | 0x07 => { p with wake := f }
  | 0x08 => { p with keys := f }
  | 0x09 => { p with enc := f }
  | 0x0A => { p with power := f }
  | 0x0B => { p with sense := f }
  | 0x0C => { p with selfc := f }
  | _ => { p with useq := f }

/-- A zone entry as the tile keeps it: unused, 16 zero bytes (R176); else its reserved bits 0 (R11, Table CONTACT-4). -/
def zoneKept (e : Fields) : Fields :=
  if fldN e 12 % 4 == 0 then List.replicate 16 0
  else e.take 12 ++ [((fldN e 12 % 8 : Nat) : Int), ((fldN e 13 % 16 : Nat) : Int), ((fldN e 14 % 32 : Nat) : Int), 0]

/-- A stroke template as the tile keeps it: its reserved bits 0 (R11, Table CONTACT-8). -/
def templateKept (e : Fields) : Fields :=
  [((fldN e 0 / 16 * 16 + fldN e 0 % 8 : Nat) : Int), ((fldN e 1 % 16 : Nat) : Int)] ++ e.drop 2

/-- A record's fields as the tile keeps them. -/
def recordKept (t : Nat) (f : Fields) : Fields :=
  match t with
  | 0x04 => (chunks 16 f).flatMap zoneKept
  | 0x05 => (chunks 5 f).flatMap templateKept
  | _ => f

/-- The image that holds every record of a profile (R362, R363 source 1). -/
def Profile.image (p : Profile) : List Byte :=
  let recs := recordSpecs.flatMap (fun r =>
    le 1 r.1 ++ le 2 (specLength r.2.1) ++ packFields r.2.1 (p.record r.1))
  let body := le 2 0x4C50 ++ le 3 (12 + recs.length) ++ [1#8] ++ le 1 recordSpecs.length ++ [0#8] ++ recs
  body ++ le 4 (crc32 body).toNat

/-- The records of an image's middle part, as type and body; none where the bytes do not divide so. -/
def splitRecords : Nat → List Byte → Option (List (Nat × List Byte))
  | 0, b => if b.isEmpty then some [] else none
  | n + 1, b =>
    let len := leAt b 1 2
    if b.length < 3 + len then none
    else (splitRecords n (b.drop (3 + len))).map (fun l => ((byteAt b 0).toNat, (b.drop 3).take len) :: l)

/-- The profile an image decides (R362, R363): none where the image cannot be read. -/
def readImage (b : List Byte) : Option Profile :=
  if b.length < 12 || leAt b 0 2 != 0x4C50 || leAt b 2 3 != b.length || byteAt b 5 != 1#8 ||
      leAt b (b.length - 4) 4 != (crc32 (b.take (b.length - 4))).toNat then none
  else
    match splitRecords (byteAt b 6).toNat ((b.take (b.length - 4)).drop 8) with
    | none => none
    | some recs =>
      let types := recs.map (fun r => r.1)
      let known := recs.all (fun r => recordSpecs.any (fun s => s.1 == r.1 && specLength s.2.1 == r.2.length))
      let whole := recordSpecs.all (fun s => !s.2.2 || types.contains s.1)
      if known && whole && noRepeats types then
        some (recs.foldl (fun p r =>
          match recordSpecs.find? (fun s => s.1 == r.1) with
          | some s => p.withRecord r.1 (recordKept r.1 (readFields s.2.1 r.2))
          | none => p) Profile.factory)
      else none

/-- A staged image fits a slot, can be read and obeys every range rule (R363). -/
def imageProfile (b : List Byte) (x : CheckCtx) : Option Profile :=
  if b.length ≤ 65280 then (readImage b).filter (fun p => p.ok x) else none

/-- The commit marker of a generation: the generation low, its inverse high (R78). -/
def markerOf (g : BitVec 32) : BitVec 64 := ~~~g ++ g

/-- The marker of a slot is valid for its generation. -/
def Slot.marked (s : Slot) : Bool :=
  match s.header, s.marker with
  | some h, some m => m == markerOf h.gen
  | _, _ => false

/-- The body of a slot has its length and CRC-32. -/
def Slot.bodyOk (s : Slot) : Bool :=
  s.header.any (fun h => h.len == s.body.length && h.crc == crc32 s.body)

/-- The profile of a valid slot (R78). -/
def Slot.profile (s : Slot) (x : CheckCtx) : Option Profile :=
  if s.marked && s.bodyOk then imageProfile s.body x else none

/-- The generation of a slot's header, 0 where it has none. -/
def Slot.gen (s : Slot) : BitVec 32 := (s.header.map (fun h => h.gen)).getD 0#32

end Sys2Proof.Machine
end

