-- ==== Sys2Proof/Machine/Crypto.lean ====
section
/-!
DEFINITION. AES-128, its CMAC (R341) and AES Key Wrap (R342). The manual names these by their standards
(FIPS 197 behind AES, NIST SP 800-38B, RFC 3394); their steps are PRESUMED from those standards (log 11).
-/
namespace Sys2Proof.Machine

/-- A 16-byte key or block. -/
abbrev Block := List Byte

/-- The AES substitution table, 32 entries a word, entry 0 lowest. -/
def sboxWords : List Nat :=
  [ 0xc072a49cafa2d4adf04759fa7dc982ca76abd7fe2b670130c56f6bf27b777c63, 0x75b227ebe28012079a059618c323c7041531d871f1e5a534ccf73f362693fdb7,
    0xcf584c4a39becb6a5bb1fc20ed00d153842fe329b3d63b52a05a6e1b1a2c8309, 0xd2f3ff1021dab6bcf5389d928f40a351a89f3c507f02f94585334d43fbaaefd0,
    0xdb0b5ede14b8ee4688902a22dc4f816073195d643d7ea7c41744975fec130ccd, 0x08ae7a65eaf4566ca94ed58d6d37c8e779e4959162acd3c25c2406490a3a32e0,
    0x9e1dc186b95735610ef6034866b53e708a8bbd4b1f74dde8c6b4a61c2e2578ba, 0x16bb54b00f2d99416842e6bf0d89a18cdf2855cee9871e9b948ed9691198f8e1 ]

/-- The inverse AES substitution table, packed likewise. -/
def invSboxWords : List Nat :=
  [ 0xcbe9dec444438e3487ff2f9b8239e37cfbd7f3819ea340bf38a53630d56a0952, 0x25d18b6d49a25b76b224d92866a12e084ec3fa420b954cee3d23c2a632947b54,
    0x849d8da75746155edab9edfd5048706c92b6655dcc5ca4d41698688664f6f872, 0x6b8a130103bdafc1020f3fca8f1e2cd00645b3b80558e4f70ad3bc8c00abd890,
    0x6edf751ce837f9e28535ade72274ac9673e6b4f0cecff297eadc674f4111913a, 0xf45acd78fec0db9a2079d2c64b3e56fc1bbe18aa0e62b76f89c5291d711af147,
    0xef9cc9939f7ae52d0d4ab519a97f51605fec8027591012b131c7078833a8dd1f, 0x7d0c2155631469e126d677ba7e042b17619953833cbbebc8b0f52aae4d3be0a0 ]

/-- Entry `b` of a packed table. -/
def tableByte (t : List Nat) (b : Byte) : Byte :=
  BitVec.ofNat 8 (t.getD (b.toNat / 32) 0 / 256 ^ (b.toNat % 32))

/-- SubBytes on one byte. -/
def sbox (b : Byte) : Byte := tableByte sboxWords b

/-- InvSubBytes on one byte. -/
def invSbox (b : Byte) : Byte := tableByte invSboxWords b

/-- Multiplication by x in the field of AES. -/
def xtime (b : Byte) : Byte := if b.msb then (b <<< 1) ^^^ 0x1B#8 else b <<< 1

/-- Multiplication by 9, 11, 13 or 14 and the like: the sum of the doublings that `k` names. -/
def gmul (k : Nat) (b : Byte) : Byte :=
  (if k % 2 = 1 then b else 0#8) ^^^ (if k / 2 % 2 = 1 then xtime b else 0#8) ^^^
  (if k / 4 % 2 = 1 then xtime (xtime b) else 0#8) ^^^ (if k / 8 % 2 = 1 then xtime (xtime (xtime b)) else 0#8)

/-- Byte-wise exclusive or. -/
def xorBytes (a b : List Byte) : List Byte := List.zipWith (fun x y => x ^^^ y) a b

/-- The ten round constants of the key expansion. -/
def rcons : List Byte := [0x01#8, 0x02#8, 0x04#8, 0x08#8, 0x10#8, 0x20#8, 0x40#8, 0x80#8, 0x1B#8, 0x36#8]

/-- The next round key. -/
def nextKey (k : Block) (rc : Byte) : Block :=
  let w := fun i => (k.drop (4 * i)).take 4
  let t := (((w 3).drop 1) ++ ((w 3).take 1)).map sbox
  let t := xorBytes t [rc, 0#8, 0#8, 0#8]
  let a := xorBytes (w 0) t
  let b := xorBytes (w 1) a
  let c := xorBytes (w 2) b
  let d := xorBytes (w 3) c
  a ++ b ++ c ++ d

/-- The eleven round keys, in order. -/
def expandKey (k : Block) : List Block := rcons.foldl (fun ks rc => ks ++ [nextKey (ks.getLastD k) rc]) [k]

/-- ShiftRows on a column-major state. -/
def shiftRows (s : Block) : Block := (List.range 16).map (fun i => byteAt s ((i + 4 * (i % 4)) % 16))

/-- InvShiftRows. -/
def invShiftRows (s : Block) : Block := (List.range 16).map (fun i => byteAt s ((i + 12 * (i % 4)) % 16))

/-- One byte of a mixed column: row `r` of column `c` under the coefficients of the first row. -/
def mixByte (m : List Nat) (s : Block) (i : Nat) : Byte :=
  let c := i / 4
  let r := i % 4
  (List.range 4).foldl (fun a j => a ^^^ gmul (m.getD ((j + 4 - r) % 4) 0) (byteAt s (4 * c + j))) 0#8

/-- MixColumns. -/
def mixColumns (s : Block) : Block := (List.range 16).map (mixByte [2, 3, 1, 1] s)

/-- InvMixColumns. -/
def invMixColumns (s : Block) : Block := (List.range 16).map (mixByte [14, 11, 13, 9] s)

/-- One AES-128 block encryption. -/
def aesEncrypt (key blk : Block) : Block :=
  match expandKey key with
  | [] => blk
  | k0 :: ks =>
    let s := (ks.take 9).foldl (fun s k => xorBytes (mixColumns (shiftRows (s.map sbox))) k) (xorBytes blk k0)
    xorBytes (shiftRows (s.map sbox)) (ks.getLastD k0)

/-- One AES-128 block decryption. -/
def aesDecrypt (key blk : Block) : Block :=
  match (expandKey key).reverse with
  | [] => blk
  | k10 :: ks =>
    let s := (ks.take 9).foldl (fun s k => invMixColumns (xorBytes ((invShiftRows s).map invSbox) k))
      (xorBytes blk k10)
    xorBytes ((invShiftRows s).map invSbox) (ks.getLastD k10)

/-- A block shifted left by one bit, its bytes most significant first. -/
def shl1 (b : Block) : Block :=
  (List.range 16).map (fun i => (byteAt b i <<< 1) ||| (byteAt b (i + 1) >>> 7))

/-- A CMAC subkey from the one before it. -/
def cmacDouble (b : Block) : Block :=
  let s := shl1 b
  if (byteAt b 0).msb then xorBytes s (List.replicate 15 0#8 ++ [0x87#8]) else s

/-- The CMAC chain over the blocks of a message whose last block is treated with a subkey. -/
def cmacChain (key k1 k2 : Block) : Nat → Block → List Byte → Block
  | 0, x, _ => x
  | fuel + 1, x, m =>
    if m.length < 16 then
      aesEncrypt key (xorBytes x (xorBytes (m ++ [0x80#8] ++ List.replicate (15 - m.length) 0#8) k2))
    else if m.length = 16 then aesEncrypt key (xorBytes x (xorBytes m k1))
    else cmacChain key k1 k2 fuel (aesEncrypt key (xorBytes x (m.take 16))) (m.drop 16)

/-- AES-128 CMAC of a message (R341). -/
def cmac (key : Block) (m : List Byte) : Block :=
  let l := aesEncrypt key (List.replicate 16 0#8)
  let k1 := cmacDouble l
  cmacChain key k1 (cmacDouble k1) (m.length / 16 + 1) (List.replicate 16 0#8) m

/-- The tag of a packet: the first 4 bytes of the CMAC (R341). -/
def tag4 (key : Block) (m : List Byte) : List Byte := (cmac key m).take 4

/-- One unwrap step of RFC 3394 on (A, R1, R2) for step number `t` and the register it turns. -/
def unwrapStep (kek : Block) (st : List Byte × List Byte × List Byte) (t : Nat) : List Byte × List Byte × List Byte :=
  let (a, r1, r2) := st
  let a' := xorBytes a ((le 8 t).reverse)
  if t % 2 = 0 then
    let b := aesDecrypt kek (a' ++ r2)
    (b.take 8, r1, b.drop 8)
  else
    let b := aesDecrypt kek (a' ++ r1)
    (b.take 8, b.drop 8, r2)

/-- AES Key Unwrap of a 24-byte blob with the default initial value: the 16-byte key, or none when the
integrity check fails (R342). -/
def keyUnwrap (kek blob : List Byte) : Option Block :=
  if blob.length = 24 then
    let st := [12, 11, 10, 9, 8, 7, 6, 5, 4, 3, 2, 1].foldl (unwrapStep kek)
      (blob.take 8, (blob.drop 8).take 8, blob.drop 16)
    if st.1 = List.replicate 8 0xA6#8 then some (st.2.1 ++ st.2.2) else none
  else none

end Sys2Proof.Machine
end

