-- ==== Sys2Proof/Machine/Packet.lean ====
section
/-!
DEFINITION. The packet layout of Table PKT-1: its fields read from bytes, its CRC-32, its tag, and packets built.
-/
namespace Sys2Proof.Machine

/-- KIND. -/
def pkKind (b : List Byte) : Nat := (byteAt b 0).toNat % 16
/-- VER. -/
def pkVer (b : List Byte) : Nat := (byteAt b 0).toNat / 16
/-- TENANT. -/
def pkTenant (b : List Byte) : Tenant := Fin.ofNat 16 (byteAt b 1).toNat
/-- AUTH. -/
def pkAuth (b : List Byte) : Bool := (byteAt b 1).getLsbD 4
/-- URG. -/
def pkUrg (b : List Byte) : Bool := (byteAt b 1).getLsbD 5
/-- FRAG. -/
def pkFrag (b : List Byte) : Bool := (byteAt b 1).getLsbD 6
/-- LAST. -/
def pkLast (b : List Byte) : Bool := (byteAt b 1).getLsbD 7
/-- DST. -/
def pkDst (b : List Byte) : Addr := BitVec.ofNat 10 (leAt b 2 2)
/-- TTL. -/
def pkTtl (b : List Byte) : Nat := (byteAt b 3).toNat / 16
/-- SRC. -/
def pkSrc (b : List Byte) : Addr := BitVec.ofNat 10 (leAt b 4 2)
/-- SEQ. -/
def pkSeq (b : List Byte) : Word := BitVec.ofNat 16 (leAt b 6 2)
/-- OPCODE. -/
def pkOp (b : List Byte) : Byte := byteAt b 8
/-- STATUS. -/
def pkStatus (b : List Byte) : Byte := byteAt b 9
/-- LEN. -/
def pkLen (b : List Byte) : Nat := leAt b 10 2
/-- FRESH. -/
def pkFresh (b : List Byte) : BitVec 32 := BitVec.ofNat 32 (leAt b 12 4)
/-- Where the payload begins. -/
def pkStart (b : List Byte) : Nat := if pkAuth b then 16 else 12
/-- Payload. -/
def pkPayload (b : List Byte) : List Byte := (b.drop (pkStart b)).take (pkLen b)
/-- Length by R337, from bytes 1, 10 and 11. -/
def pkTotal (b : List Byte) : Nat := (if pkAuth b then 24 else 16) + pkLen b

/-- Check 1 of Table PKT-3: LEN fits the packet's length and the CRC-32 is correct. -/
def pkIntact (b : List Byte) : Bool :=
  decide (b.length = pkTotal b) && decide (pkLen b ≤ 1024) &&
  decide (leAt b (b.length - 4) 4 = (crc32 (b.take (b.length - 4))).toNat)

/-- The message the tag covers: up to the end of the payload, TTL and SRC as 0 (R341). -/
def tagMessage (b : List Byte) : List Byte :=
  (((b.set 3 (byteAt b 3 &&& 0x0F#8)).set 4 0#8).set 5 0#8).take (16 + pkLen b)

/-- The tag of a packet with AUTH = 1 is correct under a key. -/
def tagOk (key b : List Byte) : Bool := tag4 key (tagMessage b) == (b.drop (16 + pkLen b)).take 4

/-- The packet with its CRC-32 computed again. -/
def reCrc (b : List Byte) : List Byte :=
  let m := b.take (b.length - 4)
  m ++ le 4 (crc32 m).toNat

/-- The packet with another TTL (R338). -/
def setTtl (b : List Byte) (ttl : Nat) : List Byte :=
  reCrc (b.set 3 ((byteAt b 3 &&& 0x0F#8) ||| BitVec.ofNat 8 (16 * ttl)))

/-- The packet with another SRC (R339). -/
def setSrc (b : List Byte) (a : Addr) : List Byte :=
  reCrc ((b.set 4 (BitVec.ofNat 8 a.toNat)).set 5 (BitVec.ofNat 8 (a.toNat / 256)))

/-- What a packet that this tile originates carries in its header. -/
structure PktHead where
  kind   : Nat
  tenant : Tenant
  urg    : Bool
  frag   : Bool
  last   : Bool
  dst    : Addr
  ttl    : Nat
  src    : Addr
  seq    : Word
  opcode : Byte
  status : Byte
  deriving DecidableEq, Repr

/-- A packet built from its header, its payload, and for AUTH = 1 its FRESH and key (R337, R338, R341). -/
def buildPacket (h : PktHead) (payload : List Byte) (auth : Option (BitVec 32 × List Byte)) : List Byte :=
  let flags := h.tenant.val + 16 * bit auth.isSome + 32 * bit h.urg + 64 * bit h.frag + 128 * bit h.last
  let head := [BitVec.ofNat 8 (h.kind + 16), BitVec.ofNat 8 flags] ++ le 2 (h.dst.toNat + 4096 * h.ttl) ++
    le 2 h.src.toNat ++ le 2 h.seq.toNat ++ [h.opcode, h.status] ++ le 2 payload.length
  let body := match auth with
    | none => head ++ payload
    | some (fresh, key) =>
      let m := head ++ le 4 fresh.toNat ++ payload
      m ++ tag4 key (tagMessage m)
  body ++ le 4 (crc32 body).toNat

end Sys2Proof.Machine
end

