-- ==== Sys2Proof/Machine/Frames.lean ====
section
/-!
DEFINITION. The byte layouts of link frames (Tables HEDGE-1, -2, -5, -7) and of HEDGE packet payloads (Tables
HEDGE-3, -4, -6). Where the manual lists the fields of a payload without their bytes, the fields are packed in
the order listed, each little-endian in the smallest whole number of bytes; DEDUCED (log 13).
-/
namespace Sys2Proof.Machine

/-- A bit vector as bytes, little-endian. -/
def bvLe {w : Nat} (n : Nat) (x : BitVec w) : List Byte := le n x.toNat

end Sys2Proof.Machine

namespace Sys2Proof
open Machine

/-- HELLO body (Table HEDGE-2). -/
def Hello.bytes (h : Hello) : List Byte :=
  bvLe 6 h.uid ++ le 2 (h.addr.toNat + 1024 * h.panel.toNat) ++ [h.u, h.v] ++
  le 1 (h.port.toNat + 8 * bit h.posValid + 16 * bit h.panelRoot + 64 * bit h.hedgeRoot) ++
  le 1 (h.state.toNat + 16 * h.depth.toNat) ++ bvLe 6 h.lowestRoot ++ bvLe 2 h.rosterVer ++ [h.epoch]

/-- HELLO body read from 21 bytes. -/
def Hello.ofBytes (b : List Byte) : Hello where
  uid := BitVec.ofNat 48 (leAt b 0 6)
  addr := BitVec.ofNat 10 (leAt b 6 2)
  panel := BitVec.ofNat 5 (leAt b 6 2 / 1024)
  u := byteAt b 8
  v := byteAt b 9
  port := BitVec.ofNat 3 (byteAt b 10).toNat
  posValid := (byteAt b 10).getLsbD 3
  panelRoot := (byteAt b 10).getLsbD 4
  hedgeRoot := (byteAt b 10).getLsbD 6
  state := BitVec.ofNat 4 (byteAt b 11).toNat
  depth := BitVec.ofNat 4 ((byteAt b 11).toNat / 16)
  lowestRoot := BitVec.ofNat 48 (leAt b 12 6)
  rosterVer := BitVec.ofNat 16 (leAt b 18 2)
  epoch := byteAt b 20

/-- SYNC body (Table HEDGE-5, continued). -/
def SyncBody.bytes (s : SyncBody) : List Byte :=
  bvLe 4 s.fc ++ le 2 (s.tkAddr.toNat + 1024 * s.depth.toNat) ++ [s.epoch] ++
  le 1 (s.hopCur.toNat + 8 * s.hopNext.toNat) ++ [s.changeIn] ++ bvLe 2 s.digest ++ le 1 s.grants.length ++
  ((s.grants.take 8).flatMap (fun g => le 2 (g.tile.toNat + 1024 * g.id.toNat)) ++ List.replicate 16 0#8).take 16 ++
  List.replicate 4 0#8

/-- SEAM_H body (Table HEDGE-7). -/
def SeamH.bytes (h : SeamH) : List Byte :=
  bvLe 4 h.fc ++ le 1 (bit h.scanning + 2 * bit h.sagged + 4 * bit h.isPartial + 8 * bit h.settling + 16 * bit h.swing +
    32 * bit h.wet) ++ bvLe 1 h.nDrv ++ le 1 (h.nSns.toNat + 32 * h.hop.toNat) ++ bvLe 2 h.digest ++ bvLe 3 h.seamLines

/-- Two flag bits a node, four nodes a byte, the first lowest. -/
def packPairs (l : List SeamNode) : List Byte :=
  (List.range ((l.length + 3) / 4)).map (fun i => BitVec.ofNat 8
    (((l.drop (4 * i)).take 4).zipIdx.map (fun n => (bit n.1.ranging + 2 * bit n.1.coppiced) * 4 ^ n.2)).sum)

/-- SEAM_D body (Table HEDGE-7). -/
def SeamD.bytes (d : SeamD) : List Byte :=
  bvLe 4 d.fc ++ le 1 (d.part.toNat + 16 * d.parts.toNat) ++ bvLe 2 d.first ++ le 2 d.nodes.length ++
  d.nodes.flatMap (fun n => bvLe 2 n.delta) ++ packPairs d.nodes ++ d.selfs.flatMap (fun s => bvLe 2 s)

/-- A position: s24 x, s24 y. -/
def PosBits.bytes (p : PosBits) : List Byte := bvLe 3 p.x ++ bvLe 3 p.y

/-- A state block: 40 bytes, then 6 for each engaged tenant (text after Table HEDGE-7; DEDUCED, log 13). -/
def StateBlock.bytes (s : StateBlock) : List Byte :=
  le 1 (s.id.toNat + 64 * bit s.candidate + 128 * bit s.handover) ++ le 1 (s.confirm.toNat + 8 * s.runSym.toNat) ++
  s.last.bytes ++ s.prev.bytes ++ s.down.bytes ++ s.anchor.bytes ++ [s.runCnt] ++
  le 3 ((s.syms.zipIdx.map (fun n => n.1.toNat * 8 ^ n.2)).sum) ++ le 1 (s.syms.length + 16 * bit s.overlong) ++
  bvLe 2 s.life ++
  le 1 (bit s.longDone + 2 * bit s.downSettling + 4 * bit s.sawEdge + 8 * bit s.sawRanging + 16 * bit s.hasId + 32 * bit s.still +
    64 * bit s.masked + 128 * bit s.downCop) ++ bvLe 2 s.engaged ++
  bvLe 1 s.flags ++ List.replicate 3 0#8 ++ s.reported.flatMap (fun r => r.2.bytes)

/-- SEAM_X body (Table HEDGE-7); bit 7 of the match count tells that a further frame follows (R290; DEDUCED, log 13). -/
def SeamX.bytes (x : SeamX) : List Byte :=
  bvLe 4 x.fc ++ le 1 (x.matched.length + 128 * bit x.more) ++ x.matched.flatMap (fun m => bvLe 3 m.x ++ bvLe 3 m.y ++ [m.id]) ++
  le 1 x.blocks.length ++ x.blocks.flatMap StateBlock.bytes

/-- Reason codes of JOIN_REFUSE, in the order of Table HEDGE-3. -/
def RefuseReason.code : RefuseReason → Byte
  | .panelFull => 0#8
  | .hedgeFull => 1#8
  | .positionConflict => 2#8

/-- The reason a code names. -/
def RefuseReason.ofCode (b : Byte) : RefuseReason :=
  if b = 0#8 then .panelFull else if b = 1#8 then .hedgeFull else .positionConflict

/-- Cause codes of a loss (Table PKT-7, 0x10). -/
def LossCause.code : LossCause → Byte
  | .severed => 0#8
  | .keepalive => 1#8
  | .wakeFail => 2#8

/-- The cause a code names. -/
def LossCause.ofCode (b : Byte) : LossCause :=
  if b = 0#8 then .severed else if b = 1#8 then .keepalive else .wakeFail

/-- JOIN_GRANT payload (Table HEDGE-3). -/
def JoinGrant.bytes (g : JoinGrant) : List Byte :=
  bvLe 6 g.uid ++ bvLe 2 g.addr ++ [g.u, g.v] ++ bvLe 1 g.panel ++ [g.epoch] ++ bvLe 2 g.rosterVer

/-- JOIN_GRANT read. -/
def JoinGrant.ofBytes (b : List Byte) : JoinGrant where
  uid := BitVec.ofNat 48 (leAt b 0 6)
  addr := BitVec.ofNat 10 (leAt b 6 2)
  u := byteAt b 8
  v := byteAt b 9
  panel := BitVec.ofNat 5 (byteAt b 10).toNat
  epoch := byteAt b 11
  rosterVer := BitVec.ofNat 16 (leAt b 12 2)

/-- ADMIT body: the payload of JOIN_GRANT or of JOIN_REFUSE (Table HEDGE-1). -/
def Admission.bytes : Admission → List Byte
  | .grant g => g.bytes
  | .refuse uid r => bvLe 6 uid ++ [r.code]

/-- ROSTER payload (Table HEDGE-3). -/
def Roster.bytes (r : Roster) : List Byte :=
  bvLe 2 r.version ++ r.tiles.flatMap (fun t =>
    bvLe 6 t.uid ++ bvLe 2 t.addr ++ [t.u, t.v] ++ bvLe 1 t.mask ++ le 1 (t.state.toNat + 128 * bit t.lost))

/-- A roster tile read from 12 bytes; the LOST flag is bit 7 of the state byte (DEDUCED, log 13). -/
def RosterTile.ofBytes (b : List Byte) : RosterTile where
  uid := BitVec.ofNat 48 (leAt b 0 6)
  addr := BitVec.ofNat 10 (leAt b 6 2)
  u := byteAt b 8
  v := byteAt b 9
  mask := BitVec.ofNat 6 (byteAt b 10).toNat
  state := BitVec.ofNat 4 (byteAt b 11).toNat
  lost := (byteAt b 11).getLsbD 7

/-- ROSTER read. -/
def Roster.ofBytes (b : List Byte) : Roster where
  version := BitVec.ofNat 16 (leAt b 0 2)
  tiles := (chunks 12 (b.drop 2)).map RosterTile.ofBytes

/-- TILE_REPORT payload (Table HEDGE-6, continued; 44 bytes). -/
def TileReport.bytes (r : TileReport) : List Byte :=
  bvLe 4 r.fc ++ le 1 (r.state.toNat + 16 * bit r.sagged) ++ bvLe 1 r.idsReq ++ bvLe 8 r.inUse ++ bvLe 8 r.returned ++
  bvLe 2 r.digest ++ bvLe 4 r.frameTicks ++ le 1 r.surveys.length ++
  ((r.surveys.take 3).flatMap (fun s => [s.1] ++ bvLe 4 s.2) ++ List.replicate 15 0#8).take 15

/-- TILE_REPORT read. -/
def TileReport.ofBytes (b : List Byte) : TileReport where
  fc := BitVec.ofNat 32 (leAt b 0 4)
  state := BitVec.ofNat 4 (byteAt b 4).toNat
  sagged := (byteAt b 4).getLsbD 4
  idsReq := BitVec.ofNat 4 (byteAt b 5).toNat
  inUse := BitVec.ofNat 64 (leAt b 6 8)
  returned := BitVec.ofNat 64 (leAt b 14 8)
  digest := BitVec.ofNat 16 (leAt b 22 2)
  frameTicks := BitVec.ofNat 32 (leAt b 24 4)
  surveys := ((chunks 5 ((b.drop 29).take 15)).take (byteAt b 28).toNat).map (fun s =>
    (byteAt s 0, BitVec.ofNat 32 (leAt s 1 4)))

/-- LOSS payload (Table HEDGE-3). -/
def LossReport.bytes (l : LossReport) : List Byte := bvLe 1 l.port ++ bvLe 2 l.partner ++ bvLe 6 l.uid ++ [l.cause.code]

/-- LOSS read. -/
def LossReport.ofBytes (b : List Byte) : LossReport where
  port := BitVec.ofNat 3 (byteAt b 0).toNat
  partner := BitVec.ofNat 10 (leAt b 1 2)
  uid := BitVec.ofNat 48 (leAt b 3 6)
  cause := LossCause.ofCode (byteAt b 9)

/-- PANEL_ADVERT payload (Table HEDGE-3). -/
def PanelAdvert.bytes (a : PanelAdvert) : List Byte :=
  bvLe 6 a.rootUid ++ bvLe 2 a.rootAddr ++ bvLe 1 a.panel ++ [a.tileCount] ++ le 1 a.blocks.length ++
  a.blocks.flatMap (bvLe 2) ++ le 1 a.singles.length ++ a.singles.flatMap (bvLe 2) ++ le 1 (bit a.provisional) ++
  le 1 a.wires.length ++ a.wires.flatMap (fun w => bvLe 2 w.gw ++ bvLe 1 w.port ++ bvLe 1 w.far)

/-- PANEL_ADVERT read. -/
def PanelAdvert.ofBytes (b : List Byte) : PanelAdvert :=
  let n := (byteAt b 10).toNat
  let s := b.drop (11 + 2 * n)
  let k := (byteAt s 0).toNat
  let w := s.drop (1 + 2 * k)
  { rootUid := BitVec.ofNat 48 (leAt b 0 6), rootAddr := BitVec.ofNat 10 (leAt b 6 2),
    panel := BitVec.ofNat 5 (byteAt b 8).toNat, tileCount := byteAt b 9,
    blocks := (List.range n).map (fun i => BitVec.ofNat 10 (leAt b (11 + 2 * i) 2)),
    singles := (List.range k).map (fun i => BitVec.ofNat 10 (leAt s (1 + 2 * i) 2)),
    provisional := (byteAt w 0).getLsbD 0,
    wires := (List.range (byteAt w 1).toNat).map (fun i =>
      { gw := BitVec.ofNat 10 (leAt w (2 + 4 * i) 2), port := BitVec.ofNat 3 (byteAt w (4 + 4 * i)).toNat,
        far := BitVec.ofNat 5 (byteAt w (5 + 4 * i)).toNat }) }

/-- PANEL_GRANT payload (Table HEDGE-3). -/
def PanelGrant.bytes (g : PanelGrant) : List Byte :=
  bvLe 1 g.panel ++ le 1 (bit g.refused) ++ le 1 g.blocks.length ++ g.blocks.flatMap (bvLe 2) ++
  le 1 g.singles.length ++ g.singles.flatMap (bvLe 2)

/-- PANEL_GRANT read. -/
def PanelGrant.ofBytes (b : List Byte) : PanelGrant :=
  let n := (byteAt b 2).toNat
  { panel := BitVec.ofNat 5 (byteAt b 0).toNat
    refused := (byteAt b 1).getLsbD 0
    blocks := (List.range n).map (fun i => BitVec.ofNat 10 (leAt b (3 + 2 * i) 2))
    singles := (List.range (byteAt b (3 + 2 * n)).toNat).map (fun i => BitVec.ofNat 10 (leAt b (4 + 2 * n + 2 * i) 2)) }

/-- A route-table entry (Table HEDGE-4, 8 bytes). -/
def RouteEntry.bytes (r : RouteEntry) : List Byte :=
  bvLe 2 r.lo ++ bvLe 2 r.hi ++ bvLe 2 r.gw ++ le 1 (r.port.toNat + 8 * r.metric.toNat + 128 * bit r.isStatic) ++ [0#8]

/-- A route-table entry read. -/
def RouteEntry.ofBytes (b : List Byte) : RouteEntry where
  lo := BitVec.ofNat 10 (leAt b 0 2)
  hi := BitVec.ofNat 10 (leAt b 2 2)
  gw := BitVec.ofNat 10 (leAt b 4 2)
  port := BitVec.ofNat 3 (byteAt b 6).toNat
  metric := BitVec.ofNat 4 ((byteAt b 6).toNat / 8)
  isStatic := (byteAt b 6).getLsbD 7

/-- A route table read. -/
def routesOf (b : List Byte) : List RouteEntry := (chunks 8 b).map RouteEntry.ofBytes

end Sys2Proof

namespace Sys2Proof.Machine

/-- The type code of a frame, none for a single character (Table HEDGE-1, R252). -/
def LinkBody.typeCode : LinkBody → Option Nat
  | .data _ => some 1
  | .ack _ => some 2
  | .nak _ _ => some 3
  | .hello _ => some 4
  | .join _ _ => some 5
  | .admission _ => some 6
  | .sync _ => some 7
  | .seamH _ => some 8
  | .seamD _ => some 9
  | .seamX _ => some 10
  | .ka _ => some 11
  | .doze _ => some 12
  | .echoReq => some 13
  | .wake _ _ _ => some 14
  | .quickset | .ready | .probe => none

/-- Frames that the receiver acknowledges (Table HEDGE-1). -/
def LinkBody.acked : LinkBody → Bool
  | .data _ | .hello _ | .join _ _ | .admission _ | .seamH _ | .seamD _ | .seamX _ | .doze _ | .echoReq | .wake _ _ _ => true
  | .ack _ | .nak _ _ | .sync _ | .ka _ | .quickset | .ready | .probe => false

/-- The body of a frame. -/
def LinkBody.bodyBytes : LinkBody → List Byte
  | .data b => b
  | .ack _ => []
  | .nak _ r => [r]
  | .hello h => h.bytes
  | .join h a => h.bytes ++ bvLe 2 a
  | .admission a => a.bytes
  | .sync s => s.bytes
  | .seamH h => h.bytes
  | .seamD d => d.bytes
  | .seamX x => x.bytes
  | .ka s => [s]
  | .doze s => [s]
  | .echoReq => []
  | .wake t n s => [t] ++ bvLe 2 n ++ [s]
  | .quickset => [0x55#8]
  | .ready => [0xA5#8]
  | .probe => [0xCC#8]

/-- A frame as it goes on the line: type byte, body and CRC-16, or one character alone (R251, R252). -/
def LinkBody.frame (b : LinkBody) (lseq : BitVec 4) : List Byte :=
  match b.typeCode with
  | none => b.bodyBytes
  | some t =>
    let l := match b with
      | .ack n => n
      | .nak n _ => n
      | _ => lseq
    let m := le 1 (t + 16 * l.toNat) ++ b.bodyBytes
    m ++ bvLe 2 (crc16 m)

/-- A received byte sequence is a frame the hedge layer takes (R251, R252): one of the three characters, or a known
type with a correct CRC-16. -/
def frameOk (b : List Byte) : Bool :=
  if b.length == 1 then b == [0x55#8] || b == [0xA5#8] || b == [0xCC#8]
  else decide (3 ≤ b.length) && decide (1 ≤ (byteAt b 0).toNat % 16) && decide ((byteAt b 0).toNat % 16 ≤ 14) &&
    crc16 (b.take (b.length - 2)) == BitVec.ofNat 16 (leAt b (b.length - 2) 2)

end Sys2Proof.Machine
end

