-- ==== Sys2Proof/Machine/State.lean ====
section
/-!
DEFINITION. State: the queue of waiting commands, the OTP, and everything else the manual gives one tile; the
two ways a step can stop; and the state right after a start from unpowered.
-/
namespace Sys2Proof.Machine

/-- Why a command can stop the model. The tile itself has no event that stops it for good. -/
inductive Fault where
  /-- Raised by the frame-slot, Watch and boot commands whose operand has the wrong shape (a wrong number of
  channels, windows, lines or groups): no event of the hardware corresponds to it, so stopping is safe. -/
  | illFormedOperand
  deriving DecidableEq, Repr

/-- Why a command can be refused. -/
inductive Refusal where
  /-- Raised by an arm of `exec` that has no meaning yet; no arm does. Safe. -/
  | notModelled (mnemonic : String)
  deriving DecidableEq, Repr

/-- Everything the manual gives the tile, but for the OTP. -/
structure Core where
  pw      : Power
  ret     : Retention
  otpc    : OtpCopy
  /-- A custodian-key area whose programming has begun and not ended (R445). -/
  keyProg : Option KeyProg
  nvm     : Nvm
  host    : HostPort
  /-- The working configuration (R360). -/
  prof    : Profile
  /-- The selected slot, none with the factory profile (R78). -/
  slot    : Option SlotId
  /-- The active generation, 0 with the factory profile (R363). -/
  gen     : BitVec 32
  /-- The image loaded at boot or committed since (R399). -/
  image   : List Byte
  /-- A committed profile that takes effect at the next frame boundary (R363): profile, slot, generation. -/
  newProf : Option (Profile × SlotId × BitVec 32)
  sar     : Sar
  keys    : Keys
  lnk     : List LinkPort
  hp      : List HedgePort
  hg      : Hedge
  acq     : Acq
  node    : Node
  trk     : Track
  ten     : List TenantSt
  qs      : List Queue
  pk      : Packets
  rep     : Repair
  /-- The MODEL's own: how many free values have been drawn (log 3). -/
  free    : Nat
  deriving DecidableEq, Repr

/-- The tile and the commands that wait for it. -/
structure State where
  /-- Commands waiting, first in first out; the MODEL's own. -/
  pending : List Instr
  otp     : Otp
  core    : Core
  deriving DecidableEq, Repr

/-- A tracker of u12 codes at its reset (R122). -/
def Tracker.code : Tracker := Tracker.reset 0 4095

/-- User-sequence settings at reset (Table REGS-1: USEQCTL 0x0200, the rest 0). -/
def UseqCfg.reset : UseqCfg :=
  { len := 0, abort := false, accLog := 4, period := 0, entries := List.replicate 16 0 }

/-- The SAR converter at reset. -/
def Sar.reset : Sar where
  urgent := []
  urgWait := []
  cur := none
  sysQ := []
  sysRuns := 0
  burstDue := true
  burstExit := false
  mon := List.replicate 5 Tracker.code
  monView := List.replicate 5 Tracker.code
  useqReg := UseqCfg.reset
  useq := UseqCfg.reset
  userNext := none
  userBegun := false
  usr := List.replicate 14 Tracker.code
  usrView := List.replicate 14 Tracker.code
  urgView := List.replicate 3 Tracker.code
  decode := List.replicate 8 Tracker.code
  refNotReady := false
  overrun := false
  urgFull := false
  refFault := false
  vbatmv := 0#16
  tdie := 0
  tdExit := none
  tdNow := none

/-- A ladder at reset. -/
def LadderSt.reset : LadderSt :=
  { keys := List.replicate 8 KeySt.rest, armed := false, masked := false, latch := false, spurious := [],
    invalid := false, outside := false, lfault := false, seen := false }

/-- A combination pair at reset. -/
def ComboSt.reset : ComboSt :=
  { keys := List.replicate 8 { pressed := false, run := 0 }, held := none, done := none, both := none }

/-- An encoder at reset; the level is the model's choice (log 6). -/
def Encoder.reset : Encoder :=
  { lvl := 0#2, q := 0, net := 0, pos := 0#32, err := false, errStat := false, latch := false }

/-- Legacy controls at reset. -/
def Keys.reset : Keys :=
  { ladders := List.replicate 8 LadderSt.reset, caretaker := ComboSt.reset, provision := ComboSt.reset,
    encs := List.replicate 2 Encoder.reset, recs := [] }

/-- A port's line side at reset, with the factory settings (R222). -/
def LinkPort.reset : LinkPort where
  cfg := LinkCfg.factory
  pendCfg := none
  op := 0#2
  pendOp := none
  txbrk := false
  mon := .absent
  lowDoze := false
  sevMask := false
  noiseMask := false
  spurious := []
  latch := false
  noHunt := false
  woke := false
  inFrame := false
  rxBytes := []
  rxEdge := 0
  rxLong := false
  rxBad := false
  delivered := []
  rxFifo := []
  txFifo := []
  flags := 0#4
  cntFe := 0#16
  cntPe := 0#16
  cntNoise := 0#16
  cntBreak := 0#16
  cntBad := 0#16
  txq := []
  onLine := none
  lineOut := []
  launch := 0
  rawOnLine := false
  echoOut := false
  echo := none

/-- A port's hedge side at reset. DESIGN CHOICE (log 33): until a neighbour has announced its swing, its drive lines count as LOW (R129). -/
def HedgePort.reset : HedgePort where
  partner := none
  miswired := false
  asleep := false
  present := false
  lseqTx := 0#4
  lseqRx := 0#4
  outstanding := []
  nakWait := false
  delay := 0#16
  delayRun := none
  wakeTry := none
  inH := none
  inD := []
  inX := none
  inXPart := none
  edge := true
  digestBad := false
  lastX := none
  swingNow := false
  swingNext := false
  outX := none
  outXLeft := []
  outXAcked := false
  xOver := false
  uncertain := false
  takeover := false
  syncD := none
  syncAge := 0

/-- The timekeeper's part at reset. -/
def Timekeeper.reset : Timekeeper :=
  { timing := false, framesQuiet := 0, adopted := none, tiles := [], freed := [], figures := [], noisyRun := 0,
    sinceChange := 256, granted := [] }

/-- The hedge layer at reset (Table REGS-1: ROLES 0x00F0). -/
def Hedge.reset : Hedge where
  uid := 0#48
  addr := 0#10
  confirmed := false
  panel := 0#5
  u := 0#8
  v := 0#8
  posValid := false
  panelRoot := false
  hedgeRoot := false
  epoch := 0#8
  depth := 15#4
  parent := none
  requested := 0#10
  roster := { version := 0#16, tiles := [] }
  hasRoster := false
  lowestRoot := 0#48
  rootAddr := 0#10
  routes := []
  relay := []
  seen := []
  wakesSeen := []
  wakeNo := 0#16
  ownSeq := 0#16
  ownFresh := 0
  fc := 0#32
  ranFc := 0#32
  sub := 0#24
  subPhase := 0#4
  ranBoundary := false
  p := 0
  phi := 0
  corrSum := 0
  corrFrames := 0
  xtrim := 0#10
  idleAdj := 0
  realign := none
  lockedFor := 0
  syncThis := false
  framesNoSync := 0
  everSync := false
  syncBody := none
  grants := []
  planMismatch := false
  tooDeep := false
  lossReports := []
  lost := []
  handoverDue := false
  posConflict := false
  joinWait := []
  adverts := []
  advertAt := []
  advertVia := []
  farLinks := []
  blocks := []
  singles := []
  provisional := true
  hedgeRootUid := none
  panelRefused := false
  panelNumbers := []
  joinRefused := false
  wireJoined := false
  tk := Timekeeper.reset

/-- A Watch group at reset. -/
def WatchGroup.reset : WatchGroup :=
  { base := 0, seeded := false, run := 0, shortRun := 0, cand := false, n := 0, full := false }

/-- Default channel of a sense line (R90): SNS0-11 to CH0-11, SNS12-23 to CH13-24. -/
def defaultChannel (k : Nat) : Nat := if k < 12 then k else k + 1

/-- The acquisition front end at reset. -/
def Acq.reset : Acq where
  slot := none
  running := false
  joining := false
  highNow := false
  swingPend := none
  swingAnn := none
  fallback := false
  sagged := false
  sagRun := 0
  hop := 0#3
  hopPend := none
  hopEdge := false
  surveyPtr := 0
  route := (List.range 24).map defaultChannel
  legs := List.replicate 32 3#2
  dac := List.replicate 26 (List.replicate 32 0)
  sums := List.replicate 26 (List.replicate 3 (List.replicate 32 0))
  clip := List.replicate 26 false
  sampleView := List.replicate 26 (Tracker.reset (-2048) 2047)
  noiseViews := [0#3, 1#3, 2#3].map (fun h => { hop := h, lanes := List.replicate 3 (Tracker.reset 0 268435455) })
  noiseGiven := false
  sc := List.replicate 56 (some 0)
  selfRan := false
  watch := List.replicate 4 WatchGroup.reset
  wgStep := 0
  wgAge := 0
  maintDue := []
  maint := none
  checks := []
  legChecks := []

/-- A self line at reset. -/
def SelfSt.reset : SelfSt :=
  { scn := 0, sb := 0, res := 0, neg := 0, delta := 0, stall := false, known := false, valid := false, recap := false,
    inc := false }

/-- The node engine at reset, with the factory settings of every line. -/
def Node.reset : Node where
  nodes := List.replicate 2304 NodeSt.fresh
  valid := false
  gain := List.replicate 24 1
  coarse := List.replicate 24 false
  codes := List.replicate 24 (List.replicate 32 0)
  lsbF := List.replicate 24 940
  lsbC := List.replicate 24 3760
  pend := List.replicate 24 none
  settle := 0
  seedDue := false
  isPartial := false
  settling := false
  selfs := List.replicate 56 SelfSt.reset
  seek := none
  ownInc := false
  frozen := []
  busy := []
  tempDue := false

/-- The track engine at reset. -/
def Track.reset : Track :=
  { contacts := [], wet := false, wetRun := 0, dryRun := 0, hover := none, taps := [], out := [],
    returned := 0#64, wanted := 0, phase := .idle, waterNow := false }

/-- A tenant's SRAM side at reset, from its NVM reservations: H = S with every mark set (R344), the transmit
counter at its reservation (R345), SEQ from 0 (R367). -/
def TenantSt.ofRec (r : TenantRec) : TenantSt :=
  { h := r.s, marks := 0xFFFFFFFF#32, txCtr := r.txS, rptSeq := 0#16, evtSeq := 0#16 }

/-- An empty queue. -/
def Queue.empty : Queue := { recs := [], full := none, late := none }

/-- The packet engine at reset. -/
def Packets.reset : Packets := { transfer := none, staged := none, deferred := [] }

/-- A converter's rotation at boot: slice 10 is out; the trims are the model's choice (log 1). -/
def SliceRot.reset : SliceRot := { out := 10, doneCal := false, trims := List.replicate 11 (0, 0), newTrim := (0, 0), failDue := none, failed := [], bad := [], next := 0 }

/-- The repair manager at reset. -/
def Repair.reset : Repair where
  factory := []
  extra := []
  grade := 0#3
  bistf := false
  complim := false
  slices := [SliceRot.reset, SliceRot.reset]
  selftest := none
  testDue := false
  clearTest := false
  testCtx := none
  suspRun := List.replicate 56 0
  suspects := []
  finger := none
  fingerWait := none
  noFpRaised := false
  cleanRuns := []
  task := 0#4
  bgdefer := 0#5
  regs := { stat := 0#16, spare := 0#16, defer := 0#16 }
  bgDue := 0#5
  refresh := []
  watchFault := false
  sparesOut := []
  flushes := 0
  wearAcc := List.replicate 192 { frames := 0, downs := 0 }
  lifeT := 0
  rtcLong := 0
  doneAt := [0, 0, 0]
  tele := Tele.zero

/-- The host port at reset (Table HOST-6, Table REGS-1). -/
def HostPort.reset : HostPort where
  flags := 0#16
  attnsrc := 0#16
  attnen := 0x0001#16
  attnHeld := false
  firstWrite := false
  txn := none
  miso := 0#16
  csHeld := false
  pktin := []
  outHead := none
  outRsp := []
  evtPtr := 15
  rptPtr := 15
  snapHt := none
  snapSar := none
  snapRtc := none
  snapLink := none
  clrArm := none
  linksel := 0
  sarvsel := 0#16
  scratch0 := 0#16
  scratch1 := 0#16

/-- Power, clock and wake at a start from unpowered: in reset, crystal starting, cause 0x0 (R64). -/
def Power.reset : Power where
  phase := .reset
  xtal := .starting
  holdPin := false
  holdTesten := false
  holdVio := false
  cause := 0#3
  holdKind := 0#8
  ready := false
  linkQuiet := false
  nvmInhibit := false
  req := 0#4
  floor := 2#4
  reqState := false
  entry := none
  retry := none
  waking := false
  wakeTarget := .doze
  csWoke := false
  wakesrc := 0#16
  wakecnt := 0#16
  alarm := 0#32
  alarmSet := false
  rtc := 0#32
  refbuf := false
  refrdy := false
  pump := false
  batLow := false
  provLow := false
  provPin := false
  provKeys := false
  resetDue := false
  idleDue := false

/-- A retention record that has been lost (R64, Table POWER-7). -/
def Retention.none : Retention :=
  { valid := false, addr := 0#10, u := 0#8, v := 0#8, panel := 0#5, panelRoot := false, hedgeRoot := false,
    cause := 0#3, boCount := 0#16, slot := Option.none, lost := List.replicate 16 0#8 }

/-- An erased profile slot. -/
def Slot.erased : Slot := { header := none, body := [], marker := none }

/-- T0's slot: always defined and enabled, every right (R364). -/
def TenantRec.custodian : TenantRec := { TenantRec.empty with isDefined := true, enabled := true, rights := 0xFF#8 }

/-- The factory content of the two-copy records (R396). -/
def Records.factory : Records where
  linkRec := none
  tenants := TenantRec.custodian :: List.replicate 15 TenantRec.empty
  hedgeKey := none
  fieldMap := []
  faults := []
  alloc := { granted := [], singles := [], ownBlocks := [], ownSingles := [], byAddr := [] }
  fingerprint := none
  wear := List.replicate 192 { frames := 0, downs := 0 }
  wearFirst := none
  wearLast := 0#32
  lifeH := 0#32

/-- The two copies of a record as the tile leaves the factory (log 1). -/
def CopyPair.fresh : CopyPair := { a := { gen := 1#32, sound := true }, b := { gen := 0#32, sound := true } }

/-- The copies of every record as the tile leaves the factory. -/
def Copies.fresh : Copies :=
  { link := CopyPair.fresh, tenant := CopyPair.fresh, repair := CopyPair.fresh, alloc := CopyPair.fresh,
    fingerprint := CopyPair.fresh, wear := CopyPair.fresh, life := CopyPair.fresh }

/-- NVM as the tile leaves the factory. -/
def Nvm.fresh : Nvm where
  slotA := Slot.erased
  slotB := Slot.erased
  job := none
  linkRec := none
  tenants := TenantRec.custodian :: List.replicate 15 TenantRec.empty
  hedgeKey := none
  fieldMap := []
  mapPending := []
  faults := []
  faultsSaved := none
  alloc := { granted := [], singles := [], ownBlocks := [], ownSingles := [], byAddr := [] }
  allocPending := none
  fingerprint := none
  wear := List.replicate 192 { frames := 0, downs := 0 }
  wearFirst := none
  wearLast := 0#32
  lifeH := 0#32
  ring := []
  ringSeq := 0#32
  refreshBuf := none
  rows := List.replicate 272 RowInfo.fresh
  sparesUsed := 0
  copies := Copies.fresh
  older := Records.factory

/-- Factory combinations (Table KEY-11). Mode 2 is COMBO (R204). -/
def Combo.factory : Combo :=
  { ctLadder := 0, ctMode := 2#2, ctKeyA := 0, ctKeyB := 1, pvLadder := 0, pvMode := 2#2, pvKeyA := 2,
    pvKeyB := 3, pvHold := 10 }

/-- The OTP of a tile fresh from the factory; its UID and trims are the model's choice (log 4). -/
def Otp.fresh : Otp :=
  { uid := 0#48, uidCrcOk := true, areas := List.replicate 4 .blank, tofs := 0, tslope := 0, xtrim := 0#10,
    combo := Combo.factory, mapA := some [], mapB := some [] }

/-- What BOOT has read of the OTP before it has read it. -/
def OtpCopy.reset : OtpCopy :=
  { custodian := none, provOpen := false, tofs := 0, tslope := 0, combo := Combo.factory }

/-- The tile in reset, with the given non-volatile and always-on parts. -/
def Core.inReset (pw : Power) (ret : Retention) (nvm : Nvm) (keyProg : Option KeyProg) (free : Nat) : Core where
  pw := pw
  ret := ret
  otpc := OtpCopy.reset
  keyProg := keyProg
  nvm := nvm
  host := HostPort.reset
  prof := Profile.factory
  slot := none
  gen := 0#32
  image := []
  newProf := none
  sar := Sar.reset
  keys := Keys.reset
  lnk := List.replicate 6 LinkPort.reset
  hp := List.replicate 6 HedgePort.reset
  hg := Hedge.reset
  acq := Acq.reset
  node := Node.reset
  trk := Track.reset
  ten := nvm.tenants.map TenantSt.ofRec
  qs := List.replicate 16 Queue.empty
  pk := Packets.reset
  rep := Repair.reset
  free := free

/-- The tile right after VBAT has risen from unpowered (R64): in reset, every register at its reset value, the
crystal starting, no retention record, NVM and OTP as they leave the factory. -/
def State.reset : State where
  pending := []
  otp := Otp.fresh
  core := Core.inReset Power.reset Retention.none Nvm.fresh none 0

end Sys2Proof.Machine
end

