-- ==== Sys2Proof/Machine/Flags.lean ====
section
/-!
DEFINITION. Every status computation: power state codes, HOSTSTAT, ATTNSRC, ATTN#, and the changes of state
that set them.
-/
namespace Sys2Proof.Machine

/-- The state code of Table POWER-1; phases without a code read 0. -/
def Phase.code : Phase → BitVec 4
  | .bare => 1#4
  | .doze => 2#4
  | .watch => 3#4
  | .quiet => 4#4
  | .run => 5#4
  | .unpowered | .off | .reset | .boot => 0#4

/-- The phase a state code of STANDING, REQ or FLOOR names (Table POWER-1). -/
def Phase.ofCode (n : Nat) : Phase :=
  if n = 5 then .run else if n = 4 then .quiet else if n = 3 then .watch else .doze

/-- BARE, Quiet and Run: 800 MHz with READY = 1. -/
def Phase.isAwake : Phase → Bool
  | .bare | .quiet | .run => true
  | .unpowered | .off | .reset | .boot | .doze | .watch => false

/-- Doze and Watch. -/
def Phase.isAsleep : Phase → Bool
  | .doze | .watch => true
  | .unpowered | .off | .reset | .boot | .bare | .quiet | .run => false

/-- The order DOZE < WATCH < QUIET < RUN; a bare tile's states lie below it. -/
def Phase.rank (p : Phase) : Nat := p.code.toNat

/-- One bit of a word. -/
def bitMask (n : Nat) : Word := 1#16 <<< n

namespace Core

/-- CLK is the PLL output (R43). -/
def fast (c : Core) : Bool := c.pw.phase.isAwake

/-- A bare tile: the factory profile is active (R55), or quick BIST found an uncovered fault (R68). -/
def isBare (c : Core) : Bool := c.slot.isNone || c.rep.bistf

/-- NVM programs and erases may start (R80). -/
def nvmOk (c : Core) : Bool := !c.pw.nvmInhibit

/-- Set a bit of ATTNSRC: from step B8 on (R328). -/
def attn (c : Core) (n : Nat) : Core :=
  if c.pw.ready then { c with host := { c.host with attnsrc := c.host.attnsrc ||| bitMask n } } else c

/-- Set a bit of ATTNSRC where a condition holds. -/
def attnIf (c : Core) (b : Bool) (n : Nat) : Core := if b then c.attn n else c

/-- Set a sticky flag of HOSTSTAT while READY = 1 (R308); a flag other than LOSTWAKE going from 0 to 1 sets
HOSTERR (Table REGS-2). -/
def hostFlag (c : Core) (n : Nat) : Core :=
  if c.pw.ready then
    let c' := { c with host := { c.host with flags := c.host.flags ||| bitMask n } }
    if c.host.flags.getLsbD n || n = 7 then c' else c'.attn 3
  else c

/-- Enter a phase; a change of PWRSTAT.STATE sets STATE (Table REGS-2). -/
def setPhase (c : Core) (p : Phase) : Core :=
  { c with pw := { c.pw with phase := p } }.attnIf (p.code != c.pw.phase.code) 4

/-- PWRSTAT.PRESENCE (R219). -/
def presence (c : Core) : Bool := c.pw.provPin || c.pw.provKeys

/-- Change physical presence; its rise sets PRESENCE (Table REGS-2). -/
def setPresence (c : Core) (pin keys : Bool) : Core :=
  { c with pw := { c.pw with provPin := pin, provKeys := keys } }.attnIf (!c.presence && (pin || keys)) 14

/-- PROV# takes a level, which is sampled outside Doze and Watch (R219, R327, Table BALLS-5). -/
def setProv (c : Core) (low : Bool) : Core :=
  let c := { c with pw := { c.pw with provLow := low } }
  if c.pw.phase.isAsleep then c else c.setPresence low c.pw.provKeys

/-- PKTIN words in use: those of the packet being assembled (R312). -/
def pktinUsed (c : Core) : Nat := (c.host.pktin.length + 1) / 2

/-- HOSTSTAT.INROOM (Table HOST-5). -/
def inRoom (c : Core) : Bool := decide (524 ≤ 1048 - c.pktinUsed)

end Core

end Sys2Proof.Machine
end

