-- ==== Sys2Proof/Machine/Ops.lean ====
section
/-!
DEFINITION. The operations the commands share: the places of State, the two levels of ATTNSRC, and the tenant queues with their
records and events.
-/
namespace Sys2Proof.Machine

/-- The effect where a condition holds, no effect elsewhere (log 8). -/
def Core.when (c : Core) (b : Bool) (f : Core → Core) : Core := if b then f c else c

namespace Core

/-- A port's line side. -/
def port (c : Core) (p : Port) : LinkPort := c.lnk.getD p.val LinkPort.reset
/-- A port's hedge side. -/
def hport (c : Core) (p : Port) : HedgePort := c.hp.getD p.val HedgePort.reset
/-- Change a port's line side. -/
def modPort (c : Core) (p : Port) (f : LinkPort → LinkPort) : Core := { c with lnk := modifyAt c.lnk p.val f }
/-- Change a port's hedge side. -/
def modHp (c : Core) (p : Port) (f : HedgePort → HedgePort) : Core := { c with hp := modifyAt c.hp p.val f }
/-- The six ports in order. -/
def ports : List Port := [0, 1, 2, 3, 4, 5]
/-- The sixteen tenants in order. -/
def tenants : List Tenant := [0, 1, 2, 3, 4, 5, 6, 7, 8, 9, 10, 11, 12, 13, 14, 15]
/-- A tenant's record. -/
def tenantRec (c : Core) (t : Tenant) : TenantRec := c.nvm.tenants.getD t.val TenantRec.empty
/-- A tenant's SRAM side. -/
def tenantSt (c : Core) (t : Tenant) : TenantSt := c.ten.getD t.val (TenantSt.ofRec TenantRec.empty)
/-- A tenant's queue on this tile. -/
def queue (c : Core) (t : Tenant) : Queue := c.qs.getD t.val Queue.empty
/-- Change a tenant's queue. -/
def modQueue (c : Core) (t : Tenant) (f : Queue → Queue) : Core := { c with qs := modifyAt c.qs t.val f }
/-- Change a tenant's SRAM side. -/
def modTenantSt (c : Core) (t : Tenant) (f : TenantSt → TenantSt) : Core := { c with ten := modifyAt c.ten t.val f }
/-- Change a tenant's record. -/
def modTenantRec (c : Core) (t : Tenant) (f : TenantRec → TenantRec) : Core :=
  { c with nvm := { c.nvm with tenants := modifyAt c.nvm.tenants t.val f } }
/-- Change the telemetry counts. -/
def modTele (c : Core) (f : Tele → Tele) : Core := { c with rep := { c.rep with tele := f c.rep.tele } }

/-- The slot is defined; T0 always is (R38, R364). -/
def isDefined (c : Core) (t : Tenant) : Bool := t == 0 || (c.tenantRec t).isDefined
/-- The slot is enabled; T0 always is (R364). -/
def isEnabled (c : Core) (t : Tenant) : Bool := t == 0 || (c.tenantRec t).enabled
/-- Every defined tenant, T0 always included (R38). -/
def everyTenant (c : Core) : List Tenant := tenants.filter c.isDefined
/-- The tenant's key: T0's is the custodian key of the OTP (R364). -/
def tenantKey (c : Core) (t : Tenant) : Option (List Byte) :=
  if t == 0 then c.otpc.custodian else (c.tenantRec t).key
/-- The tenant holds a right; T0 holds every right (Table PKT-4). -/
def hasRight (c : Core) (t : Tenant) (n : Nat) : Bool := t == 0 || (c.tenantRec t).rights.getLsbD n
/-- This tile is the tenant's home tile. DEDUCED (log 12): a home address of 0, as T0's is, names every tile. -/
def isHome (c : Core) (t : Tenant) : Bool :=
  (c.tenantRec t).home == 0#10 || (c.tenantRec t).home == c.hg.addr
/-- FRAME16 of a record made now. -/
def frame16 (c : Core) : Nat := c.hg.fc.toNat % 65536

/-- A packet waits in PKTOUT (HOSTSTAT.OUTRDY): a sealed one, an RSP, or records of a tenant at its home tile. -/
def outWaits (c : Core) : Bool :=
  c.host.outHead.isSome || !c.host.outRsp.isEmpty ||
  tenants.any (fun t => c.isHome t && (!(c.queue t).recs.isEmpty || (c.queue t).full.isSome))

/-- OUTRDY and INROOM of ATTNSRC are set again in every tick in which their condition holds (R328). -/
def latch (c : Core) : Core := (c.attnIf c.outWaits 1).attnIf c.inRoom 2

/-- ATTNSRC as it reads: the latched bits, and the two levels while they hold (R328). -/
def attnView (c : Core) : Word := c.latch.host.attnsrc

/-- ATTN# is to be low (R74, R316, R317): only WOKE before the first accepted write. -/
def attnLow (c : Core) : Bool :=
  c.pw.ready && ((c.attnView &&& c.host.attnen) &&& (if c.host.firstWrite then 0xFFFF#16 else 0x0001#16)) != 0#16

end Core

/-- TYPE of a record. -/
def recType (b : List Byte) : Nat := (byteAt b 0).toNat % 16
/-- STATE of a contact record, EVENT of a key record. -/
def recState (b : List Byte) : Nat := (byteAt b 0).toNat / 16
/-- A MOVE, or a HOVER without END (R369). -/
def isMoving (b : List Byte) : Bool :=
  recType b == 1 && (recState b == 1 || (recState b == 3 && !(byteAt b 1).getLsbD 7))
/-- The record of an event (Table PKT-7). -/
def isEventOf (code : Byte) (b : List Byte) : Bool := recType b == 8 && byteAt b 1 == code
/-- A DOWN or UP contact record. -/
def isDownUp (b : List Byte) : Bool := recType b == 1 && (recState b == 0 || recState b == 2)
/-- Contact id, owner and whether it is a hover: what makes two records of the same contact (R369). -/
def contactKey (b : List Byte) : Nat × Nat × Bool :=
  ((byteAt b 1).toNat % 64, leAt b 11 2 % 1024, recState b == 3)
/-- Two contact records of the same contact and owner. -/
def sameContact (a b : List Byte) : Bool := recType a == 1 && recType b == 1 && contactKey a == contactKey b
/-- Two records of the same encoder of the same tile. -/
def sameEncoder (a b : List Byte) : Bool :=
  recType a == 4 && recType b == 4 && (byteAt a 1).getLsbD 0 == (byteAt b 1).getLsbD 0 &&
  leAt a 11 2 % 1024 == leAt b 11 2 % 1024

/-- What keeps its order among packets: their KIND, tenant and origin (R340). -/
def pkStream (b : List Byte) : Nat × Tenant × Addr := (pkKind b, pkTenant b, pkSrc b)

/-- Put a packet in a waiting list: at its end, or, where it is urgent, ahead of those behind which it need not wait, but never
ahead of one of its own stream (R340). -/
def urgPut {α : Type} (behind same : α → Bool) (urgent : Bool) (x : α) (q : List α) : List α :=
  if urgent then
    let tail := (q.reverse.takeWhile (fun y => !same y)).reverse
    q.take (q.length - tail.length) ++ tail.takeWhile (fun y => !behind y) ++ [x] ++ tail.dropWhile (fun y => !behind y)
  else q ++ [x]

/-- A waiting packet's URG: of its bytes, or of the RSP that has no FRESH yet (R340, R345). -/
def RelayItem.urg (i : RelayItem) : Bool :=
  match i.held with
  | some r => r.urg
  | none => pkUrg i.bytes

/-- A waiting packet's stream; a held RSP is this tile's own. -/
def RelayItem.stream (own : Addr) (i : RelayItem) : Nat × Tenant × Addr :=
  match i.held with
  | some r => (2, r.tenant, own)
  | none => pkStream i.bytes

/-- The port holds its line low: TXBRK, but in LOOP, and but while a character is on the line (R245, R247), and on a TILE port not in
BREAK or SEVERED (R241). -/
def LinkPort.breaks (l : LinkPort) : Bool :=
  l.txbrk && l.op != 2#2 && l.onLine.isNone && !l.rawOnLine && !l.echoOut &&
  (l.cfg.mode == 2#2 || (l.mon != .brk && l.mon != .severed))

/-- The port drives its line with characters: a frame, raw characters but in LOOP, or an echo (R237, R245, R247, R248). -/
def LinkPort.sends (l : LinkPort) : Bool := l.onLine.isSome || (l.rawOnLine && l.op != 2#2) || l.echoOut

/-- The transmit window of a WIRE port, in which LnDE is high and the receiver suppressed (R237, R238, R245, R248). -/
def LinkPort.suppressed (l : LinkPort) : Bool := l.cfg.mode == 2#2 && (l.sends || l.breaks)

/-- A signed number of `n` bytes read from a record. -/
def sleAt (b : List Byte) (i n : Nat) : Int := (BitVec.ofNat (8 * n) (leAt b i n)).toInt

/-- A record with `n` bytes replaced from place `i` on. -/
def putAt (b : List Byte) (i : Nat) (v : List Byte) : List Byte := b.take i ++ v ++ b.drop (i + v.length)

/-- An encoder record takes the detents and position of a later one; it keeps its FRAME16 (R216). -/
def mergeEncoder (old new : List Byte) : List Byte :=
  let b := putAt old 2 (leInt 2 (sat16 (sleAt old 2 2 + sleAt new 2 2)))
  let b := putAt b 4 ((new.drop 4).take 4)
  b.set 1 (byteAt b 1 ||| byteAt new 1)

/-- A moving record overwritten by a later one, the flags of bytes 11 and 12 ORed (R369). -/
def overwriteMove (old new : List Byte) : List Byte :=
  new.set 12 (byteAt new 12 ||| (byteAt old 12 &&& 0xFC#8))

/-- The place of the latest record of a contact in a queue. -/
def latestOf (recs : List QEnt) (b : List Byte) : Option Nat :=
  (List.range recs.length).reverse.find? (fun i => (recs[i]?).any (fun e => sameContact e.bytes b))

/-- The place of the oldest moving record that is not fixed and whose contact has a later record (R369 step 3). -/
def superseded (recs : List QEnt) : Option Nat :=
  (List.range recs.length).find? (fun i => (recs[i]?).any (fun e =>
    isMoving e.bytes && !e.fixed && (recs.drop (i + 1)).any (fun l => sameContact l.bytes e.bytes)))

/-- The QUEUE_FULL counts with one more loss. -/
def QFull.more (f : QFull) (down : Bool) : QFull :=
  if down then { f with du := f.du + 1 } else { f with other := f.other + 1 }

/-- A QUEUE_FULL event at its first loss, after the records now in the queue (R370). -/
def QFull.first (q : Queue) (down : Bool) (fc : BitVec 32) : QFull :=
  QFull.more { ahead := q.recs.length, du := 0, other := 0, fc := fc, fixed := false } down

/-- Count one lost record (R370); the answer says whether ATTNSRC.QFULL is set. -/
def Queue.lose (q : Queue) (down : Bool) (fc : BitVec 32) : Queue × Bool :=
  match q.full with
  | none => ({ q with full := some (QFull.first q down fc) }, true)
  | some f =>
    if f.fixed then
      match q.late with
      | none => ({ q with late := some (QFull.first q down fc) }, false)
      | some l => ({ q with late := some (l.more down) }, false)
    else ({ q with full := some (f.more down) }, false)

/-- The outcome of placing a record: the queue, whether the record was lost, whether QFULL is set. -/
structure Placed where
  q     : Queue
  lost  : Bool
  qfull : Bool
  deriving DecidableEq, Repr

/-- Place a record in a queue: at its end where there is room, else by R369. -/
def Queue.place (q : Queue) (e : QEnt) : Placed :=
  if q.recs.length < 64 then { q := { q with recs := q.recs ++ [e] }, lost := false, qfull := false }
  else
    let enc := (List.range q.recs.length).find? (fun i => (q.recs[i]?).any (fun r =>
      sameEncoder r.bytes e.bytes && !r.fixed))
    match enc with
    | some i =>
      { q := { q with recs := modifyAt q.recs i (fun r => { r with bytes := mergeEncoder r.bytes e.bytes }) },
        lost := false, qfull := false }
    | none =>
      let older := (latestOf q.recs e.bytes).filter (fun i =>
        isMoving e.bytes && (q.recs[i]?).any (fun r => isMoving r.bytes && !r.fixed))
      match older with
      | some i =>
        { q := { q with recs := modifyAt q.recs i (fun r => { r with bytes := overwriteMove r.bytes e.bytes, fc := e.fc }) },
          lost := false, qfull := false }
      | none =>
        match superseded q.recs with
        | some i =>
          let back := fun (f : QFull) => if i < f.ahead then { f with ahead := f.ahead - 1 } else f
          { q := { recs := q.recs.eraseIdx i ++ [e], full := q.full.map back, late := q.late.map back },
            lost := false, qfull := false }
        | none =>
          let (q', b) := q.lose (isDownUp e.bytes) e.fc
          { q := q', lost := true, qfull := b }

/-- Place a record generated here from an encoder: it merges whenever the queue holds one that is not fixed
(R216). -/
def Queue.placeEncoder (q : Queue) (e : QEnt) : Placed :=
  match (List.range q.recs.length).find? (fun i => (q.recs[i]?).any (fun r =>
      sameEncoder r.bytes e.bytes && !r.fixed)) with
  | some i =>
    { q := { q with recs := modifyAt q.recs i (fun r => { r with bytes := mergeEncoder r.bytes e.bytes }) },
      lost := false, qfull := false }
  | none => q.place e

/-- The first records of a queue leave it, and its QUEUE_FULL event with them where it was carried; losses counted
since then become a new event (R315, R370). The answer says whether QFULL is set again. -/
def Queue.leave (q : Queue) (n : Nat) (withFull : Bool) : Queue × Bool :=
  let step := fun (f : QFull) => { f with ahead := f.ahead - n }
  let recs := q.recs.drop n
  if withFull then ({ recs := recs, full := q.late.map step, late := none }, q.late.isSome)
  else ({ recs := recs, full := q.full.map step, late := q.late.map step }, false)

/-- One thing in a queue in its order: a record, or the QUEUE_FULL event (R370). -/
inductive QItem where
  | entry (e : QEnt)
  | full (f : QFull)
  deriving DecidableEq, Repr

/-- The bytes of an event record (R368). -/
def eventBytes (code : Nat) (detail : List Byte) (tile : Addr) (frame : Nat) : List Byte :=
  [0x08#8, BitVec.ofNat 8 code] ++ (detail ++ List.replicate 9 0#8).take 9 ++ le 2 tile.toNat ++ [0#8] ++ le 2 frame

/-- The QUEUE_FULL record (Table PKT-7, code 0x20). -/
def QFull.bytes (f : QFull) (tile : Addr) : List Byte :=
  eventBytes 0x20 (le 1 (min f.du 255) ++ le 1 (min f.other 255) ++ le 2 f.fc.toNat) tile f.fc.toNat

/-- The queue in order, the QUEUE_FULL event in its place. -/
def Queue.items (q : Queue) : List QItem :=
  match q.full with
  | none => q.recs.map .entry
  | some f => (q.recs.take f.ahead).map .entry ++ [.full f] ++ (q.recs.drop f.ahead).map .entry

/-- The record bytes of an item. -/
def QItem.bytes (own : Addr) : QItem → List Byte
  | .entry e => e.bytes
  | .full f => f.bytes own

/-- The tile that generated an item. -/
def QItem.origin (own : Addr) : QItem → Addr
  | .entry e => e.origin
  | .full _ => own

/-- The frame count of an item's generation. -/
def QItem.fc : QItem → BitVec 32
  | .entry e => e.fc
  | .full f => f.fc

/-- The item is fixed (R369). -/
def QItem.isFixed : QItem → Bool
  | .entry e => e.fixed
  | .full f => f.fixed

/-- An event record. -/
def QItem.isEvent (own : Addr) (i : QItem) : Bool := recType (i.bytes own) == 8

/-- An event that makes its packet urgent (R340). -/
def QItem.isUrgent (own : Addr) (i : QItem) : Bool :=
  i.isEvent own && ((byteAt (i.bytes own) 1) == 0x10#8 || (byteAt (i.bytes own) 1) == 0x13#8 ||
    (byteAt (i.bytes own) 1) == 0x20#8)

/-- The leading items of one origin and one class, at most 63 (R371). -/
def leadRun (own : Addr) (l : List QItem) : List QItem :=
  match l with
  | [] => []
  | i :: _ => (l.takeWhile (fun j => j.origin own == i.origin own && j.isEvent own == i.isEvent own)).take 63

/-- How many packets a list of items makes. -/
def runCount (own : Addr) : Nat → List QItem → Nat
  | 0, _ => 0
  | _ + 1, [] => 0
  | n + 1, i :: l => 1 + runCount own n ((i :: l).drop (leadRun own (i :: l)).length)

/-- Mark the first `n` records, and the QUEUE_FULL event, as fixed or free. -/
def Queue.fix (q : Queue) (n : Nat) (withFull fixed : Bool) : Queue :=
  { q with recs := (q.recs.take n).map (fun e => { e with fixed := fixed }) ++ q.recs.drop n,
           full := if withFull then q.full.map (fun f => { f with fixed := fixed }) else q.full }

/-- Count of the records among items. -/
def recCount (l : List QItem) : Nat := (l.filter (fun i => match i with | .entry _ => true | .full _ => false)).length

/-- The QUEUE_FULL event is among items. -/
def hasFull (l : List QItem) : Bool := l.any (fun i => match i with | .entry _ => false | .full _ => true)

/-- Payload of an RPT or EVT packet (R367). -/
def reportPayload (own : Addr) (l : List QItem) : List Byte :=
  match l with
  | [] => []
  | i :: _ => le 2 (i.origin own).toNat ++ le 4 i.fc.toNat ++ le 1 l.length ++ [0#8] ++ l.flatMap (fun j => j.bytes own)

namespace Core

/-- Take the outcome of a placing: the queue, the attention, and the lost-record count. -/
def takePlaced (c : Core) (t : Tenant) (r : Placed) : Core :=
  let c := (c.modQueue t (fun _ => r.q)).attnIf r.qfull 13
  if r.lost then c.modTele (fun x => { x with qLost := x.qLost + 1 }) else c

/-- Place a record in a tenant's queue (R369); nothing in the queue of a slot that is not defined (R38). -/
def placeRec (c : Core) (t : Tenant) (bytes : List Byte) (fc : BitVec 32) (origin : Addr) : Core :=
  if c.isDefined t then
    c.takePlaced t ((c.queue t).place { bytes := bytes, fc := fc, origin := origin, fixed := false })
  else c

/-- Place a record made on this tile now. -/
def placeOwn (c : Core) (t : Tenant) (bytes : List Byte) : Core := c.placeRec t bytes c.hg.fc c.hg.addr

/-- Place an encoder record made on this tile (R216). -/
def placeEncoder (c : Core) (t : Tenant) (bytes : List Byte) (fc : BitVec 32) : Core :=
  if c.isDefined t then
    c.takePlaced t ((c.queue t).placeEncoder { bytes := bytes, fc := fc, origin := c.hg.addr, fixed := false })
  else c

/-- Place a record for every tenant of a list. -/
def placeAll (c : Core) (ts : List Tenant) (bytes : List Byte) : Core := ts.foldl (fun c t => c.placeOwn t bytes) c

/-- The tenants of a mask. -/
def maskTenants (m : BitVec 16) : List Tenant := tenants.filter (fun t => m.getLsbD t.val)

/-- Raise an event for some tenants (R368). -/
def eventTo (c : Core) (ts : List Tenant) (code : Nat) (detail : List Byte) : Core :=
  (c.placeAll ts (eventBytes code detail c.hg.addr c.frame16)).modTele (fun x => { x with events := x.events + 1 })

/-- Raise an event for the custodian: T0's queue (R368). -/
def eventCustodian (c : Core) (code : Nat) (detail : List Byte) : Core := c.eventTo [0] code detail

/-- Raise an event for every tenant (R38). -/
def eventAll (c : Core) (code : Nat) (detail : List Byte) : Core := c.eventTo c.everyTenant code detail

/-- The custodian and every tenant holding CAN_DIAG (Table POWER-8). -/
def diagTenants (c : Core) : List Tenant := c.everyTenant.filter (fun t => c.hasRight t 3)

/-- TILE_LOST and TILE_LOST_IDS as a pair: both placed, or both lost and counted (R368); nothing in the queue of a slot that is not
defined (R38). -/
def placePair (c : Core) (t : Tenant) (a b : List Byte) (fc : BitVec 32) (origin : Addr) : Core :=
  if !c.isDefined t then c
  else if (c.queue t).recs.length + 2 ≤ 64 then (c.placeRec t a fc origin).placeRec t b fc origin
  else
    let (q, x) := (c.queue t).lose false fc
    let (q, y) := q.lose false fc
    ((c.modQueue t (fun _ => q)).attnIf (x || y) 13).modTele (fun s => { s with qLost := s.qLost + 2 })

end Core

end Sys2Proof.Machine
end

