-- ==== Sys2Proof/Machine/RepairOps.lean ====
section
/-!
DEFINITION. What the repair manager's commands share: the maps in force, grades, NVM rows and two-copy records, the fault list and the
life clock (R80, R372 to R376, R388, R390, R396 to R399, R404).
-/
namespace Sys2Proof.Machine

/-- Every two-copy record. -/
def RecId.all : List RecId := [.link, .tenant, .repair, .alloc, .fingerprint, .wear, .life]

/-- Rows of a record's first copy, or of its second (Table REPAIR-8). -/
def RecId.rows (r : RecId) (second : Bool) : List Nat :=
  let at' := fun (base n : Nat) => (List.range n).map (fun i => base + i + (if second then n else 0))
  match r with
  | .link => at' 64 1
  | .tenant => at' 66 1
  | .repair => at' 68 1
  | .alloc => at' 70 1
  | .fingerprint => at' 72 4
  | .wear => at' 80 2
  | .life => at' 84 1

/-- The record a row belongs to (Table REPAIR-8). -/
def RecId.ofRow (row : Nat) : Option RecId :=
  RecId.all.find? (fun r => (r.rows false).contains row || (r.rows true).contains row)

/-- The marks of a record. -/
def Copies.get (x : Copies) : RecId → CopyPair
  | .link => x.link
  | .tenant => x.tenant
  | .repair => x.repair
  | .alloc => x.alloc
  | .fingerprint => x.fingerprint
  | .wear => x.wear
  | .life => x.life

/-- Change the marks of a record. -/
def Copies.set (x : Copies) (r : RecId) (p : CopyPair) : Copies :=
  match r with
  | .link => { x with link := p }
  | .tenant => { x with tenant := p }
  | .repair => { x with repair := p }
  | .alloc => { x with alloc := p }
  | .fingerprint => { x with fingerprint := p }
  | .wear => { x with wear := p }
  | .life => { x with life := p }

/-- The second copy is the valid one of the higher generation (R396). -/
def CopyPair.latestB (p : CopyPair) : Bool := p.b.sound && (!p.a.sound || decide (p.a.gen.toNat < p.b.gen.toNat))

/-- A write goes to the second copy: the first holds the latest valid generation (R396). -/
def CopyPair.targetsB (p : CopyPair) : Bool := !p.latestB && p.a.sound

/-- The latest valid generation, 0 with no valid copy. -/
def CopyPair.gen (p : CopyPair) : BitVec 32 := if p.latestB then p.b.gen else if p.a.sound then p.a.gen else 0#32

/-- Change the mark of one copy. -/
def CopyPair.put (p : CopyPair) (second : Bool) (m : CopyMark) : CopyPair := if second then { p with b := m } else { p with a := m }

/-- One record's content copied over another's. -/
def Records.copy (r : RecId) (src dst : Records) : Records :=
  match r with
  | .link => { dst with linkRec := src.linkRec }
  | .tenant => { dst with tenants := src.tenants, hedgeKey := src.hedgeKey }
  | .repair => { dst with fieldMap := src.fieldMap, faults := src.faults }
  | .alloc => { dst with alloc := src.alloc }
  | .fingerprint => { dst with fingerprint := src.fingerprint }
  | .wear => { dst with wear := src.wear, wearFirst := src.wearFirst, wearLast := src.wearLast }
  | .life => { dst with lifeH := src.lifeH }

/-- The records as NVM holds them. -/
def Nvm.saved (n : Nvm) : Records where
  linkRec := n.linkRec
  tenants := n.tenants
  hedgeKey := n.hedgeKey
  fieldMap := n.fieldMap
  faults := n.faultsSaved.getD n.faults
  alloc := n.alloc
  fingerprint := n.fingerprint
  wear := n.wear
  wearFirst := n.wearFirst
  wearLast := n.wearLast
  lifeH := n.lifeH

/-- A record takes its content from elsewhere. -/
def Nvm.take (n : Nvm) (r : RecId) (src : Records) : Nvm :=
  match r with
  | .link => { n with linkRec := src.linkRec }
  | .tenant => { n with tenants := src.tenants, hedgeKey := src.hedgeKey }
  | .repair => { n with fieldMap := src.fieldMap, faults := src.faults, faultsSaved := none }
  | .alloc => { n with alloc := src.alloc }
  | .fingerprint => { n with fingerprint := src.fingerprint }
  | .wear => { n with wear := src.wear, wearFirst := src.wearFirst, wearLast := src.wearLast }
  | .life => { n with lifeH := src.lifeH }

namespace Core

/-- The custodian and every tenant holding CAN_REPAIR (R404). -/
def repairTenants (c : Core) : List Tenant := c.everyTenant.filter (fun t => c.hasRight t 6)

/-- Raise a repair or endurance event (R404). -/
def repairEvent (c : Core) (code : Nat) (detail : List Byte) : Core := c.eventTo c.repairTenants code detail

/-- Field repairs in force: recorded, waiting to be written, or beyond the 64 entries (R373, R374). -/
def fieldRepairs (c : Core) : List RepairEntry := c.nvm.fieldMap ++ c.nvm.mapPending ++ c.rep.extra

/-- Every repair in force, the factory map first (R372). -/
def repairs (c : Core) : List RepairEntry := c.rep.factory ++ c.fieldRepairs

/-- A repair of a kind on an index is in force. -/
def hasRepair (c : Core) (kind index : Nat) : Bool :=
  c.repairs.any (fun r => r.kind.toNat == kind && r.index.toNat == index)

/-- A sense line is dead: interpolated (R390). -/
def deadSense (c : Core) (k : Nat) : Bool := c.hasRepair 4 k
/-- A drive line is dead: interpolated (R390). -/
def deadDrive (c : Core) (d : Nat) : Bool := c.hasRepair 5 d
/-- A sense line belongs to a merged pair (R392). -/
def mergedSense (c : Core) (k : Nat) : Bool := c.hasRepair 6 k || (0 < k && c.hasRepair 6 (k - 1))

/-- Spare receive channels in use (RPRSPARE.CHSPARE). -/
def chSpares (c : Core) : Nat := (c.acq.route.filter (fun ch => ch == 12 || ch == 25)).length

/-- Drive pins on one leg (RPRSPARE.LEGS). -/
def oneLegPins (c : Core) : Nat := (c.acq.legs.filter (fun l => l == 1#2 || l == 2#2)).length

/-- The copies of a record. -/
def pair (c : Core) (r : RecId) : CopyPair := c.nvm.copies.get r

/-- A two-copy record has one valid copy only (Table REPAIR-2). -/
def oneCopy (c : Core) : Bool := RecId.all.any (fun r => !(c.pair r).a.sound || !(c.pair r).b.sound)

/-- The grade whose condition holds and is highest (Table REPAIR-2). -/
def gradeNow (c : Core) : Nat :=
  let ns := c.prof.nSns
  let nd := c.prof.nDrv
  let ds := (List.range ns).filter c.deadSense
  let dd := (List.range nd).filter c.deadDrive
  let run := fun (l : List Nat) => l.any (fun i => l.contains (i + 1))
  if c.rep.bistf then 7
  else if ns < 4 * ds.length || nd < 4 * dd.length || c.rep.slices.any (fun s => decide (2 ≤ s.failed.length)) || c.rep.clearTest then 6
  else if 16 ≤ c.nvm.sparesUsed || c.oneCopy then 5
  else if run ds || run dd then 4
  else if c.repairs.any (fun r => r.kind.toNat == 4 || r.kind.toNat == 5 || r.kind.toNat == 6) then 3
  else if 0 < c.oneLegPins || c.rep.slices.any (fun s => !s.failed.isEmpty) || c.sar.refFault || c.rep.watchFault ||
    !c.rep.sparesOut.isEmpty then 2
  else if !c.fieldRepairs.isEmpty then 1
  else 0

/-- Compute the grade again; a change raises GRADE_CHANGED and REPAIR (R375). -/
def regradeNow (c : Core) : Core :=
  let g := c.gradeNow
  if c.rep.grade.toNat == g then c
  else
    let old := c.rep.grade
    let c := { c with rep := { c.rep with grade := BitVec.ofNat 3 g } }
    (c.repairEvent 0x40 [BitVec.ofNat 8 old.toNat, BitVec.ofNat 8 g]).attn 9

/-- Compute the grade again, but for Run, where RPRSTAT changes at frame boundaries only (R336). -/
def regrade (c : Core) : Core := if c.pw.phase == .run then c else c.regradeNow

/-- The code of RPRSTAT.TASK (Table REGS-8): the task that holds the frame or works on NVM; in Run, slice rotation while a converter
rotates (R377). -/
def taskCode (c : Core) : Nat :=
  if c.rep.task != 0#4 then c.rep.task.toNat
  else bit (c.pw.phase == .run && c.rep.slices.any (fun s => s.failed.isEmpty && !s.doneCal))

/-- BGDEFER (Table REGS-8): SLICE, SELFTEST, SCRUB and TFLUSH of the tasks past their maximum deferral, and FORCED while one of them, or
the refresh, waits for its forced slot. -/
def deferWord (c : Core) : Word :=
  let past := fun (i : Nat) => bit (c.rep.bgdefer.getLsbD i)
  BitVec.ofNat 16 (past 0 + 2 * past 1 + 4 * past 2 + 8 * past 4 + 16 * bit (c.rep.bgdefer != 0#5))

/-- RPRSTAT, RPRSPARE and BGDEFER as the repair manager stands (Table REGS-8). -/
def rprLive (c : Core) : RprRegs where
  stat := BitVec.ofNat 16 (c.rep.grade.toNat + 8 * bit c.rep.bistf +
    16 * bit (c.repairs.any (fun r => r.kind == 4#8 || r.kind == 5#8 || r.kind == 6#8)) + 32 * bit c.rep.complim +
    256 * c.taskCode)
  spare := BitVec.ofNat 16 (c.chSpares + 4 * c.oneLegPins + 256 * min c.nvm.sparesUsed 255)
  defer := c.deferWord

/-- Latch the three registers (R336). -/
def latchRpr (c : Core) : Core := { c with rep := { c.rep with regs := c.rprLive } }

/-- A spare kind is exhausted: SPARES_OUT, once for each kind until a spare of it is free again (Table REPAIR-2). -/
def sparesOut (c : Core) (kind : Byte) : Core :=
  if c.rep.sparesOut.contains kind then c
  else ({ c with rep := { c.rep with sparesOut := c.rep.sparesOut ++ [kind] } }).repairEvent 0x48 [kind]

/-- The running LIFE_H: the saved hours and the reference periods since (R398). -/
def lifeHours (c : Core) : Nat := c.nvm.lifeH.toNat + c.rep.lifeT / 117964800

/-- The life day (R398). -/
def lifeDay (c : Core) : Nat := c.lifeHours / 24

/-- Draw a free value: the number of the draw, and the count raised (log 3). -/
def draw (c : Core) : Core × Nat := ({ c with free := c.free + 1 }, c.free)

/-! ### Rows -/

/-- A row's information. -/
def rowInfo (c : Core) (row : Nat) : RowInfo := c.nvm.rows.getD row RowInfo.fresh

/-- The row that holds a row's content: the row itself, or the spare that took its place (R397). -/
def physical (c : Core) (row : Nat) : Nat := ((c.rowInfo row).spare.map (fun n => 256 + n)).getD row

/-- A row has been erased: the row information of the row that holds its content is renewed (R397). -/
def noteErase (c : Core) (row : Nat) : Core :=
  let renew := fun (r : RowInfo) => { r with eraseDay := c.lifeDay, eraseCount := min (r.eraseCount + 1) (2 ^ 32 - 1) }
  { c with nvm := { c.nvm with rows := modifyAt c.nvm.rows (c.physical row) renew } }

/-- A repair is in force; its entry waits to be written, or with a full field map is not recorded, which raises SPARES_OUT with kind 0xFF
each time (R373, R374). -/
def noteRepair (c : Core) (r : RepairEntry) : Core :=
  if 64 ≤ c.nvm.fieldMap.length + c.nvm.mapPending.length then
    let kinds := if c.rep.sparesOut.contains 0xFF#8 then c.rep.sparesOut else c.rep.sparesOut ++ [0xFF#8]
    ({ c with rep := { c.rep with extra := c.rep.extra ++ [r], sparesOut := kinds } }).repairEvent 0x48 [0xFF#8]
  else { c with nvm := { c.nvm with mapPending := c.nvm.mapPending ++ [r] } }

/-- The row that holds a row's content fails verify: it is retired, and the next free spare row takes the content; with none left the
answer is false (R397, Table REPAIR-2). -/
def retire (c : Core) (row : Nat) : Core × Bool :=
  if 16 ≤ c.nvm.sparesUsed then (c.sparesOut 7#8, false)
  else
    let n := c.nvm.sparesUsed
    let old := c.physical row
    let rows := modifyAt c.nvm.rows row (fun r => { r with spare := some n })
    let c := { c with nvm := { c.nvm with sparesUsed := n + 1, rows := rows } }
    let c := c.noteRepair { kind := 7#8, index := BitVec.ofNat 8 row, detail := BitVec.ofNat 8 n, origin := 2#8 }
    ((c.repairEvent 0x4A (le 2 old ++ [BitVec.ofNat 8 n])).regrade, true)

/-- Whether a row passes verify after a program or an erase: a fact of the part (R397, log 3). -/
def verifies (c : Core) : Core × Bool := (c.draw.1, !Config.rowFails c.draw.2)

/-- Erase and program a row with its content, into the next spare row each time verify fails (R397). The answer is false when the last
spare row has been used. -/
def programFrom : Nat → Core → Nat → Core × Bool
  | 0, c, _ => (c, false)
  | fuel + 1, c, row =>
    let v := (c.noteErase row).verifies
    if v.2 then (v.1, true)
    else
      let r := v.1.retire row
      if r.2 then programFrom fuel r.1 row else r

/-- Erase and program a row: at most the row itself and the sixteen spare rows. -/
def programRow (c : Core) (row : Nat) : Core × Bool := programFrom 17 c row

/-- Erase and program rows, one after another. -/
def programRows (c : Core) (rows : List Nat) : Core × Bool :=
  rows.foldl (fun s row => let r := s.1.programRow row; (r.1, s.2 && r.2)) (c, true)

/-! ### Two-copy records -/

/-- A record is written to the copy that does not hold its latest valid generation, in the order of R79, with the next generation (R396);
the copy it replaces becomes the older one. The answer is false where NVM writes are inhibited (R80), and where a row failed verify
with no spare row left, which leaves the record one copy (R397). The caller puts the new content in place. -/
def writeCopy (c : Core) (r : RecId) : Core × Bool :=
  if !c.nvmOk then (c, false)
  else
    let p := c.pair r
    let w := c.programRows (r.rows p.targetsB)
    let mark : CopyMark := { gen := p.gen + 1#32, sound := w.2 }
    let older := if w.2 then Records.copy r c.nvm.saved c.nvm.older else c.nvm.older
    let d := w.1
    let d := { d with nvm := { d.nvm with copies := d.nvm.copies.set r (p.put p.targetsB mark), older := older } }
    (if w.2 then d else d.regrade, w.2)

/-- The waiting entries of the field map and the fault list stand in NVM. -/
def flushMap (c : Core) : Core :=
  { c with nvm := { c.nvm with fieldMap := c.nvm.fieldMap ++ c.nvm.mapPending, mapPending := [], faultsSaved := none } }

/-- The repair record is written where something of it waits (R374). -/
def saveMap (c : Core) : Core :=
  if c.nvm.mapPending.isEmpty && c.nvm.faultsSaved.isNone then c
  else
    let w := c.writeCopy .repair
    if w.2 then w.1.flushMap else w.1

/-- Write a two-copy record with new content; rows retired by the write enter the field map in NVM before it completes (R374, R396,
R397). Where the answer is false, the record's content stands as it was. -/
def write (c : Core) (r : RecId) (f : Core → Core) : Core × Bool :=
  let w := c.writeCopy r
  let d := if w.2 then f (if r == .repair then w.1.flushMap else w.1) else w.1
  (if r == .repair then d else d.saveMap, w.2)

/-- A failing row is retired and its content rewritten into spare rows until one verifies; the field map follows before the operation
completes (R374, R397). -/
def retireRow (c : Core) (row : Nat) : Core × Bool :=
  let r := c.retire row
  let r := if r.2 then r.1.programRow row else r
  (r.1.saveMap, r.2)

/-- The allocations in force: those in NVM, or a change that waits while NVM writes are inhibited (R80, R263). -/
def alloc (c : Core) : Alloc := c.nvm.allocPending.getD c.nvm.alloc

/-- Allocations that wait are written where NVM can be (R80, R263). -/
def saveAlloc (c : Core) : Core :=
  match c.nvm.allocPending with
  | none => c
  | some a => (c.write .alloc (fun c => { c with nvm := { c.nvm with alloc := a, allocPending := none } })).1

/-- Put a repair in force and in the field map; its entry waits where NVM cannot be written (R373, R374). -/
def addRepair (c : Core) (r : RepairEntry) : Core := (c.noteRepair r).saveMap

/-- A changed fault list, written to NVM where that can be done (R80). -/
def setFaults (c : Core) (l : List FaultEntry) : Core :=
  if l = c.nvm.faults then c
  else Core.saveMap { c with nvm := { c.nvm with faults := l, faultsSaved := some (c.nvm.faultsSaved.getD c.nvm.faults) } }

/-- Record a fault: a new entry, or the entry of the same kind, index and signature with its last day and state
renewed; at most 64 entries, none REPAIRED displaced (R388). -/
def addFault (c : Core) (kind index sign state derate : Nat) : Core :=
  let day : Word := BitVec.ofNat 16 c.lifeDay
  let same := fun (e : FaultEntry) => e.kind.toNat == kind && e.index.toNat == index && e.sign.toNat == sign
  let l := c.nvm.faults
  c.setFaults (if l.any same then
      l.map (fun e => if same e then { e with last := day, state := BitVec.ofNat 8 state, derate := BitVec.ofNat 8 derate } else e)
    else
      let new : FaultEntry :=
        { kind := BitVec.ofNat 8 kind, index := BitVec.ofNat 8 index, sign := BitVec.ofNat 8 sign,
          state := BitVec.ofNat 8 state, first := day, last := day, derate := BitVec.ofNat 8 derate }
      if l.length < 64 then l ++ [new]
      else match (List.range l.length).find? (fun i => (l[i]?).any (fun e => e.state != 2#8)) with
        | some i => l.eraseIdx i ++ [new]
        | none => l)

/-- What a row of NVM holds: a spare row, the content of the row it stands for (R397). -/
def rowHolds (c : Core) (row : Nat) : Nat :=
  if row < 256 then row
  else (c.nvm.rows.findIdx? (fun r => r.spare == some (row - 256))).getD row

/-- The copy of a record that its row belongs to has a double-bit error (R396, R399): the record takes the content of its other copy where
that is valid, which is written over the bad one, and its factory content where neither is. DEDUCED (log 22): a valid copy of lower
generation counts as the good one. -/
def mendRecord (c : Core) (r : RecId) (row : Nat) : Core :=
  let p := c.pair r
  let isB := (r.rows true).contains (c.rowHolds row)
  let q := p.put isB { (if isB then p.b else p.a) with sound := false }
  let good := if isB then p.a.sound else p.b.sound
  let src := if good then c.nvm.older else Records.factory
  let nvm := if good && p.latestB != isB then c.nvm else c.nvm.take r src
  let c := { c with nvm := { nvm with copies := nvm.copies.set r q } }
  if good then (c.write r (fun c => c)).1 else c.regrade

/-- Facts of this tile that the range rules of a profile use (R27, R220). -/
def checkCtx (c : Core) : CheckCtx where
  ctLadder := c.otpc.combo.ctLadder.val
  ctMode := c.otpc.combo.ctMode.toNat
  pvLadder := c.otpc.combo.pvLadder.val
  pvMode := c.otpc.combo.pvMode.toNat
  tiles := (c.hg.u.toInt, c.hg.v.toInt) :: c.hg.roster.tiles.map (fun t => (t.u.toInt, t.v.toInt))

/-- A repair acts on the front end: a spare channel, a leg, a slice (R84, R90, R379). -/
def applyRepair (c : Core) (r : RepairEntry) : Core :=
  match r.kind.toNat with
  | 1 =>
    let s : Fin 11 := Fin.ofNat 11 (r.index.toNat % 16)
    let fail := fun (x : SliceRot) => { x with out := s, failed := (x.failed.filter (fun f => f != s)) ++ [s] }
    { c with rep := { c.rep with slices := modifyAt c.rep.slices (r.index.toNat / 16) fail } }
  | 2 =>
    { c with acq := { c.acq with route := (List.range 24).map (fun k =>
        if c.acq.route.getD k 0 == r.index.toNat then r.detail.toNat else c.acq.route.getD k 0) } }
  | 3 =>
    let leg : BitVec 2 := if r.detail = 0#8 then 1#2 else 2#2
    { c with acq := { c.acq with legs := modifyAt c.acq.legs r.index.toNat (fun l => l &&& ~~~leg) } }
  | _ => c

end Core

end Sys2Proof.Machine
end

