-- ==== Sys2Proof/Machine/SendOps.lean ====
section
/-!
DEFINITION. The operations the commands share, above NVM: the transmit counters, responses, the sending of link frames, and the lift of an
effect to a meaning.
-/
namespace Sys2Proof.Machine

namespace Core

/-- A transmit counter may be used: below its reservation, or the reservation can be renewed (R345). -/
def txReady (c : Core) (t : Tenant) : Bool :=
  decide ((c.tenantSt t).txCtr.toNat < (c.tenantRec t).txS.toNat) || c.nvmOk

/-- Draw the FRESH of a packet this tile originates for a tenant, renewing the reservation first where it is due;
none where the packet is held back (R345). -/
def drawTx (c : Core) (t : Tenant) : Core × Option (BitVec 32) :=
  let ctr := (c.tenantSt t).txCtr
  let due := decide ((c.tenantRec t).txS.toNat ≤ ctr.toNat + 256)
  let c := if due then (c.write .tenant (fun c => c.modTenantRec t (fun r => { r with txS := ctr + 4096#32 }))).1 else c
  if ctr.toNat < (c.tenantRec t).txS.toNat then
    (c.modTenantSt t (fun s => { s with txCtr := ctr + 1#32 }), some ctr)
  else (c, none)

/-- Build a packet this tile originates for a tenant: AUTH = 1 where asked and the key is held (R345). -/
def sealPacket (c : Core) (h : PktHead) (wantAuth : Bool) (payload : List Byte) : Core × Option (List Byte) :=
  match (if wantAuth then c.tenantKey h.tenant else none) with
  | none => (c, some (buildPacket h payload none))
  | some key =>
    match c.drawTx h.tenant with
    | (c, none) => (c, none)
    | (c, some fresh) => (c, some (buildPacket h payload (some (fresh, key))))

/-- Header of an RSP (R347). -/
def rspHead (c : Core) (r : Rsp) (ttl : Nat) : PktHead :=
  { kind := 2, tenant := r.tenant, urg := r.urg, frag := r.frag, last := r.last, dst := r.dst, ttl := ttl,
    src := c.hg.addr, seq := r.seq, opcode := r.opcode, status := r.status }

/-- A port carries hedge frames: enabled, NORMAL, line LIVE, and not MISWIRED in TILE mode (R244, R257). -/
def linkUp (c : Core) (p : Port) : Bool :=
  (c.port p).cfg.mode != 0#2 && (c.port p).op == 0#2 && (c.port p).mon == .live && !(c.hport p).miswired

/-- A port's mode is TILE. -/
def isTile (c : Core) (p : Port) : Bool := (c.port p).cfg.mode == 1#2
/-- A port's mode is WIRE. -/
def isWire (c : Core) (p : Port) : Bool := (c.port p).cfg.mode == 2#2

/-- Put a frame on a port's waiting list: an ACK or NAK ahead of every other, a quickset or READY ahead of the frames that
wait for them (R254, R275). -/
def sendFrame (c : Core) (p : Port) (body : LinkBody) : Core :=
  let f : TxFrame := { body := body, lseq := none, tries := 0, carries := none, again := false }
  let insert := fun (q : List TxFrame) =>
    q.takeWhile (fun g => decide (g.body.txRank ≤ f.body.txRank)) ++ [f] ++ q.dropWhile (fun g => decide (g.body.txRank ≤ f.body.txRank))
  c.modPort p (fun l => { l with txq := insert l.txq })

/-- Put a packet on a port: an urgent one goes ahead of the packets that are not urgent (R340). -/
def sendPacketOn (c : Core) (p : Port) (bytes : List Byte) (carries : Option (Tenant × Nat × Bool × Bool))
    (again : Bool) : Core :=
  let f : TxFrame := { body := .data bytes, lseq := none, tries := 0, carries := carries, again := again }
  let packet := fun (g : TxFrame) (t : List Byte → Bool) => match g.body with
    | .data b => t b
    | _ => false
  let put := urgPut (fun g => packet g (fun b => !pkUrg b)) (fun g => packet g (fun b => pkStream b == pkStream bytes)) (pkUrg bytes) f
  c.modPort p (fun l => { l with txq := put l.txq })

/-- The lower of two UIDs. -/
def minUid (a b : Uid) : Uid := if b.toNat < a.toNat then b else a

/-- The lowest panel-root UID known (Table HEDGE-2, R262): once a roster is held, as held. -/
def lowestKnown (c : Core) : Uid :=
  if c.hg.hasRoster then c.hg.lowestRoot
  else (ports.filter (fun p => c.isTile p && !(c.hport p).miswired)).foldl (fun m p =>
    match (c.hport p).partner with
    | some h => minUid m h.lowestRoot
    | none => m) c.hg.uid

/-- The HELLO this tile sends on a port (Table HEDGE-2). -/
def helloBody (c : Core) (p : Port) : Hello where
  uid := c.hg.uid
  addr := c.hg.addr
  panel := c.hg.panel
  u := c.hg.u
  v := c.hg.v
  port := BitVec.ofNat 3 p.val
  posValid := c.hg.posValid
  panelRoot := c.hg.panelRoot
  hedgeRoot := c.hg.hedgeRoot
  state := c.pw.phase.code
  depth := c.hg.depth
  lowestRoot := c.lowestKnown
  rosterVer := c.hg.roster.version
  epoch := c.hg.epoch

/-- The port's line is LIVE and in NORMAL operation, so HELLO can go out on it (R256). -/
def helloPort (c : Core) (p : Port) : Bool :=
  (c.port p).cfg.mode != 0#2 && (c.port p).op == 0#2 && (c.port p).mon == .live

/-- Send HELLO on a port (R256). -/
def sendHello (c : Core) (p : Port) : Core := c.when (c.helloPort p) (fun c => c.sendFrame p (.hello (c.helloBody p)))

/-- Send HELLO on every LIVE port (R256). -/
def helloAll (c : Core) : Core := ports.foldl sendHello c

/-- What an effect left, and HELLO on every LIVE port where it changed the body of this tile's HELLO (R256). -/
def told (c d : Core) : Core := if d.fast && d.helloBody 0 != c.helloBody 0 then d.helloAll else d

/-- The state after a command: HELLO for a changed body (R256), and the two levels of ATTNSRC (R328). -/
def after (c d : Core) : Core := (c.told d).latch

end Core

/-- A meaning that changes everything but the queue and the OTP. -/
def onCore (f : Core → Core) (s : State) : Host.Outcome State Fault Refusal := 
  .next { s with core := s.core.after (f s.core) }

/-- A meaning with an operand of a fixed shape: the fault where the shape is wrong. -/
def onCoreIf (ok : Bool) (f : Core → Core) (s : State) : Host.Outcome State Fault Refusal :=
  if ok then onCore f s else .fault .illFormedOperand

end Sys2Proof.Machine
end

