-- ==== Sys2Proof/Machine/Routing.lean ====
section
/-!
DEFINITION. Routing and sending: the panel map, the next hop, the relay buffer, responses on their way, packets
of the hedge layer, and HELLO bodies (R256, R270 to R273, R261, R347).
-/
namespace Sys2Proof.Machine

/-- Direction of a port: the offset of its neighbour (Table ARCH-4). -/
def portOffset (p : Port) : Int × Int :=
  match p.val with
  | 0 => (1, 0)
  | 1 => (0, 1)
  | 2 => (-1, 1)
  | 3 => (-1, 0)
  | 4 => (0, -1)
  | _ => (1, -1)

/-- The port of a neighbour that a port joins (R24). -/
def oppositePort (p : Port) : Port := Fin.ofNat 6 (p.val + 3)

/-- Colour class of a lattice position (R25). -/
def colourOf (u v : Int) : Nat := ((u - v) % 3).toNat

/-- The live tiles a roster tile has live links to. -/
def rosterNext (r : Roster) (t : RosterTile) : List Addr :=
  (Core.ports.filter (fun p => t.mask.getLsbD p.val)).filterMap (fun p =>
    (r.tiles.find? (fun x => !x.lost && x.u.toInt == t.u.toInt + (portOffset p).1 &&
      x.v.toInt == t.v.toInt + (portOffset p).2)).map (fun x => x.addr))

/-- Distances in the panel map from a tile outward, by rings: `fuel` rings at most (R270). -/
def spread (next : Addr → List Addr) : Nat → Nat → List Addr → List (Addr × Nat) → List (Addr × Nat)
  | 0, _, _, seen => seen
  | fuel + 1, d, ring, seen =>
    let seen := seen ++ ring.map (fun a => (a, d))
    let more := ((ring.flatMap next).filter (fun a => !seen.any (fun s => s.1 == a))).eraseDups
    if more.isEmpty then seen else spread next fuel (d + 1) more seen

/-- Map distance recorded for an address. -/
def distOf (m : List (Addr × Nat)) (a : Addr) : Option Nat := (m.find? (fun s => s.1 == a)).map (fun s => s.2)

namespace Core

/-- The partners on this tile's live TILE links. -/
def ownLinks (c : Core) : List Addr :=
  (ports.filter (fun p => c.linkUp p && c.isTile p)).filterMap (fun p => (c.hport p).partner.map (fun h => h.addr))

/-- The next tiles of a tile in the panel map: this tile's own line monitors speak for its links, in both directions (R270). -/
def mapNext (c : Core) (a : Addr) : List Addr :=
  if a == c.hg.addr then c.ownLinks
  else
    match c.hg.roster.tiles.find? (fun t => t.addr == a && !t.lost) with
    | some t => (rosterNext c.hg.roster t).filter (fun b => b != c.hg.addr || c.ownLinks.contains a)
    | none => []

/-- The first port, L0 to L5, whose partner lies one hop closer to an address of this panel (R270). -/
def mapHop (c : Core) (dst : Addr) : Option Port :=
  let m := spread c.mapNext 64 0 [dst] []
  (ports.filter (fun p => c.linkUp p && c.isTile p)).find? (fun p =>
    match (c.hport p).partner with
    | none => false
    | some h => (distOf m h.addr).any (fun d =>
        ((distOf m c.hg.addr).any (fun n => d + 1 == n)) || (distOf m c.hg.addr).isNone && d == 0))

/-- The address a packet makes for in this panel (R260). -/
def target (c : Core) (dst : Addr) : Addr := if dst == 0x3FE#10 then c.hg.rootAddr else dst

/-- An address of this panel: a live tile of the roster, or a partner on a TILE port. -/
def inPanel (c : Core) (a : Addr) : Bool :=
  c.hg.roster.tiles.any (fun t => t.addr == a && !t.lost) ||
  ports.any (fun p => c.linkUp p && c.isTile p && (c.hport p).partner.any (fun h => h.addr == a))

/-- The root of a panel whose packets keep to the panel: its addresses are provisional, or the hedge root refused it (R264, R266). -/
def confined (c : Core) : Bool := c.hg.panelRoot && (c.hg.provisional || c.hg.panelRefused)

/-- The port a packet takes next: by the panel map, or by the first route-table entry whose range holds its
destination (R270, R271); none leaves a confined panel (R264, R266). -/
def nextHop (c : Core) (dst : Addr) : Option Port :=
  let d := c.target dst
  if c.inPanel d then c.mapHop d
  else if c.confined then none
  else
    match c.hg.routes.find? (fun r => decide (r.lo.toNat ≤ d.toNat) && decide (d.toNat ≤ r.hi.toNat)) with
    | none => none
    | some r =>
      if r.gw == c.hg.addr then
        (ports.find? (fun p => p.val == r.port.toNat)).filter (fun p => c.linkUp p)
      else c.mapHop r.gw

/-- The port of this panel nearest to an address among all but one (R273). -/
def otherHop (c : Core) (dst : Addr) (avoid : Port) : Option Port :=
  let m := spread c.mapNext 64 0 [dst] []
  ((ports.filter (fun p => c.linkUp p && c.isTile p && p != avoid)).foldl (fun (b : Option (Port × Nat)) p =>
    match ((c.hport p).partner).bind (fun h => distOf m h.addr) with
    | none => b
    | some d => match b with
      | none => some (p, d)
      | some x => if d < x.2 then some (p, d) else b) none).map (fun x => x.1)

/-- A PANEL_GRANT (Table HEDGE-3). -/
def isPanelGrant (b : List Byte) : Bool := pkKind b == 8 && pkOp b == 8#8

/-- The way back to a panel root with provisional addresses, which no route names: the port by which its PANEL_ADVERT came
(R264; DEDUCED, log 18). -/
def grantVia (c : Core) (b : List Byte) : Option Port :=
  if isPanelGrant b then (c.hg.advertVia.find? (fun x => x.1 == pkDst b)).map (fun x => x.2) else none

/-- The port a packet takes next. -/
def hop (c : Core) (b : List Byte) : Option Port :=
  match (c.grantVia b).filter c.linkUp with
  | some p => some p
  | none => c.nextHop (pkDst b)

/-- The port a packet takes that was given up on one port: another way where there is one (R273). -/
def hopFor (c : Core) (b : List Byte) (notVia : Option Port) : Option Port :=
  let dst := pkDst b
  match notVia with
  | none => c.hop b
  | some q =>
    match c.hop b with
    | none => none
    | some p =>
      if p != q then some p
      else
        let d := c.target dst
        if c.inPanel d then c.otherHop d q
        else match c.hg.routes.find? (fun r => decide (r.lo.toNat ≤ d.toNat) && decide (d.toNat ≤ r.hi.toNat)) with
          | none => none
          | some r => if r.gw == c.hg.addr then none else c.otherHop r.gw q

/-- The packet is for this tile (R260, R339, R348); a PANEL_GRANT on its way to a provisional address that this tile's panel holds too
is not (R264). -/
def forMe (c : Core) (b : List Byte) : Bool :=
  (pkDst b == c.hg.addr && (c.confined || (c.grantVia b).isNone)) || pkDst b == 0x3FF#10 || (pkDst b == 0x3FE#10 && c.hg.panelRoot)

/-- Bytes in the relay buffer. -/
def relayUsed (c : Core) : Nat := (c.hg.relay.map (fun r => r.bytes.length)).sum

/-- There is room in the 32 KiB relay buffer (R273). -/
def relayRoom (c : Core) (n : Nat) : Bool := decide (c.relayUsed + n ≤ 32768)

/-- Put a packet in the relay buffer; an urgent one ahead of those that are not (R273, R340). -/
def relayPut (c : Core) (i : RelayItem) : Core :=
  let put := urgPut (fun (r : RelayItem) => !r.urg) (fun r => r.stream c.hg.addr == i.stream c.hg.addr) i.urg i
  { c with hg := { c.hg with relay := put c.hg.relay } }

/-- Present an RSP in PKTOUT (R347). -/
def present (c : Core) (i : OutItem) : Core := { c with host := { c.host with outRsp := c.host.outRsp ++ [i] } }

/-- ROSTER and ROUTES are broadcasts of one panel (Table HEDGE-3); DEDUCED (log 18): they keep to the TILE ports. -/
def panelBroadcast (b : List Byte) : Bool := pkKind b == 8 && (pkOp b == 4#8 || pkOp b == 9#8)

/-- Send a packet toward its destination, or let it wait for a route (R271, R273); a broadcast goes on every port
but the one of arrival. -/
def sendOut (c : Core) (b : List Byte) (arrival : Option Port) : Core :=
  if pkDst b == 0x3FF#10 then
    (ports.filter (fun p => c.linkUp p && some p != arrival && (c.isTile p || !panelBroadcast b))).foldl (fun c p => c.sendPacketOn p b none false) c
  else
    match c.hop b with
    | some p => c.sendPacketOn p b none false
    | none => c.relayPut { bytes := b, held := none, came := c.pw.rtc, notVia := none }

/-- Send an RSP: into this tile's PKTOUT, or over the hedge with TTL 15 (R347); it waits in the relay buffer while
its reservation cannot be renewed (R345). -/
def sendRsp (c : Core) (r : Rsp) : Core :=
  if r.dst == c.hg.addr then c.present (.own r)
  else
    match c.sealPacket (c.rspHead r 15) r.auth r.payload with
    | (c, some b) => c.sendOut b none
    | (c, none) => c.relayPut { bytes := [], held := some r, came := c.pw.rtc, notVia := none }

/-- The segments of a long payload (R350, R353): OFFSET, TOTAL and at most 1 018 bytes each. -/
def segments (payload : List Byte) : List (List Byte × Bool) :=
  let n := (payload.length + 1017) / 1018
  (List.range n).map (fun i =>
    (le 3 (1018 * i) ++ le 3 payload.length ++ (payload.drop (1018 * i)).take 1018, i + 1 == n))

/-- Answer a command: one RSP, or segments where the payload is longer than 1 024 bytes (R347, R353, R361). -/
def answer (c : Core) (x : CmdCtx) (op : Byte) (status : Byte) (payload : List Byte) : Core :=
  let r : Rsp :=
    { tenant := x.tenant, auth := x.auth, urg := x.urg, frag := false, last := false, dst := x.src,
      seq := x.seq, opcode := op, status := status, payload := payload }
  if payload.length ≤ 1024 then c.sendRsp r
  else (segments payload).foldl (fun c s => c.sendRsp { r with frag := true, last := s.2, payload := s.1 }) c

/-- Answer with segments whatever the length: the responses Table PKT-5 marks as fragmented (R353). -/
def answerFrag (c : Core) (x : CmdCtx) (op : Byte) (payload : List Byte) : Core :=
  let r : Rsp :=
    { tenant := x.tenant, auth := x.auth, urg := x.urg, frag := true, last := false, dst := x.src,
      seq := x.seq, opcode := op, status := 0#8, payload := payload }
  (if payload.isEmpty then [(le 3 0 ++ le 3 0, true)] else segments payload).foldl
    (fun c s => c.sendRsp { r with last := s.2, payload := s.1 }) c

/-- A packet is dropped: a CMD is answered toward its source with NO_ROUTE, an RPT raises RECORDS_LOST (R273). -/
def dropPacket (c : Core) (b : List Byte) : Core :=
  if pkKind b == 1 then
    c.sendRsp
      { tenant := pkTenant b, auth := false, urg := pkUrg b, frag := false, last := false, dst := pkSrc b,
        seq := pkSeq b, opcode := pkOp b, status := 0x07#8, payload := [] }
  else if pkKind b == 3 then
    c.eventTo [pkTenant b] 0x14 ([byteAt (pkPayload b) 6] ++ le 2 (pkDst b).toNat)
  else c

/-- A (SRC, SEQ) pair has been forwarded (R271). -/
def wasSeen (c : Core) (b : List Byte) : Bool := c.hg.seen.any (fun s => s == (pkSrc b, pkSeq b))

/-- Note a (SRC, SEQ) pair (R271). -/
def noteSeen (c : Core) (b : List Byte) : Core :=
  { c with hg := { c.hg with seen := (pkSrc b, pkSeq b) :: c.hg.seen } }

/-- Relay a packet that arrived: TTL falls by one, and a packet at 0 is dropped (R273). -/
def relay (c : Core) (b : List Byte) (arrival : Option Port) : Core :=
  if pkTtl b ≤ 1 then c.dropPacket b else c.sendOut (setTtl b (pkTtl b - 1)) arrival

/-- A packet of the hedge layer (R260, R261): AUTH = 1 under the hedge key, but for the three JOIN packets. Its
FRESH, which R345 gives to a tenant's packets only, is a free value (log 3). -/
def hedgePacket (c : Core) (dst : Addr) (op : Nat) (payload : List Byte) : Core × List Byte :=
  let h : PktHead :=
    { kind := 8, tenant := 0, urg := false, frag := false, last := false, dst := dst, ttl := 15,
      src := c.hg.addr, seq := c.hg.ownSeq, opcode := BitVec.ofNat 8 op, status := 0#8 }
  let c' := { c with hg := { c.hg with ownSeq := c.hg.ownSeq + 1#16 } }
  match (if op ≤ 3 then none else c.nvm.hedgeKey) with
  | none => (c', buildPacket h payload none)
  | some key =>
    ({ c' with hg := { c'.hg with ownFresh := c'.hg.ownFresh + 1 } },
     buildPacket h payload (some (Config.hedgeFresh c.hg.ownFresh, key)))

/-- Send a packet of the hedge layer over the hedge; a broadcast of this tile counts as forwarded (R271). -/
def hedgeSend (c : Core) (dst : Addr) (op : Nat) (payload : List Byte) : Core :=
  let (c, b) := c.hedgePacket dst op payload
  (if dst == 0x3FF#10 then c.noteSeen b else c).sendOut b none

/-- Try again what waits in the relay buffer (R273): a held RSP first draws its FRESH. -/
def relayRetry (c : Core) : Core :=
  let items := c.hg.relay
  items.foldl (fun c i =>
    let out := fun (c : Core) (b : List Byte) =>
      match c.hopFor b i.notVia with
      | some p => c.sendPacketOn p b none i.notVia.isSome
      | none => c.relayPut { i with bytes := b, held := none }
    match i.held with
    | none => out c i.bytes
    | some r =>
      match c.sealPacket (c.rspHead r 15) r.auth r.payload with
      | (c, some b) => out c b
      | (c, none) => c.relayPut i) { c with hg := { c.hg with relay := [] } }

end Core

end Sys2Proof.Machine
end

