-- ==== Sys2Proof/Machine/Records.lean ====
section
/-!
DEFINITION. The records the tile makes: contact, hover, gesture, key and encoder records (R172, R174, R186,
Tables CONTACT-3, KEY-8, KEY-10), and the end of contacts when the tile leaves Run (R191).
-/
namespace Sys2Proof.Machine

/-- The s24 of a coordinate. -/
def s24 (x : Int) : List Byte := leInt 3 x

/-- A contact or hover record (Table CONTACT-3). -/
def contactBytes (state id : Nat) (cross fin : Bool) (p : Pos) (size sum : Nat) (owner : Addr) (flags : BitVec 6)
    (zone : Nat) (multi : Bool) (frame : Nat) : List Byte :=
  [BitVec.ofNat 8 (1 + 16 * state), BitVec.ofNat 8 (id % 64 + 64 * bit cross + 128 * bit fin)] ++ s24 p.x ++ s24 p.y ++
  le 1 (min size 255) ++ le 2 (min sum 65535) ++ le 2 (owner.toNat + 1024 * flags.toNat) ++
  le 1 (zone + 64 * bit multi) ++ le 2 frame

/-- A gesture record (R186). Zone 0x80 names none. -/
def gestureBytes (kind id : Nat) (p : Pos) (detail life : Nat) (owner : Addr) (flags : BitVec 6) (zone : Nat)
    (frame : Nat) : List Byte :=
  [BitVec.ofNat 8 (2 + 16 * kind), BitVec.ofNat 8 (id % 64)] ++ s24 p.x ++ s24 p.y ++ le 1 detail ++
  le 2 (min life 65535) ++ le 2 (owner.toNat + 1024 * flags.toNat) ++ le 1 zone ++ le 2 frame

/-- A key record (Table KEY-8). -/
def keyBytes (event : Nat) (l : Ladder) (k : Key) (forced : Bool) (mask hold : Nat) (tile : Addr) (frame : Nat) :
    List Byte :=
  [BitVec.ofNat 8 (3 + 16 * event), BitVec.ofNat 8 (l.val + 8 * k.val + 64 * bit forced)] ++ le 1 mask ++
  le 2 (min hold 65535) ++ List.replicate 6 0#8 ++ le 2 tile.toNat ++ [0#8] ++ le 2 frame

/-- An encoder record (Table KEY-10). -/
def encoderBytes (e : Nat) (err : Bool) (net : Int) (pos : BitVec 32) (tile : Addr) (frame : Nat) : List Byte :=
  [4#8, BitVec.ofNat 8 (e + 2 * bit err)] ++ leInt 2 (sat16 net) ++ le 4 pos.toNat ++ List.replicate 3 0#8 ++
  le 2 tile.toNat ++ [0#8] ++ le 2 frame

namespace Core

/-- A contact record of this tile for one tenant. -/
def contactRec (c : Core) (state : Nat) (k : Contact) (cross : Bool) (p : Pos) (zone : Nat) (multi : Bool) : List Byte :=
  contactBytes state ((k.id.map (fun i => i.toNat)).getD 0) cross false p k.size k.sum c.hg.addr k.flags zone multi c.frame16

/-- A hover record of this tile (R172, R180). -/
def hoverRec (c : Core) (h : Hover) (fin cross : Bool) (zone : Nat) (multi : Bool) : List Byte :=
  contactBytes 3 0 cross fin h.pos 0 h.sum c.hg.addr (if c.trk.wet then 16#6 else 0#6) zone multi c.frame16

/-- Contacts in ascending order of their id. -/
def byId (l : List Contact) : List Contact :=
  sortBy (fun a b => decide ((a.id.map (fun i => i.toNat)).getD 64 < (b.id.map (fun i => i.toNat)).getD 64)) l

/-- The ids of contacts and candidates as a bitmap. -/
def idMap (l : List Contact) : BitVec 64 := l.foldl (fun m k =>
  match k.id with
  | some i => m ||| (1#64 <<< i.toNat)
  | none => m) 0#64

/-- UP, CROSS = 0, of a contact that ends, for each tenant it is engaged with (Table CONTACT-5). -/
def upRecs (c : Core) (k : Contact) : List OutRec :=
  if k.masked then []
  else k.engaged.map (fun e => { tenant := e.tenant, bytes := c.contactRec 2 k false k.pos e.zone e.multi : OutRec })

/-- END of a hover for each tenant it is engaged with (R172). -/
def hoverEnd (c : Core) (h : Hover) : List OutRec :=
  h.engaged.map (fun e => { tenant := e.tenant, bytes := c.hoverRec h true false e.zone e.multi : OutRec })

/-- UP of every contact at its last position and END of a hover, with no gesture (R190, R191); one taken over from a lost tile and not
yet matched ends without (R296). -/
def endRecs (c : Core) : List OutRec :=
  (byId (c.trk.contacts.filter (fun k => !k.isCand && !k.silent))).flatMap c.upRecs ++
  match c.trk.hover with
  | none => []
  | some h => c.hoverEnd h

/-- Contacts, candidates and hover are gone, and their ids are given back (R190, R191). -/
def dropContacts (c : Core) : Core :=
  { c with trk := { c.trk with contacts := [], hover := none, wanted := 0,
                               returned := c.trk.returned ||| idMap (c.trk.contacts.filter (fun k => !k.silent)) } }

/-- Place records in their tenants' queues, in order (R189). -/
def placeOut (c : Core) (l : List OutRec) : Core := l.foldl (fun c r => c.placeOwn r.tenant r.bytes) c

/-- Every contact and hover ends as the tile leaves Run (R191). -/
def endContacts (c : Core) : Core := (c.placeOut c.endRecs).dropContacts

/-- Place a key record for each tenant in the key's KEY_BIND: at the sample in Quiet and BOOT, with the REPORT slot
in Run, not at all in BARE (R213). -/
def keyRecord (c : Core) (event : Nat) (l : Ladder) (k : Key) (forced : Bool) (mask hold : Nat) : Core :=
  let m := c.prof.keyBind l.val k.val
  let b := keyBytes event l k forced mask hold c.hg.addr c.frame16
  match c.pw.phase with
  | .run => if forced then c.placeAll (maskTenants m) b
            else { c with keys := { c.keys with recs := c.keys.recs ++ [{ mask := m, bytes := b }] } }
  | .bare => c
  | _ => c.placeAll (maskTenants m) b

/-- The mask of a ladder's keys in PRESSED or PEND_R. -/
def keyMask (s : LadderSt) : Nat :=
  ((List.range 8).map (fun k =>
    match s.keys[k]? with
    | some x => if x.st == .pressed || x.st == .pendR then 2 ^ k else 0
    | none => 0)).sum

/-- Entry to Doze or Watch by request: every key in PRESSED or PEND_R gives a forced RELEASE and returns to IDLE
(R212). -/
def forceRelease (c : Core) : Core :=
  let ls : List Ladder := [0, 1, 2, 3, 4, 5, 6, 7]
  let held := ls.flatMap (fun l => (ls.filter (fun k =>
    c.prof.lMode l.val != 0 &&
    ((c.keys.ladders.getD l.val LadderSt.reset).keys[k.val]?).any (fun x => x.st == .pressed || x.st == .pendR))).map
      (fun k => (l, k)))
  let c := held.foldl (fun c lk =>
    let st := c.keys.ladders.getD lk.1.val LadderSt.reset
    let hold := ((st.keys[lk.2.val]?).map (fun x => x.hold)).getD 0
    let st := { st with keys := st.keys.set lk.2.val KeySt.rest }
    let c := { c with keys := { c.keys with ladders := c.keys.ladders.set lk.1.val st } }
    c.keyRecord 1 lk.1 lk.2 true (keyMask st) hold) c
  { c with keys := { c.keys with ladders := c.keys.ladders.map (fun s => { s with keys := List.replicate 8 KeySt.rest }) } }

end Core

end Sys2Proof.Machine
end

