-- ==== Sys2Proof/Machine/SarOps.lean ====
section
/-!
DEFINITION. The SAR converter's shared operations: which conversion starts next, urgent requests, the system
sequence, and the user-sequence settings (R194 to R199, R333).
-/
namespace Sys2Proof.Machine

/-- The next conversion that is ready (R198): urgent and system conversions only with REFRDY (R194). -/
def Sar.start (s : Sar) (refrdy : Bool) : Sar :=
  match s.cur with
  | some _ => s
  | none =>
    if refrdy && !s.urgent.isEmpty then { s with cur := some .urgent }
    else
      match (if refrdy then s.sysQ else []) with
      | e :: rest => { s with cur := some (.sys e), sysQ := rest }
      | [] =>
        match s.userNext with
        | some i => { s with cur := some (.user i refrdy), userBegun := true }
        | none => s

/-- Requesters in their order (R197). -/
def Requester.order : Requester → Nat
  | .tile => 0
  | .host => 1
  | .repair => 2

/-- An urgent request put in its place: behind the one that runs, by requester and then by arrival (R197). -/
def Sar.insert (s : Sar) (u : UrgReq) : Sar :=
  let running := match s.cur with
    | some .urgent => 1
    | _ => 0
  let head := s.urgent.take running
  let rest := s.urgent.drop running
  let before := rest.takeWhile (fun r => decide (r.who.order ≤ u.who.order))
  { s with urgent := head ++ before ++ [u] ++ rest.drop before.length }

/-- The queue has a free place (R197). -/
def Sar.hasPlace (s : Sar) : Bool := decide (s.urgent.length < 4)

/-- A request that waited takes a place that has come free (R197, log 15). -/
def Sar.refill (s : Sar) : Sar :=
  match s.urgWait with
  | u :: rest => if s.hasPlace then { s.insert u with urgWait := rest } else s
  | [] => s

/-- Under ABORT, a request that is not the repair manager's drops a running user conversion, whose entry runs
again (R199). -/
def Sar.abort (s : Sar) (who : Requester) : Sar :=
  match s.cur with
  | some (.user i _) => if s.useq.abort && who != .repair then { s with cur := none, userNext := some i } else s
  | _ => s

/-- New user-sequence settings: in force at the end of a run in progress, and at once for a run that is due and has not started
(R333), which USEQ_LEN 0 calls off (R196). -/
def Sar.setUseq (s : Sar) (u : UseqCfg) : Sar :=
  if s.userBegun then { s with useqReg := u }
  else { s with useqReg := u, useq := u, userNext := if u.len == 0 then none else s.userNext }

namespace Core

/-- Change the SAR converter. -/
def modSar (c : Core) (f : Sar → Sar) : Core := { c with sar := f c.sar }

/-- Start the next conversion where the converter is idle (R198). -/
def sarStart (c : Core) : Core := c.modSar (fun s => s.start c.pw.refrdy)

/-- Place an urgent request (R197, R199): a host request on a full queue sets URG_FULL. DESIGN CHOICE (log 15): a request of the
tile or the repair manager then waits for the next free place. -/
def urgent (c : Core) (who : Requester) (chan count : Nat) (tag : Nat := 0) : Core :=
  let u : UrgReq := { who := who, chan := chan, count := count, left := count, win := Tracker.code, tag := tag }
  if c.sar.hasPlace then (c.modSar (fun s => (s.insert u).abort who)).sarStart
  else if who == .host then c.modSar (fun s => { s with urgFull := true })
  else c.modSar (fun s => { s with urgWait := s.urgWait ++ [u] })

/-- The ladders the system sequence converts, ascending: mode not OFF, and the OTP combination ladders; in BARE the
latter only (R195, R220). -/
def sysLadders (c : Core) : List Ladder :=
  ([0, 1, 2, 3, 4, 5, 6, 7] : List Ladder).filter (fun l =>
    (c.pw.phase != .bare && c.prof.lMode l.val != 0) || l == c.otpc.combo.ctLadder || l == c.otpc.combo.pvLadder)

/-- A monitor burst: 16 conversions of VBAT/4, then 4 each of VCORE, VANA, TEMP and REFCHK (R195). -/
def burstEntries : List SysEntry :=
  List.replicate 16 (.monitor 8) ++ List.replicate 4 (.monitor 9) ++ List.replicate 4 (.monitor 10) ++
  List.replicate 4 (.monitor 11) ++ List.replicate 4 (.monitor 12)

/-- A system-sequence run becomes due (R195): the ladders, and a monitor burst where one is due. -/
def sysRun (c : Core) : Core :=
  let burst := c.sar.burstDue || decide (1024 ≤ c.sar.sysRuns + 1)
  let q := c.sysLadders.map SysEntry.ladder ++ (if burst then burstEntries else [])
  (c.modSar (fun s => { s with sysQ := s.sysQ ++ q, sysRuns := if burst then 0 else s.sysRuns + 1,
                               burstDue := false,
                               mon := if burst then List.replicate 5 Tracker.code else s.mon })).sarStart

/-- The user-sequence settings of a profile (R327, Table PKT-10). -/
def useqOf (p : Profile) : UseqCfg :=
  { len := fldN p.useq 0, abort := fldN p.useq 1 == 1, accLog := fldN p.useq 3, period := fldN p.useq 2,
    entries := (List.range 16).map (fun i => fldN p.useq (4 + i)) }

/-- New user-sequence settings (R333). -/
def setUseq (c : Core) (u : UseqCfg) : Core := c.modSar (fun s => s.setUseq u)

end Core

end Sys2Proof.Machine
end

