-- ==== Sys2Proof/Machine/PowerOps.lean ====
section
/-!
DEFINITION. The power controller's shared operations: resets, boot, requests and floors, Doze entry, wakes and
the entry to Run (chapter 02).
-/
namespace Sys2Proof.Machine

/-- The higher of two states (R54). -/
def higher (a b : Phase) : Phase := if a.rank ≤ b.rank then b else a

namespace Core

/-- Change the power part. -/
def modPw (c : Core) (f : Power → Power) : Core := { c with pw := f c.pw }

/-- Records a tenant's queue holds, its reserved place included (R69, R70). -/
def heldRecords (q : Queue) : Nat := q.recs.length + bit q.full.isSome

/-- The retention record as the always-on domain leaves it when a reset begins (R70). -/
def retained (c : Core) (cause : BitVec 3) : Retention :=
  { c.ret with valid := true, cause := cause, lost := c.qs.map (fun q => BitVec.ofNat 8 (heldRecords q)) }

/-- NVM as a reset leaves it: an operation in progress and what waits to be written are lost. -/
def nvmKept (n : Nvm) : Nvm :=
  { n with job := none, mapPending := [], faults := n.faultsSaved.getD n.faults, faultsSaved := none, allocPending := none }

/-- A reset begins: SRAM is lost, RTC is cleared, the retention record captures the counts (R65, R69, R70, Table
POWER-7). Causes 0 and 2 have no minimum link-quiet time (Table POWER-5). -/
def enterReset (c : Core) (cause : BitVec 3) (kind : Byte) (xtal : Xtal) : Core :=
  let pw := { Power.reset with xtal := xtal, cause := cause, holdKind := kind, holdPin := c.pw.holdPin,
                               holdTesten := c.pw.holdTesten, holdVio := c.pw.holdVio,
                               provLow := c.pw.provLow, provPin := c.pw.provLow, nvmInhibit := c.pw.nvmInhibit, linkQuiet := cause != 0#3 && cause != 2#3 }
  Core.inReset pw (c.retained cause) (nvmKept c.nvm) c.keyProg c.free

/-- Nothing holds the reset (R409, R410, R413). -/
def noHold (c : Core) : Bool := !c.pw.holdPin && !c.pw.holdTesten && !c.pw.holdVio

/-- BOOT begins where the reference is qualified and nothing holds the reset (R66). -/
def tryBoot (c : Core) : Core :=
  if c.pw.phase == .reset && c.pw.xtal == .running && c.noHold then c.modPw (fun p => { p with phase := .boot }) else c

/-- The tile is powered and running or resetting: neither unpowered nor in OFF. -/
def powered (c : Core) : Bool := c.pw.phase != .unpowered && c.pw.phase != .off

/-- The state FLOOR names. -/
def floorPhase (c : Core) : Phase := Phase.ofCode c.pw.floor.toNat
/-- The state STANDING names. -/
def standingPhase (c : Core) : Phase := Phase.ofCode c.prof.standing

/-- A tile whose admission was refused keeps address 0x000 and does not scan (R28); grade 6 keeps the tile out of Run, but for the
frames of a self-test (R376). -/
def mayRun (c : Core) : Bool :=
  !c.hg.joinRefused && (c.rep.grade != 6#3 || c.rep.testDue || c.rep.selftest.isSome)

/-- Other tiles of the panel run frames by this timekeeper: in Run it has had their reports in the last frames, else it keeps their
frame timing (R286, R287). -/
def panelRuns (c : Core) : Bool :=
  c.hg.panelRoot && (if c.pw.phase == .run then
      c.hg.tk.tiles.any (fun t => t.addr != c.hg.addr && decide ((c.hg.fc - t.fc).toNat < 3))
    else c.hg.tk.timing)

/-- A synchronising reset: the next included frame seeds the filters and SETTLING follows; P and phi are cleared
(R141, R282, R285). -/
def syncReset (c : Core) : Core :=
  { c with node := { c.node with seedDue := true, settle := 0, nodes := c.node.nodes.map (fun n => { n with seed := true }) },
           hg := { c.hg with p := 0, phi := 0, lockedFor := 0 } }

/-- Enter Run (R56, R153, R200): the tile joins with a synchronising reset and asks for TD_now; the pump starts with
HIGH swing (R50). -/
def enterRun (c : Core) : Core :=
  let c := (c.setPhase .run).syncReset
  let c := { c with acq := { c.acq with joining := true }, node := { c.node with tempDue := true },
                    hg := { c.hg with everSync := false, framesNoSync := 0 }, sar := { c.sar with tdNow := none } }
  (c.modPw (fun p => { p with pump := c.acq.highNow, idleDue := false })).urgent .tile 11 4

/-- Go to an awake state that is named (R52, R54, R376): BARE on a bare tile, Quiet where Run is barred. -/
def goAwake (c : Core) (p : Phase) : Core :=
  if c.isBare then c.setPhase .bare
  else if p == .run && c.mayRun then (if c.pw.phase == .run then c else c.enterRun)
  else if c.pw.phase == .run then c
  else c.setPhase .quiet

/-- A self-test that is due takes a tile of grade 6 from Quiet into Run for its frames (R376). -/
def testWake (c : Core) : Core :=
  if c.rep.grade == 6#3 && c.rep.testDue && c.pw.phase == .quiet && c.pw.entry.isNone then c.goAwake .run else c

/-- Place the key records that waited for a REPORT slot, with the frame in which they are placed (R213, R367). -/
def placeKeyRecs (c : Core) : Core :=
  c.keys.recs.foldl (fun c r => c.placeAll (maskTenants r.mask) (putAt r.bytes 14 (le 2 c.frame16)))
    { c with keys := { c.keys with recs := [] } }

/-- The keys of ladders whose mode is OFF are at rest, without a record (R204, R220; DEDUCED, log 17). -/
def restOffKeys (c : Core) : Core :=
  { c with keys := { c.keys with ladders := c.keys.ladders.zipIdx.map (fun s =>
      if c.prof.lMode s.2 == 0 then { s.1 with keys := List.replicate 8 KeySt.rest } else s.1) } }

/-- Contacts end and frames stop as the tile leaves Run; the next burst gives TD_exit (R191, R195, R200). Key records
that wait for a REPORT slot are placed now; DEDUCED (log 16). -/
def leaveFrames (c : Core) : Core :=
  let c := c.endContacts.placeKeyRecs
  { c with sar := { c.sar with burstDue := true, burstExit := true },
           acq := { c.acq with joining := false, maint := none } }

/-- The decision to enter Doze or Watch: step E1 (Table POWER-4, R212, R274, R441). DOZE goes out on every LIVE port. -/
def decideEntry (c : Core) (target : Phase) (byReq : Bool) : Core :=
  let c := if c.pw.phase == .run then c.leaveFrames else c
  let c := if byReq then c.forceRelease else c
  let c := c.modPw (fun p => { p with entry := some { target := target, byReq := byReq }, retry := none,
                                      req := 0#4, idleDue := false })
  ports.foldl (fun c p => c.when (c.helloPort p) (fun c => c.sendFrame p (.doze (BitVec.ofNat 8 target.code.toNat)))) c

/-- Enter the standing state, or FLOOR where it is higher (R75, R77, R441). -/
def enterStanding (c : Core) : Core :=
  let t := higher c.standingPhase c.floorPhase
  match t with
  | .run => (c.setPhase .quiet).goAwake .run
  | .quiet => c.setPhase .quiet
  | t => (c.setPhase .quiet).decideEntry t false

/-- A wake source or REQ before step E3 aborts the entry (R58). -/
def abortEntry (c : Core) : Core := c.modPw (fun p => { p with entry := none, retry := none })

/-- A wake source (Table POWER-3): latched in Doze and Watch (R57); before step E3 it aborts the entry and is acted
on at once (R58). -/
def wakeSource (c : Core) (bits : Word) (target : Phase) (cs : Bool) : Core :=
  if c.pw.phase.isAsleep then
    (c.modPw (fun p => { p with wakesrc := p.wakesrc ||| bits, waking := true, csWoke := p.csWoke || cs,
                                wakeTarget := if p.waking then higher p.wakeTarget target else target })).attnIf (!cs) 10
  else if c.pw.phase.isAwake && c.pw.entry.isSome then
    let c := c.abortEntry.modPw (fun p => { p with reqState := false })
    c.goAwake (higher target (higher c.pw.phase c.floorPhase))
  else c

/-- A state that REQ enters is kept where it lies below FLOOR (R53). -/
def keptBelowFloor (c : Core) (t : Phase) : Bool := decide (t.rank < c.floorPhase.rank)

/-- Act on a REQ (R52, R53, R58, R329). DEDUCED (log 18): the timekeeper of a panel that runs frames goes no lower than Quiet, or BARE,
for a REQ either (R286). -/
def actReq (c : Core) (code : BitVec 4) : Core :=
  let t := Phase.ofCode code.toNat
  let c := c.abortEntry.modPw (fun p => { p with req := 0#4, idleDue := false })
  match c.pw.phase with
  | .bare => if t.isAsleep && !c.panelRuns then c.decideEntry .doze true else c
  | .quiet =>
    let c := c.modPw (fun p => { p with reqState := c.keptBelowFloor t })
    if !t.isAsleep then c.goAwake t else if c.panelRuns then c else c.decideEntry t true
  | .run => if t == .run then c else c.modPw (fun p => { p with req := code })
  | _ => c

/-- FLOOR raises a lower state, unless REQ entered it (R53); an idle entry below it is given up. -/
def actFloor (c : Core) : Core :=
  if c.pw.phase == .bare then c
  else if c.pw.entry.any (fun e => !e.byReq && decide (e.target.rank < c.floorPhase.rank)) then
    let c := c.abortEntry
    if c.pw.phase == .quiet then c.goAwake c.floorPhase else c
  else if c.pw.phase == .quiet && c.pw.entry.isNone && !c.pw.reqState && c.floorPhase == .run then c.goAwake .run
  else c

/-- A write of PWRCTL by register or SET_STATE (R52, R53, R329): its REQ replaces a request not yet acted on, and REQ = 0 asks for
none. -/
def writePwrctl (c : Core) (req floor : BitVec 4) : Core :=
  let c := c.modPw (fun p => { p with floor := floor, req := 0#4 })
  if req == 0#4 then c.actFloor else c.actReq req

/-- A median window that holds W values (R133). DEDUCED (log 26): one that grows is filled with its oldest value. -/
def fitWindow (w : Nat) (win : List Int) : List Int :=
  List.replicate (w - win.length) (win.headD 0) ++ win.drop (win.length - w)

/-- Every median window holds W values. -/
def fitWindows (c : Core) : Core :=
  let w := c.prof.medW
  if c.node.nodes.all (fun n => n.win.length == w) then c
  else { c with node := { c.node with nodes := c.node.nodes.map (fun n => { n with win := fitWindow w n.win }) } }

/-- The working configuration takes a profile: line settings, codes, swing and the user sequence follow it (R327,
R360, R363); the codes of a dead drive line are 0 (R391). -/
def loadProfile (c : Core) (p : Profile) : Core :=
  Core.fitWindows
  { c with
    prof := p
    sar := c.sar.setUseq (useqOf p)
    node := { c.node with
      gain := (List.range 24).map p.gain
      coarse := (List.range 24).map p.coarse
      codes := (List.range 24).map (fun k => (List.range 32).map (fun d => if c.deadDrive d then 0 else p.code d k))
      lsbF := (List.range 24).map p.lsbF
      lsbC := (List.range 24).map p.lsbC }
    acq := { c.acq with highNow := p.swingHigh } }

/-- The slot selected at boot with its profile (R78): the valid slot of the higher generation, slot A where they are
equal. -/
def selectSlot (c : Core) : Option (SlotId × Profile) :=
  match c.nvm.slotA.profile c.checkCtx, c.nvm.slotB.profile c.checkCtx with
  | some a, some b => if c.nvm.slotA.gen.toNat < c.nvm.slotB.gen.toNat then some (.b, b) else some (.a, a)
  | some a, none => some (.a, a)
  | none, some b => some (.b, b)
  | none, none => none

/-- A slot of NVM. -/
def slotOf (c : Core) : SlotId → Slot
  | .a => c.nvm.slotA
  | .b => c.nvm.slotB

/-- The other slot. -/
def otherSlot : SlotId → SlotId
  | .a => .b
  | .b => .a

/-- The slot not selected makes PROFILE_ROLLBACK due (R82): its header is one generation ahead, and its marker is not
valid, or it is whole but its image fails. -/
def rolledBack (c : Core) (s : SlotId) : Option (BitVec 32) :=
  let o := c.slotOf (otherSlot s)
  match o.header with
  | none => none
  | some h =>
    if h.gen == (c.slotOf s).gen + 1#32 && (!o.marked || (o.bodyOk && (o.profile c.checkCtx).isNone)) then some h.gen
    else none

/-- Spare SRAM columns of a bank in use (R373, R380). -/
def bankSpares (c : Core) (b : Nat) : Nat :=
  (c.repairs.filter (fun r => r.kind == 0#8 && r.index.toNat / 16 == b)).length

/-- A quick BIST fault: covered by a spare column of its bank, else BISTF and BIST_FAIL, and SPARES_OUT for a column (R68, R375, R380). -/
def bistFault (c : Core) (f : BistFault) : Core :=
  if f.cls == 1#8 && c.bankSpares f.bank.val < 2 then
    c.addRepair { kind := 0#8, index := BitVec.ofNat 8 (f.bank.val * 16 + f.column.val),
                  detail := BitVec.ofNat 8 (c.bankSpares f.bank.val), origin := 1#8 }
  else
    let c := if f.cls == 1#8 then c.sparesOut 0#8 else c
    (({ c with rep := { c.rep with bistf := true } }).attnIf (!c.rep.bistf) 9).eventCustodian 0x02 [f.cls]

/-- The custodian key of an OTP: the key of its first programmed area (R445). -/
def custodianKey (o : Otp) : Option (List Byte) :=
  o.areas.findSome? (fun a => match a with
    | .programmed k => some k
    | .blank | .spoiled => none)

/-- Provisioning is open: no area programmed and an unspoiled one left (R365, R445). -/
def provisioningOpen (o : Otp) : Bool := (custodianKey o).isNone && o.areas.any (fun a => a == .blank)

/-- The two-copy records with neither copy valid (R396). -/
def lostRecords (c : Core) : List RecId := RecId.all.filter (fun r => !(c.pair r).a.sound && !(c.pair r).b.sound)

/-- The head of the telemetry ring as boot finds it: the slot after the record with the highest sequence number (R401). -/
def ringHead (ring : List (List Byte)) : BitVec 32 :=
  match ring with
  | [] => 0#32
  | r :: _ => BitVec.ofNat 32 (leAt r 0 4 + 1)

/-- A refresh buffer with a valid marker is copied back into the row it names, where NVM may be written (R80, R400). -/
def restoreRow (c : Core) : Core :=
  match c.nvm.refreshBuf with
  | none => c
  | some row =>
    if !c.nvmOk then c
    else
      let c := c.noteErase row
      { c with nvm := { c.nvm with refreshBuf := none } }

/-- What boot reads of NVM, once a row is restored from the refresh buffer: a record with neither copy valid takes its factory content
(R396), and the ring's head is found (R401). -/
def readNvm (c : Core) : Core :=
  let c := c.restoreRow
  let n := c.lostRecords.foldl (fun n r => n.take r Records.factory) c.nvm
  { c with nvm := { n with ringSeq := ringHead n.ring }, ten := n.tenants.map TenantSt.ofRec }

/-- Step B5: what OTP, NVM and the repair maps give (R327, R372, R396, R400, R401). -/
def readOtp (c : Core) (o : Otp) : Core :=
  let c := c.readNvm
  let map := match o.mapA, o.mapB with
    | some m, _ => m
    | none, some m => m
    | none, none => []
  let c := { c with
    otpc := { custodian := custodianKey o, provOpen := provisioningOpen o, tofs := o.tofs, tslope := o.tslope, combo := o.combo }
    keyProg := none
    hg := { c.hg with uid := o.uid, lowestRoot := o.uid, xtrim := o.xtrim }
    rep := { c.rep with factory := map } }
  c.repairs.foldl applyRepair c

/-- NVM_UNCORRECTABLE names each record that boot has given its factory content (R396). -/
def loadRecords (c : Core) : Core :=
  c.lostRecords.foldl (fun c r =>
    let row := (r.rows false).headD 0
    c.repairEvent 0x4B (Config.nvmRecordCode row :: le 2 row)) c

/-- The link record's settings reach the ports (R222). -/
def loadLinks (c : Core) : Core :=
  match c.nvm.linkRec with
  | none => c
  | some l => { c with lnk := c.lnk.zipIdx.map (fun x => { x.1 with cfg := l.getD x.2 LinkCfg.factory }) }

/-- TILE_RESET to every tenant (R69). -/
def tileReset (c : Core) (lost : List Byte) : Core :=
  (c.everyTenant.foldl (fun c t =>
    c.placeOwn t (eventBytes 0x01 [BitVec.ofNat 8 c.pw.cause.toNat, lost.getD t.val 0#8,
      if c.pw.cause == 7#3 then c.pw.holdKind else 0#8] c.hg.addr c.frame16)) c).modTele
    (fun x => { x with events := x.events + 1 })

/-- Steps B4 to B8 of BOOT, after what OTP gives is read (Table POWER-6). -/
def bootRest (c : Core) (faults : List BistFault) : Core :=
  let ok := c.ret.valid
  let lost := if ok then c.ret.lost else List.replicate 16 0#8
  let c := { c with ret := if ok then c.ret else { Retention.none with valid := true, cause := c.pw.cause } }
  let c := { c with hg := { c.hg with requested := c.ret.addr } }
  let sel := c.selectSlot
  let c := match sel with
    | none => { c.loadProfile Profile.factory with slot := none, gen := 0, image := [] }
    | some (s, p) => { c.loadProfile p with slot := some s, gen := (c.slotOf s).gen, image := (c.slotOf s).body }
  let c := { c with ret := { c.ret with slot := c.slot } }
  let c := ((c.loadLinks).modPw (fun p => { p with ready := true, refbuf := true })).attnIf c.pw.provPin 14
  let c := (c.tileReset lost).loadRecords
  let c := faults.foldl bistFault c
  let c := match sel with
    | none => c.eventCustodian 0x03 []
    | some (s, _) =>
      match c.rolledBack s with
      | none => c
      | some g => c.eventCustodian 0x04 (bvLe 4 (c.slotOf s).gen ++ bvLe 4 g)
  let c := c.regrade.latchRpr
  if c.isBare then c.setPhase .bare else c.enterStanding

/-- The OTP with its first unspoiled area that is not programmed changed (R445). -/
def firstBlank (o : Otp) (a : KeyArea) : Otp :=
  match (List.range o.areas.length).find? (fun i => o.areas[i]? == some .blank) with
  | some i => { o with areas := o.areas.set i a }
  | none => o

/-- The OTP after a boot: an area whose programming a reset or brown-out cut off is spoiled (R445). -/
def spoilOtp (o : Otp) (k : Option KeyProg) : Otp := if k.isSome then firstBlank o .spoiled else o

/-- Quick BIST faults, with class 5 where the OTP's own checks fail (R372, Table REPAIR-3). -/
def bootFaults (o : Otp) (l : List BistFault) : List BistFault :=
  if (o.mapA.isNone && o.mapB.isNone) || !o.uidCrcOk then l ++ [{ cls := 5#8, bank := 0, column := 0 }] else l

/-- A packet has waited in the relay buffer for 10 s of RTC (R273). -/
def relayOld (c : Core) (i : RelayItem) : Bool := decide (327680 ≤ (c.pw.rtc - i.came).toNat)

/-- Packets whose wait has run out in Doze or Watch are dropped at the wake (R273, R442). -/
def dropOld (c : Core) : Core :=
  let old := c.hg.relay.filter c.relayOld
  old.foldl (fun c i => if i.held.isSome then c else c.dropPacket i.bytes)
    { c with hg := { c.hg with relay := c.hg.relay.filter (fun i => !c.relayOld i) } }

/-- The wake's end: step W5 (Table POWER-4, R57, R319, R327, R329, R442). -/
def finishWake (c : Core) : Core :=
  let cs := c.pw.csWoke
  let t := c.pw.wakeTarget
  let c := c.modPw (fun p => { p with waking := false, csWoke := false, refbuf := true, refrdy := false,
                                      reqState := false, wakecnt := incSat p.wakecnt })
  let c := c.modTele (fun x => { x with wakes := x.wakes + 1 })
  let c := (c.goAwake (higher t c.floorPhase)).setPresence c.pw.provLow c.pw.provKeys
  let c := c.dropOld
  if cs then (c.hostFlag 7).attn 0 else c

/-- Reference periods that `hours` leave after a count. -/
def hoursLeft (c : Core) (since hours : Nat) : Nat := hours * 117964800 - (c.rep.rtcLong - since)

/-- Reference periods to the deadline of a background task that needs 800 MHz, its due time plus its maximum deferral (Table REPAIR-7,
R394); slice calibration counts Run time, and no deadline of it falls in Doze or Watch. -/
def deadline (c : Core) (task : Fin 5) : Option Nat :=
  match task with
  | 0 => none
  | 1 => some (c.hoursLeft (c.rep.doneAt.getD 0 0) 48)
  | 2 => some (c.hoursLeft (c.rep.doneAt.getD 1 0) 48)
  | 3 => (c.rep.refresh.map (fun r => c.hoursLeft r.2 24)).min?
  | 4 => some (c.hoursLeft (c.rep.doneAt.getD 2 0) 2)

/-- Reference periods to the earliest deadline (R394). -/
def nextDeadline (c : Core) : Nat := max 1 (((([0, 1, 2, 3, 4] : List (Fin 5)).filterMap c.deadline).min?).getD 1)

/-- A task is past due (R394): its bit of BGDEFER and DEFER_FORCED, once. -/
def pastDue (c : Core) (task : Fin 5) : Core :=
  if c.rep.bgdefer.getLsbD task.val then c
  else (Core.repairEvent { c with rep := { c.rep with bgdefer := c.rep.bgdefer ||| (1#5 <<< task.val) } } 0x51
    [BitVec.ofNat 8 (task.val + 1)])

/-- The tasks whose deadline has come are past due (R394): the wake is their forced slot. A daily self-test among them is due. -/
def deadlines (c : Core) : Core :=
  let due := ([0, 1, 2, 3, 4] : List (Fin 5)).filter (fun t => c.deadline t == some 0)
  let c := if due.contains 1 then { c with rep := { c.rep with testDue := true, bgDue := c.rep.bgDue ||| 2#5 } } else c
  due.foldl pastDue c

end Core

/-- OP returns to NORMAL, and TXBRK and the raw FIFOs to their reset values (R222, R332). -/
def LinkPort.toNormal (l : LinkPort) : LinkPort :=
  { l with op := 0#2, pendOp := none, txbrk := false, rxFifo := [], txFifo := [], rawOnLine := false, echoOut := false, echo := none }

/-- The port at the switch-over: its wake latch cleared, nothing on its receiver (Table POWER-4). -/
def LinkPort.disarm (l : LinkPort) : LinkPort :=
  { l with latch := false, woke := false, noHunt := false, inFrame := false, rxBytes := [], rxLong := false, rxBad := false, lowDoze := false }

namespace Core

/-- Step E3: CLK switches to the reference (Table POWER-4, R50, R61, R193, R207, R394). -/
def switchOver (c : Core) (target : Phase) (byReq : Bool) (comparators : BitVec 8) : Core :=
  let c := c.placeKeyRecs
  let c := { c with host := { c.host with attnHeld := c.attnLow } }.setPhase target
  let alarm := c.pw.rtc + BitVec.ofNat 32 c.nextDeadline
  let c := c.modPw (fun p =>
    { p with
      entry := none, waking := false, csWoke := false, wakeTarget := .doze, refbuf := false, refrdy := false,
      pump := false, reqState := byReq, alarm := alarm, alarmSet := true })
  { c with
    sar := { c.sar with cur := none, sysQ := [], userNext := none, userBegun := false, useq := c.sar.useqReg, urgent := c.sar.urgent.map (fun u =>
      { u with left := u.count, win := Tracker.code }) }
    keys := { c.keys with
      ladders := c.keys.ladders.zipIdx.map (fun s => { s.1 with armed := comparators.getLsbD s.2, latch := false })
      encs := c.keys.encs.map (fun e => { e with latch := false })
      caretaker := ComboSt.reset
      provision := ComboSt.reset }
    lnk := c.lnk.map (fun l => l.toNormal.disarm)
    acq := { c.acq with running := false, slot := none, watch := List.replicate 4 WatchGroup.reset, wgStep := 0,
                        wgAge := 0 } }

/-- Step E2 is complete: NVM and OTP idle, no acknowledged frame in flight, no deferred command, CS# high (Table
POWER-4, R320, R20). -/
def quiesced (c : Core) : Bool :=
  c.nvm.job.isNone && c.keyProg.isNone && c.host.txn.isNone && !c.host.csHeld && c.pk.deferred.isEmpty &&
  c.lnk.all (fun l => l.onLine.isNone) && c.hp.all (fun h => h.outstanding.isEmpty && h.wakeTry.isNone)

end Core

end Sys2Proof.Machine
end

