-- ==== Sys2Proof/Machine/Power.lean ====
section
/-!
DEFINITION. The commands of supply, reset, boot, wake and Doze entry (chapter 02; R409, R410, R413).
-/
namespace Sys2Proof.Machine

namespace Core

/-- The reset at a start from unpowered or from OFF: crystal starting, the holds as they stand (R64, R410). -/
def startPower (c : Core) (cause : BitVec 3) : Power :=
  { Power.reset with
    cause := cause, holdPin := c.pw.holdPin, holdTesten := c.pw.holdTesten, holdVio := c.pw.holdVio
    provLow := c.pw.provLow, provPin := c.pw.provLow }

/-- POWER_ON (R64). -/
def powerOn (c : Core) : Core :=
  c.when (c.pw.phase == .unpowered || (c.pw.phase == .off && !c.ret.valid && !c.pw.holdPin)) (fun c =>
    Core.inReset (c.startPower 0#3) Retention.none (nvmKept c.nvm) c.keyProg c.free)

/-- BROWN_OUT (R70, R81). -/
def brownOut (c : Core) : Core :=
  c.when c.powered (fun c =>
    let pw := { Power.reset with phase := .off, xtal := .absent, cause := c.pw.cause, holdPin := c.pw.holdPin,
                                 holdTesten := c.pw.holdTesten, holdVio := c.pw.holdVio, provLow := c.pw.provLow,
                                 provPin := c.pw.provLow, nvmInhibit := true }
    let ret := c.retained c.ret.cause
    Core.inReset pw { ret with boCount := incSat ret.boCount } (nvmKept c.nvm) c.keyProg c.free)

/-- BROWN_OUT_RECOVERY (R64, R410). -/
def brownOutRecovery (c : Core) : Core :=
  c.when (c.pw.phase == .off && !c.pw.holdPin) (fun c =>
    if c.ret.valid then
      Core.inReset (c.startPower 2#3) { c.ret with cause := 2#3 } (nvmKept c.nvm) c.keyProg c.free
    else Core.inReset (c.startPower 0#3) Retention.none (nvmKept c.nvm) c.keyProg c.free)

/-- NVM_INHIBIT (R80). -/
def setInhibit (c : Core) : Core := c.when c.powered (fun c => c.modPw (fun p => { p with nvmInhibit := true }))

/-- Combination B acts where NVM may be written: both commit markers are cleared, and the tile resets with cause 0x4
(R218). -/
def combinationB (c : Core) : Core :=
  c.when c.nvmOk (fun c =>
    let bare := fun (s : Slot) => ({ s with marker := none } : Slot)
    ({ c with nvm := { c.nvm with slotA := bare c.nvm.slotA, slotB := bare c.nvm.slotB } }).enterReset 4#3 0#8 c.pw.xtal)

/-- NVM_INHIBIT_CLEAR (R80, R374, R345, R218): waiting map entries are written, held packets are tried again, and a
combination B that waited acts. -/
def clearInhibit (c : Core) : Core :=
  c.when c.powered (fun c =>
    let c := c.modPw (fun p => { p with nvmInhibit := false })
    let c := c.saveMap.saveAlloc
    let c := c.when c.pw.phase.isAwake relayRetry
    c.when (c.keys.caretaker.held.any (fun t => decide (20000 ≤ t))) combinationB)

/-- RESET# low for 10 us (R410): a reset with cause 0x1; in OFF it only delays the recovery. -/
def resetPin (c : Core) : Core :=
  match c.pw.phase with
  | .unpowered => c
  | .off => c.modPw (fun p => { p with holdPin := true })
  | _ => (c.modPw (fun p => { p with holdPin := true })).enterReset 1#3 0#8 c.pw.xtal

/-- TESTEN high holds the reset; low ends the hold with cause 0x7 and kind 1 (R409). -/
def testen (c : Core) (high : Bool) : Core :=
  if high then
    match c.pw.phase with
    | .unpowered => c
    | .off => c.modPw (fun p => { p with holdTesten := true })
    | _ => (c.modPw (fun p => { p with holdTesten := true })).enterReset 7#3 1#8 c.pw.xtal
  else if c.pw.holdTesten then
    let c := c.modPw (fun p => { p with holdTesten := false })
    if c.pw.phase == .reset then
      { c with pw := { c.pw with cause := 7#3, holdKind := 1#8, linkQuiet := true }, ret := { c.ret with cause := 7#3 } }
    else c
  else c

/-- VIO absent holds the reset (R413). -/
def vioAbsent (c : Core) : Core :=
  match c.pw.phase with
  | .unpowered => c
  | .off => c.modPw (fun p => { p with holdVio := true })
  | _ => (c.modPw (fun p => { p with holdVio := true })).enterReset 7#3 0#8 c.pw.xtal

/-- VIO present ends the hold with cause 0x7 and kind 0 (R413). -/
def vioPresent (c : Core) : Core :=
  c.when c.pw.holdVio (fun c =>
    let c := c.modPw (fun p => { p with holdVio := false })
    if c.pw.phase == .reset then
      { c with pw := { c.pw with cause := 7#3, holdKind := 0#8, linkQuiet := true }, ret := { c.ret with cause := 7#3 } }
    else c)

/-- REFLOSS (R48). -/
def refloss (c : Core) : Core := c.when (c.powered && c.pw.xtal == .running) (fun c => c.enterReset 5#3 0#8 .absent)

/-- REFERENCE_QUALIFIED (R66). -/
def qualified (c : Core) : Core :=
  c.when (c.pw.phase == .reset && c.pw.xtal != .running) (fun c => (c.modPw (fun p => { p with xtal := .running })).tryBoot)

/-- RESET_RELEASE: RESET# rises, or the tile's own reset ends (R66, R410). -/
def release (c : Core) : Core := (c.modPw (fun p => { p with holdPin := false })).tryBoot

/-- REFRDY (R193, R195, Table REGS-2): the system sequence runs from that tick, with a monitor burst. -/
def refReady (c : Core) : Core :=
  c.when (c.pw.refbuf && !c.pw.refrdy) (fun c =>
    let c := (c.modPw (fun p => { p with refrdy := true })).attn 7
    let c := { c with keys := { c.keys with ladders := c.keys.ladders.map (fun l : LadderSt => ({ l with seen := false } : LadderSt)) } }
    (c.modSar (fun s => { s with burstDue := true })).sysRun)

/-- A ladder serves: its mode is not OFF, or it is a combination ladder (R195, R220). -/
def ladderInUse (c : Core) (l : Ladder) : Bool :=
  c.prof.lMode l.val != 0 || l == c.otpc.combo.ctLadder || l == c.otpc.combo.pvLadder

/-- A ladder. -/
def ladder (c : Core) (l : Ladder) : LadderSt := c.keys.ladders.getD l.val LadderSt.reset

/-- Change a ladder. -/
def modLadder (c : Core) (l : Ladder) (f : LadderSt → LadderSt) : Core :=
  { c with keys := { c.keys with ladders := modifyAt c.keys.ladders l.val f } }

/-- Change an encoder. -/
def modEnc (c : Core) (e : Fin 2) (f : Encoder → Encoder) : Core :=
  { c with keys := { c.keys with encs := modifyAt c.keys.encs e.val f } }

/-- CS_WAKE (R47, R319). -/
def csWake (c : Core) : Core :=
  c.when c.pw.phase.isAsleep (fun c =>
    ({ c with host := { c.host with csHeld := true } }).wakeSource (bitMask 0) .run true)

/-- LINK_START_EDGE_WAKE (R47, R62, R63, R242): the receiver does not hunt until the line has been high. -/
def linkWake (c : Core) (p : Port) : Core :=
  let l := c.port p
  c.when (c.pw.phase.isAsleep && l.mon == .live && l.cfg.mode != 0#2 && !l.sevMask && !l.noiseMask) (fun c =>
    (c.modPort p (fun l => { l with latch := true, noHunt := true })).wakeSource (bitMask 1 ||| bitMask (8 + p.val)) .quiet false)

/-- LADDER_WAKE (R207, R208). -/
def ladderWake (c : Core) (l : Ladder) : Core :=
  c.when (c.pw.phase.isAsleep && c.ladderInUse l && (c.ladder l).armed && !(c.ladder l).masked) (fun c =>
    (c.modLadder l (fun s => { s with latch := true })).wakeSource (bitMask 2) .quiet false)

/-- ENCODER_EDGE_WAKE (R214). -/
def encoderWake (c : Core) (e : Fin 2) : Core :=
  c.when (c.pw.phase.isAsleep && c.prof.encEn e.val) (fun c =>
    (c.modEnc e (fun s => { s with latch := true })).wakeSource (bitMask 3) .quiet false)

/-- A MAINT frame is due (Table POWER-3). -/
def maintIsDue (c : Core) : Bool := c.rep.testDue || c.rep.selftest.isSome || !c.acq.maintDue.isEmpty

/-- RTC_ALARM (R46, R394, Table POWER-3): RTC stands at the alarm. -/
def alarm (c : Core) : Core :=
  c.when (c.pw.phase.isAsleep && c.pw.alarmSet) (fun c =>
    let n := (c.pw.alarm - c.pw.rtc).toNat
    let c := { c with rep := { c.rep with rtcLong := c.rep.rtcLong + n, lifeT := c.rep.lifeT + n } }
    let c := (c.modPw (fun p => { p with rtc := p.alarm, alarmSet := false })).deadlines
    c.wakeSource (bitMask 4) (if c.maintIsDue then .run else .quiet) false)

/-- DOZE_ENTRY_SWITCHOVER (R61). -/
def switchover (c : Core) (comparators : BitVec 8) : Core :=
  match c.pw.entry with
  | none => c
  | some e => c.when (c.pw.phase.isAwake && c.quiesced) (fun c => c.switchOver e.target e.byReq comparators)

/-- DOZE_ENTRY_ABANDON (R60). -/
def abandonEntry (c : Core) : Core :=
  c.when (c.pw.phase.isAwake && c.pw.entry.isSome) (fun c =>
    c.modPw (fun p => { p with retry := p.entry, entry := none }))

/-- DOZE_ENTRY_RETRY (R60): in Run the decision falls at the next boundary. An idle entry below a FLOOR that has been raised since is
given up (R53). DESIGN CHOICE (log 32): a tile that has gone from Quiet to Run meanwhile tries again from Run. -/
def retryEntry (c : Core) : Core :=
  match c.pw.retry with
  | none => c
  | some e =>
    c.when (c.pw.phase.isAwake && c.pw.entry.isNone) (fun c =>
      if c.pw.phase != .bare && !e.byReq && c.keptBelowFloor e.target then c.modPw (fun p => { p with retry := none })
      else if c.pw.phase == .run then
        c.modPw (fun p => if e.byReq then { p with retry := none, req := e.target.code } else { p with retry := none, idleDue := true })
      else c.decideEntry e.target e.byReq)

/-- The state the idle rules lead to: STANDING, or FLOOR where it is higher (R53). -/
def idleTarget (c : Core) : Phase := higher c.standingPhase c.floorPhase

/-- A command holds the tile in Run (R36): a seek, a fingerprint or a self-test that waits for its end. -/
def heldByCommand (c : Core) : Bool :=
  c.node.seek.isSome || c.rep.finger.isSome || c.rep.fingerWait.isSome || c.rep.testCtx.isSome ||
  c.rep.selftest.any (fun r => r.ctx.isSome)

/-- RUN_IDLE_ELAPSED (R36): no contact, no hover, no command that holds Run, and a state below Run to return to. -/
def runIdle (c : Core) : Core :=
  c.when (c.pw.phase == .run && c.pw.entry.isNone && !c.trk.contacts.any (fun k => !k.isCand) && c.trk.hover.isNone &&
      !c.heldByCommand && c.idleTarget != .run) (fun c =>
    c.modPw (fun p => { p with idleDue := true }))

/-- A key holds the tile in Quiet: not IDLE and not reported STUCK (R209). -/
def keyHolds (l : LadderSt) : Bool := l.keys.any (fun k => k.st != .idle && !k.stuck)

/-- A ladder in use holds the tile in Quiet (R209): outside its idle window with no STUCK key, or a key not IDLE. -/
def ladderHolds (c : Core) (l : Ladder) : Bool :=
  c.ladderInUse l && (((c.ladder l).outside && !(c.ladder l).keys.any (fun k => k.stuck)) || keyHolds (c.ladder l))

/-- QUIET_IDLE_ELAPSED (R53, R209, R286). -/
def quietIdle (c : Core) : Core :=
  c.when (c.pw.phase == .quiet && c.pw.entry.isNone && c.idleTarget.isAsleep && !c.panelRuns &&
      !([0, 1, 2, 3, 4, 5, 6, 7] : List Ladder).any c.ladderHolds) (fun c => c.decideEntry c.idleTarget false)

/-- BARE_IDLE_ELAPSED (R55, R286, Table POWER-2). -/
def bareIdle (c : Core) : Core :=
  c.when (c.pw.phase == .bare && c.pw.entry.isNone && !c.panelRuns) (fun c => c.decideEntry .doze false)

end Core

/-- The PLL locks: BOOT runs to its end, or a wake reaches 800 MHz (R44, R67). -/
def pllLock (bist : List BistFault) (s : State) : State :=
  match s.core.pw.phase with
  | .boot =>
    let otp := Core.spoilOtp s.otp s.core.keyProg
    { s with otp := otp, core := s.core.after ((s.core.readOtp otp).bootRest (Core.bootFaults otp bist)) }
  | .doze | .watch => { s with core := s.core.after (if s.core.pw.waking then s.core.finishWake else s.core) }
  | .unpowered | .off | .reset | .bare | .quiet | .run => { s with core := s.core.latch }

/-- POWER_ON. -/
def execPowerOn (s : State) : Host.Outcome State Fault Refusal := onCore Core.powerOn s
/-- BROWN_OUT. -/
def execBrownOut (s : State) : Host.Outcome State Fault Refusal := onCore Core.brownOut s
/-- BROWN_OUT_RECOVERY. -/
def execBrownOutRecovery (s : State) : Host.Outcome State Fault Refusal := onCore Core.brownOutRecovery s
/-- NVM_INHIBIT. -/
def execNvmInhibit (s : State) : Host.Outcome State Fault Refusal := onCore Core.setInhibit s
/-- NVM_INHIBIT_CLEAR. -/
def execNvmInhibitClear (s : State) : Host.Outcome State Fault Refusal := onCore Core.clearInhibit s
/-- RESET_PIN. -/
def execResetPin (s : State) : Host.Outcome State Fault Refusal := onCore Core.resetPin s
/-- TESTEN_HOLD. -/
def execTestenHold (high : Bool) (s : State) : Host.Outcome State Fault Refusal := onCore (fun c => c.testen high) s
/-- VIO_ABSENT. -/
def execVioAbsent (s : State) : Host.Outcome State Fault Refusal := onCore Core.vioAbsent s
/-- VIO_PRESENT. -/
def execVioPresent (s : State) : Host.Outcome State Fault Refusal := onCore Core.vioPresent s
/-- REFLOSS. -/
def execRefloss (s : State) : Host.Outcome State Fault Refusal := onCore Core.refloss s
/-- REFERENCE_QUALIFIED. -/
def execReferenceQualified (s : State) : Host.Outcome State Fault Refusal := onCore Core.qualified s
/-- RESET_RELEASE. -/
def execResetRelease (s : State) : Host.Outcome State Fault Refusal := onCore Core.release s
/-- PLL_LOCK. -/
def execPllLock (bist : List BistFault) (s : State) : Host.Outcome State Fault Refusal := .next (pllLock bist s)
/-- LINK_QUIET_END (R65). -/
def execLinkQuietEnd (s : State) : Host.Outcome State Fault Refusal :=
  onCore (fun c => c.modPw (fun p => { p with linkQuiet := false })) s
/-- REFRDY. -/
def execRefrdy (s : State) : Host.Outcome State Fault Refusal := onCore Core.refReady s
/-- CS_WAKE. -/
def execCsWake (s : State) : Host.Outcome State Fault Refusal := onCore Core.csWake s
/-- LINK_START_EDGE_WAKE. -/
def execLinkStartEdgeWake (p : Port) (s : State) : Host.Outcome State Fault Refusal := onCore (fun c => c.linkWake p) s
/-- LADDER_WAKE. -/
def execLadderWake (l : Ladder) (s : State) : Host.Outcome State Fault Refusal := onCore (fun c => c.ladderWake l) s
/-- ENCODER_EDGE_WAKE. -/
def execEncoderEdgeWake (e : Fin 2) (s : State) : Host.Outcome State Fault Refusal := onCore (fun c => c.encoderWake e) s
/-- RTC_ALARM. -/
def execRtcAlarm (s : State) : Host.Outcome State Fault Refusal := onCore Core.alarm s
/-- DOZE_ENTRY_SWITCHOVER. -/
def execDozeEntrySwitchover (comparators : BitVec 8) (s : State) : Host.Outcome State Fault Refusal :=
  onCore (fun c => c.switchover comparators) s
/-- DOZE_ENTRY_ABANDON. -/
def execDozeEntryAbandon (s : State) : Host.Outcome State Fault Refusal := onCore Core.abandonEntry s
/-- DOZE_ENTRY_RETRY. -/
def execDozeEntryRetry (s : State) : Host.Outcome State Fault Refusal := onCore Core.retryEntry s
/-- RUN_IDLE_ELAPSED. -/
def execRunIdleElapsed (s : State) : Host.Outcome State Fault Refusal := onCore Core.runIdle s
/-- QUIET_IDLE_ELAPSED. -/
def execQuietIdleElapsed (s : State) : Host.Outcome State Fault Refusal := onCore Core.quietIdle s
/-- BARE_IDLE_ELAPSED. -/
def execBareIdleElapsed (s : State) : Host.Outcome State Fault Refusal := onCore Core.bareIdle s

end Sys2Proof.Machine
end

