-- ==== Sys2Proof/Machine/Controls.lean ====
section
/-!
DEFINITION. The commands of the SAR converter, key ladders, encoders and hardware combinations (chapter 06).
-/
namespace Sys2Proof.Machine

/-- A sample presented to a tracker and its accumulator (R122). -/
def Tracker.add (t : Tracker) (x : Int) : Tracker :=
  { mn := min t.mn x, mx := max t.mx x, count := satCount 16 (t.count + 1), sum := t.sum + x, isEmpty := false }

/-- Tops of the SINGLE windows (Table KEY-4). -/
def singleTops : List Nat := [227, 455, 682, 910, 1137, 1365, 1592, 1820]

/-- Lowest codes of the COMBO windows by pressed mask (Table KEY-5). -/
def comboLows : List Nat := [1984, 1864, 1757, 1662, 1577, 1500, 1430, 1367, 1308, 1255, 1206, 1160, 1118, 1079, 1042, 1007]

/-- The mask of a ladder code by windows with the given tops: the first key whose top reaches it (R206). -/
def decodeTops (tops : List Nat) (code : Nat) : Nat :=
  match (List.range 8).find? (fun i => decide (code ≤ tops.getD i 0)) with
  | some i => 2 ^ i
  | none => 0

/-- The pressed mask a code decodes to in a mode, none for an invalid sample (R204 to R206). -/
def decodeKeys (mode : Nat) (bounds : List Nat) (code : Nat) : Option Nat :=
  if 2100 < code then none
  else match mode with
    | 1 => some (decodeTops singleTops code)
    | 2 => (List.range 16).find? (fun m => decide (comboLows.getD m 0 ≤ code))
    | 3 => some (decodeTops bounds code)
    | _ => none

/-- What a sample does to a key besides its state: PRESS, or RELEASE with its hold time (Table KEY-7). -/
inductive KeyEdge where
  | press
  | release (hold : Nat)
  deriving DecidableEq, Repr

/-- The state machine of Table KEY-7 for one sample: pressed, not pressed, or invalid. The hold timer counts in
steps of KEY_PERIOD. -/
def KeySt.sample (k : KeySt) (p : Profile) (pressed : Option Bool) : KeySt × Option KeyEdge :=
  let down : KeySt := { KeySt.rest with st := .pressed }
  let on := k.hold + p.keyPeriod
  match k.st, pressed with
  | .idle, some true => if p.pressN ≤ 1 then (down, some .press) else ({ KeySt.rest with st := .pendP, n := 1 }, none)
  | .idle, _ => (k, none)
  | .pendP, some true => if p.pressN ≤ k.n + 1 then (down, some .press) else ({ k with n := k.n + 1 }, none)
  | .pendP, _ => (KeySt.rest, none)
  | .pressed, some false =>
    if p.releaseN ≤ 1 then (KeySt.rest, some (.release on))
    else ({ k with st := .pendR, n := 1, hold := on, relHold := on }, none)
  | .pressed, _ => ({ k with hold := on }, none)
  | .pendR, some false =>
    if p.releaseN ≤ k.n + 1 then (KeySt.rest, some (.release k.relHold)) else ({ k with n := k.n + 1, hold := on }, none)
  | .pendR, _ => ({ k with st := .pressed, n := 0, hold := on }, none)

/-- One sample through the fixed debounce of the combinations: 20 ms press, 40 ms release (R217). -/
def ComboKey.sample (k : ComboKey) (period : Nat) (pressed : Option Bool) : ComboKey :=
  match pressed with
  | none => { k with run := 0 }
  | some b =>
    if b == k.pressed then { k with run := 0 }
    else
      let need := ((if b then 20 else 40) + period - 1) / period
      if need ≤ k.run + 1 then { pressed := b, run := 0 } else { k with run := k.run + 1 }

/-- A combination pair takes one sample (R217): held while both keys and no other are pressed, timed from the sample
at which both are first pressed together. -/
def ComboSt.sample (s : ComboSt) (period : Nat) (a b : Key) (mask : Option Nat) : ComboSt :=
  let keys := s.keys.zipIdx.map (fun k => k.1.sample period (mask.map (fun m => m.testBit k.2)))
  let on := fun (i : Nat) => (keys[i]?).any (fun k => k.pressed)
  let other := (List.range 8).any (fun i => i != a.val && i != b.val && on i)
  let held := on a.val && on b.val && !other
  let raw := mask.any (fun m => m.testBit a.val && m.testBit b.val)
  let both := if other || !(raw || held) then none else some ((s.both.map (fun t => t + period)).getD 0)
  { keys := keys, both := both, held := if held then both else none,
    done := if !held && !other then s.held.map (fun t => t + period) else none }

namespace Core

/-- The decode mode in force on a ladder: L_MODE, or for a combination ladder whose L_MODE is OFF, or any in BARE, its
OTP mode (R220). -/
def ladderMode (c : Core) (l : Ladder) : Nat :=
  if c.prof.lMode l.val != 0 && c.pw.phase != .bare then c.prof.lMode l.val
  else if l == c.otpc.combo.ctLadder then c.otpc.combo.ctMode.toNat
  else if l == c.otpc.combo.pvLadder then c.otpc.combo.pvMode.toNat else 0

/-- The CUSTOM bounds of a ladder. -/
def ladderBounds (c : Core) (l : Ladder) : List Nat := (List.range 8).map (fun i => c.prof.bound l.val i)

/-- One key takes a sample: PRESS and RELEASE records, and a confirmed press ends the ladder's mask (R208, R210). -/
def keySample (c : Core) (l : Ladder) (m : Option Nat) (k : Key) : Core :=
  let old := (c.ladder l).keys.getD k.val KeySt.rest
  let (new, e) := old.sample c.prof (m.map (fun m => m.testBit k.val))
  let c := c.modLadder l (fun s => { s with keys := s.keys.set k.val new })
  match e with
  | none => c
  | some .press =>
    let c := (c.modLadder l (fun s => { s with masked := false })).modTele (fun x => { x with presses := x.presses + 1 })
    c.keyRecord 0 l k false (keyMask (c.ladder l)) 0
  | some (.release hold) => c.keyRecord 1 l k false (keyMask (c.ladder l)) hold

/-- The combinations take the sample of their ladders (R217): under the OTP modes; DEDUCED (log 17): CUSTOM with its
factory bounds. -/
def comboSample (c : Core) (l : Ladder) (code : Nat) : Core :=
  let o := c.otpc.combo
  let at_ := fun (mode : BitVec 2) => decodeKeys mode.toNat singleTops code
  let ct := if l == o.ctLadder then c.keys.caretaker.sample c.prof.keyPeriod o.ctKeyA o.ctKeyB (at_ o.ctMode) else c.keys.caretaker
  let pv := if l == o.pvLadder then c.keys.provision.sample c.prof.keyPeriod o.pvKeyA o.pvKeyB (at_ o.pvMode) else c.keys.provision
  { c with keys := { c.keys with caretaker := ct, provision := pv } }

/-- A ladder conversion reaches the decoder (R204, R208 to R210): leaving the idle window before step E3 aborts a
Doze entry (R58). -/
def ladderSample (c : Core) (l : Ladder) (code : Nat) : Core :=
  let m := decodeKeys (c.ladderMode l) (c.ladderBounds l) code
  let out := m != some 0
  let left := out && !(c.ladder l).outside
  let c := c.modLadder l (fun s =>
    { s with invalid := m.isNone, outside := out, lfault := s.lfault && m.isNone, seen := s.seen || m.any (fun x => x != 0) })
  let c := if c.prof.lMode l.val != 0 && c.pw.phase != .bare then
      ([0, 1, 2, 3, 4, 5, 6, 7] : List Key).foldl (fun c k => c.keySample l m k) c
    else c
  (c.comboSample l code).when (left && c.pw.phase.isAwake && !(c.ladder l).masked) (fun c => c.wakeSource (bitMask 2) .quiet false)

/-- Die temperature from a TEMP sum of four conversions (R200). -/
def dieTemp (c : Core) (c4 : Int) : Int := sat (rhu ((c4 - 4 * c.otpc.tofs) * c.otpc.tslope) 14) 12

/-- A monitor burst is complete: VBAT, die temperature and the reference check (R200 to R202, Table REPAIR-9). -/
def burstDone (c : Core) : Core :=
  let sum := fun (i : Nat) => (c.sar.monView.getD i Tracker.code).sum
  let c16 := sum 0
  let mv := rhu (c16 * 75) 9
  let td := c.dieTemp (sum 3)
  let ref := sum 4
  let bad := decide (41 < (ref - 4096).natAbs)
  let newBad := bad && !c.sar.refFault
  let enter := !c.pw.batLow && decide (c16 < 16384)
  let leave := decide (16726 ≤ c16)
  let c := c.modSar (fun s =>
    { s with vbatmv := BitVec.ofInt 16 mv, tdie := td, refFault := bad,
             tdExit := if s.burstExit && !s.burstDue then some td else s.tdExit, burstExit := s.burstExit && s.burstDue })
  let c := c.modTele (fun x =>
    { x with vbatLow := some (min (x.vbatLow.getD mv.toNat) mv.toNat), tdLow := some (min (x.tdLow.getD td) td),
             tdHigh := some (max (x.tdHigh.getD td) td) })
  let c := c.modPw (fun p => { p with batLow := (p.batLow || enter) && !leave })
  let c := if enter then (c.attn 8).eventTo c.diagTenants 0x05 (leInt 2 mv) else c
  let c := if newBad then
      (c.repairEvent 0x4F (leInt 2 ref)).addFault (Config.faultCode 6).toNat 0 (Config.faultCode 22).toNat 6 0
    else c
  c.regrade

/-- Conversions of a monitor channel in a burst (R195). -/
def monitorCount (ch : Nat) : Nat := if ch == 8 then 16 else 4

/-- A monitor conversion (Table KEY-3). -/
def monitorSample (c : Core) (ch code : Nat) : Core :=
  let i := ch - 8
  let t := (c.sar.mon.getD i Tracker.code).add code
  if t.count < monitorCount ch then c.modSar (fun s => { s with mon := s.mon.set i t })
  else
    let c := c.modSar (fun s => { s with mon := s.mon.set i Tracker.code, monView := s.monView.set i t })
    if ch == 12 then c.burstDone else c

/-- One channel's sum of four DACMON conversions enters the frame's channel check, and the next is asked for: each channel at D = +1 024 and
then at D = -1 024 (R381). -/
def monitorDac (c : Core) (tag : Nat) (sum : Nat) : Core :=
  let set := fun (k : ChannelCheck) => if tag % 2 == 0 then { k with high := some sum } else { k with low := some sum }
  let d := { c with acq := { c.acq with checks := modifyAt c.acq.checks (tag / 2) set } }
  if tag + 1 < 2 * d.acq.checks.length then d.urgent .repair 13 4 (tag + 1) else d

/-- An urgent request is complete: a host request sets SARDONE, the tile's TEMP request gives TD_now (R200), and the repair manager's go
to the channel check (R381). -/
def urgentDone (c : Core) (u : UrgReq) : Core :=
  match u.who with
  | .host => c.attn 6
  | .tile => if u.chan == 11 then c.modSar (fun s => { s with tdNow := some (c.dieTemp u.win.sum) }) else c
  | .repair => c.monitorDac u.tag u.win.sum.toNat

/-- A user-sequence conversion of an entry (R194, Table KEY-3): discarded where REFRDY was 0 at its start. -/
def userSample (c : Core) (i code : Nat) (ready : Bool) : Core :=
  let ch := c.sar.useq.entries.getD i 0
  let t := (c.sar.usr.getD ch Tracker.code).add code
  let c := if !ready then c.modSar (fun s => { s with refNotReady := true })
    else if t.count < 2 ^ c.sar.useq.accLog then c.modSar (fun s => { s with usr := s.usr.set ch t })
    else (c.modSar (fun s => { s with usr := s.usr.set ch Tracker.code, usrView := s.usrView.set ch t })).attn 6
  if i + 1 < c.sar.useq.len then c.modSar (fun s => { s with userNext := some (i + 1) })
  else c.modSar (fun s => { s with userNext := none, userBegun := false, useq := s.useqReg })

/-- SAR_CONVERSION_DONE (R198): the result enters its tracker, and the next ready conversion starts. -/
def convDone (c : Core) (code : Nat) : Core :=
  let free := c.modSar (fun s => { s with cur := none })
  match c.sar.cur with
  | none => c
  | some .urgent =>
    match c.sar.urgent with
    | [] => free.sarStart
    | u :: rest =>
      let u := { u with left := u.left - 1, win := u.win.add code }
      if u.left == 0 then
        let done := free.modSar (fun s => ({ s with urgent := rest, urgView := s.urgView.set u.who.order u.win } : Sar).refill)
        (done.urgentDone u).sarStart
      else (free.modSar (fun s => { s with urgent := u :: rest })).sarStart
  | some (.sys (.ladder l)) =>
    ((free.modSar (fun s => { s with decode := s.decode.set l.val (Tracker.code.add code) })).ladderSample l code).sarStart
  | some (.sys (.monitor ch)) => (free.monitorSample ch code).sarStart
  | some (.user i ready) => (free.userSample i code ready).sarStart

/-- A user-sequence run becomes due: it starts, or is skipped with USEQ_OVERRUN (R196). -/
def userRun (c : Core) : Core :=
  if c.sar.useq.len == 0 then c
  else if c.sar.userNext.isSome then c.modSar (fun s => { s with overrun := true })
  else (c.modSar (fun s => { s with userNext := some 0 })).sarStart

/-- A key is down: PRESSED or PEND_R, on a ladder that reads keys (R204, R220). -/
def keyDown (c : Core) (l : Ladder) (k : Key) : Bool :=
  ((c.ladder l).keys[k.val]?).any (fun x => x.st == .pressed || x.st == .pendR) && c.pw.phase.isAwake &&
  c.prof.lMode l.val != 0

/-- Change a key. -/
def modKey (c : Core) (l : Ladder) (k : Key) (f : KeySt → KeySt) : Core :=
  c.modLadder l (fun s => { s with keys := modifyAt s.keys k.val f })

/-- The hold timer of a key. -/
def keyHold (c : Core) (l : Ladder) (k : Key) : Nat := ((c.ladder l).keys.getD k.val KeySt.rest).hold

/-- KEY_LONG (R211): the hold timer stands at LONG_MS. -/
def keyLong (c : Core) (l : Ladder) (k : Key) : Core :=
  c.when (c.keyDown l k && c.prof.longMs != 0 && !((c.ladder l).keys.getD k.val KeySt.rest).long) (fun c =>
    let c := c.modKey l k (fun x => { x with hold := max x.hold c.prof.longMs, long := true })
    c.keyRecord 2 l k false (keyMask (c.ladder l)) (c.keyHold l k))

/-- KEY_STUCK (R211): the hold timer stands at STUCK_S. -/
def keyStuck (c : Core) (l : Ladder) (k : Key) : Core :=
  c.when (c.keyDown l k && !((c.ladder l).keys.getD k.val KeySt.rest).stuck) (fun c =>
    let first := !(c.ladder l).keys.any (fun x => x.stuck)
    let c := c.modKey l k (fun x => { x with hold := max x.hold (1000 * c.prof.stuckS), stuck := true })
    ((c.keyRecord 3 l k false (keyMask (c.ladder l)) (c.keyHold l k)).attnIf first 12).eventCustodian 0x0B
      [BitVec.ofNat 8 l.val, BitVec.ofNat 8 k.val])

/-- LADDER_FAULT (R204): the codes have been invalid for 1 s. -/
def ladderFault (c : Core) (l : Ladder) : Core :=
  c.when ((c.ladder l).invalid && !(c.ladder l).lfault && c.pw.phase.isAwake) (fun c =>
    ((c.modLadder l (fun s => { s with lfault := true })).attn 12).eventCustodian 0x0A [BitVec.ofNat 8 l.val])

/-- LADDER_ARM (R207). -/
def ladderArm (c : Core) (l : Ladder) : Core :=
  c.when c.pw.phase.isAsleep (fun c => c.modLadder l (fun s => { s with armed := true }))

/-- LADDER_WAKE_SPURIOUS (R208): sixteen within 3 600 s of RTC mask the ladder's wake. -/
def ladderSpurious (c : Core) (l : Ladder) : Core :=
  c.when (c.pw.phase.isAwake && (c.ladder l).latch && !(c.ladder l).seen) (fun c =>
    let recent := ((c.ladder l).spurious.filter (fun t => decide ((c.pw.rtc - t).toNat ≤ 117964800))) ++ [c.pw.rtc]
    if 16 ≤ recent.length then
      (c.modLadder l (fun s => { s with latch := false, masked := true, spurious := [] })).eventCustodian 0x0C
        [BitVec.ofNat 8 l.val]
    else c.modLadder l (fun s => { s with latch := false, spurious := recent }))

/-- The next state of a quadrature encoder in forward rotation, A in bit 1 (chapter 06). -/
def quadNext (s : BitVec 2) : BitVec 2 :=
  if s = 0#2 then 2#2 else if s = 2#2 then 3#2 else if s = 3#2 then 1#2 else 0#2

/-- A rest state for the edges per detent (R215). -/
def isRest (p : Profile) (s : BitVec 2) : Bool :=
  p.encEpd == 1 || s == p.encRest || (p.encEpd == 2 && s == p.encRest ^^^ 3#2)

/-- An encoder takes an accepted level (R215). -/
def Encoder.take (e : Encoder) (p : Profile) (s : BitVec 2) : Encoder :=
  if s = e.lvl then e
  else if s = e.lvl ^^^ 3#2 then { e with lvl := s, q := 0, err := true, errStat := true }
  else
    let q := if s = quadNext e.lvl then e.q + 1 else e.q - 1
    let d : Int := if q == (p.encEpd : Int) then 1 else if q == -(p.encEpd : Int) then -1 else 0
    let d := if p.encInv then -d else d
    if isRest p s then { e with lvl := s, q := 0, net := e.net + d, pos := e.pos + BitVec.ofInt 32 d }
    else { e with lvl := s, q := q }

/-- An encoder. -/
def enc (c : Core) (e : Fin 2) : Encoder := c.keys.encs.getD e.val Encoder.reset

/-- ENCODER_TRANSITION (R214, R215): in every state but OFF and reset; before step E3 the edge aborts a Doze entry
(R58). -/
def encoderStep (c : Core) (e : Fin 2) (a b : Bool) : Core :=
  c.when (c.powered && c.pw.phase != .reset && c.prof.encEn e.val) (fun c =>
    let s : BitVec 2 := BitVec.ofNat 2 (2 * bit a + bit b)
    let old := c.enc e
    let new := Encoder.take old c.prof s
    let c := (c.modEnc e (fun _ => new)).modTele (fun x =>
      { x with detents := x.detents + bit (new.pos != old.pos) })
    c.when (c.pw.phase.isAwake && s != old.lvl) (fun c => c.wakeSource (bitMask 3) .quiet false))

/-- An encoder's net detents become a record for each tenant of its binding (R216). -/
def encoderRecord (c : Core) (e : Fin 2) : Core :=
  let s := c.enc e
  c.when (s.net != 0) (fun c =>
    let b := encoderBytes e.val s.err s.net s.pos c.hg.addr c.frame16
    (maskTenants (c.prof.encBind e.val)).foldl (fun c t => c.placeEncoder t b c.hg.fc)
      (c.modEnc e (fun s => { s with net := 0, err := false })))

/-- The encoder records of a REPORT slot (R216). -/
def encoderRecords (c : Core) : Core := ([0, 1] : List (Fin 2)).foldl encoderRecord c

/-- COMBINATION_A (R218): the pair has just been released after at least 8 s and less than 20 s. -/
def combA (c : Core) : Core :=
  c.when (c.pw.phase.isAwake && c.keys.caretaker.done.any (fun t => decide (8000 ≤ t) && decide (t < 20000)))
    (fun c => c.enterReset 3#3 0#8 c.pw.xtal)

/-- A pair's hold reaches a time before its next sample (R217, R218, R219). -/
def ComboSt.reaches (s : ComboSt) (period ms : Nat) : Bool := s.held.any (fun t => decide (ms < t + period))

/-- COMBINATION_B (R218): the pair has been held for 20 s; it waits while NVM writes are inhibited. -/
def combB (c : Core) : Core :=
  c.when (c.pw.phase.isAwake && ComboSt.reaches c.keys.caretaker c.prof.keyPeriod 20000) (fun c =>
    let t := max 20000 (c.keys.caretaker.held.getD 0)
    let k := { c.keys.caretaker with held := some t, both := some t }
    ({ c with keys := { c.keys with caretaker := k } }).combinationB)

/-- PROVISIONING_HOLD (R219). -/
def provHold (c : Core) : Core :=
  c.when (c.pw.phase.isAwake && ComboSt.reaches c.keys.provision c.prof.keyPeriod (1000 * c.otpc.combo.pvHold))
    (fun c => c.setPresence c.pw.provPin true)

end Core

/-- SAR_CONVERSION_DONE. -/
def execSarConversionDone (code : BitVec 12) (s : State) : Host.Outcome State Fault Refusal :=
  onCore (fun c => c.when c.pw.phase.isAwake (fun c => c.convDone code.toNat)) s
/-- BATTERY_LOW_REPEAT (Table POWER-8). -/
def execBatteryLowRepeat (s : State) : Host.Outcome State Fault Refusal :=
  onCore (fun c => c.when c.pw.batLow (fun c => c.eventTo c.diagTenants 0x05 (bvLe 2 c.sar.vbatmv))) s
/-- SYSTEM_SEQUENCE_RUN (R195). -/
def execSystemSequenceRun (s : State) : Host.Outcome State Fault Refusal :=
  onCore (fun c => c.when (c.pw.phase.isAwake && c.pw.refrdy) Core.sysRun) s
/-- USER_SEQUENCE_RUN (R196): each USEQ_PERIOD. -/
def execUserSequenceRun (s : State) : Host.Outcome State Fault Refusal :=
  onCore (fun c => c.when (c.pw.phase.isAwake && c.sar.useq.period != 0) Core.userRun) s
/-- KEY_LONG. -/
def execKeyLong (l : Ladder) (k : Key) (s : State) : Host.Outcome State Fault Refusal := onCore (fun c => c.keyLong l k) s
/-- KEY_STUCK. -/
def execKeyStuck (l : Ladder) (k : Key) (s : State) : Host.Outcome State Fault Refusal := onCore (fun c => c.keyStuck l k) s
/-- LADDER_FAULT. -/
def execLadderFault (l : Ladder) (s : State) : Host.Outcome State Fault Refusal := onCore (fun c => c.ladderFault l) s
/-- LADDER_ARM. -/
def execLadderArm (l : Ladder) (s : State) : Host.Outcome State Fault Refusal := onCore (fun c => c.ladderArm l) s
/-- LADDER_WAKE_SPURIOUS. -/
def execLadderWakeSpurious (l : Ladder) (s : State) : Host.Outcome State Fault Refusal := onCore (fun c => c.ladderSpurious l) s
/-- LADDER_MASK_END (R208). -/
def execLadderMaskEnd (l : Ladder) (s : State) : Host.Outcome State Fault Refusal :=
  onCore (fun c => c.modLadder l (fun x => { x with masked := false })) s
/-- ENCODER_TRANSITION. -/
def execEncoderTransition (e : Fin 2) (a b : Bool) (s : State) : Host.Outcome State Fault Refusal :=
  onCore (fun c => c.encoderStep e a b) s
/-- ENCODER_REPORT (R216): each ENC_RPT ms in Quiet. -/
def execEncoderReport (e : Fin 2) (s : State) : Host.Outcome State Fault Refusal :=
  onCore (fun c => c.when (c.pw.phase == .quiet) (fun c => c.encoderRecord e)) s
/-- COMBINATION_A. -/
def execCombinationA (s : State) : Host.Outcome State Fault Refusal := onCore Core.combA s
/-- COMBINATION_B. -/
def execCombinationB (s : State) : Host.Outcome State Fault Refusal := onCore Core.combB s
/-- PROVISIONING_HOLD. -/
def execProvisioningHold (s : State) : Host.Outcome State Fault Refusal := onCore Core.provHold s
/-- PRESENCE_END (R219). -/
def execPresenceEnd (s : State) : Host.Outcome State Fault Refusal := onCore (fun c => c.setPresence c.pw.provPin false) s
/-- PROV_PIN (R219). -/
def execProvPin (s : State) : Host.Outcome State Fault Refusal := onCore (fun c => c.setProv true) s
/-- PROV_RELEASE (R219). -/
def execProvRelease (s : State) : Host.Outcome State Fault Refusal := onCore (fun c => c.setProv false) s

end Sys2Proof.Machine
end

