-- ==== Sys2Proof/Machine/NodeOps.lean ====
section
/-!
DEFINITION. The node engine's shared operations: nodes and their places, the working configuration, range changes
and their exclusions, invalid baselines, and swing changes (R85, R86, R136, R146 to R148, R360).
-/
namespace Sys2Proof.Machine

/-- Place of a node by lane, drive line and sense line. -/
def nodeAt (lane d k : Nat) : Nat := lane * 768 + d * 24 + k

/-- Sense line of a node's place. -/
def nodeLine (i : Nat) : Nat := i % 24
/-- Drive line of a node's place. -/
def nodeDrive (i : Nat) : Nat := i / 24 % 32
/-- Lane of a node's place. -/
def nodeLane (i : Nat) : Nat := i / 768

/-- Natural numbers as field values. -/
def ints (l : List Nat) : Fields := l.map Int.ofNat

/-- Change the nodes that a test of their place picks. -/
def mapNodes (l : List NodeSt) (pick : Nat → Bool) (f : NodeSt → NodeSt) : List NodeSt :=
  l.zipIdx.map (fun x => if pick x.2 then f x.1 else x.1)

/-- A list with a stretch replaced. -/
def patch (l : Fields) (i : Nat) (v : Fields) : Fields := l.take i ++ v ++ l.drop (i + v.length)

/-- Codes as they change with RANGE (R146); a code above 63 is held there. -/
def convertCode (toCoarse : Bool) (v : Nat) : Nat := if toCoarse then (rhu v 2).toNat else min 63 (4 * v)

/-- A node enters the exclusion of a range change (R131, R148): the frames F, F + 1, F + 2 from now. What it measures then teaches a
line's L only where the change is one of a single code (R145). -/
def NodeSt.exclude (n : NodeSt) (zero : Bool) : NodeSt :=
  { n with excl := some 3, zero := if n.excl.isSome then n.zero && zero else zero, learn := false }

namespace Core

/-- Change the node engine. -/
def modNode (c : Core) (f : Node → Node) : Core := { c with node := f c.node }

/-- Change the acquisition front end. -/
def modAcq (c : Core) (f : Acq → Acq) : Core := { c with acq := f c.acq }

/-- The tile's colour class (R25). -/
def colour (c : Core) : Nat := colourOf c.hg.u.toInt c.hg.v.toInt

/-- A node. -/
def nodeOf (c : Core) (lane d k : Nat) : NodeSt := c.node.nodes.getD (nodeAt lane d k) NodeSt.fresh

/-- The working configuration (R360): the profile in force with the receive settings, codes and swing as they stand;
host writes of the user sequence are no part of it (R327). -/
def working (c : Core) : Profile :=
  { c.prof with
    frame := patch c.prof.frame 17 (ints [bit c.acq.highNow])
    node := patch c.prof.node 8 (ints (c.node.lsbF ++ c.node.lsbC))
    sense := patch (patch c.prof.sense 0 (ints (c.node.gain ++ c.node.coarse.map bit))) 696
      (ints c.node.codes.flatten) }

/-- A contact is present on the tile. -/
def hasContact (c : Core) : Bool := c.trk.contacts.any (fun k => !k.isCand)

/-- The sense line is in the exclusion of a range change (R148): one of its own nodes is, or another before its third frame. -/
def lineExcluded (c : Core) (k : Nat) : Bool :=
  c.node.nodes.zipIdx.any (fun x => nodeLine x.2 == k &&
    x.1.excl.any (fun n => decide (2 ≤ n) || nodeLane x.2 == c.colour))

/-- A range change on a sense line waits (R147); outside Run there are no frames to wait for (R20). -/
def lineWaits (c : Core) (k : Nat) (forced : Bool) : Bool :=
  c.pw.phase == .run && (c.lineExcluded k || (!forced && c.node.busy.contains k))

/-- Codes of a line in force. -/
def lineCodes (c : Core) (k : Nat) : List Nat := c.node.codes.getD k []

/-- The range change that waits on a line, if any. -/
def pending (c : Core) (k : Nat) : Option RangePend := c.node.pend.getD k none

/-- What waits on a line is set: a newer change replaces it, whatever its kind (R147). -/
def setPending (c : Core) (k : Nat) (p : Option RangePend) : Core := c.modNode (fun n => { n with pend := n.pend.set k p })

/-- Put a change of GAIN and RANGE on a line. DEDUCED (log 19): one that asks for what is in force takes back a change of its kind that
waits, and no other. -/
def requestSense (c : Core) (k gain : Nat) (coarse forced : Bool) : Core :=
  if c.node.gain.getD k 0 == gain && c.node.coarse.getD k false == coarse then
    match c.pending k with
    | some (.sense _) => c.setPending k none
    | _ => c
  else c.setPending k (some (.sense { gain := gain, coarse := coarse, forced := forced }))

/-- Put a change of codes on a line; a dead drive line's code stays 0 (R391; DEDUCED, log 20), and a request for what is in force is taken
as `requestSense` takes it. -/
def requestCodes (c : Core) (k : Nat) (codes : List (Nat × Nat)) (forced : Bool) : Core :=
  let changed := codes.filter (fun x => (c.lineCodes k).getD x.1 0 != x.2 && !c.deadDrive x.1)
  if changed.isEmpty then
    match c.pending k with
    | some (.codes _) => c.setPending k none
    | _ => c
  else c.setPending k (some (.codes { codes := changed, forced := forced }))

/-- The nodes of a line enter the exclusion of a change of codes: the step of a node whose code did not change is 0, and a seam node has
no code (R148). -/
def excludeCodes (c : Core) (k : Nat) (new : List Nat) : Core :=
  let old := c.lineCodes k
  let own := c.colour
  let moved := fun (i : Nat) => nodeLane i == own && old.getD (nodeDrive i) 0 != new.getD (nodeDrive i) 0
  c.modNode (fun n => { n with nodes := n.nodes.zipIdx.map (fun x => if nodeLine x.2 == k then x.1.exclude (!moved x.2) else x.1) })

/-- The nodes of a line enter the exclusion of a change that moves them all (R148). -/
def excludeLine (c : Core) (k : Nat) : Core :=
  c.modNode (fun n => { n with nodes := mapNodes n.nodes (fun i => nodeLine i == k) (fun x => x.exclude false) })

/-- The codes of a line are set. -/
def setCodes (c : Core) (k : Nat) (codes : List Nat) : Core := c.modNode (fun n => { n with codes := n.codes.set k codes })

/-- Apply a change of codes (R148); the step of a change of one code is measured for the line's L (R145). -/
def applyCodes (c : Core) (k : Nat) (p : CodesPend) : Core :=
  let old := c.lineCodes k
  let new := p.codes.foldl (fun l x => l.set x.1 x.2) old
  let changed := (List.range 32).filter (fun d => old.getD d 0 != new.getD d 0)
  let own := c.colour
  let teaches := fun (i : Nat) => changed.length == 1 && nodeLine i == k && nodeLane i == own && changed.contains (nodeDrive i)
  let c := c.excludeCodes k new
  (c.modNode (fun n => { n with nodes := mapNodes n.nodes teaches (fun x => { x with learn := true }) })).setCodes k new

/-- Set a line's GAIN and RANGE. -/
def setSense (c : Core) (k gain : Nat) (coarse : Bool) : Core :=
  c.modNode (fun n => { n with gain := n.gain.set k gain, coarse := n.coarse.set k coarse })

/-- Apply a change of GAIN and RANGE (R146, R148): the codes convert with RANGE. -/
def applySense (c : Core) (k : Nat) (p : SensePend) : Core :=
  let old := c.node.coarse.getD k false
  let codes := if old == p.coarse then c.lineCodes k else (c.lineCodes k).map (convertCode p.coarse)
  ((c.excludeLine k).setSense k p.gain p.coarse).setCodes k codes

/-- The baselines become invalid (R136): every delta reads 0 until they are captured. -/
def invalidate (c : Core) : Core :=
  c.modNode (fun n => { n with valid := false, nodes := n.nodes.map (fun x => { x with valid := false, delta := 0 })
                               selfs := n.selfs.map (fun x => { x with valid := false, delta := 0 }) })

/-- Apply a profile's settings of a line (R136, R148, R391): a change of GAIN makes the baselines invalid. -/
def applyLineSettings (c : Core) (k : Nat) (p : LinePend) : Core :=
  let gain := c.node.gain.getD k 0 != p.gain
  let codes := p.codes.zipIdx.map (fun v => if c.deadDrive v.2 then 0 else v.1)
  let c := if gain || c.node.coarse.getD k false != p.coarse then c.excludeLine k else c.excludeCodes k codes
  let c := (c.setSense k p.gain p.coarse).setCodes k codes
  if gain then c.invalidate else c

/-- The range change that waits on a line is applied where it is due (R147, R148). -/
def applyLine (c : Core) (k : Nat) : Core :=
  match c.pending k with
  | none => c
  | some p =>
    let forced := match p with
      | .sense q => q.forced
      | .codes q => q.forced
      | .line _ => false
    if c.lineWaits k forced then c
    else
      let c := c.setPending k none
      match p with
      | .sense q => c.applySense k q
      | .codes q => c.applyCodes k q
      | .line q => c.applyLineSettings k q

/-- Apply every range change that is due. -/
def applyRanges (c : Core) : Core := (List.range 24).foldl applyLine c

/-- A line's change is deferred past the boundary of its command (R359). -/
def isDeferred (c : Core) (k : Nat) : Bool := (c.pending k).isSome

/-- A swing change takes effect (R85, R86, R146): a range change on every line, and the pump with it (R50). -/
def applySwing (c : Core) (high : Bool) : Core :=
  if c.acq.highNow == high then c
  else
    let c := c.modAcq (fun a => { a with highNow := high, fallback := a.fallback && !high })
    let c := c.modNode (fun n => { n with nodes := n.nodes.map (fun x => x.exclude false) })
    let on := high || c.acq.swingPend.any (fun w => w.high)
    c.modPw (fun p => { p with pump := on && p.phase == .run })

/-- A swing change is accepted (R85): HIGH starts the pump at once; outside Run it is applied with its command. A newer
change replaces one that waits (R147), and the pump stops again where no HIGH is left. The 0.4 ms of R85 have always passed at a boundary that ends a frame whose SEAM slot
came after the acceptance, because SEAM_T, COMPUTE_T and REPORT_T together are at least 480 000 ticks. -/
def acceptSwing (c : Core) (high forced : Bool) : Core :=
  if c.pw.phase == .run then
    let now := c.acq.swingAnn.getD c.acq.highNow
    let c := c.modAcq (fun a => { a with swingPend := if now == high then none else some { high := high, forced := forced } })
    c.modPw (fun p => { p with pump := high || c.acq.highNow || c.acq.swingAnn == some true })
  else (c.modAcq (fun a => { a with swingPend := none, swingAnn := none })).applySwing high

/-- A neighbour's swing change takes effect on the lane that decodes it (R146, R147): never deferred. -/
def excludeLane (c : Core) (lane : Nat) (lines : List Nat) : Core :=
  c.modNode (fun n => { n with nodes := mapNodes n.nodes (fun i => nodeLane i == lane && lines.contains (nodeLine i)) (fun x => x.exclude false) })

/-- The nodes a baseline capture names are captured in their next included frame (R137), and with them the self lines they lie on (R152).
DEDUCED (log 19): the lane mask names seam nodes by lane, and own nodes need none. -/
def markCapture (c : Core) (sense : BitVec 24) (drive : BitVec 32) (lanes : Byte) : Core :=
  let own := c.colour
  let named := fun (i : Nat) => sense.getLsbD (nodeLine i) && drive.getLsbD (nodeDrive i) && (nodeLane i == own || lanes.getLsbD (nodeLane i))
  let line := fun (l : Nat) => if l < 24 then sense.getLsbD l && drive != 0#32 else drive.getLsbD (l - 24) && sense != 0#24
  c.modNode (fun n => { n with nodes := mapNodes n.nodes named (fun x => { x with recap := true })
                               selfs := n.selfs.zipIdx.map (fun x => if line x.2 then { x.1 with recap := true } else x.1) })

/-- The filters of a line restart in its next included frame, baseline and all (R391). -/
def reseedSense (c : Core) (k : Nat) : Core :=
  c.modNode (fun n => { n with nodes := mapNodes n.nodes (fun i => nodeLine i == k) (fun x => { x with seed := true, seedB := true }) })

/-- The same for a drive line: its own nodes. -/
def reseedDrive (c : Core) (d : Nat) : Core :=
  let own := c.colour
  let mine := fun (i : Nat) => nodeLane i == own && nodeDrive i == d
  c.modNode (fun n => { n with nodes := mapNodes n.nodes mine (fun x => { x with seed := true, seedB := true }) })

/-- A line's settings in a profile, where they differ from those in force. -/
def lineOf (c : Core) (p : Profile) (k : Nat) : Option RangePend :=
  let codes := (List.range 32).map (fun d => if c.deadDrive d then 0 else p.code d k)
  if c.node.gain.getD k 0 == p.gain k && c.node.coarse.getD k false == p.coarse k && c.lineCodes k == codes then none
  else some (.line { gain := p.gain k, coarse := p.coarse k, codes := codes })

/-- A profile takes effect while the tile runs (R93, R136, R146, R147, R363): frames and settings at once, and the settings of a line as
a range change, which may be deferred; a change of N_DRV or N_SNS makes the baselines invalid, and one of SWING waits for its SEAM
slot. -/
def adoptProfile (c : Core) (p : Profile) : Core :=
  let n := c.node
  let high := c.acq.highNow
  let bad := c.prof.nDrv != p.nDrv || c.prof.nSns != p.nSns
  let lines := (List.range 24).map (c.lineOf p)
  let c := (c.loadProfile p).modNode (fun m => { m with gain := n.gain, coarse := n.coarse, codes := n.codes, pend := lines })
  let c := (c.modAcq (fun a => { a with highNow := high, fallback := false })).acceptSwing p.swingHigh false
  let c := c.restOffKeys.applyRanges
  if bad then c.invalidate else c

end Core

end Sys2Proof.Machine
end

