-- ==== Sys2Proof/Machine/CoppiceOps.lean ====
section
/-!
DEFINITION. Coppice: repairs of channels, lines and legs put in force and taken back, and self-test requests (R42, R90,
R373 to R376, R387, R390 to R393).
-/
namespace Sys2Proof.Machine

/-- Repair kind of Table REPAIR-1 that a kind of COPPICE_SET names (R373, R393). -/
def coppiceKind (k : Nat) : Nat :=
  match k with
  | 0 => 2
  | 1 => 4
  | 2 => 5
  | _ => 3

namespace Core

/-- Change the repair manager. -/
def modRep (c : Core) (f : Repair → Repair) : Core := { c with rep := f c.rep }

/-- A spare channel that carries no line and is not itself dead, the lower first. DEDUCED (log 20). -/
def freeSpare (c : Core) : Option Nat :=
  [12, 25].find? (fun ch => !c.acq.route.contains ch && !c.hasRepair 2 ch)

/-- Accuracy derating of a line repair in quarters of a pitch (R392): 8 in or at a run of dead lines, 4 for a merged pair,
2 else. -/
def derating (c : Core) (kind index : Nat) : Nat :=
  let dead := fun (i : Nat) => if kind == 5 then c.deadDrive i else c.deadSense i
  if kind == 6 then 4
  else if kind == 4 || kind == 5 then (if dead (index + 1) || (0 < index && dead (index - 1)) then 8 else 2)
  else 0

/-- The deratings of the line repairs in the fault list follow the dead lines beside them (R392). -/
def freshDerates (c : Core) : Core :=
  let line := fun (e : FaultEntry) => e.state == 2#8 && (e.kind == 4#8 || e.kind == 5#8)
  c.setFaults (c.nvm.faults.map (fun e =>
    if line e then { e with derate := BitVec.ofNat 8 (c.derating e.kind.toNat e.index.toNat) } else e))

/-- A spare kind is exhausted no more once a spare of it is free again (Table REPAIR-2). -/
def sparesBack (c : Core) : Core :=
  let still := fun (k : Byte) => !(k == 2#8 && c.freeSpare.isSome) &&
    !(k == 0xFF#8 && decide (c.nvm.fieldMap.length + c.nvm.mapPending.length < 64))
  c.modRep (fun r => { r with sparesOut := r.sparesOut.filter still })

/-- A line coppice takes effect (R391): the codes of a dead drive line go to 0, and the line's filters restart. -/
def startLine (c : Core) (kind index : Nat) : Core :=
  if kind == 4 then c.reseedSense index
  else if kind == 5 then
    (c.modNode (fun n => { n with codes := n.codes.map (fun l => l.set index 0) })).reseedDrive index
  else c

/-- A sense line moves to another channel: a range change on it that is never deferred (R393). -/
def moveLine (c : Core) (k ch : Nat) : Core :=
  let c := c.modAcq (fun a => { a with route := a.route.set k ch })
  c.modNode (fun n => { n with nodes := mapNodes n.nodes (fun i => nodeLine i == k) (fun x => x.exclude false) })

/-- Put a line, leg or channel repair in force (R374, R390 to R393), with its entry in the fault list; the answer holds
the repair kind and index that came of it and the sense line that moved. A dead channel takes a spare, and with none left
its line is interpolated. -/
def coppice (c : Core) (kind index detail sign origin : Nat) : Core × Nat × Nat × Option Nat :=
  let entry := fun (k i d : Nat) => (⟨BitVec.ofNat 8 k, BitVec.ofNat 8 i, BitVec.ofNat 8 d, BitVec.ofNat 8 origin⟩ : RepairEntry)
  let line := fun (c : Core) (k i : Nat) =>
    let c := (c.addRepair (entry k i 0)).startLine k i
    ((c.addFault k i sign 2 (c.derating k i)).freshDerates, k, i, (none : Option Nat))
  if kind == 2 then
    match (List.range 24).find? (fun k => c.acq.route.getD k 0 == index) with
    | none => ((c.addRepair (entry 2 index index)).addFault 2 index sign 2 0, 2, index, none)
    | some k =>
      match c.freeSpare with
      | some ch => (((c.addRepair (entry 2 index ch)).moveLine k ch).addFault 2 index sign 2 0, 2, index, some k)
      | none => if c.deadSense k then (c, 4, k, none) else line (c.sparesOut 2#8) 4 k
  else if kind == 3 then
    let c := c.addRepair (entry 3 index detail)
    ((c.applyRepair (entry 3 index detail)).addFault 3 index sign 2 0, 3, index, none)
  else line c kind index

/-- The repairs a COPPICE_CLEAR names (R393): of the kind and index, and for a leg of its number. DEDUCED (log 20): kind 1
also names the merged pair of that lower line. -/
def isNamed (kind index detail : Nat) (r : RepairEntry) : Bool :=
  r.index.toNat == index && (r.kind.toNat == kind || (kind == 4 && r.kind.toNat == 6)) && (kind != 3 || r.detail.toNat == detail)

/-- Take a repair back, whatever its origin (R393): a line returns to its default channel, a leg is enabled again, and the
node filters restart from measured values. Grade 6 stands until the full self-test that this makes due has run (R376). -/
def restore (c : Core) (kind index detail : Nat) : Core :=
  let six := c.rep.grade == 6#3
  let c :=
    if kind == 2 then
      match (List.range 24).find? (fun k => defaultChannel k == index) with
      | some k => if c.acq.route.getD k 0 == index then c else (c.moveLine k index).reseedSense k
      | none => c
    else if kind == 3 then
      let leg : BitVec 2 := if detail == 0 then 1#2 else 2#2
      c.modAcq (fun a => { a with legs := modifyAt a.legs index (fun l => l ||| leg) })
    else if kind == 4 then c.reseedSense index
    else c.reseedDrive index
  let c := c.freshDerates.sparesBack
  if six then c.modRep (fun r => { r with testDue := true, clearTest := true, bgDue := r.bgDue ||| 2#5 }) else c

/-- The maps and the fault list without a repair (R393): its entries read RECOVERED. -/
def strike (c : Core) (kind index detail : Nat) : Core :=
  let keep := fun (l : List RepairEntry) => l.filter (fun r => !isNamed kind index detail r)
  let named := fun (e : FaultEntry) => e.index.toNat == index && (e.kind.toNat == kind || (kind == 4 && e.kind.toNat == 6)) && e.state == 2#8
  let c := c.modRep (fun r => { r with factory := keep r.factory, extra := keep r.extra })
  { c with nvm := { c.nvm with
      fieldMap := keep c.nvm.fieldMap, mapPending := keep c.nvm.mapPending
      faults := c.nvm.faults.map (fun e => if named e then { e with state := 3#8 } else e) } }

/-- Remove a repair (R80, R376, R393): the repair record is written first, and without that write nothing changes. The answer is false
where the record could not be written. -/
def uncoppice (c : Core) (kind index detail : Nat) : Core × Bool :=
  if c.repairs.any (isNamed kind index detail) then
    let w := c.write .repair (fun c => c.strike kind index detail)
    if w.2 then (w.1.restore kind index detail, true) else w
  else (c, true)

/-- A march of SRAM (R374, R387, R388): a failing column raises SRAM_FAULT, enters the fault list and is mapped in at the
next reset; the answer holds its entry. -/
def sramMarch (c : Core) : Core × List FaultEntry :=
  let (c, n) := c.draw
  match Config.marchFault n with
  | none => (c, [])
  | some (b, col) =>
    let i := b.val * 16 + col.val
    let c := (c.repairEvent 0x49 [BitVec.ofNat 8 b.val, BitVec.ofNat 8 col.val]).addFault 0 i 0 1 0
    let e := c.nvm.faults.filter (fun f => f.kind == 0#8 && f.index.toNat == i && f.sign == 0#8)
    if c.bankSpares b.val < 2 then (c.addRepair ⟨0#8, BitVec.ofNat 8 i, BitVec.ofNat 8 (c.bankSpares b.val), 2#8⟩, e)
    else (c.sparesOut 0#8, e)

end Core

end Sys2Proof.Machine
end

