-- ==== Sys2Proof/Machine/Operands.lean ====
section
/-!
DEFINITION. The operand forms: what a frame's kind and plan ask of the measurements that a slot's command brings, and the shapes
of a Watch burst and of a character (R90, R99, R107, R113, R116, R226, Table REPAIR-4; log 7).
-/
namespace Sys2Proof.Machine

/-- NBITS of a character (R226). -/
def LinkCfg.nbits (g : LinkCfg) : Nat := if g.par = 0#2 then 10 else 11

namespace Core

/-- The tile scans and the slot before this one has just run. -/
def atSlot (c : Core) (before : SlotName) : Bool := c.pw.phase == .run && c.acq.running && c.acq.slot == some before

/-- The frame that begins or runs is a SELFTEST frame. -/
def inSelftest (c : Core) : Bool := c.acq.maint == some .selftest

/-- A normal frame in which the forced slot of the daily self-test runs (R388). -/
def forcedTest (c : Core) : Bool := c.acq.maint.isNone && c.acq.noiseGiven && c.rep.task == 2#4

/-- The channel check runs in the NOISE time of the frame (Table REPAIR-4, R388). -/
def checksChannels (c : Core) : Bool := c.inSelftest || c.forcedTest

/-- The hop sets a frame surveys (R107, R108): the current one, and the next two of HOP_ORDER after the survey pointer. -/
def surveySets (c : Core) : List Nat :=
  let sets := c.prof.hopSets
  let cur := c.acq.hop.toNat
  let turn := (sets.drop (c.acq.surveyPtr % sets.length)) ++ sets.take (c.acq.surveyPtr % sets.length)
  cur :: (turn.filter (fun h => h != cur)).take 2

/-- The windows of the NOISE slot have the shape its content asks for. -/
def noiseShape (c : Core) (windows : List (List Samples)) (gains : List (BitVec 16)) : Bool :=
  let sets := if c.acq.maint.isNone && !c.acq.noiseGiven then c.surveySets else []
  windows.length == 2 * sets.length &&
  sets.zipIdx.all (fun h => [2 * h.2, 2 * h.2 + 1].all (fun i =>
    (windows.getD i []).length == 26 && (windows.getD i []).all (fun s => s.length == hopM h.1))) &&
  gains.length == (if c.checksChannels then 26 else 0)

/-- Samples of a channel between the end of step 31 and the end of MUTUAL: one every 52 ticks from its own instant in `rest` ticks (R95,
R96). -/
def tailCount (rest ch : Nat) : Nat := (rest - 4 * (ch % 13) + 51) / 52

/-- The scan of a frame has a pre-roll of m / 16 samples of 26 channels, 32 steps of m samples, and what MUTUAL_T leaves after them (R96,
R99, R103, R105); a SLICECAL frame has none. -/
def mutualShape (c : Core) (scan : ScanSamples) : Bool :=
  match c.acq.maint with
  | some (.slicecal _) => scan.pre.isEmpty && scan.steps.isEmpty && scan.tail.isEmpty
  | _ =>
    let m := hopM c.acq.hop.toNat
    let rest := c.prof.mutualT - mutualNeed c.acq.hop.toNat
    scan.pre.length == 26 && scan.pre.all (fun x => x.length == m / 16) &&
    scan.steps.length == 32 && scan.steps.all (fun s => s.length == 26 && s.all (fun x => x.length == m)) &&
    scan.tail.length == 26 && scan.tail.zipIdx.all (fun x => x.1.length == tailCount rest x.2)

/-- The frame's SELF slot counts: in a normal frame and in a SELFTEST frame. -/
def countsSelf (c : Core) : Bool := c.acq.maint.isNone || c.inSelftest

/-- The counts of 56 lines, where the slot counts. -/
def selfShape (c : Core) (crossings : List (List Nat)) : Bool := crossings.length == (if c.countsSelf then 56 else 0)

/-- The slot before SEAM has run: SELF, or MUTUAL where the frame plan has no SELF slot (R15, R113). -/
def beforeSeam (c : Core) : Bool := c.atSlot .self || (c.atSlot .scan && c.prof.selfT == 0)

/-- The legs of 32 drive pins are timed in a SELFTEST frame (Table REPAIR-4). -/
def seamShape (c : Core) (legs : List LegCheck) : Bool := legs.length == (if c.inSelftest then 32 else 0)

/-- The counts of a burst have its shape: one for each group in use, at most CT_MAX (R116). -/
def burstShape (c : Core) (counts : List (Option Nat)) : Bool :=
  counts.length == c.prof.wGroups && counts.all (fun v => v.all (fun n => decide (1 ≤ n) && decide (n ≤ c.prof.ctMax)))

/-- LINK_CHARACTER carries NBITS bits, each with one sample in TILE mode and three in WIRE mode. -/
def charShape (c : Core) (p : Port) (bits : List (List Bool)) : Bool :=
  let g := (c.port p).cfg
  bits.length == g.nbits && bits.all (fun s => s.length == (if g.mode = 2#2 then 3 else 1))

end Core

end Sys2Proof.Machine
end

