-- ==== Sys2Proof/Machine/FrontOps.lean ====
section
/-!
DEFINITION. The acquisition front end: the demodulators, the NOISE survey, the MUTUAL scan, the self-capacitance counts,
and the codes of the compensation DAC (R87, R92, R93, R97, R101 to R103, R107, R108, R112, R113, R142).
-/
namespace Sys2Proof.Machine

/-- The first quarter of SINTAB, entries 0 to 256 (R101). -/
def sinQuarter : List Int :=
  [0, 50, 101, 151, 201, 251, 301, 352, 402, 452, 502, 552, 603, 653, 703, 753, 803, 853, 903, 953, 1003, 1053, 1102,
   1152, 1202, 1252, 1301, 1351, 1400, 1450, 1499, 1549] ++
  [1598, 1647, 1696, 1746, 1795, 1844, 1893, 1941, 1990, 2039, 2088, 2136, 2185, 2233, 2281, 2330, 2378, 2426, 2474, 2522,
   2569, 2617, 2665, 2712, 2759, 2807, 2854, 2901, 2948, 2995, 3041, 3088] ++
  [3135, 3181, 3227, 3273, 3319, 3365, 3411, 3457, 3502, 3547, 3593, 3638, 3683, 3728, 3772, 3817, 3861, 3905, 3950, 3994,
   4037, 4081, 4124, 4168, 4211, 4254, 4297, 4340, 4382, 4425, 4467, 4509] ++
  [4551, 4592, 4634, 4675, 4716, 4757, 4798, 4839, 4879, 4920, 4960, 5000, 5039, 5079, 5118, 5157, 5196, 5235, 5274, 5312,
   5350, 5388, 5426, 5463, 5501, 5538, 5575, 5612, 5648, 5684, 5720, 5756] ++
  [5792, 5827, 5863, 5898, 5932, 5967, 6001, 6035, 6069, 6103, 6136, 6169, 6202, 6235, 6267, 6300, 6332, 6363, 6395, 6426,
   6457, 6488, 6519, 6549, 6579, 6609, 6638, 6668, 6697, 6726, 6754, 6783] ++
  [6811, 6838, 6866, 6893, 6920, 6947, 6973, 7000, 7026, 7051, 7077, 7102, 7127, 7152, 7176, 7200, 7224, 7247, 7271, 7294,
   7316, 7339, 7361, 7383, 7405, 7426, 7447, 7468, 7488, 7509, 7528, 7548] ++
  [7567, 7587, 7605, 7624, 7642, 7660, 7678, 7695, 7712, 7729, 7745, 7762, 7778, 7793, 7809, 7824, 7838, 7853, 7867, 7881,
   7894, 7908, 7921, 7933, 7946, 7958, 7969, 7981, 7992, 8003, 8013, 8024] ++
  [8034, 8043, 8053, 8062, 8070, 8079, 8087, 8095, 8102, 8110, 8116, 8123, 8129, 8135, 8141, 8146, 8152, 8156, 8161, 8165,
   8169, 8172, 8176, 8179, 8181, 8183, 8185, 8187, 8189, 8190, 8190, 8191] ++
  [8191]

/-- SINTAB (R101): 8 191 sin(2 pi i / 1 024), rounded half up. -/
def sinTab (i : Nat) : Int :=
  let j := i % 512
  let v := sinQuarter.getD (if j ≤ 256 then j else 512 - j) 0
  if i % 1024 < 512 then v else -v

/-- The reference phase of a sample `t` ticks after the start of its step, for `n` cycles in a step of `len` ticks (R101). -/
def theta (n len t offset : Nat) : Nat := (65536 * (n * t % len) / len + offset) % 65536

/-- The reference of a lane (R101). -/
def reference (n len t offset : Nat) : Int := sinTab (theta n len t offset / 64)

/-- Sample slot of a channel: CH0 to CH12 on PCA, CH13 to CH25 on PCB (R95). -/
def chanSlot (ch : Nat) : Nat := if ch < 13 then ch else ch - 13

/-- A lane's step sum (R102): the samples of one step, sample i at 4 j + 52 i ticks (R95, R101). `offset` is the reference's
phase offset in 1/65 536 cycle. -/
def laneSum (h lane ch offset : Nat) (xs : Samples) : Int :=
  (xs.zipIdx.map (fun x => x.1.toInt * reference (15 + lane) (hopL h) (4 * chanSlot ch + 52 * x.2) offset)).sum

/-- A clipped sample (R97). -/
def isClipped (x : BitVec 12) : Bool := x.toInt == -2048 || x.toInt == 2047

/-- A self-capacitance count (R112, R113): the ticks from crossing 4 to crossing 4 + N, none for STALL. -/
def selfCount (n phaseEnd : Nat) (crossings : List Nat) : Option Nat :=
  match crossings[4]?, crossings[4 + n]? with
  | some a, some b => if b < phaseEnd then some (b - a) else none
  | _, _ => none

namespace Core

/-- The sense line a channel carries (R90): a line in use. -/
def lineOn (c : Core) (ch : Nat) : Option Nat := (List.range c.prof.nSns).find? (fun k => c.acq.route.getD k 26 == ch)

/-- The noise figures NFc of a surveyed set and lane over the channels that carry a sense line (R107). -/
def noiseLane (c : Core) (h lane : Nat) (i q : List Samples) : Tracker :=
  (List.range 26).foldl (fun (t : Tracker) ch =>
    match c.lineOn ch with
    | none => t
    | some _ =>
      let si := laneSum h lane ch 0 (i.getD ch [])
      let sq := laneSum h lane ch 16384 (q.getD ch [])
      t.add (rhu ((si.natAbs : Int) + sq.natAbs) 8)) (Tracker.reset 0 268435455)

/-- The views of the surveyed sets (R107, Table ACQ-10). -/
def survey (c : Core) (windows : List (List Samples)) : List NoiseView :=
  c.surveySets.zipIdx.map (fun h =>
    { hop := BitVec.ofNat 3 h.1, lanes := (List.range 3).map (fun lane =>
        c.noiseLane h.1 lane (windows.getD (2 * h.2) []) (windows.getD (2 * h.2 + 1) [])) })

/-- The views of a survey that was given up (R124, R378). -/
def noSurvey (c : Core) : List NoiseView :=
  c.surveySets.map (fun h => { hop := BitVec.ofNat 3 h, lanes := List.replicate 3 (Tracker.reset 0 268435455) })

/-- Sense line PHASE of a lane and the hop set in force, as an offset of the reference (R101); a channel without a line has
none. -/
def phaseOffset (c : Core) (ch lane : Nat) : Nat :=
  match c.lineOn ch with
  | some k => 256 * c.prof.phase k lane c.acq.hop.toNat
  | none => 0

/-- The highest figure of the current set for telemetry (Table REPAIR-9). -/
def noiseTele (c : Core) : Core :=
  match c.acq.noiseViews.find? (fun v => v.hop == c.acq.hop) with
  | none => c
  | some v => c.modTele (fun t => { t with noise := max t.noise (min 65535 (rhu ((v.lanes.map (fun l => l.sum)).foldl max 0) 8).toNat) })

/-- The channel check begins (R381): every channel's CALDAC gain, and the first of the repair manager's requests for DACMON. -/
def channelCheck (c : Core) (gains : List (BitVec 16)) : Core :=
  (c.modAcq (fun a => { a with checks := gains.map (fun g => { gain := g, high := none, low := none }) })).urgent .repair 13 4

/-- NOISE_SLOT (R107, R108, R378, R381): the survey, or the channel check in its time. DESIGN CHOICE (log 33): the survey pointer stands in a
frame that makes no survey. -/
def noiseSlot (c : Core) (windows : List (List Samples)) (gains : List (BitVec 16)) : Core :=
  c.when (c.atSlot .sync) (fun c =>
    let c := c.modAcq (fun a => { a with slot := some .noise })
    let c := if c.checksChannels then c.channelCheck gains else c
    if c.acq.maint.isSome then c
    else if c.acq.noiseGiven then c.modAcq (fun a => { a with noiseViews := c.noSurvey })
    else (c.modAcq (fun a => { a with noiseViews := c.survey windows, surveyPtr := a.surveyPtr + 2 })).noiseTele)

/-- The sums of one channel and lane (R102). -/
def stepSums (c : Core) (steps : List (List Samples)) (ch lane : Nat) : List Int :=
  steps.map (fun s => laneSum c.acq.hop.toNat lane ch (c.phaseOffset ch lane) (s.getD ch []))

/-- The frame's drive swing: LOW in SELFTEST frames and in the first twelve frames of a seek (R142, Table REPAIR-4). -/
def frameHigh (c : Core) : Bool :=
  match c.acq.maint with
  | some .selftest => false
  | some .seek => c.acq.highNow && (c.node.seek.bind (fun k => k.frame)).any (fun n => decide (12 ≤ n))
  | _ => c.acq.highNow

/-- Three sagged frames in a row set SWING to LOW as a forced change (R88). -/
def driveFallback (c : Core) : Core :=
  let c := (c.acceptSwing false true).modAcq (fun a => { a with fallback := true })
  c.eventTo c.diagTenants 0x07 []

/-- Every sample of a channel in the MUTUAL slot: of the pre-roll, of the 32 steps, and after the last of them (R97, Table ACQ-10). -/
def slotSamples (scan : ScanSamples) (ch : Nat) : Samples :=
  scan.pre.getD ch [] ++ scan.steps.flatMap (fun s => s.getD ch []) ++ scan.tail.getD ch []

/-- MUTUAL_SLOT (R87, R88, R97, R102, R103, R122): step sums of every channel and lane from the steps' samples, CLIP flags and sample
trackers from those of the whole slot, the monitor of VDRV. -/
def mutualSlot (c : Core) (scan : ScanSamples) (sag : Bool) : Core :=
  c.when (c.atSlot .noise) (fun c =>
    let c := c.modAcq (fun a => { a with slot := some .scan })
    match c.acq.maint with
    | some (.slicecal _) => c
    | _ =>
      let samples := slotSamples scan
      let sagged := c.frameHigh && sag
      let clip := (List.range 26).map (fun ch => (samples ch).any isClipped)
      let track := fun (ch : Nat) => (samples ch).foldl (fun (t : Tracker) x => t.add x.toInt) (Tracker.reset (-2048) 2047)
      let run := if sagged then c.acq.sagRun + 1 else 0
      let c := c.modAcq (fun a =>
        { a with sums := (List.range 26).map (fun ch => (List.range 3).map (fun lane => c.stepSums scan.steps ch lane))
                 clip := clip, sampleView := (List.range 26).map track, sagged := sagged, sagRun := run })
      let c := c.modTele (fun t => { t with sagged := t.sagged + bit sagged, clipped := t.clipped + bit (clip.any (fun b => b)) })
      if run == 3 then c.driveFallback else c)

/-- N of the frame's counts: 2^(4 + SC_NLOG), 256 in the self-test's (R112, Table REPAIR-4). -/
def selfPeriods (c : Core) : Nat := if c.checksChannels then 256 else 2 ^ (4 + c.prof.scNlog)

/-- A line is in use: sense lines 0 to 23, drive lines 24 to 55. -/
def lineUsed (c : Core) (i : Nat) : Bool := if i < 24 then decide (i < c.prof.nSns) else decide (i - 24 < c.prof.nDrv)

/-- A line takes part in SELF: it is in use, and a drive pin has a leg enabled (R83, R111). -/
def selfUsed (c : Core) (i : Nat) : Bool := c.lineUsed i && !(decide (24 ≤ i) && c.acq.legs.getD (i - 24) 3#2 == 0#2)

/-- SELF_SLOT (R83, R111 to R113). -/
def selfSlot (c : Core) (crossings : List (List Nat)) : Core :=
  c.when (c.atSlot .scan && decide (0 < c.prof.selfT)) (fun c =>
    let c := c.modAcq (fun a => { a with slot := some .self })
    if !c.countsSelf then c
    else
      let phaseEnd := c.prof.selfT / 16 * 4
      let new := (List.range 56).map (fun i =>
        if c.selfUsed i then selfCount c.selfPeriods phaseEnd (crossings.getD i []) else c.acq.sc.getD i none)
      c.modAcq (fun a => { a with sc := new, selfRan := true }))

/-! ### Codes of the compensation DAC -/

end Core

/-- The bit a seek frame tries: 5 down to 0, twice; none in the last two frames (R142). -/
def seekBit (n : Nat) : Option Nat := if n < 12 then some (5 - n % 6) else none

/-- The codes a seek frame runs with on a line: `again` tells that the line is in COARSE, whose codes the second six frames
find (R142). -/
def seekCodes (n : Nat) (again : Bool) (codes : List Nat) : List Nat :=
  if n < 6 || (n < 12 && again) then
    match seekBit n with
    | some b => codes.map (fun v => v ||| 2 ^ b)
    | none => codes
  else if n == 13 then codes.map (fun v => if v == 63 then 62 else v + 1)
  else codes

namespace Core

/-- A node takes part in a seek: in use, and not on a dead drive line, whose codes stay 0 (R142, R391; DEDUCED, log 20). -/
def sought (c : Core) (d k : Nat) : Bool := decide (d < c.prof.nDrv) && decide (k < c.prof.nSns) && !c.deadDrive d

/-- The code of a node in the frame that begins (R92): 0 on a drive line not in use. -/
def frameCode (c : Core) (d k : Nat) : Nat :=
  if c.prof.nDrv ≤ d then 0
  else match c.acq.maint with
    | some .selftest => 0
    | some .seek =>
      match c.node.seek with
      | some s => if c.sought d k then (seekCodes (s.frame.getD 0) (s.coarse.getD k false) (s.codes.getD k [])).getD d 0 else 0
      | none => 0
    | _ => (c.lineCodes k).getD d 0

/-- The DAC codes of every channel and step (R92, R93): computed at the boundary. -/
def dacCodes (c : Core) : List (List Int) :=
  (List.range 26).map (fun ch =>
    match c.lineOn ch with
    | none => List.replicate 32 0
    | some k => (List.range 32).map (fun s => ((List.range 32).map (fun d => hadamard s d * (c.frameCode d k : Int))).sum))

/-- What the compensation DAC of a channel drives in a slot, `t` ticks after its start (R94, Table ACQ-4): in MUTUAL the code of the step,
that of step 0 in the pre-roll, and zero in every other slot, but for the channel that DACMON reads (R381). DEDUCED (log 33): after the
last step there is no current step, and the DAC idles as step M4 has it. -/
def dacDrives (c : Core) (s : SlotName) (ch t : Nat) : Int :=
  let h := c.acq.hop.toNat
  let read := match c.sar.cur, c.sar.urgent with
    | some .urgent, u :: _ => if u.who = Requester.repair && u.tag / 2 == ch then some (if u.tag % 2 == 0 then 1024 else -1024) else none
    | _, _ => none
  let sliceFrame := c.acq.maint.any (fun m => match m with
    | .slicecal _ => true
    | .seek | .selftest => false)
  let pre := 52 * (hopM h / 16)
  if s != .scan || sliceFrame || pre + 32 * hopL h ≤ t then read.getD 0
  else (c.acq.dac.getD ch []).getD (if t < pre then 0 else (t - pre) / hopL h) 0

end Core

end Sys2Proof.Machine
end

