-- ==== Sys2Proof/Machine/HedgeOps.lean ====
section
/-!
DEFINITION. The hedge layer's shared operations: admission, the roster, losses, panels and routes, the
timekeeper, and the loss of a partner (chapter 08).
-/
namespace Sys2Proof

/-- The live tiles of a roster. -/
def Roster.live (r : Roster) : List RosterTile := r.tiles.filter (fun t => !t.lost)

/-- The entry of a UID. -/
def Roster.byUid (r : Roster) (u : Uid) : Option RosterTile := r.tiles.find? (fun t => t.uid == u)

/-- The entry of an address. -/
def Roster.byAddr (r : Roster) (a : Addr) : Option RosterTile := r.tiles.find? (fun t => t.addr == a)

/-- The live entry of the lowest UID (R29). -/
def Roster.lowest (r : Roster) : Option RosterTile :=
  r.live.foldl (fun b t => match b with
    | none => some t
    | some x => if t.uid.toNat < x.uid.toNat then some t else some x) none

end Sys2Proof

namespace Sys2Proof.Machine

/-- Plan digest (R280). -/
def planDigest (p : Profile) : Word :=
  crc16 (le 4 p.frameTicks ++ le 3 p.syncT ++ le 3 p.noiseT ++ le 3 p.mutualT ++ le 1 p.hopCount ++
    (List.range 8).flatMap (fun i => le 1 (if i < p.hopCount then p.hopOrder i else 0)))

/-- Seam digest (R280). -/
def seamDigest (p : Profile) : Word :=
  crc16 ([p.pitchX, p.pitchY, p.epitchX, p.epitchY, p.gridX0, p.gridY0, p.tOn, p.tOff, p.centFloor].flatMap (leInt 2) ++
    leInt 1 p.sepMin ++ le 1 p.confirmN ++ le 1 p.palmSize ++ leInt 2 p.trackR ++ leInt 1 p.waterR ++ le 1 p.freezeR)

/-- The ids of a bitmap, ascending. -/
def bitIds (m : BitVec 64) : List (BitVec 6) :=
  ((List.range 64).filter (fun i => m.getLsbD i)).map (fun i => BitVec.ofNat 6 i)

/-- Two lattice positions are neighbours through a port of the first. -/
def adjacentBy (p : Port) (a b : RosterTile) : Bool :=
  b.u.toInt == a.u.toInt + (portOffset p).1 && b.v.toInt == a.v.toInt + (portOffset p).2

/-- The links of a newly admitted tile: to every live neighbour, in both directions; DEDUCED (log 18): a LOSS clears
them. -/
def linkNeighbours (l : List RosterTile) (n : RosterTile) : List RosterTile :=
  let near := fun (t : RosterTile) (m : RosterTile) =>
    Core.ports.foldl (fun (x : BitVec 6) p => if adjacentBy p t m && !m.lost then x ||| (1#6 <<< p.val) else x) 0#6
  let own := (l.filter (fun t => !t.lost && t.uid != n.uid)).foldl (fun x t => x ||| near n t) 0#6
  (l.filter (fun t => t.uid != n.uid)).map (fun t => { t with mask := t.mask ||| near t n }) ++ [{ n with mask := own }]

/-- The addresses of a block (R263, R260): those from 0x001 to 0x3FD. -/
def blockAddrs (b : Addr) : List Addr :=
  ((List.range 8).map (fun i => b + BitVec.ofNat 10 i)).filter (fun a => a != 0#10 && a != 0x3FE#10 && a != 0x3FF#10)

namespace Core

/-- Change the hedge layer. -/
def modHg (c : Core) (f : Hedge → Hedge) : Core := { c with hg := f c.hg }

/-- Change the allocations, in NVM where it may be written (R80, R263). -/
def modAlloc (c : Core) (f : Alloc → Alloc) : Core := saveAlloc { c with nvm := { c.nvm with allocPending := some (f c.alloc) } }

/-- The retention record follows address, position, panel and roles (R70). -/
def syncRet (c : Core) : Core :=
  { c with ret := { c.ret with addr := c.hg.addr, u := c.hg.u, v := c.hg.v, panel := c.hg.panel,
                               panelRoot := c.hg.panelRoot, hedgeRoot := c.hg.hedgeRoot } }

/-- A packet of the hedge layer for the panel root: handled here where this tile is the root. -/
def toRoot (c : Core) (op : Nat) (payload : List Byte) (own : Core → Core) : Core :=
  if c.hg.panelRoot then own c else c.hedgeSend 0x3FE#10 op payload

/-- The panel root publishes a roster (Table HEDGE-3): a new version to the whole panel. -/
def publish (c : Core) (tiles : List RosterTile) : Core :=
  let c := c.modHg (fun h => { h with roster := { version := h.roster.version + 1#16, tiles := tiles }, hasRoster := true })
  (c.hedgeSend 0x3FF#10 4 c.hg.roster.bytes).relayRetry

/-- This tile's entry of the roster. -/
def ownEntry (c : Core) : RosterTile :=
  { uid := c.hg.uid, addr := c.hg.addr, u := c.hg.u, v := c.hg.v, mask := 0#6, state := c.pw.phase.code, lost := false }

/-- The PANEL_ADVERT of this root (Table HEDGE-3); DEDUCED (log 18): its WIRE links are the ones it knows, its own
and those of the tiles through which a tile of another panel joined. -/
def advert (c : Core) : PanelAdvert where
  rootUid := c.hg.uid
  rootAddr := c.hg.addr
  panel := c.hg.panel
  tileCount := BitVec.ofNat 8 c.hg.roster.live.length
  blocks := c.hg.blocks
  singles := c.hg.singles
  provisional := c.hg.provisional
  wires := (ports.filter (fun p => c.isWire p && c.linkUp p)).filterMap (fun p =>
      (c.hport p).partner.map (fun h => { gw := c.hg.addr, port := BitVec.ofNat 3 p.val, far := h.panel })) ++
    c.hg.farLinks.filterMap (fun x => (c.hg.adverts.find? (fun a => a.rootUid == x.2.2)).map (fun a =>
      { gw := x.1, port := x.2.1, far := a.panel }))

/-- Broadcast PANEL_ADVERT. -/
def sendAdvert (c : Core) : Core := c.hedgeSend 0x3FF#10 7 c.advert.bytes

/-- The UID an address of this root's list was last granted to (R263). -/
def grantedTo (c : Core) (a : Addr) : Option Uid := (c.alloc.byAddr.find? (fun x => x.1 == a)).map (fun x => x.2)

/-- The addresses this root may hand out: those of its blocks, and the single ones it was granted (R263). -/
def ownAddrs (c : Core) : List Addr := c.hg.blocks.flatMap blockAddrs ++ c.hg.singles

/-- An address is free for a UID: granted to no tile or to this one, held by no other live tile, and not granted to another panel
as a single address (R263, R267). -/
def addrFree (c : Core) (uid : Uid) (a : Addr) : Bool :=
  ((c.grantedTo a).isNone || c.grantedTo a == some uid) &&
  !c.hg.adverts.any (fun x => x.rootUid != c.hg.uid && x.singles.contains a) &&
  !c.alloc.singles.any (fun x => x.1 == a && x.2 != c.hg.uid) &&
  !c.hg.roster.tiles.any (fun t => !t.lost && t.addr == a && t.uid != uid)

/-- The first free address of this root. -/
def newAddr (c : Core) (uid : Uid) : Option Addr := c.ownAddrs.find? (c.addrFree uid)

/-- Note an address as granted in NVM (R263). -/
def noteGrant (c : Core) (a : Addr) (uid : Uid) : Core :=
  c.modAlloc (fun x => { x with byAddr := x.byAddr.filter (fun y => y.1 != a) ++ [(a, uid)] })

/-- The next provisional block, ascending from 0x008 (R264). -/
def nextProvisional (c : Core) : Option Addr :=
  ((List.range 127).map (fun i => BitVec.ofNat 10 (8 * (i + 1)))).find? (fun b => !c.hg.blocks.contains b)

/-- Find an address for a tile: the requested one, or a new one; a root with provisional blocks takes a further one,
another asks for a block by PANEL_ADVERT (R263, R264, R267). -/
def allocate (c : Core) (uid : Uid) (requested : Addr) : Core × Option Addr :=
  let inList := c.ownAddrs.contains requested
  if inList && c.addrFree uid requested then (c.noteGrant requested uid, some requested)
  else
    match c.newAddr uid with
    | some a => (c.noteGrant a uid, some a)
    | none =>
      if c.hg.provisional then
        match c.nextProvisional with
        | none => (c, none)
        | some b =>
          let c := c.modHg (fun h => { h with blocks := h.blocks ++ [b] })
          match c.newAddr uid with
          | some a => (c.noteGrant a uid, some a)
          | none => (c, none)
      else (c.sendAdvert, none)

/-- Send the root's answer to a sponsor: a packet, or straight to the tile where the sponsor is the root itself. -/
def admitBack (c : Core) (a : Admission) : Core :=
  let uid := match a with
    | .grant g => g.uid
    | .refuse u _ => u
  match c.hg.joinWait.find? (fun w => w.2 == uid) with
  | none => c
  | some w =>
    (c.modHg (fun h => { h with joinWait := h.joinWait.filter (fun x => x.2 != uid) })).sendFrame w.1 (.admission a)

/-- Send a grant to a sponsor. -/
def sendGrant (c : Core) (sponsor : Addr) (g : JoinGrant) : Core :=
  if sponsor == c.hg.addr then c.admitBack (.grant g) else c.hedgeSend sponsor 2 g.bytes

/-- Refuse a joining tile (R266, R267, R28). -/
def refuseJoin (c : Core) (sponsor : Addr) (uid : Uid) (r : RefuseReason) : Core :=
  let c := c.eventCustodian 0x19 (bvLe 6 uid ++ [r.code])
  if sponsor == c.hg.addr then c.admitBack (.refuse uid r)
  else c.hedgeSend sponsor 3 (bvLe 6 uid ++ [r.code])

/-- A tile marked LOST is back (R297). -/
def tileBack (c : Core) (t : RosterTile) (port : Byte) (found : Bool) : Core :=
  let c := c.eventCustodian 0x16 ([port] ++ bvLe 2 t.addr)
  if found then c.eventAll 0x12 (bvLe 2 t.addr ++ bvLe 6 t.uid) else c

/-- Tiles known in the whole hedge (R28). -/
def hedgeTiles (c : Core) : Nat :=
  c.hg.roster.live.length + ((c.hg.adverts.filter (fun a => a.rootUid != c.hg.uid)).map (fun a => a.tileCount.toNat)).sum

/-- A tile of another panel joined through a WIRE port of a tile of this one: a WIRE link the root knows (R272). -/
def noteFar (c : Core) (gw : Addr) (port : BitVec 3) (uid : Uid) : Core :=
  if gw == c.hg.addr then c
  else c.modHg (fun h => { h with farLinks := h.farLinks.filter (fun x => x.1 != gw || x.2.1 != port) ++ [(gw, port, uid)] })

/-- JOIN_REQ at the panel root (R28, R258, R267, R297). DEDUCED (log 18): a tile without an implied position joins through a
WIRE partner; it gets an address and no place in this panel, whose limit it does not meet; a LOST tile that still has its address
was not reset. -/
def rootJoin (c : Core) (sponsor : Addr) (body : Hello) (requested : Addr) (sponsorPort : BitVec 3) : Core :=
  let uid := body.uid
  let known := c.hg.roster.byUid uid
  let u := (known.map (fun t => t.u)).getD body.u
  let v := (known.map (fun t => t.v)).getD body.v
  let alone := known.isNone && !body.posValid
  if !alone && c.hg.roster.live.any (fun t => t.uid != uid && t.u == u && t.v == v) then c.refuseJoin sponsor uid .positionConflict
  else if !alone && known.all (fun t => t.lost) && 64 ≤ c.hg.roster.live.length then c.refuseJoin sponsor uid .panelFull
  else if known.isNone && 1021 ≤ c.hedgeTiles then c.refuseJoin sponsor uid .hedgeFull
  else
    match c.allocate uid requested with
    | (c, none) => c
    | (c, some a) =>
      let e : RosterTile := { uid := uid, addr := a, u := u, v := v, mask := 0#6, state := body.state, lost := false }
      let c := if known.any (fun t => t.lost) then c.tileBack e (sponsorPort.zeroExtend 8) (body.addr != 0#10) else c
      let c := if alone then c.noteFar sponsor sponsorPort uid
        else (c.modHg (fun h => { h with wireJoined := false })).publish (linkNeighbours c.hg.roster.tiles e)
      c.sendGrant sponsor { uid := uid, addr := a, u := u, v := v, panel := c.hg.panel, epoch := c.hg.epoch,
                            rosterVer := c.hg.roster.version }

/-- The position a partner implies for this tile (R258). -/
def implied (c : Core) (p : Port) : Option (Int × Int) :=
  if c.isTile p && c.linkUp p then
    ((c.hport p).partner.filter (fun h => h.posValid)).map (fun h =>
      let o := portOffset (Fin.ofNat 6 (h.port.toNat % 6))
      (h.u.toInt + o.1, h.v.toInt + o.2))
  else none

/-- The sponsor: the lowest-addressed TILE partner with POS_VALID, else a WIRE partner (R267). -/
def sponsor (c : Core) : Option Port :=
  let tile := ports.foldl (fun (b : Option (Port × Addr)) p =>
    match (c.implied p).bind (fun _ => (c.hport p).partner) with
    | none => b
    | some h => match b with
      | none => some (p, h.addr)
      | some x => if h.addr.toNat < x.2.toNat then some (p, h.addr) else b) none
  match tile with
  | some x => some x.1
  | none => ports.find? (fun p => c.isWire p && c.linkUp p && (c.hport p).partner.any (fun h => h.addr != 0#10))

/-- Send JOIN on a port: the requested address is the one held, or that of the retention record (R71, R267). DEDUCED (log 18): its
HELLO body names the implied position with POS_VALID, which HELLO itself does not claim before the grant (R71). -/
def sendJoin (c : Core) (p : Port) : Core :=
  let h := c.helloBody p
  let h := match c.implied p with
    | none => h
    | some x => { h with u := BitVec.ofInt 8 x.1, v := BitVec.ofInt 8 x.2, posValid := true }
  c.sendFrame p (.join h (if c.hg.confirmed then c.hg.addr else c.hg.requested))

/-- Ask for admission where this tile has no confirmed address (R258, R267): a clash of implied positions raises
POSITION_CONFLICT and no JOIN. -/
def askJoin (c : Core) : Core :=
  if c.hg.confirmed || c.hg.panelRoot then c
  else
    let ps := ports.filterMap c.implied
    match c.sponsor with
    | none => c
    | some s =>
      let pos := c.implied s
      if ps.any (fun x => some x != pos) && pos.isSome then
        let c' := c.modHg (fun h => { h with posConflict := true })
        if c.hg.posConflict then c
        else match pos with
          | none => c'
          | some x => c'.eventCustodian 0x18 (leInt 1 x.1 ++ leInt 1 x.2)
      else
        (c.modHg (fun h => { h with posConflict := false })).sendJoin s

/-- Ask for admission, but for a tile that was refused and waits to ask again (R267). -/
def tryJoin (c : Core) : Core := if c.hg.joinRefused then c else c.askJoin

/-- Adopt an address and position that the root gave (R264, R267, R70). -/
def takeAddress (c : Core) (a : Addr) (u v : BitVec 8) : Core :=
  (c.modHg (fun h => { h with addr := a, u := u, v := v, posValid := true, confirmed := true })).syncRet

/-- A panel becomes known through its root: HELLO names the lowest panel-root UID (Table HEDGE-2). -/
def noteRoot (c : Core) (uid : Uid) : Core :=
  match c.hg.roster.byUid uid with
  | some t => if t.lost then c else c.modHg (fun h => { h with lowestRoot := uid, rootAddr := t.addr })
  | none => c

/-- A tile of the panel that its root has marked LOST and that was not reset asks to come back (R297). -/
def rejoin (c : Core) (p : Option Port) : Core :=
  match p.filter (fun q => c.isTile q && c.linkUp q) with
  | some q => c.when (c.hg.confirmed && !c.hg.panelRoot) (fun c => c.sendJoin q)
  | none => c

/-- A ROSTER arrives (R264, R270, R297): the panel map is renewed, and this tile takes the address it is given there. A root takes
only a ROSTER that holds it as live: its own part's, or the one that hands it the role (R269). -/
def takeRoster (c : Core) (r : Roster) : Core :=
  if c.hg.panelRoot && !r.live.any (fun t => t.uid == c.hg.uid) then c
  else
  let c := c.modHg (fun h => { h with roster := r, hasRoster := true })
  let c := if c.hg.panelRoot || r.live.any (fun t => t.uid == c.hg.lowestRoot) then c
    else match r.lowest with
      | some t => c.modHg (fun h => { h with lowestRoot := t.uid })
      | none => c
  let c := if c.hg.panelRoot then c else c.noteRoot c.hg.lowestRoot
  let c := match r.byUid c.hg.uid with
    | none => c
    | some t =>
      if t.lost then c.rejoin c.sponsor
      else if (t.addr == c.hg.addr && t.u == c.hg.u && t.v == c.hg.v) || !c.hg.confirmed then c
      else c.takeAddress t.addr t.u t.v
  c.relayRetry

/-- A tile joined through a WIRE partner is root of a panel of its own (R267). -/
def joinAlone (c : Core) (panel : BitVec 5) : Core :=
  let c := c.modHg (fun h => { h with panelRoot := true, depth := 0#4, parent := none, lowestRoot := h.uid, rootAddr := h.addr, panel := panel,
                                      u := 0#8, v := 0#8, handoverDue := false, blocks := c.alloc.ownBlocks,
                                      singles := c.alloc.ownSingles, wireJoined := true,
                                      provisional := c.alloc.ownBlocks.isEmpty, tk := Timekeeper.reset })
  c.publish [c.ownEntry]

/-- A tile that joined through a WIRE partner gives its one-tile panel up where a TILE link joins it to another panel (R267). DEDUCED
(log 18): of two such tiles the one of the lower UID stays root. -/
def leaveAlone (c : Core) (p : Port) : Core :=
  let give := fun (h : Hello) => h.posValid && h.lowestRoot != c.hg.uid &&
    !(h.panelRoot && h.rosterVer == 1#16 && decide (c.hg.uid.toNat < h.uid.toNat))
  if c.hg.wireJoined && c.isTile p && c.linkUp p && (c.hport p).partner.any give then
    c.modHg (fun h => { h with
      panelRoot := false, hedgeRoot := false, wireJoined := false, confirmed := false, posValid := false, requested := h.addr, addr := 0#10
      depth := 15#4, rootAddr := 0#10, lowestRoot := h.uid, hasRoster := false, roster := { version := 0#16, tiles := [] }
      blocks := [], singles := [], provisional := true, panelRefused := false, adverts := [], routes := [], tk := Timekeeper.reset })
  else c

/-- JOIN_GRANT or JOIN_REFUSE reaches the joining tile in ADMIT (R258, R267, R269, R71, R297): none is taken while two partners imply
different positions. -/
def takeAdmission (c : Core) (p : Port) (a : Admission) : Core :=
  match a with
  | .grant g =>
    if g.uid == c.hg.uid && !c.hg.panelRoot && (if c.hg.confirmed then c.isTile p else !c.hg.posConflict) then
      let root := ((c.hport p).partner.map (fun h => h.lowestRoot)).getD c.hg.uid
      let c := (c.takeAddress g.addr g.u g.v).modHg (fun h =>
        { h with panel := g.panel, epoch := g.epoch, joinRefused := false,
                 handoverDue := decide (h.uid.toNat < root.toNat), lowestRoot := root })
      if c.isWire p then (c.joinAlone g.panel).syncRet else c.syncRet.noteRoot root
    else c
  | .refuse uid _ =>
    if uid == c.hg.uid && !c.hg.confirmed then c.modHg (fun h => { h with joinRefused := true }) else c

/-- The tiles that the roster's links join to this root. -/
def reachable (c : Core) : List Addr := (spread c.mapNext 64 0 [c.hg.addr] []).map (fun x => x.1)

/-- LOSS at the panel root: the link it names is gone from the map (R294). -/
def rootLoss (c : Core) (src : Addr) (r : LossReport) : Core :=
  let port : Port := Fin.ofNat 6 (r.port.toNat % 6)
  let cut := fun (t : RosterTile) =>
    if t.addr == src then { t with mask := t.mask &&& ~~~(1#6 <<< port.val) }
    else if t.uid == r.uid then { t with mask := t.mask &&& ~~~(1#6 <<< (oppositePort port).val) } else t
  c.modHg (fun h => { h with lossReports := h.lossReports ++ [r],
                             farLinks := h.farLinks.filter (fun x => x.1 != src || x.2.1 != r.port)
                             roster := { h.roster with tiles := h.roster.tiles.map cut } })

/-- The ids a tile last reported in IN_USE. -/
def idsOf (c : Core) (a : Addr) : BitVec 64 := ((c.hg.tk.tiles.find? (fun t => t.addr == a)).map (fun t => t.inUse)).getD 0#64

/-- Mark one tile LOST: TILE_LOST and TILE_LOST_IDS to every tenant, its ids to be freed 8 frames later (R294, R368). -/
def markLost (c : Core) (t : RosterTile) (cause : LossCause) : Core :=
  let ids := c.idsOf t.addr
  let a := eventBytes 0x10 (bvLe 2 t.addr ++ bvLe 6 t.uid ++ [cause.code]) c.hg.addr c.frame16
  let b := eventBytes 0x11 (bvLe 8 ids) c.hg.addr c.frame16
  let c := c.everyTenant.foldl (fun c n => c.placePair n a b c.hg.fc c.hg.addr) c
  let c := c.modTele (fun x => { x with events := x.events + 2 })
  c.modHg (fun h => { h with
    lost := h.lost ++ [(t.addr, ids)]
    tk := { h.tk with tiles := h.tk.tiles.filter (fun x => x.addr != t.addr),
                      granted := h.tk.granted.filter (fun g => g.1 != t.addr) }
    roster := { h.roster with tiles := h.roster.tiles.map (fun x => if x.uid == t.uid then { x with lost := true, mask := 0#6 } else x) } })

/-- A partner is lost (R294, R296, Table HEDGE-8): LOSS to the panel root; its frames go another way where they can. A seam that is
SEVERED makes contacts uncertain and hands its tile's contacts over. -/
def partnerLost (c : Core) (p : Port) (cause : LossCause) : Core :=
  let hp := c.hport p
  let l := c.port p
  let free := fun (c : Core) (f : TxFrame) => match f.carries with
    | some (t, n, _, full) => c.modQueue t (fun q => q.fix n full false)
    | none =>
      match f.body with
      | .data b => if pkDst b == 0x3FF#10 then c else c.relayPut { bytes := b, held := none, came := c.pw.rtc, notVia := some p }
      | _ => c
  let c := (c.modHp p (fun h => { h with partner := none, present := false, asleep := false, outstanding := [], nakWait := false,
                                         wakeTry := none, delayRun := none, syncD := none,
                                         uncertain := h.uncertain || (c.pw.phase == .run && c.isTile p && cause == .severed),
                                         takeover := h.takeover || (c.pw.phase == .run && c.isTile p && cause == .severed) })).modPort p
    (fun x => { x with txq := [], onLine := none, lineOut := [] })
  let c := (hp.outstanding ++ l.onLine.toList ++ l.txq).foldl free c
  let c := if c.hg.parent == some p then c.modHg (fun h => { h with parent := none, p := 0, phi := 0 }) else c
  let c := c.relayRetry
  match hp.partner with
  | none => c
  | some h =>
    if c.hg.confirmed || c.hg.panelRoot then
      let r : LossReport := { port := BitVec.ofNat 3 p.val, partner := h.addr, uid := h.uid, cause := cause }
      c.toRoot 6 r.bytes (fun c => c.rootLoss c.hg.addr r)
    else c

/-- WIRE neighbours of a panel: the far panels of a PANEL_ADVERT's links. -/
def farPanels (l : List WireLink) : List (BitVec 5) := l.map (fun w => w.far)

/-- The number of WIRE hops from a far panel of this panel to each panel, by rings. -/
def panelHops (ads : List PanelAdvert) (start : BitVec 5) (own : BitVec 5) : List (Addr × Nat) :=
  let next := fun (a : Addr) => ((ads.filter (fun x => x.panel.toNat == a.toNat)).flatMap (fun x => farPanels x.wires)).filter
    (fun q => q != own) |>.map (fun q => BitVec.ofNat 10 q.toNat)
  spread next 32 1 [BitVec.ofNat 10 start.toNat] []

/-- The addresses of another panel as ranges: single addresses, which lie in a third panel's block, stand before blocks. The hedge
root has its own allocations for them, another root what the panel's PANEL_ADVERT holds (R263, R272). -/
def rangesOf (c : Core) (a : PanelAdvert) : List (Addr × Addr) :=
  let mine := fun (l : List (Addr × Uid)) => (l.filter (fun g => g.2 == a.rootUid)).map (fun g => g.1)
  let (ones, blocks) := if c.hg.hedgeRoot then (mine c.alloc.singles, mine c.alloc.granted) else (a.singles, a.blocks)
  ones.map (fun x => (x, x)) ++ blocks.map (fun b => (b, b + 7#10))

/-- The route table (R272): to every address of another panel by the path of fewest WIRE hops, ties to the lower gateway address;
STATIC entries stand first, and single addresses before blocks. A confined panel has no computed route (R264, R266). -/
def routeTable (c : Core) : List RouteEntry :=
  let wires := c.advert.wires
  let fixedOnes := c.hg.routes.filter (fun r => r.isStatic)
  let others := c.hg.adverts.filter (fun a => a.rootUid != c.hg.uid && a.panel != c.hg.panel && !a.provisional)
  let best := fun (a : PanelAdvert) => wires.foldl (fun (b : Option (WireLink × Nat)) w =>
    match distOf (panelHops c.hg.adverts w.far c.hg.panel) (BitVec.ofNat 10 a.panel.toNat) with
    | none => b
    | some d => match b with
      | none => some (w, d)
      | some x => if d < x.2 || (d == x.2 && w.gw.toNat < x.1.gw.toNat) then some (w, d) else b) none
  let made : List RouteEntry := others.flatMap (fun a => match best a with
    | none => []
    | some (w, d) => (c.rangesOf a).map (fun r =>
        { lo := r.1, hi := r.2, gw := w.gw, port := w.port, metric := BitVec.ofNat 4 (min d 15), isStatic := false }))
  let made := if c.confined then [] else made.filter (fun r => r.lo == r.hi) ++ made.filter (fun r => r.lo != r.hi)
  (fixedOnes ++ made).take 64

/-- Panels a route table reaches. -/
def reachedPanels (c : Core) (r : List RouteEntry) : List (BitVec 5) :=
  ((c.hg.adverts.filter (fun a => a.blocks.any (fun b => r.any (fun e =>
    decide (e.lo.toNat ≤ b.toNat) && decide (b.toNat ≤ e.hi.toNat))))).map (fun a => a.panel)).eraseDups

/-- Compute the routes again; a change goes out in ROUTES, and a panel left with no route raises PANEL_UNREACHABLE
(R272, R294). -/
def reroute (c : Core) : Core :=
  let r := c.routeTable
  if r == c.hg.routes then c
  else
    let lost := (c.reachedPanels c.hg.routes).filter (fun q => !(c.reachedPanels r).contains q)
    let c := (c.modHg (fun h => { h with routes := r })).hedgeSend 0x3FF#10 9 ((if c.confined then [] else r).flatMap RouteEntry.bytes)
    (lost.foldl (fun c q => c.eventAll 0x13 [q.zeroExtend 8]) c).relayRetry

/-- LOSS_DECISION for one tile, 50 ms after the first report that names it (R294): tiles out of reach are LOST, but for those that a
report whose time still runs names; a tile still in reach, or a WIRE partner, costs a LINK_LOST. The hedge root learns of a lost WIRE
partner by PANEL_ADVERT, and the routes are computed again (Table HEDGE-8). -/
def decideLosses (c : Core) (uid : Uid) : Core :=
  let reports := c.hg.lossReports.filter (fun r => r.uid == uid)
  let later := c.hg.lossReports.filter (fun r => r.uid != uid)
  if reports.isEmpty then c
  else
    let near := c.reachable
    let gone := c.hg.roster.tiles.filter (fun t => !t.lost && !near.contains t.addr && t.addr != c.hg.addr &&
      !later.any (fun r => r.uid == t.uid))
    let cause := fun (t : RosterTile) => ((reports.find? (fun r => r.uid == t.uid)).map (fun r => r.cause)).getD
      ((reports.head?.map (fun r => r.cause)).getD .severed)
    let c := gone.foldl (fun c t => c.markLost t (cause t)) c
    let links := reports.filter (fun r => !(c.hg.roster.byUid r.uid).any (fun t => t.lost))
    let c := links.foldl (fun c r => c.eventCustodian 0x15 ([r.port.zeroExtend 8] ++ bvLe 2 r.partner)) c
    let c := (c.modHg (fun h => { h with lossReports := later })).publish c.hg.roster.tiles
    if reports.any (fun r => (c.hg.roster.byUid r.uid).isNone) then c.sendAdvert.reroute else c

/-- LOSS_DECISION (R294): the 50 ms that end first are those of the tile that the oldest undecided report names. -/
def decideFirst (c : Core) : Core :=
  match c.hg.lossReports with
  | [] => c
  | r :: _ => c.decideLosses r.uid

/-- A block that no panel root holds, ascending from 0x000. -/
def freeBlock (c : Core) (taken : List Addr) : Option Addr :=
  ((List.range 128).map (fun i => BitVec.ofNat 10 (8 * i))).find? (fun b =>
    !c.alloc.granted.any (fun g => g.1 == b) && !taken.contains b)

/-- The panel number of a root: the one it has; a final number that no root of a lower UID holds is kept; else the lowest
free (R265). DEDUCED (log 18): a number of provisional addresses is no number yet. -/
def panelNumberOf (c : Core) (a : PanelAdvert) : Option (BitVec 5) :=
  match c.hg.panelNumbers.find? (fun x => x.1 == a.rootUid) with
  | some x => some x.2
  | none =>
    if !a.provisional && !c.hg.panelNumbers.any (fun x => x.2 == a.panel && decide (x.1.toNat < a.rootUid.toNat)) then some a.panel
    else ((List.range 32).map (fun i => BitVec.ofNat 5 i)).find? (fun n => !c.hg.panelNumbers.any (fun x => x.2 == n))

/-- The hedge root a panel root knows: the lowest root UID of the adverts and its own (R265), with its address. -/
def hedgeRootNow (c : Core) : Uid × Addr :=
  c.hg.adverts.foldl (fun (b : Uid × Addr) a => if a.rootUid.toNat < b.1.toNat then (a.rootUid, a.rootAddr) else b)
    (c.hg.uid, c.hg.addr)

/-- PANEL_GRANT at a panel root (R264, R266). -/
def takeGrant (c : Core) (g : PanelGrant) : Core :=
  if g.refused then c.modHg (fun h => { h with panelRefused := true })
  else
    let c := c.modHg (fun h => { h with panel := g.panel, blocks := g.blocks, singles := g.singles, provisional := false, panelRefused := false })
    let c := c.modAlloc (fun a => { a with ownBlocks := g.blocks, ownSingles := g.singles })
    let ok := fun (a : Addr) => c.ownAddrs.contains a
    let bad := c.hg.roster.tiles.filter (fun t => !ok t.addr)
    let step := fun (x : Core × List RosterTile) (t : RosterTile) =>
      match x.1.newAddr t.uid with
      | none => x
      | some a => (x.1.noteGrant a t.uid, x.2.map (fun y => if y.uid == t.uid then { y with addr := a } else y))
    let (c, tiles) := bad.foldl step (c, c.hg.roster.tiles)
    let c := if bad.isEmpty then c else c.publish tiles
    let c := match c.hg.roster.byUid c.hg.uid with
      | some t => if t.addr == c.hg.addr then c else c.takeAddress t.addr t.u t.v
      | none => c
    let root := c.hedgeRootNow
    let changed := c.hg.hedgeRootUid != some root.1
    let c := (c.modHg (fun h => { h with rootAddr := h.addr, hedgeRootUid := some root.1 })).syncRet
    let c := if changed then c.eventCustodian 0x1C (bvLe 2 root.2) else c
    c.reroute

/-- A single address to grant to a panel where no block is left (R263): the highest address of a granted block whose panel has more
addresses than tiles, and that no panel holds as a single one. DEDUCED (log 18): the hedge root judges by the tile counts of the
PANEL_ADVERTs, and of its own panel by its own list. -/
def freeSingle (c : Core) (uid : Uid) : Option Addr :=
  let held := fun (u : Uid) => ((c.alloc.granted.filter (fun g => g.2 == u)).flatMap (fun g => blockAddrs g.1)).filter (fun a =>
    !c.alloc.singles.any (fun x => x.1 == a))
  let tiles := fun (u : Uid) => if u == c.hg.uid then c.hg.roster.live.length
    else ((c.hg.adverts.find? (fun a => a.rootUid == u)).map (fun a => a.tileCount.toNat)).getD 0
  ((c.alloc.granted.map (fun g => g.2)).eraseDups.filter (fun u => u != uid)).findSome? (fun u =>
    let l := (held u).filter (fun a => u != c.hg.uid || c.addrFree uid a)
    if tiles u < (held u).length then l.getLast? else none)

/-- The hedge root answers one panel root (R263 to R266). DEDUCED (log 18): blocks that a panel root holds as final stay its own even
where another root was granted them, as those of a split panel's parts (R295). -/
def answerOne (c : Core) (a : PanelAdvert) : Core :=
  match c.panelNumberOf a with
  | none =>
    let c := c.eventCustodian 0x19 (bvLe 6 a.rootUid ++ [RefuseReason.hedgeFull.code])
    let g : PanelGrant := { panel := 0#5, blocks := [], singles := [], refused := true }
    if a.rootUid == c.hg.uid then c.takeGrant g else c.hedgeSend a.rootAddr 8 g.bytes
  | some n =>
    let mine := fun (c : Core) (b : Addr) => c.alloc.granted.any (fun g => g.1 == b && g.2 == a.rootUid)
    let foreign := fun (c : Core) (b : Addr) => c.alloc.granted.any (fun g => g.1 == b && g.2 != a.rootUid)
    let give := fun (c : Core) (b : Addr) => c.modAlloc (fun x => { x with granted := x.granted ++ [(b, a.rootUid)] })
    let take := fun (x : Core × List Addr) (b : Addr) =>
      if mine x.1 b || (foreign x.1 b && !a.provisional) then (x.1, x.2 ++ [b])
      else if foreign x.1 b then
        match x.1.freeBlock a.blocks with
        | some f => (give x.1 f, x.2 ++ [f])
        | none => x
      else (give x.1 b, x.2 ++ [b])
    let (c, blocks) := a.blocks.foldl take (c, [])
    let need := decide ((blocks.flatMap blockAddrs ++ a.singles).length ≤ a.tileCount.toNat)
    let (c, blocks, singles) := if blocks.isEmpty || need then
        match c.freeBlock a.blocks with
        | some f => (give c f, blocks ++ [f], a.singles)
        | none =>
          match c.freeSingle a.rootUid with
          | some f => (c.modAlloc (fun x => { x with singles := x.singles ++ [(f, a.rootUid)] }), blocks, a.singles ++ [f])
          | none => (c, blocks, a.singles)
      else (c, blocks, a.singles)
    let known := c.hg.panelNumbers.any (fun x => x.1 == a.rootUid)
    let c := if known then c else c.modHg (fun h => { h with panelNumbers := h.panelNumbers.filter (fun x => x.2 != n) ++ [(a.rootUid, n)] })
    if known && !a.provisional && blocks == a.blocks && singles == a.singles && a.panel == n then c
    else
      let g : PanelGrant := { panel := n, blocks := blocks, singles := singles, refused := false }
      if a.rootUid == c.hg.uid then c.takeGrant g else c.hedgeSend a.rootAddr 8 g.bytes

/-- The hedge root answers a panel root, and gives a new number to a root of a higher UID that held the same (R265). -/
def answerPanel (c : Core) (a : PanelAdvert) : Core :=
  let before := c.hg.panelNumbers
  let c := c.answerOne a
  let rivals := c.hg.adverts.filter (fun x => x.rootUid != a.rootUid && before.any (fun y => y.1 == x.rootUid) &&
    !c.hg.panelNumbers.any (fun y => y.1 == x.rootUid))
  rivals.foldl answerOne c

/-- What a tile learns from the PANEL_ADVERT of its own panel's root: the panel number and the addresses the panel holds, which it
keeps should it take the roles (R266, R295; DEDUCED, log 18). -/
def noteAdvert (c : Core) (a : PanelAdvert) : Core :=
  if a.rootUid == c.hg.lowestRoot && c.hg.confirmed then
    (c.modHg (fun h => { h with panel := a.panel, blocks := a.blocks, singles := a.singles, provisional := a.provisional })).syncRet
  else c

/-- PANEL_ADVERT (R265, R266, R272). -/
def takeAdvert (c : Core) (a : PanelAdvert) : Core :=
  if !c.hg.panelRoot then c.noteAdvert a
  else if a.rootUid == c.hg.uid then c
  else
    let c := c.modHg (fun h => { h with
      adverts := h.adverts.filter (fun x => x.rootUid != a.rootUid) ++ [a]
      advertAt := h.advertAt.filter (fun x => x.1 != a.rootUid) ++ [(a.rootUid, c.pw.rtc)] })
    let c := if a.rootUid.toNat < c.hg.uid.toNat && c.hg.hedgeRoot then
        (c.modHg (fun h => { h with hedgeRoot := false, hedgeRootUid := some a.rootUid })).syncRet.eventCustodian 0x1C (bvLe 2 a.rootAddr)
      else c
    let c := if c.hg.hedgeRoot then c.answerPanel a else c
    c.reroute

/-- HEDGE_ROOT_ELECTION (R265): panel roots are taken in order of ascending root UID. -/
def becomeHedgeRoot (c : Core) : Core :=
  let keep := c.hg.adverts.filter (fun a => decide (c.hg.uid.toNat < a.rootUid.toNat))
  let c := (c.modHg (fun h => { h with hedgeRoot := true, adverts := keep })).syncRet
  let c := c.answerPanel c.advert
  (sortBy (fun (a b : PanelAdvert) => decide (a.rootUid.toNat < b.rootUid.toNat)) keep).foldl answerPanel c

/-- PANEL_ADVERT_PERIODIC (Table HEDGE-3, R266). A root that has not been heard for 30 s, the time of R265, is forgotten, and the hedge
root has its panel number free again; DEDUCED (log 18). -/
def advertTime (c : Core) : Core :=
  let old := (c.hg.advertAt.filter (fun x => decide (983040 ≤ (c.pw.rtc - x.2).toNat))).map (fun x => x.1)
  let c := if old.isEmpty then c
    else (c.modHg (fun h => { h with
      adverts := h.adverts.filter (fun a => !old.contains a.rootUid), advertAt := h.advertAt.filter (fun x => !old.contains x.1)
      panelNumbers := h.panelNumbers.filter (fun x => !old.contains x.1) })).reroute
  c.sendAdvert

/-- PANEL_ROOT_ELECTION (R262, R263): position (0, 0) where none is confirmed, an address of its own blocks. -/
def becomeRoot (c : Core) : Core :=
  let blocks := c.alloc.ownBlocks
  let c := c.modHg (fun h => { h with panelRoot := true, depth := 0#4, parent := none, lowestRoot := h.uid, blocks := blocks,
                                      singles := c.alloc.ownSingles
                                      provisional := blocks.isEmpty, tk := Timekeeper.reset })
  match c.allocate c.hg.uid c.hg.requested with
  | (c, none) => c
  | (c, some a) =>
    let keep := c.hg.confirmed
    let c := c.takeAddress a (if keep then c.hg.u else 0#8) (if keep then c.hg.v else 0#8)
    let c := (c.modHg (fun h => { h with rootAddr := a })).syncRet
    c.publish [c.ownEntry]

/-- The blocks in which the live tiles of the roster have their addresses. -/
def rosterBlocks (c : Core) : List Addr := (c.hg.roster.live.map (fun t => t.addr &&& 0x3F8#10)).eraseDups

/-- Take the timekeeper's and panel root's roles from another tile, the epoch raised by one (R269, R295). The panel keeps its
addresses; DEDUCED (log 18): it holds the blocks of the last PANEL_ADVERT of its former root, or, where none was heard, those its tiles'
addresses lie in. -/
def takeRoles (c : Core) : Core :=
  let blocks := if c.hg.blocks.isEmpty then c.rosterBlocks else c.hg.blocks
  let c := c.modAlloc (fun a => { a with ownBlocks := if c.hg.provisional then a.ownBlocks else blocks, ownSingles := c.hg.singles })
  let c := c.modHg (fun h => { h with panelRoot := true, handoverDue := false, epoch := h.epoch + 1#8, depth := 0#4, parent := none,
                                      rootAddr := h.addr, lowestRoot := h.uid, p := 0, phi := 0, tk := Timekeeper.reset,
                                      framesNoSync := 0, blocks := blocks, planMismatch := false })
  c.syncRet.eventCustodian 0x1B (bvLe 2 c.hg.addr ++ [c.hg.epoch])

/-- The former root gives up its roles; to a tile of its own panel it broadcasts the handover in a ROSTER (R269). Of two parts of a
panel that meet again the one of the higher epoch takes the roles (R295), and a former root of lower UID takes them back as a newly
admitted tile does (R29, R269; DEDUCED, log 18). -/
def yieldRoles (c : Core) (root : Addr) : Core :=
  let new := c.hg.roster.byAddr root
  let c := (c.modHg (fun h => { h with
    panelRoot := false, hedgeRoot := false, rootAddr := root, depth := 15#4, wireJoined := false
    lowestRoot := (new.map (fun t => t.uid)).getD h.lowestRoot
    handoverDue := new.any (fun t => decide (h.uid.toNat < t.uid.toNat)) })).syncRet
  if new.any (fun t => !t.lost) then c.publish c.hg.roster.tiles else c

/-- The frame period the timekeeper keeps: its own, or the adopted one where it has no committed profile (R286). -/
def tkTicks (c : Core) : Nat :=
  match (if c.slot.isNone then c.hg.tk.adopted else none) with
  | some a => a.1.toNat
  | none => c.prof.frameTicks

/-- The plan digest the timekeeper announces (R286). -/
def tkDigest (c : Core) : Word :=
  match (if c.slot.isNone then c.hg.tk.adopted else none) with
  | some a => a.2
  | none => planDigest c.prof

/-- A noise figure reported for a set (R109): the largest of the latest frame that surveyed it; a report of an earlier frame does not
count. -/
def noteFigure (l : List PanelFigure) (hop : Nat) (fig fc : BitVec 32) : List PanelFigure :=
  let h : BitVec 3 := BitVec.ofNat 3 hop
  match l.find? (fun f => f.hop == h) with
  | none => l ++ [{ hop := h, figure := fig, fc := fc }]
  | some old =>
    let new : PanelFigure :=
      if old.fc == fc then { old with figure := if old.figure.toNat < fig.toNat then fig else old.figure }
      else if (fc - old.fc).toInt < 0 then old
      else { hop := h, figure := fig, fc := fc }
    l.map (fun f => if f.hop == h then new else f)

/-- TILE_REPORT at the timekeeper (R109, R165, R286, R287). An id given back that the tile has held in use had an UP, and waits for 8
frames; one given back unused is free at once. -/
def takeReport (c : Core) (src : Addr) (r : TileReport) : Core :=
  let back := fun (g : Addr × BitVec 6 × BitVec 32) => g.1 == src && decide (g.2.2.toNat ≤ r.fc.toNat)
  let figs := r.surveys.foldl (fun l s => noteFigure l s.1.toNat s.2 r.fc) c.hg.tk.figures
  let held := c.idsOf src
  let tiles := c.hg.tk.tiles.filter (fun t => t.addr != src) ++ [{ addr := src, inUse := r.inUse, wanted := r.idsReq.toNat, fc := r.fc }]
  let freed := c.hg.tk.freed ++ (bitIds (r.returned &&& held)).map (fun i => { id := i, fc := r.fc })
  let c := c.modHg (fun h => { h with tk := { h.tk with
    tiles := tiles, freed := freed, figures := figs, framesQuiet := 0, granted := h.tk.granted.filter (fun g => !back g)
    adopted := if h.tk.adopted.isNone then some (r.frameTicks, r.digest) else h.tk.adopted } })
  let c := if c.pw.phase == .run || !c.pw.phase.isAwake then c
    else c.modHg (fun h => { h with tk := { h.tk with timing := true } })
  match c.hg.roster.byAddr src with
  | some t =>
    if t.lost then
      (c.tileBack t 0xFF#8 true).publish (linkNeighbours c.hg.roster.tiles { t with lost := false })
    else c
  | none => c

/-- The ids the panel holds: in use, or granted and not yet reported. -/
def idsHeld (c : Core) : BitVec 64 :=
  c.hg.tk.granted.foldl (fun m g => m ||| (1#64 <<< g.2.1.toNat)) ((c.hg.tk.tiles.map (fun t => t.inUse)).foldl (fun a b => a ||| b)
    ((c.hg.lost.map (fun l => l.2)).foldl (fun a b => a ||| b) 0#64))

/-- The lowest id that may be granted: free, and its UP at least 8 frames old; none above 40 contacts (R165). -/
def freeId (c : Core) : Option (BitVec 6) :=
  let held := c.idsHeld
  if 40 ≤ (bitIds held).length then none
  else ((List.range 64).map (fun i => BitVec.ofNat 6 i)).find? (fun i => !held.getLsbD i.toNat &&
    !c.hg.tk.freed.any (fun f => f.id == i && decide ((c.hg.fc - f.fc).toNat < 8)))

/-- Grant one id to a tile. -/
def grantOne (c : Core) (a : Addr) (out : List IdGrant) : Core × List IdGrant :=
  if 8 ≤ out.length then (c, out)
  else
    match c.freeId with
    | none => (c, out)
    | some i =>
      (c.modHg (fun h => { h with tk := { h.tk with
        granted := h.tk.granted ++ [(a, i, h.fc)]
        tiles := h.tk.tiles.map (fun t => if t.addr == a then { t with wanted := t.wanted - 1 } else t) } }),
       out ++ [{ tile := a, id := i }])

/-- The grants of a SYNC: by the requesting tiles' addresses, at most 8 (R286). -/
def grantIds (c : Core) : Core × List IdGrant :=
  let asks := (sortBy (fun (a b : TkTile) => decide (a.addr.toNat < b.addr.toNat)) c.hg.tk.tiles).flatMap (fun t => List.replicate t.wanted t.addr)
  asks.foldl (fun (x : Core × List IdGrant) a => x.1.grantOne a x.2) (c, [])

/-- The smallest panel figure among the other sets surveyed within the last 64 frames (R110). DESIGN CHOICE (log 33): of two sets that
tie, the one whose figure was noted first, which stands first in the list. -/
def bestOther (c : Core) : Option PanelFigure :=
  (c.hg.tk.figures.filter (fun f => f.hop != c.acq.hop && decide ((c.hg.fc - f.fc).toNat ≤ 64))).foldl
    (fun (b : Option PanelFigure) f => match b with
      | none => some f
      | some x => if f.figure.toNat < x.figure.toNat then some f else b) none

/-- The hop-set decision at the timekeeper's boundary (R110): after 8 noisy frames, not within 256 frames of a change,
to take effect 4 frames after the frame that decided it. -/
def decideHop (c : Core) : Core :=
  let cur := (c.hg.tk.figures.find? (fun f => f.hop == c.acq.hop)).map (fun f => f.figure.toNat)
  let best := c.bestOther
  let noisy := match cur, best with
    | some n, some b => decide (2 * b.figure.toNat < n)
    | _, _ => false
  let run := if noisy then c.hg.tk.noisyRun + 1 else 0
  let since := c.hg.tk.sinceChange + 1
  match (if 8 ≤ run && 256 ≤ since && c.acq.hopPend.isNone then best else none) with
  | some b =>
    { c.modHg (fun h => { h with tk := { h.tk with noisyRun := 0, sinceChange := 0 } }) with
      acq := { c.acq with hopPend := some (b.hop, c.hg.fc + 3#32) } }
  | none => c.modHg (fun h => { h with tk := { h.tk with noisyRun := run, sinceChange := min since 65536 } })

/-- The SYNC body of the timekeeper for the frame that begins (Table HEDGE-5). -/
def composeSync (c : Core) : Core :=
  let c := c.decideHop
  let (c, grants) := c.grantIds
  let next := match c.acq.hopPend with
    | some (h, f) => (h, BitVec.ofNat 8 (f - c.hg.fc).toNat)
    | none => (c.acq.hop, 0#8)
  let own := (grants.filter (fun g => g.tile == c.hg.addr)).map (fun g => g.id)
  let body : SyncBody :=
    { fc := c.hg.fc, tkAddr := c.hg.addr, depth := 0#4, epoch := c.hg.epoch, hopCur := c.acq.hop, hopNext := next.1,
      changeIn := next.2, digest := c.tkDigest, grants := grants }
  c.modHg (fun h => { h with grants := h.grants ++ own, syncBody := some body })

end Core

end Sys2Proof.Machine
end

