-- ==== Sys2Proof/Machine/Pktout.lean ====
section
/-!
DEFINITION. PKTOUT: which packet is its head, its level, sealing, and reading it out (R310, R313 to R315, R345,
R367, R371).
-/
namespace Sys2Proof.Machine

/-- The head packet before it is sealed: an RSP by its place, or the leading records of a tenant's queue. -/
inductive HeadPick where
  | rsp (i : Nat)
  | records (t : Tenant) (evt : Bool) (items : List QItem)
  deriving DecidableEq, Repr

/-- The tenants in rotation, from the one after `t` (R371). -/
def rotation (t : Tenant) : List Tenant := (List.range 16).map (fun i => Fin.ofNat 16 (t.val + 1 + i))

/-- URG of an RSP that waits. -/
def OutItem.urg : OutItem → Bool
  | .own r => r.urg
  | .foreign u _ => u

/-- TENANT and SRC of an RSP that waits: what keeps its order among RSPs (R340). -/
def OutItem.stream (own : Addr) : OutItem → Tenant × Addr
  | .own r => (r.tenant, own)
  | .foreign _ b => (pkTenant b, pkSrc b)

namespace Core

/-- The RSPs that wait behind none of their own tenant and origin, with their places: an urgent one passes no other of these (R340). -/
def rspHeads (c : Core) : List (OutItem × Nat) :=
  let name := OutItem.stream c.hg.addr
  c.host.outRsp.zipIdx.filter (fun x => (c.host.outRsp.take x.2).all (fun y => name y != name x.1))

/-- An RSP that waits can be sealed: it carries no tag, or its transmit counter can be drawn (R345). -/
def rspReady (c : Core) : OutItem → Bool
  | .own r => !r.auth || (c.tenantKey r.tenant).isNone || c.txReady r.tenant
  | .foreign _ _ => true

/-- The leading run of a tenant's queue at its home tile (R371), none while it is held back (R345). -/
def leadItems (c : Core) (t : Tenant) : List QItem :=
  if c.isHome t && ((c.tenantKey t).isNone || c.txReady t) then leadRun c.hg.addr (c.queue t).items else []

/-- The first tenant in rotation whose leading run is not empty and passes a test. -/
def firstRun (c : Core) (ptr : Tenant) (ok : List QItem → Bool) : Option (Tenant × List QItem) :=
  ((rotation ptr).map (fun t => (t, c.leadItems t))).find? (fun x => !x.2.isEmpty && ok x.2)

/-- A run of events. -/
def evtRun (c : Core) (l : List QItem) : Bool := l.all (fun i => i.isEvent c.hg.addr)

/-- The head packet of PKTOUT while none is sealed (R340, R371). -/
def headPick (c : Core) : Option HeadPick :=
  let rsp := fun (u : Bool) => (c.rspHeads.find? (fun x => c.rspReady x.1 && x.1.urg == u)).map (fun x => HeadPick.rsp x.2)
  let evt := fun (u : Bool) => (c.firstRun c.host.evtPtr (fun l => c.evtRun l && (!u || l.any (fun i => i.isUrgent c.hg.addr)))).map
    (fun x => HeadPick.records x.1 true x.2)
  let rpt := (c.firstRun c.host.rptPtr (fun l => !c.evtRun l)).map (fun x => HeadPick.records x.1 false x.2)
  ((((rsp true).or (evt true)).or (rsp false)).or (evt false)).or rpt

/-- Length of the head packet before it is sealed (R337, R367). -/
def pickLength (c : Core) : HeadPick → Nat
  | .rsp i =>
    match c.host.outRsp[i]? with
    | some (.own r) => 16 + r.payload.length + (if r.auth && (c.tenantKey r.tenant).isSome then 8 else 0)
    | some (.foreign _ b) => b.length
    | none => 0
  | .records t _ l => 24 + 16 * l.length + (if (c.tenantKey t).isSome then 8 else 0)

/-- Header of an RPT or EVT packet (R340, R367). -/
def reportHead (c : Core) (t : Tenant) (evt : Bool) (items : List QItem) (dst : Addr) (ttl : Nat) : PktHead :=
  { kind := if evt then 4 else 3, tenant := t, urg := evt && items.any (fun i => i.isUrgent c.hg.addr), frag := false, last := false,
    dst := dst, ttl := ttl, src := c.hg.addr, seq := if evt then (c.tenantSt t).evtSeq else (c.tenantSt t).rptSeq,
    opcode := 0#8, status := 0#8 }

/-- Originate an RPT or EVT packet of a tenant's leading records: its SEQ is taken and its records are fixed (R367,
R369). -/
def originate (c : Core) (t : Tenant) (evt : Bool) (items : List QItem) (dst : Addr) (ttl : Nat) : Core × Option (List Byte) :=
  match c.sealPacket (c.reportHead t evt items dst ttl) true (reportPayload c.hg.addr items) with
  | (c', none) => (c', none)
  | (c', some b) =>
    let c' := c'.modTenantSt t (fun s => if evt then { s with evtSeq := s.evtSeq + 1#16 } else { s with rptSeq := s.rptSeq + 1#16 })
    (c'.modQueue t (fun q => q.fix (recCount items) (hasFull items) true), some b)

/-- Seal the head packet (R313, R371). -/
def sealHead (c : Core) : Core :=
  if c.host.outHead.isSome then c
  else match c.headPick with
    | none => c
    | some (.rsp i) =>
      match c.host.outRsp[i]? with
      | none => c
      | some (.foreign _ b) =>
        { c with host := { c.host with outHead := some { source := .rsp, bytes := b, pos := 0 }, outRsp := c.host.outRsp.eraseIdx i } }
      | some (.own r) =>
        match c.sealPacket (c.rspHead r 0) r.auth r.payload with
        | (c', none) => c'
        | (c', some b) =>
          { c' with host := { c'.host with outHead := some { source := .rsp, bytes := b, pos := 0 }, outRsp := c'.host.outRsp.eraseIdx i } }
    | some (.records t evt items) =>
      match c.originate t evt items c.hg.addr 0 with
      | (c', none) => c'
      | (c', some b) =>
        let h : OutHead := { source := .records t evt (recCount items) (hasFull items), bytes := b, pos := 0 }
        let host := { c'.host with outHead := some h }
        { c' with host := if evt then { host with evtPtr := t } else { host with rptPtr := t } }

/-- The items of a tenant's queue that no sealed head carries. -/
def unsealedItems (c : Core) (t : Tenant) : List QItem :=
  let l := (c.queue t).items
  match c.host.outHead with
  | some { source := .records u _ n full, bytes := _, pos := _ } => if u == t then l.drop (n + bit full) else l
  | _ => l

/-- Packets waiting in PKTOUT, the head packet included (Table HOST-6). -/
def outCount (c : Core) : Nat :=
  bit c.host.outHead.isSome + c.host.outRsp.length +
  (tenants.map (fun t => if c.isHome t then runCount c.hg.addr 65 (c.unsealedItems t) else 0)).sum

/-- Words left in the head packet. -/
def headWords (c : Core) : Nat :=
  match c.host.outHead with
  | some h => (h.bytes.length + 1) / 2 - h.pos
  | none => (c.headPick.map (fun p => (c.pickLength p + 1) / 2)).getD 0

/-- PKTOUTLVL (Table HOST-6). -/
def pktoutLvl (c : Core) : Word := BitVec.ofNat 16 (c.headWords % 1024 + 1024 * min c.outCount 63)

/-- The word PKTOUT gives (R310, R314): 0 where no packet waits, or past the head packet in one transaction. -/
def pktoutWord (c : Core) (gone : Bool) : Word :=
  match c.host.outHead with
  | some h => if gone then 0#16 else BitVec.ofNat 16 ((byteAt h.bytes (2 * h.pos)).toNat * 256 + (byteAt h.bytes (2 * h.pos + 1)).toNat)
  | none => 0#16

/-- The head packet has been read out: it leaves PKTOUT, and its records leave their queue (R314, R315, R370). -/
def headLeaves (c : Core) (h : OutHead) : Core :=
  let c := { c with host := { c.host with outHead := none } }
  match h.source with
  | .rsp => c
  | .records t _ n full =>
    let (q, again) := (c.queue t).leave n full
    (c.modQueue t (fun _ => q)).attnIf again 13

/-- A completed read of PKTOUT (R314). The answer says whether the head packet ended with it. -/
def pktoutDone (c : Core) (gone : Bool) : Core × Bool :=
  match (if gone then none else c.host.outHead) with
  | none => (c.hostFlag 9, false)
  | some h =>
    let h' := { h with pos := h.pos + 1 }
    if h.bytes.length ≤ 2 * h'.pos then (c.headLeaves h, true)
    else ({ c with host := { c.host with outHead := some h' } }, false)

end Core

end Sys2Proof.Machine
end

