-- ==== Sys2Proof/Machine/Views.lean ====
section
/-!
DEFINITION. What each of the 64 host registers reads (Table REGS-1 and the field tables of chapter 10), ATTN#, and the
snapshots of R326.
-/
namespace Sys2Proof.Machine

/-- A word from a number. -/
def word (n : Nat) : Word := BitVec.ofNat 16 n

/-- Code of a line-monitor state (Table REGS-5). -/
def Mon.code : Mon → Nat
  | .absent => 0
  | .live => 1
  | .brk => 2
  | .severed => 3

/-- Reset values of the registers (Table REGS-1). -/
def regReset (a : Nat) : Word :=
  match a with
  | 0x00 => 0xB616#16
  | 0x03 => 0x0001#16
  | 0x04 => 0x0020#16
  | 0x09 => 0x0418#16
  | 0x11 => 0x00F0#16
  | 0x18 => 0x2000#16
  | 0x19 => 0x8000#16
  | 0x1A => 0x0001#16
  | 0x1B => 0x0002#16
  | 0x1E => 0x0200#16
  | _ => 0#16

/-- LINKSTAT of a port (Table REGS-5). -/
def LinkPort.stat (l : LinkPort) : Word :=
  word (l.flags.toNat + 16 * l.rxFifo.length + 512 * (16 - l.txFifo.length))

/-- LINKDATA as the oldest received character gives it, and 0x8000 for none (Table REGS-5). -/
def RxChar.word (x : RxChar) : Word :=
  Machine.word (x.data.toNat + 256 * bit x.fe + 512 * bit x.pe + 1024 * bit x.frameStart)

/-- RAW and LOOP, in which LINKDATA and FLUSH act (R332). -/
def LinkPort.isRaw (l : LinkPort) : Bool := l.op == 1#2 || l.op == 2#2

/-- LINKDATA (R332). -/
def LinkPort.dataWord (l : LinkPort) : Word :=
  if l.isRaw then (l.rxFifo.head?.map RxChar.word).getD 0x8000#16 else 0x8000#16

/-- User-sequence control as USEQCTL reads (Table REGS-6). -/
def UseqCfg.ctl (u : UseqCfg) : Word := word (u.len + 32 * bit u.abort + 128 * u.accLog)

/-- USEQn (Table REGS-6). -/
def UseqCfg.entryWord (u : UseqCfg) (n : Nat) : Word :=
  word (((List.range 4).map (fun i => u.entries.getD (4 * n + i) 0 * 16 ^ i)).sum)

namespace Core

/-- HOSTSTAT (Table HOST-5). -/
def hoststat (c : Core) : Word :=
  if c.pw.ready then
    c.host.flags ||| word (1 + 2 * bit c.attnLow + 4 * bit c.outWaits + 8 * bit c.inRoom + 1024 * bit (!c.host.pktin.isEmpty) +
      4096 * c.pw.phase.code.toNat)
  else 0#16

/-- PWRCTL (Table REGS-3). -/
def pwrctl (c : Core) : Word := word (c.pw.req.toNat + 16 * c.pw.floor.toNat)

/-- PWRSTAT (Table REGS-3). -/
def pwrstat (c : Core) : Word :=
  word (c.pw.phase.code.toNat + 16 * c.pw.cause.toNat + 128 * bit c.presence + 256 * bit c.prof.mains + 512 * bit c.slot.isSome +
    1024 * bit c.acq.highNow + 2048 * bit c.pw.pump)

/-- ROLES (Table REGS-4). -/
def roles (c : Core) : Word :=
  word (bit c.hg.panelRoot + 2 * bit c.hg.hedgeRoot + 4 * bit c.hg.posValid + 8 * bit c.nvm.hedgeKey.isSome + 16 * c.hg.depth.toNat +
    256 * c.hg.epoch.toNat)

/-- HTSUB1 (Table REGS-4). -/
def htsub1 (c : Core) : Word :=
  word ((if c.hg.ranBoundary then c.hg.sub.toNat / 65536 else 0) + 16384 * bit (decide (256 ≤ c.hg.lockedFor)) + 32768 * bit (c.acq.running || c.hg.tk.timing))

/-- HTSUB0. -/
def htsub0 (c : Core) : Word := if c.hg.ranBoundary then word c.hg.sub.toNat else 0#16

/-- A half of the hedge frame count (R331). -/
def htfc (c : Core) (high : Bool) : Word :=
  if c.hg.ranBoundary then word (if high then c.hg.ranFc.toNat / 65536 else c.hg.ranFc.toNat) else 0#16

/-- LINKMON of a port (Table REGS-5). -/
def linkmon (c : Core) (p : Port) : Word :=
  let l := c.port p
  let h := c.hport p
  word (l.cfg.mode.toNat + 4 * l.cfg.par.toNat + 16 * l.mon.code + 64 * bit (l.sevMask || l.noiseMask) + 128 * bit h.miswired + 256 * bit h.asleep)

/-- SARSTAT (Table REGS-6). -/
def sarstat (c : Core) : Word :=
  let s := c.sar
  word (bit c.pw.refrdy + 2 * bit s.refNotReady + 4 * bit s.overrun + 8 * bit s.urgFull + 16 * bit s.refFault + 32 * bit s.userNext.isSome +
    64 * bit (s.urgent.any (fun u => u.who == .host)))

/-- The view SARVSEL names (R334), and whether its sum is a u24. -/
def sarView (c : Core) : Tracker × Bool :=
  let ch := c.host.sarvsel.toNat % 16
  match c.host.sarvsel.toNat / 16 % 4 with
  | 0 => (c.sar.usrView.getD ch Tracker.code, true)
  | 1 => (c.sar.monView.getD (ch - 8) Tracker.code, false)
  | _ => (c.sar.urgView.getD 1 Tracker.code, false)

/-- SARSUM1 of a view. -/
def sarsum1 (v : Tracker × Bool) : Word := word ((if v.2 then v.1.sum.toNat / 65536 % 256 else 0) + 32768 * bit v.1.isEmpty)

/-- The keys of a ladder in PRESSED or PEND_R. -/
def ladderKeys (c : Core) (l : Nat) : Nat := keyMask (c.keys.ladders.getD l LadderSt.reset)

/-- KEYFLT (Table REGS-7). -/
def keyflt (c : Core) : Word :=
  word ((c.keys.ladders.zipIdx.map (fun x => (bit (x.1.keys.any (fun k => k.stuck)) + 256 * bit x.1.lfault) * 2 ^ x.2)).sum)

/-- PWRMON (Table REGS-7). -/
def pwrmon (c : Core) : Word :=
  word (bit c.pw.batLow + 2 * bit c.pw.nvmInhibit + 4 * bit c.acq.fallback + 8 * bit c.acq.sagged)

/-- ENCSTAT (Table REGS-7). -/
def encstat (c : Core) : Word :=
  let e := fun i => c.keys.encs.getD i Encoder.reset
  word ((e 0).lvl.toNat + 4 * (e 1).lvl.toNat + 16 * bit (e 0).errStat + 32 * bit (e 1).errStat + 64 * bit (c.prof.encEn 0) + 128 * bit (c.prof.encEn 1))

/-- WAKEMASK (Table REGS-7); a ladder counts as not armed in Doze and Watch only, where arming has a meaning (DEDUCED, log 13). -/
def wakemask (c : Core) : Word :=
  word ((c.lnk.zipIdx.map (fun x => bit (x.1.sevMask || x.1.noiseMask) * 2 ^ x.2)).sum +
    64 * (c.keys.ladders.zipIdx.map (fun x => bit (x.1.masked || (c.pw.phase.isAsleep && !x.1.armed)) * 2 ^ x.2)).sum)

/-- RPRSTAT, RPRSPARE and BGDEFER (R336): as latched at step B8, at the latest boundary in Run, and at the end of each
background task elsewhere (DEDUCED, log 20). -/
def rprView (c : Core) : RprRegs := c.rep.regs

/-- A register as it stands, no snapshot regarded. -/
def liveReg (c : Core) (a : Nat) : Word :=
  let p := c.host.linksel
  let v := c.sarView
  match a with
  | 0x00 => 0xB616#16
  | 0x01 => c.hoststat
  | 0x02 => c.attnView
  | 0x03 => c.host.attnen
  | 0x04 => c.pwrctl
  | 0x05 => c.pwrstat
  | 0x06 => c.pw.wakesrc
  | 0x09 => word (1048 - c.pktinUsed)
  | 0x0A => c.sealHead.pktoutWord (c.host.txn.any (fun t => t.outDone))
  | 0x0B => c.pktoutLvl
  | 0x0C => word c.hg.uid.toNat
  | 0x0D => word (c.hg.uid.toNat / 65536)
  | 0x0E => word (c.hg.uid.toNat / 4294967296)
  | 0x0F => if c.hg.confirmed then word (c.hg.addr.toNat + 1024 * c.hg.panel.toNat + 32768) else 0#16
  | 0x10 => if c.hg.posValid then word (c.hg.u.toNat + 256 * c.hg.v.toNat) else 0#16
  | 0x11 => c.roles
  | 0x12 => c.htfc false
  | 0x13 => c.htfc true
  | 0x14 => c.htsub0
  | 0x15 => c.htsub1
  | 0x16 => word p.val
  | 0x17 => word (((c.port p).pendOp.getD (c.port p).op).toNat + 4 * bit (c.port p).txbrk)
  | 0x18 => (c.port p).stat
  | 0x19 => (c.port p).dataWord
  | 0x1A => c.linkmon p
  | 0x1B => (c.port p).cfg.div.zeroExtend 16
  | 0x1C => (c.hport p).delay
  | 0x1D => c.sarstat
  | 0x1E => c.sar.useqReg.ctl
  | 0x1F => word c.sar.useqReg.period
  | 0x20 => c.sar.useqReg.entryWord 0
  | 0x21 => c.sar.useqReg.entryWord 1
  | 0x22 => c.sar.useqReg.entryWord 2
  | 0x23 => c.sar.useqReg.entryWord 3
  | 0x25 => c.host.sarvsel
  | 0x26 => word v.1.mn.toNat
  | 0x27 => word v.1.mx.toNat
  | 0x28 => word v.1.count
  | 0x29 => word v.1.sum.toNat
  | 0x2A => sarsum1 v
  | 0x2B => c.sar.vbatmv
  | 0x2C => BitVec.ofInt 16 c.sar.tdie
  | 0x2D => c.pwrmon
  | 0x2E => c.ret.boCount
  | 0x2F => word (c.ladderKeys 0 + 256 * c.ladderKeys 1)
  | 0x30 => word (c.ladderKeys 2 + 256 * c.ladderKeys 3)
  | 0x31 => word (c.ladderKeys 4 + 256 * c.ladderKeys 5)
  | 0x32 => word (c.ladderKeys 6 + 256 * c.ladderKeys 7)
  | 0x33 => c.keyflt
  | 0x34 => BitVec.ofNat 16 (c.keys.encs.getD 0 Encoder.reset).pos.toNat
  | 0x35 => BitVec.ofNat 16 (c.keys.encs.getD 1 Encoder.reset).pos.toNat
  | 0x36 => c.encstat
  | 0x37 => c.pw.wakecnt
  | 0x38 => c.wakemask
  | 0x39 => c.rprView.stat
  | 0x3A => c.rprView.spare
  | 0x3B => c.rprView.defer
  | 0x3C => word c.pw.rtc.toNat
  | 0x3D => word (c.pw.rtc.toNat / 65536)
  | 0x3E => c.host.scratch0
  | 0x3F => c.host.scratch1
  | _ => 0#16

/-- The snapshot a register is read from, where its group holds one (R326). -/
def snapReg (c : Core) (a : Nat) : Option Word :=
  match a with
  | 0x13 => c.host.snapHt.map (fun s => s.fc1)
  | 0x14 => c.host.snapHt.map (fun s => s.sub0)
  | 0x15 => c.host.snapHt.map (fun s => s.sub1)
  | 0x1A => c.host.snapLink.map (fun s => s.mon)
  | 0x1B => c.host.snapLink.map (fun s => s.div)
  | 0x1C => c.host.snapLink.map (fun s => s.dly)
  | 0x27 => c.host.snapSar.map (fun s => s.max)
  | 0x28 => c.host.snapSar.map (fun s => s.cnt)
  | 0x29 => c.host.snapSar.map (fun s => s.sum0)
  | 0x2A => c.host.snapSar.map (fun s => s.sum1)
  | 0x3D => c.host.snapRtc
  | _ => none

/-- What a register reads (R72, R324, R326): its reset value until READY. -/
def readReg (c : Core) (a : Nat) : Word :=
  if c.pw.ready then (c.snapReg a).getD (c.liveReg a) else regReset a

end Core

end Sys2Proof.Machine
end

