-- ==== Sys2Proof/Machine/OpTable.lean ====
section
/-!
DEFINITION. Table PKT-5: rights, legality and lengths of the opcodes, and the layouts of the field-set opcodes (R354, R357,
R358, R361).
-/
namespace Sys2Proof.Machine

/-- A cell of Table PKT-5 (R354): acted on at once, frame-deferred, or rejected. -/
inductive Legal where
  | act | defer | no
  deriving DecidableEq, Repr

/-- A row of Table PKT-5: the right by its bit of Table PKT-4, the three states, whether LEN 0 reads (rw), and whether
only the panel root acts on it. -/
structure OpInfo where
  right    : Option Nat
  bare     : Legal
  quiet    : Legal
  run      : Legal
  rw       : Bool
  rootOnly : Bool
  deriving DecidableEq, Repr

/-- A row legal everywhere. -/
def OpInfo.always (right : Option Nat) : OpInfo :=
  { right := right, bare := .act, quiet := .act, run := .act, rw := false, rootOnly := false }

/-- A read-write row of which the write is frame-deferred in Quiet and Run. -/
def OpInfo.fields (right : Nat) : OpInfo :=
  { right := some right, bare := .no, quiet := .defer, run := .defer, rw := true, rootOnly := false }

/-- A row for Run alone, frame-deferred. -/
def OpInfo.runOnly (right : Nat) : OpInfo :=
  { right := some right, bare := .no, quiet := .no, run := .defer, rw := false, rootOnly := false }

/-- Table PKT-5 by opcode. -/
def opInfo (op : Nat) : Option OpInfo :=
  match op with
  | 0x00 | 0x01 | 0x04 => some (OpInfo.always none)
  | 0x02 => some (OpInfo.always (some 2))
  | 0x03 => some (OpInfo.always (some 6))
  | 0x10 | 0x11 | 0x13 => some (OpInfo.always (some 7))
  | 0x12 => some { OpInfo.always (some 7) with run := .defer }
  | 0x20 => some { OpInfo.always none with quiet := .no, run := .no }
  | 0x21 | 0x23 | 0x24 => some (OpInfo.always (some 0))
  | 0x22 => some { OpInfo.always (some 0) with run := .defer }
  | 0x30 | 0x31 => some (OpInfo.fields 1)
  | 0x32 | 0x33 | 0x40 | 0x41 | 0x42 | 0x45 | 0x46 | 0x47 | 0x48 => some (OpInfo.fields 2)
  | 0x43 | 0x44 => some (OpInfo.runOnly 2)
  | 0x50 | 0x51 | 0x52 | 0x53 => some (OpInfo.runOnly 3)
  | 0x54 | 0x55 | 0x56 | 0x57 => some (OpInfo.always (some 3))
  | 0x60 | 0x61 => some { OpInfo.fields 4 with quiet := .act, run := .act }
  | 0x62 => some { OpInfo.always (some 4) with bare := .no }
  | 0x63 => some (OpInfo.always (some 4))
  | 0x70 => some { OpInfo.always (some 5) with rw := true, rootOnly := true }
  | 0x71 => some { OpInfo.always (some 5) with rw := true }
  | 0x72 | 0x73 => some (OpInfo.always (some 5))
  | 0x74 | 0x75 => some { OpInfo.always (some 5) with rootOnly := true }
  | 0x80 | 0x84 => some (OpInfo.always (some 6))
  | 0x81 | 0x82 => some { OpInfo.fields 6 with rw := false }
  | 0x83 => some (OpInfo.runOnly 6)
  | _ => none

/-- Legality in a phase. A Doze entry that has not reached step E3 is judged as Quiet (DEDUCED, log 21). -/
def OpInfo.legal (i : OpInfo) (p : Phase) : Legal :=
  match p with
  | .bare => i.bare
  | .run => i.run
  | _ => i.quiet

/-- The lowest state code in which an opcode is not rejected (R355). -/
def OpInfo.needed (i : OpInfo) : Nat :=
  if i.bare != .no then 1 else if i.quiet != .no then 4 else 5

/-- Table NUM-1 with the per-line fields for `n` lines (Table PKT-5, NODE_FIELDS). -/
def nodeLineSpec (n : Nat) : List FieldSpec :=
  nodeSpec.map (fun f => if f.count == 24 then { f with count := n } else f)

/-- LADDERS: the five scalar fields of Table KEY-6, then L_MODE, CUSTOM bounds and KEY_BIND ladder by ladder (DEDUCED,
log 13). -/
def ladderSpec : List FieldSpec :=
  keySpec.take 5 ++ (List.replicate 8 [one 1 0 3 0, many 8 2 0 2047 0, many 8 2 0 65535 1]).flatten

/-- A key record in the order of LADDERS. -/
def ladderWire (f : Fields) : Fields :=
  f.take 5 ++ (List.range 8).flatMap (fun l =>
    [fld f (5 + l)] ++ (f.drop (13 + 8 * l)).take 8 ++ (f.drop (77 + 8 * l)).take 8)

/-- A key record from the order of LADDERS. -/
def ladderRecord (w : Fields) : Fields :=
  w.take 5 ++ (List.range 8).map (fun l => fld w (5 + 17 * l)) ++
  (List.range 8).flatMap (fun l => (w.drop (6 + 17 * l)).take 8) ++
  (List.range 8).flatMap (fun l => (w.drop (14 + 17 * l)).take 8)

/-- Profile record that a field-set opcode carries. -/
def fieldRecord (op : Nat) : Option Nat :=
  match op with
  | 0x32 => some 0x06
  | 0x33 => some 0x07
  | 0x40 => some 0x01
  | 0x45 => some 0x02
  | 0x46 => some 0x03
  | 0x48 => some 0x0C
  | 0x60 => some 0x08
  | 0x61 => some 0x09
  | _ => none

/-- Fields of a field-set opcode in the order they travel. -/
def fieldSpec (op nSns : Nat) : List FieldSpec :=
  match op with
  | 0x32 => gestureSpec
  | 0x33 => wakeSpec
  | 0x40 => frameSpec
  | 0x45 => nodeLineSpec nSns
  | 0x46 => trackFieldSpec
  | 0x48 => selfSpec
  | 0x60 => ladderSpec
  | 0x61 => encSpec
  | _ => []

/-- Values of a field-set opcode taken from its record. -/
def fieldsOut (op nSns : Nat) (f : Fields) : Fields :=
  match op with
  | 0x45 => f.take 8 ++ (f.drop 8).take nSns ++ (f.drop 32).take nSns ++ (f.drop 56).take nSns ++ f.drop 80
  | 0x46 => f.take 17
  | 0x60 => ladderWire f
  | _ => f

/-- A record with the values of a field-set opcode put in. -/
def fieldsIn (op nSns : Nat) (old w : Fields) : Fields :=
  match op with
  | 0x45 =>
    let f := patch old 0 (w.take 8)
    let f := patch f 8 ((w.drop 8).take nSns)
    let f := patch f 32 ((w.drop (8 + nSns)).take nSns)
    let f := patch f 56 ((w.drop (8 + 2 * nSns)).take nSns)
    patch f 80 (w.drop (8 + 3 * nSns))
  | 0x46 => patch old 0 w
  | 0x60 => ladderRecord w
  | _ => w

/-- Range rules of a record standing alone (Tables ACQ-5, NUM-1, CONTACT-1, CONTACT-6, CONTACT-9, ACQ-8, KEY-6, KEY-9,
ACQ-6). -/
def recordOk (rec : Nat) (f : Fields) (x : CheckCtx) : Bool :=
  match rec with
  | 0x01 => framePlanOk f
  | 0x02 => inRange nodeSpec f && (fld f 7 == 0 || decide (256 ≤ fld f 7))
  | 0x03 => inRange trackSpec f && trackFieldsOk (f.take 17)
  | 0x06 => inRange gestureSpec f
  | 0x07 => wakeOk f
  | 0x08 => inRange keySpec f && boundsOk f && longOk f && combosOk f x.ctLadder x.ctMode x.pvLadder x.pvMode
  | 0x09 => inRange encSpec f
  | 0x0C => inRange selfSpec f && guardRefOk f
  | _ => true

/-- A length of a header and one to `most` entries, whose count byte agrees with them. -/
def countedOk (payload : List Byte) (base size most : Nat) : Bool :=
  let n := (byteAt payload 1).toNat
  decide (1 ≤ n) && decide (n ≤ most) && payload.length == base + size * n

/-- Check 6: the payload's length is allowed for the opcode (R361, Table PKT-5). A count byte belongs to the length
(DEDUCED, log 21). -/
def lenOk (op nSns : Nat) (payload : List Byte) : Bool :=
  let n := payload.length
  match op with
  | 0x02 | 0x47 | 0x50 | 0x81 | 0x82 => n == 2
  | 0x10 | 0x22 | 0x23 | 0x53 | 0x56 | 0x84 => n == 1
  | 0x11 => decide (1 ≤ n) && decide (n ≤ 65536)
  | 0x12 => n == 5
  | 0x20 => n == 16
  | 0x21 => n == 5 || n == 29
  | 0x24 => n == 24
  | 0x30 => countedOk payload 2 16 64
  | 0x31 => countedOk payload 2 5 8
  | 0x41 => countedOk payload 3 29 24
  | 0x42 => n == 34
  | 0x44 => n == 8
  | 0x52 | 0x54 | 0x75 => n == 4
  | 0x70 => n % 8 == 0 && decide (n ≤ 512)
  | 0x71 => n == 36
  | 0x72 => decide (4 ≤ n) && n == 4 + (byteAt payload 3).toNat && decide (n ≤ 20)
  | _ => match fieldRecord op with
    | some _ => n == specLength (fieldSpec op nSns)
    | none => n == 0

end Sys2Proof.Machine
end

