-- ==== Sys2Proof/Machine/OpRange.lean ====
section
/-!
DEFINITION. Checks 7, 10 and 11 of Table PKT-3, opcode by opcode: rights that depend on the payload, resources, and field
values (R176, R185, R221, R349, R358, R363 to R365, R395).
-/
namespace Sys2Proof.Machine

/-- Status OK. -/
def stOk : Byte := 0x00#8
/-- Status BAD_OPCODE. -/
def stBadOpcode : Byte := 0x01#8
/-- Status BAD_LENGTH. -/
def stBadLength : Byte := 0x02#8
/-- Status AUTH_FAIL. -/
def stAuthFail : Byte := 0x03#8
/-- Status NO_RIGHT. -/
def stNoRight : Byte := 0x04#8
/-- Status WRONG_STATE. -/
def stWrongState : Byte := 0x05#8
/-- Status BUSY_RETRY. -/
def stBusy : Byte := 0x06#8
/-- Status NO_ROUTE. -/
def stNoRoute : Byte := 0x07#8
/-- Status RANGE. -/
def stRange : Byte := 0x08#8
/-- Status NVM_FAIL. -/
def stNvmFail : Byte := 0x09#8
/-- Status REPLAY. -/
def stReplay : Byte := 0x0A#8
/-- Status SEG_ORDER. -/
def stSegOrder : Byte := 0x0B#8
/-- Status QUEUE_FULL. -/
def stQueueFull : Byte := 0x0C#8

/-- A check that answers a status where it fails. -/
def need (ok : Bool) (st : Byte) : Option Byte := if ok then none else some st

/-- Size of an entry of the zone table (0x30) or the template table (0x31). -/
def entrySize (op : Nat) : Nat := if op == 0x30 then 16 else 5

/-- Entries of the zone table or the template table. -/
def entryTotal (op : Nat) : Nat := if op == 0x30 then 64 else 8

/-- An entry is in use: TYPE is not 0, or VALID is set. -/
def entryUsed (op : Nat) (e : Fields) : Bool := if op == 0x30 then fldN e 12 % 4 != 0 else fldN e 0 % 2 == 1

/-- Owner of an entry (Tables CONTACT-4 and CONTACT-8). -/
def entryOwner (op : Nat) (e : Fields) : Nat := if op == 0x30 then fldN e 13 % 16 else fldN e 0 / 16

/-- A tenant other than T0 may write over an entry, or write it: unused, or its own and no MASK (R358). -/
def entryFree (op : Nat) (t : Tenant) (e : Fields) : Bool :=
  !entryUsed op e || (entryOwner op e == t.val && !(op == 0x30 && fldN e 12 % 4 == 3))

/-- The entries a ZONES or TEMPLATES write carries. -/
def entriesOf (op : Nat) (p : List Byte) : List Fields :=
  (chunks (entrySize op) (p.drop 2)).map (fun e => ints (e.map (fun b => b.toNat)))

/-- LINK_CONFIG of one port, 6 bytes: MODE, DIV, PAR, LEAD, TAIL (DEDUCED, log 13). -/
def linkCfgOf (b : List Byte) : LinkCfg :=
  { mode := BitVec.ofNat 2 (byteAt b 0).toNat, div := BitVec.ofNat 14 (leAt b 1 2), par := BitVec.ofNat 2 (byteAt b 3).toNat,
    lead := byteAt b 4, tail := byteAt b 5 }

/-- The bytes of one port of LINK_CONFIG. -/
def LinkCfg.bytes (g : LinkCfg) : List Byte := bvLe 1 g.mode ++ bvLe 2 g.div ++ bvLe 1 g.par ++ [g.lead, g.tail]

/-- The ranges of Table LINK-1 (R221). -/
def linkCfgOk (b : List Byte) : Bool :=
  let mode := (byteAt b 0).toNat
  let div := leAt b 1 2
  let tile := decide (1 ≤ div) && decide (div ≤ 16)
  let wire := decide (25 ≤ div) && decide (div ≤ 10417)
  decide ((byteAt b 3).toNat ≤ 2) && ((mode == 0 && (tile || wire)) || (mode == 1 && tile) || (mode == 2 && wire))

namespace Core

/-- The table a ZONES or TEMPLATES command names. -/
def entryTable (c : Core) (op : Nat) : Fields := if op == 0x30 then c.prof.zones else c.prof.templates

/-- One entry of the zone or template table. -/
def entryAt (c : Core) (op i : Nat) : Fields := ((c.entryTable op).drop (entrySize op * i)).take (entrySize op)

/-- A tenant may write the entries of a command (R358). -/
def mayWriteEntries (c : Core) (op : Nat) (t : Tenant) (p : List Byte) : Bool :=
  t == 0 || (entriesOf op p).zipIdx.all (fun e =>
    entryFree op t e.1 && entryFree op t (c.entryAt op ((byteAt p 0).toNat + e.2)))

/-- Check 7 (Table PKT-5, R357, R358, R365). What a fragmented write carries is judged with its last segment. -/
def mayDo (c : Core) (i : OpInfo) (op : Nat) (x : CmdCtx) (p : List Byte) : Bool :=
  let right := match i.right with
    | none => true
    | some n => c.hasRight x.tenant n
  if op == 0x20 then c.otpc.provOpen && c.presence
  else if op == 0x23 then right || (!x.frag && p == [BitVec.ofNat 8 x.tenant.val])
  else if op == 0x30 || op == 0x31 then right && (x.frag || p.isEmpty || c.mayWriteEntries op x.tenant p)
  else right

/-- A forced slot of an NVM task is granted (R395). -/
def nvmForced (c : Core) : Bool := c.rep.bgdefer.getLsbD 2 || c.rep.bgdefer.getLsbD 3 || c.rep.bgdefer.getLsbD 4

/-- NVM is taken by a commit or by the programming of a key. -/
def nvmBusy (c : Core) : Bool := c.nvm.job.isSome || c.keyProg.isSome

/-- A seek, a commanded self-test or a fingerprint is wanted or runs. -/
def maintBusy (c : Core) : Bool :=
  c.node.seek.isSome || c.rep.testCtx.isSome || c.rep.selftest.any (fun t => t.ctx.isSome) || c.rep.finger.isSome || c.rep.fingerWait.isSome

/-- Another tenant has the staging buffer (R351). -/
def stagingTaken (c : Core) (t : Tenant) : Bool := c.pk.transfer.any (fun o => o.tenant != t)

/-- Check 10: the resources of an opcode are free (R351, R395, Table PKT-3). -/
def isBusy (c : Core) (op : Nat) (x : CmdCtx) (p : List Byte) : Bool :=
  match op with
  | 0x11 => c.stagingTaken x.tenant || c.nvmForced
  | 0x12 | 0x21 => c.nvmBusy || c.nvmForced
  | 0x20 | 0x22 | 0x24 => c.nvmBusy
  | 0x71 => !p.isEmpty && c.nvmBusy
  | 0x43 | 0x83 => c.maintBusy
  | 0x53 => p == [0#8] && c.maintBusy
  | _ => false

/-- The image a PROFILE_COMMIT names (R363). -/
def commitImage (c : Core) (src : Byte) : Option (List Byte) :=
  if src == 0#8 then c.pk.staged else if src == 1#8 then some c.working.image else none

/-- A wrapped key (R342). -/
def unwrap (c : Core) (blob : List Byte) : Option (List Byte) := c.otpc.custodian.bind (fun k => keyUnwrap k blob)

/-- The record a field-set write leaves. -/
def fieldWrite (c : Core) (op rec : Nat) (p : List Byte) : Fields :=
  fieldsIn op c.prof.nSns (c.working.record rec) (readFields (fieldSpec op c.prof.nSns) p)

/-- The places of a lane's nodes that NODE_MAP gives, by drive line and sense line: the lines in use of the own lane, the
decoded nodes of another. DEDUCED (log 13). -/
def mapNodesOf (c : Core) (lane : Nat) : List Nat :=
  (List.range 32).flatMap (fun d => (List.range 24).filterMap (fun k =>
    if lane == c.colour then (if d < c.prof.nDrv && k < c.prof.nSns then some (nodeAt lane d k) else none)
    else if (c.nodeOf lane d k).ref.isNone then none else some (nodeAt lane d k)))

/-- Check 11: field values (R104, R115, R126, R154, R176, R185, R220, R221, R363, R364). -/
def rangeOf (c : Core) (op : Nat) (x : CmdCtx) (p : List Byte) : Option Byte :=
  let b := fun (i : Nat) => (byteAt p i).toNat
  match op with
  | 0x02 => need ((b 0 == 0 || (decide (2 ≤ b 0) && decide (b 0 ≤ 5))) && (b 1 == 255 || (decide (2 ≤ b 1) && decide (b 1 ≤ 5)))) stRange
  | 0x10 => need (b 0 == 0 || b 0 == 3 || (b 0 == 1 && c.nvm.slotA.header.isSome) || (b 0 == 2 && c.nvm.slotB.header.isSome)) stRange
  | 0x12 => need (leAt p 1 4 == (c.gen + 1#32).toNat && (c.commitImage (byteAt p 0)).any (fun i => (imageProfile i c.checkCtx).isSome)) stRange
  | 0x21 => need (decide (1 ≤ b 0) && decide (b 0 ≤ 15) && b 1 % 2 == 0 && decide (leAt p 2 2 ≤ 0x3FD) &&
      (p.length == 5 || (c.unwrap (p.drop 5)).isSome)) stRange
  | 0x22 => need (decide (1 ≤ b 0) && decide (b 0 ≤ 15)) stRange
  | 0x23 => need (decide (b 0 ≤ 15)) stRange
  | 0x24 => need (c.unwrap p).isSome stRange
  | 0x30 | 0x31 =>
    if p.isEmpty then none
    else if entryTotal op < b 0 + b 1 then some stRange
    else (need (c.mayWriteEntries op x.tenant p) stNoRight).or
      (need ((entriesOf op p).all (fun e => if op == 0x30 then zoneEntryOk e else templateEntryOk e)) stRange)
  | 0x41 =>
    need (p.isEmpty || (decide (b 0 + b 1 ≤ 24) && ((chunks 29 (p.drop 3)).zipIdx.all (fun e =>
      let k := b 0 + e.2
      let toFine := c.node.coarse.getD k false && byteAt e.1 1 == 0#8
      decide ((byteAt e.1 0).toNat ≤ 3) && decide ((byteAt e.1 1).toNat ≤ 1) &&
      ((e.1.drop 2).take 3).all (fun s => decide (s.toNat ≤ 5) || s == 7#8) &&
      (!toFine || (c.lineCodes k).all (fun v => decide (4 * v ≤ 63))))))) stRange
  | 0x42 => need (p.isEmpty || (decide (b 0 ≤ 23) && (p.drop 2).all (fun v => decide (v.toNat ≤ 63)))) stRange
  | 0x47 => need (p.isEmpty || decide (b 0 ≤ 1)) stRange
  | 0x50 => need (decide (b 0 ≤ 6) && decide (b 1 ≤ 2) &&
      (decide (5 ≤ b 0) || b 1 == c.colour || (b 0 != 4 && !(c.mapNodesOf (b 1)).isEmpty))) stRange
  | 0x53 => need (decide (b 0 ≤ 3)) stRange
  | 0x56 => need (decide (b 0 ≤ 5)) stRange
  | 0x70 => need ((routesOf p).all (fun r => decide (r.lo.toNat ≤ r.hi.toNat) && decide (r.port.toNat ≤ 5))) stRange
  | 0x71 => need (p.isEmpty || (chunks 6 p).all linkCfgOk) stRange
  | 0x72 => need (decide (b 0 ≤ 5) && decide (b 1 ≤ 3) && decide (b 2 ≤ 1)) stRange
  | 0x75 =>
    let u := (byteAt p 2).toInt
    let v := (byteAt p 3).toInt
    need (c.hg.roster.live.any (fun t => t.addr == pkAddr p) &&
      !c.hg.roster.live.any (fun t => t.addr != pkAddr p && t.u.toInt == u && t.v.toInt == v) && pitchOk c.prof.track [(u, v)]) stRange
  | 0x81 | 0x82 => need ((b 0 == 0 && decide (b 1 ≤ 25)) || (b 0 == 1 && decide (b 1 ≤ 23)) || (b 0 == 2 && decide (b 1 ≤ 31)) ||
      (b 0 == 3 && decide (b 1 % 128 ≤ 31))) stRange
  | 0x84 => need (decide (1 ≤ b 0) && decide (b 0 ≤ 5)) stRange
  | _ => match fieldRecord op with
    | some rec => need (p.isEmpty || recordOk rec (c.fieldWrite op rec p) c.checkCtx) stRange
    | none => none
where
  pkAddr (p : List Byte) : Addr := BitVec.ofNat 10 (leAt p 0 2)

end Core

end Sys2Proof.Machine
end

