-- ==== Sys2Proof/Machine/RawOps.lean ====
section
/-!
DEFINITION. The raw side of a link port as LINKCTL, LINKDATA and RAW_LINK act on it (R245, R246, R332).
-/
namespace Sys2Proof.Machine

/-- A write of OP (R332): at once, but for a change away from NORMAL, which waits for LINK_CONFIG_APPLY (R223). -/
def LinkPort.writeOp (l : LinkPort) (o : BitVec 2) : LinkPort :=
  if o == l.op then { l with pendOp := none }
  else if l.op == 0#2 then { l with pendOp := some o }
  else { l with op := o, pendOp := none, echo := if o == 3#2 then some { waiting := [], started := false, ended := false } else none }

/-- A write of TXBRK (R245). -/
def LinkPort.writeTxbrk (l : LinkPort) (b : Bool) : LinkPort := { l with txbrk := b }

/-- FLUSH (R332). -/
def LinkPort.flush (l : LinkPort) : LinkPort := if l.isRaw then { l with rxFifo := [], txFifo := [] } else l

/-- A character for the transmit FIFO (R245); TXOV where it is full. -/
def LinkPort.putTx (l : LinkPort) (b : Byte) : LinkPort :=
  if l.txFifo.length < 16 then { l with txFifo := l.txFifo ++ [b] } else { l with flags := l.flags ||| 8#4 }

/-- A write of LINKDATA (R332). -/
def LinkPort.writeData (l : LinkPort) (b : Byte) : LinkPort := if l.isRaw then l.putTx b else l

/-- Clear the flags that a status read returned (R246). -/
def LinkPort.clearFlags (l : LinkPort) (m : BitVec 4) : LinkPort := { l with flags := l.flags &&& ~~~m }

end Sys2Proof.Machine
end

