-- ==== Sys2Proof/Machine/OpAct.lean ====
section
/-!
DEFINITION. Check 12 of Table PKT-3: what each opcode does, with its answer (R357 to R366, R79, R137, R142, R268, R373,
R383, R388, R393, R394, R444, R445).
-/
namespace Sys2Proof.Machine

/-- A commit job at its start (R79, R446). -/
def startJob (slot : SlotId) (image : List Byte) (gen : BitVec 32) (reply : Option CmdCtx) : CommitJob :=
  { slot := slot, image := image, gen := gen, stage := .erase 0, reply := reply }

/-- The bytes of a fault-list entry (R388). -/
def FaultEntry.bytes (e : FaultEntry) : List Byte :=
  [e.kind, e.index, e.sign, e.state] ++ bvLe 2 e.first ++ bvLe 2 e.last ++ [e.derate, 0#8]

/-- The bytes of a repair-map entry (R373). -/
def RepairEntry.bytes (e : RepairEntry) : List Byte := [e.kind, e.index, e.detail, e.origin]

/-- Code of a key state in KEY_STATUS (Table KEY-7). -/
def KeyState.code : KeyState → Nat
  | .idle => 0
  | .pendP => 1
  | .pressed => 2
  | .pendR => 3

/-- A sample tracker's view: MIN, MAX, COUNT, EMPTY (R122, R124; DEDUCED, log 13). -/
def Tracker.viewBytes (t : Tracker) (n : Nat) : List Byte := leInt n t.mn ++ leInt n t.mx ++ le 2 t.count ++ le 1 (bit t.isEmpty)

/-- A binding mask without a tenant. -/
def unbind (t : Tenant) (m : Int) : Int := ((BitVec.ofInt 16 m) &&& ~~~(1#16 <<< t.val)).toNat

/-- A queue item carried by a packet of a tenant loses its tie to the queue (R366). -/
def untie (t : Tenant) (f : TxFrame) : TxFrame := if f.carries.any (fun k => k.1 == t) then { f with carries := none } else f

namespace Core

/-- Answer OK. -/
def ok (c : Core) (x : CmdCtx) (op : Byte) (payload : List Byte) : Core := c.answer x op stOk payload

/-- A command that writes an NVM record, whole in one write: NVM_FAIL while writes are inhibited (R80), and where the write fails
(R397, R444). -/
def nvmWrite (c : Core) (r : RecId) (x : CmdCtx) (op : Byte) (payload : List Byte) (f : Core → Core) : Core :=
  let w := c.write r f
  if w.2 then w.1.ok x op payload else w.1.answer x op stNvmFail []

/-- GET_INFO. -/
def actGetInfo (c : Core) (x : CmdCtx) : Core :=
  let keystat := bit c.otpc.custodian.isSome + 2 * bit c.otpc.provOpen + 4 * bit c.presence + 8 * bit c.nvm.hedgeKey.isSome
  c.ok x 0x00#8 (le 2 0xB616 ++ [Config.stepping] ++ bvLe 6 c.hg.uid ++
    le 2 (if c.hg.confirmed then c.hg.addr.toNat else 0) ++ (if c.hg.posValid then [c.hg.u, c.hg.v] else [0#8, 0#8]) ++
    bvLe 1 c.pw.phase.code ++ bvLe 4 c.gen ++ le 1 keystat)

/-- GET_STATE. -/
def actGetState (c : Core) (x : CmdCtx) : Core := c.ok x 0x01#8 (bvLe 2 c.pwrstat ++ bvLe 2 c.pwrctl ++ bvLe 4 c.pw.rtc)

/-- SET_STATE (R52, R53, R329). -/
def actSetState (c : Core) (x : CmdCtx) (p : List Byte) : Core :=
  let floor := if byteAt p 1 == 0xFF#8 then c.pw.floor else BitVec.ofNat 4 (byteAt p 1).toNat
  (c.ok x 0x02#8 []).writePwrctl (BitVec.ofNat 4 (byteAt p 0).toNat) floor

/-- RESET. -/
def actReset (c : Core) (x : CmdCtx) : Core := (c.ok x 0x03#8 []).modPw (fun w => { w with resetDue := true })

/-- GET_FRESH. -/
def actGetFresh (c : Core) (x : CmdCtx) : Core :=
  let t := c.tenantSt x.tenant
  c.ok x 0x04#8 (bvLe 4 t.h ++ bvLe 4 t.txCtr)

/-- PROFILE_READ (R443). -/
def actProfileRead (c : Core) (x : CmdCtx) (p : List Byte) : Core :=
  c.answerFrag x 0x10#8 (match (byteAt p 0).toNat with
    | 0 => if c.slot.isSome then c.image else Profile.factory.image
    | 1 => c.nvm.slotA.body
    | 2 => c.nvm.slotB.body
    | _ => c.working.image)

/-- PROFILE_WRITE, whole or with its LAST segment: image length and CRC status (DEDUCED, log 13). -/
def actProfileWrite (c : Core) (x : CmdCtx) (p : List Byte) : Core :=
  let good := decide (12 ≤ p.length) && leAt p (p.length - 4) 4 == (crc32 (p.take (p.length - 4))).toNat
  ({ c with pk := { c.pk with staged := some p } }).ok x 0x11#8 (le 3 p.length ++ le 1 (bit (!good)))

/-- The slot a commit writes (R79): the one not in use, slot A while none is selected. A profile that waits for its
boundary counts as the one just committed. -/
def commitSlot (c : Core) : SlotId :=
  match (c.newProf.map (fun n => n.2.1)).or c.slot with
  | some s => otherSlot s
  | none => .a

/-- Change a slot of NVM. -/
def modSlot (c : Core) (s : SlotId) (f : Slot → Slot) : Core :=
  match s with
  | .a => { c with nvm := { c.nvm with slotA := f c.nvm.slotA } }
  | .b => { c with nvm := { c.nvm with slotB := f c.nvm.slotB } }

/-- A commit starts (R79, R446): from here on the slot has no header and no marker. -/
def startCommit (c : Core) (image : List Byte) (gen : BitVec 32) (reply : Option CmdCtx) : Core :=
  let s := c.commitSlot
  let c := c.modSlot s (fun _ => Slot.erased)
  { c with nvm := { c.nvm with job := some (startJob s image gen reply) } }

/-- PROFILE_COMMIT (R79, R80, R363); its RSP follows the verified marker. -/
def actProfileCommit (c : Core) (x : CmdCtx) (p : List Byte) : Core :=
  match c.commitImage (byteAt p 0) with
  | none => c.answer x 0x12#8 stRange []
  | some image =>
    if c.nvmOk then c.startCommit image (BitVec.ofNat 32 (leAt p 1 4)) (some x) else c.answer x 0x12#8 stNvmFail []

/-- PROFILE_GEN. -/
def actProfileGen (c : Core) (x : CmdCtx) : Core :=
  let act := match c.slot with
    | some .a => 0
    | some .b => 1
    | none => 255
  c.ok x 0x13#8 (bvLe 4 c.nvm.slotA.gen ++ bvLe 4 c.nvm.slotB.gen ++ le 1 act ++ le 1 (bit c.nvm.slotA.marked + 2 * bit c.nvm.slotB.marked))

/-- PROV_KEY (R365, R444, R445): the reservations are written, then the key is programmed. -/
def actProvKey (c : Core) (x : CmdCtx) (p : List Byte) : Core :=
  let w := c.write .tenant (fun c => c.modTenantRec 0 (fun r => { r with s := 4096#32, txS := 4096#32 }))
  if w.2 then { w.1 with keyProg := some { key := p, ctx := x } } else w.1.answer x 0x20#8 stNvmFail []

/-- A slot's freshness as a new key sets it up (R444). -/
def freshKey (c : Core) (t : Tenant) : Core :=
  (c.modTenantRec t (fun r => { r with s := 4096#32, txS := 4096#32 })).modTenantSt t (fun s => { s with h := 0#32, marks := 0#32, txCtr := 0#32 })

/-- TENANT_DEFINE (R342, R364, R444). Without a key the slot keeps the key it has (DEDUCED, log 21). -/
def actTenantDefine (c : Core) (x : CmdCtx) (p : List Byte) : Core :=
  let t : Tenant := Fin.ofNat 16 (byteAt p 0).toNat
  c.nvmWrite .tenant x 0x21#8 [] (fun c =>
    let c := c.modTenantRec t (fun r =>
      { r with isDefined := true, enabled := (byteAt p 4).getLsbD 0, rights := byteAt p 1, home := BitVec.ofNat 10 (leAt p 2 2) })
    match (if p.length == 5 then none else c.unwrap (p.drop 5)) with
    | none => c
    | some k => (c.modTenantRec t (fun r => { r with key := some k })).freshKey t)

/-- A zone or template table without a tenant's entries (R366), and how many there were. -/
def clearEntries (c : Core) (op : Nat) (t : Tenant) : Fields × Nat :=
  let es := (List.range (entryTotal op)).map (c.entryAt op)
  let mine := fun (e : Fields) => entryUsed op e && entryOwner op e == t.val
  let gone := fun (e : Fields) => if op == 0x30 then List.replicate 16 0 else e.set 0 (fld e 0 - 1)
  ((es.map (fun e => if mine e then gone e else e)).flatten, (es.filter mine).length)

/-- TENANT_REMOVE (R366): zones, templates, bindings and queue go without events, and contacts leave the tenant without
UP. -/
def removeTenant (c : Core) (t : Tenant) : Core :=
  let prof := { c.prof with
    zones := (c.clearEntries 0x30 t).1
    templates := (c.clearEntries 0x31 t).1
    keys := patch c.prof.keys 77 ((c.prof.keys.drop 77).map (unbind t))
    enc := patch c.prof.enc 7 ((c.prof.enc.drop 7).map (unbind t)) }
  let c := { c with prof := prof }
  let c := (c.modQueue t (fun _ => Queue.empty)).modTenantRec t (fun r =>
    { r with isDefined := false, enabled := false, rights := 0#8, key := none })
  let free := fun (l : List Engage) => l.filter (fun e => e.tenant != t)
  let mine := fun (h : OutHead) => match h.source with
    | .records u _ _ _ => if u == t then { h with source := .rsp } else h
    | .rsp => h
  { c with
    trk := { c.trk with contacts := c.trk.contacts.map (fun k => { k with engaged := free k.engaged })
                        hover := c.trk.hover.map (fun h => { h with engaged := free h.engaged }) }
    host := { c.host with outHead := c.host.outHead.map mine }
    lnk := c.lnk.map (fun l => { l with txq := l.txq.map (untie t), onLine := l.onLine.map (untie t) })
    hp := c.hp.map (fun h => { h with outstanding := h.outstanding.map (untie t) }) }

/-- Bindings of keys and encoders that name a tenant. -/
def bindCount (c : Core) (t : Tenant) : Nat :=
  ((c.prof.keys.drop 77 ++ c.prof.enc.drop 7).filter (fun m => (BitVec.ofInt 16 m).getLsbD t.val)).length

/-- TENANT_REMOVE. -/
def actTenantRemove (c : Core) (x : CmdCtx) (p : List Byte) : Core :=
  let t : Tenant := Fin.ofNat 16 (byteAt p 0).toNat
  c.nvmWrite .tenant x 0x22#8 (le 1 (c.clearEntries 0x30 t).2 ++ le 1 (c.clearEntries 0x31 t).2 ++ le 1 (c.bindCount t))
    (fun c => c.removeTenant t)

/-- TENANT_GET. -/
def actTenantGet (c : Core) (x : CmdCtx) (p : List Byte) : Core :=
  let t : Tenant := Fin.ofNat 16 (byteAt p 0).toNat
  let r := c.tenantRec t
  c.ok x 0x23#8 ([r.rights] ++ bvLe 2 r.home ++ le 1 (bit (c.isEnabled t)) ++ le 1 (bit (c.tenantKey t).isSome) ++
    bvLe 4 (c.tenantSt t).h ++ le 1 (heldRecords (c.queue t)))

/-- HEDGE_KEY (R342, R360). -/
def actHedgeKey (c : Core) (x : CmdCtx) (p : List Byte) : Core :=
  c.nvmWrite .tenant x 0x24#8 [] (fun c => { c with nvm := { c.nvm with hedgeKey := c.unwrap p } })

/-- ZONES and TEMPLATES (R11, R176, R185, R358, R361): a read shows a tenant its own entries, a write replaces entries. -/
def actEntries (c : Core) (op : Nat) (x : CmdCtx) (p : List Byte) : Core :=
  let code := BitVec.ofNat 8 op
  let bytesOf := fun (f : Fields) => f.map (fun v => BitVec.ofInt 8 v)
  if p.isEmpty then
    let shown := fun (e : Fields) =>
      if x.tenant == 0 || (entryUsed op e && entryOwner op e == x.tenant.val) then bytesOf e else List.replicate (entrySize op) 0#8
    c.ok x code (le 1 0 ++ le 1 (entryTotal op) ++ (List.range (entryTotal op)).flatMap (fun i => shown (c.entryAt op i)))
  else
    let new := (entriesOf op p).flatMap (if op == 0x30 then zoneKept else templateKept)
    let table := patch (c.entryTable op) (entrySize op * (byteAt p 0).toNat) new
    ({ c with prof := if op == 0x30 then { c.prof with zones := table } else { c.prof with templates := table } }).ok x code []

/-- The field-set opcodes (R136, R354, R360): a read gives the working configuration, a write changes it. SWING of
FRAME_PLAN is a swing change (R86). -/
def actFields (c : Core) (op : Nat) (x : CmdCtx) (p : List Byte) : Core :=
  match fieldRecord op with
  | none => c
  | some r =>
    let code := BitVec.ofNat 8 op
    let n := c.prof.nSns
    if p.isEmpty then c.ok x code (packFields (fieldSpec op n) (fieldsOut op n (c.working.record r)))
    else
      let new := c.fieldWrite op r p
      let old := c.prof
      let c := { c with prof := c.prof.withRecord r new }
      let c :=
        if r == 0x01 then
          let c := c.acceptSwing c.prof.swingHigh false
          if old.nDrv != c.prof.nDrv || old.nSns != c.prof.nSns then c.invalidate else c
        else if r == 0x02 then
          (c.modNode (fun s => { s with lsbF := (List.range 24).map c.prof.lsbF, lsbC := (List.range 24).map c.prof.lsbC })).fitWindows
        else c.restOffKeys
      c.ok x code []

/-- SENSE_LINES (R146, R147, R359): SEAM_MAP and PHASE at once, GAIN and RANGE as range changes. -/
def actSenseLines (c : Core) (x : CmdCtx) (p : List Byte) : Core :=
  if p.isEmpty then
    c.ok x 0x41#8 ([0#8, 24#8, 0#8] ++ (List.range 24).flatMap (fun k =>
      le 1 (c.node.gain.getD k 0) ++ le 1 (bit (c.node.coarse.getD k false)) ++
      (List.range 3).flatMap (fun l => le 1 (c.prof.seamMap k l)) ++
      (List.range 24).flatMap (fun i => le 1 (fldN c.prof.sense (48 + 24 * k + i)))))
  else
    let forced := (byteAt p 2).getLsbD 0
    let line := fun (s : Core × Bool) (e : List Byte × Nat) =>
      let c := s.1
      let k := (byteAt p 0).toNat + e.2
      let nums := ints (e.1.map (fun b => b.toNat))
      let sense := patch (patch c.prof.sense (624 + 3 * k) ((nums.drop 2).take 3)) (48 + 24 * k) (nums.drop 5)
      let c := (({ c with prof := { c.prof with sense := sense } }).requestSense k (fldN nums 0) (fld nums 1 == 1) forced).applyLine k
      (c, s.2 || c.isDeferred k)
    let r := (chunks 29 (p.drop 3)).zipIdx.foldl line (c, false)
    r.1.ok x 0x41#8 (le 1 (bit r.2))

/-- COMP_CODES (R146, R147, R359). -/
def actCompCodes (c : Core) (x : CmdCtx) (p : List Byte) : Core :=
  if p.isEmpty then
    c.ok x 0x42#8 ((List.range 24).flatMap (fun k => le 1 k ++ [0#8] ++ (List.range 32).flatMap (fun d => le 1 ((c.lineCodes k).getD d 0))))
  else
    let codes := (p.drop 2).zipIdx.map (fun e => (e.2, e.1.toNat))
    let k := (byteAt p 0).toNat
    let c := (c.requestCodes k codes ((byteAt p 1).getLsbD 0)).applyLine k
    c.ok x 0x42#8 (le 1 (bit (c.isDeferred k)))

/-- COMP_SEEK (R142): it waits for a boundary with no contact. -/
def actCompSeek (c : Core) (x : CmdCtx) : Core :=
  let k : SeekSt :=
    { ctx := x, frame := none, coarse := List.replicate 24 false, codes := List.replicate 24 (List.replicate 32 0),
      xAtC := [], clipped := List.replicate 24 false }
  c.modNode (fun n => { n with seek := some k })

/-- BASELINE_CAPTURE (R137). -/
def actBaseline (c : Core) (x : CmdCtx) (p : List Byte) : Core :=
  (c.markCapture (BitVec.ofNat 24 (leAt p 0 3)) (BitVec.ofNat 32 (leAt p 3 4)) (byteAt p 7)).ok x 0x44#8 []

/-- SWING (R85, R359): in Run the change was taken when the command was accepted. -/
def actSwing (c : Core) (x : CmdCtx) (p : List Byte) : Core :=
  if p.isEmpty then c.ok x 0x47#8 (le 1 (bit c.acq.highNow) ++ [0#8])
  else
    let high := byteAt p 0 == 1#8
    let idle := c.acq.swingPend.isNone && c.acq.swingAnn.isNone && !c.acq.fallback
    let c := if c.pw.phase != .run || (idle && c.acq.highNow != high) then c.acceptSwing high ((byteAt p 1).getLsbD 0) else c
    c.ok x 0x47#8 (le 1 (bit (c.acq.highNow != high && c.acq.swingAnn != some high)))

/-- NODE_MAP: values by drive line and sense line, or of the sense lines and then the drive lines (DEDUCED, log 13). -/
def actNodeMap (c : Core) (x : CmdCtx) (p : List Byte) : Core :=
  let kind := (byteAt p 0).toNat
  let at' := fun (i : Nat) => c.node.nodes.getD i NodeSt.fresh
  let vals := fun (n : Nat) (f : Nat → Int) => (c.mapNodesOf (byteAt p 1).toNat).flatMap (fun i => leInt n (f i))
  let selfs := (c.node.selfs.take c.prof.nSns) ++ ((c.node.selfs.drop 24).take c.prof.nDrv)
  c.answerFrag x 0x50#8 (match kind with
    | 0 => vals 3 (fun i => (at' i).x)
    | 1 => vals 2 (fun i => (at' i).delta)
    | 2 => vals 3 (fun i => (at' i).b)
    | 3 => vals 3 (fun i => (at' i).f)
    | 4 => vals 1 (fun i => ((c.lineCodes (nodeLine i)).getD (nodeDrive i) 0 : Nat))
    | 5 => selfs.flatMap (fun s => le 3 s.scn)
    | _ => selfs.flatMap (fun s => leInt 2 s.delta))

/-- NOISE: the views of the surveyed sets, and at the timekeeper the panel figures (DEDUCED, log 13). -/
def actNoise (c : Core) (x : CmdCtx) : Core :=
  c.ok x 0x51#8 (le 1 c.acq.noiseViews.length ++ c.acq.noiseViews.flatMap (fun v =>
    bvLe 1 v.hop ++ v.lanes.flatMap (fun t => t.viewBytes 4 ++ leInt 5 t.sum)) ++
    (if c.hg.panelRoot then le 1 c.hg.tk.figures.length ++ c.hg.tk.figures.flatMap (fun f => bvLe 1 f.hop ++ bvLe 4 f.figure ++ bvLe 4 f.fc)
     else [0#8]))

/-- SAMPLE_VIEW: the views of the channels named, then the CLIP flags (DEDUCED, log 13). -/
def actSampleView (c : Core) (x : CmdCtx) (p : List Byte) : Core :=
  let m := leAt p 0 4
  c.ok x 0x52#8 ((c.acq.sampleView.zipIdx.filter (fun v => m.testBit v.2)).flatMap (fun v => v.1.viewBytes 2) ++
    le 4 ((c.acq.clip.zipIdx.map (fun v => bit v.1 * 2 ^ v.2)).sum))

/-- What an engine signature or a margin scan finds, entered in the fault list as CONFIRMED: facts of the part (R388, log 3). -/
def foundFaults (c : Core) : Core × List FaultEntry :=
  let new := Config.testFaults c.free
  let is := fun (e : FaultEntry) (f : Byte × Byte × Byte) => e.kind == f.1 && e.index == f.2.1 && e.sign == f.2.2
  let c := new.foldl (fun c f => c.addFault f.1.toNat f.2.1.toNat f.2.2.toNat 1 0) c.draw.1
  (c, c.nvm.faults.filter (fun e => new.any (is e)))

/-- SELF_TEST (R388): a full one waits for a boundary with no contact; the others run in idle time. -/
def actSelfTest (c : Core) (x : CmdCtx) (p : List Byte) : Core :=
  match (byteAt p 0).toNat with
  | 0 => c.modRep (fun r => { r with testDue := true, testCtx := some x })
  | 1 =>
    let r := c.sramMarch
    r.1.ok x 0x53#8 (le 1 (bit (!r.2.isEmpty)) ++ r.2.flatMap FaultEntry.bytes)
  | _ =>
    let r := c.foundFaults
    r.1.ok x 0x53#8 (le 1 (bit (!r.2.isEmpty)) ++ r.2.flatMap FaultEntry.bytes)

/-- TELEMETRY: record 0 is the newest (R402). A response holds at most 1 024 records, its TOTAL being at most 65 536 bytes. -/
def actTelemetry (c : Core) (x : CmdCtx) (p : List Byte) : Core :=
  c.answerFrag x 0x54#8 ((c.nvm.ring.drop (leAt p 0 2)).take (min (leAt p 2 2) 1024)).flatten

/-- WEAR_MAP (R403). -/
def actWearMap (c : Core) (x : CmdCtx) : Core :=
  let across := (c.prof.nSns + 1) / 2
  let high := (c.prof.nDrv + 1) / 2
  let cell := fun (r k : Nat) => c.nvm.wear.getD (12 * r + k) { frames := 0, downs := 0 }
  c.answerFrag x 0x55#8 (bvLe 2 c.hg.addr ++ le 1 across ++ le 1 high ++ bvLe 4 (c.nvm.wearFirst.getD 0#32) ++ bvLe 4 c.nvm.wearLast ++
    List.replicate 4 0#8 ++ (List.range high).flatMap (fun r => (List.range across).flatMap (fun k =>
      le 4 (cell r k).frames ++ le 2 (cell r k).downs)))

/-- LINK_COUNTS (R236, R259). -/
def actLinkCounts (c : Core) (x : CmdCtx) (p : List Byte) : Core :=
  let q : Port := Fin.ofNat 6 (byteAt p 0).toNat
  let l := c.port q
  c.ok x 0x56#8 (bvLe 2 l.cntFe ++ bvLe 2 l.cntPe ++ bvLe 2 l.cntNoise ++ bvLe 2 l.cntBreak ++ bvLe 2 l.cntBad ++ le 1 l.mon.code ++
    bvLe 2 (c.hport q).delay)

/-- FAULTS (R388). -/
def actFaults (c : Core) (x : CmdCtx) : Core := c.ok x 0x57#8 (le 1 c.nvm.faults.length ++ c.nvm.faults.flatMap FaultEntry.bytes)

/-- KEY_STATUS. -/
def actKeyStatus (c : Core) (x : CmdCtx) : Core :=
  c.ok x 0x62#8 (c.keys.ladders.flatMap (fun l => l.keys.flatMap (fun k => le 1 k.st.code ++ le 2 (min k.hold 65535))))

/-- COMBO_READ (Table KEY-11; DEDUCED, log 13). -/
def actComboRead (c : Core) (x : CmdCtx) : Core :=
  let o := c.otpc.combo
  c.ok x 0x63#8 (le 1 o.ctLadder.val ++ bvLe 1 o.ctMode ++ le 1 o.ctKeyA.val ++ le 1 o.ctKeyB.val ++
    le 1 o.pvLadder.val ++ bvLe 1 o.pvMode ++ le 1 o.pvKeyA.val ++ le 1 o.pvKeyB.val ++ le 2 o.pvHold)

/-- ROUTES (R272): the STATIC entries; every entry written is one. -/
def actRoutes (c : Core) (x : CmdCtx) (p : List Byte) : Core :=
  if p.isEmpty then c.ok x 0x70#8 ((c.hg.routes.filter (fun r => r.isStatic)).flatMap RouteEntry.bytes)
  else
    let mine := (routesOf p).map (fun r => { r with isStatic := true })
    let new := c.modHg (fun h => { h with routes := mine ++ h.routes.filter (fun r => !r.isStatic) })
    let table := new.routeTable
    let c := (c.modHg (fun h => { h with routes := table })).hedgeSend 0x3FF#10 9 (table.flatMap RouteEntry.bytes)
    c.relayRetry.ok x 0x70#8 []

/-- The settings of a link record reach a port (R223): LEAD and TAIL with the next frame, the others by LINK_CONFIG_APPLY. -/
def configure (c : Core) (g : List LinkCfg) : Core :=
  { c with lnk := c.lnk.zipIdx.map (fun l =>
      let n := g.getD l.2 LinkCfg.factory
      let cfg := { l.1.cfg with lead := n.lead, tail := n.tail }
      { l.1 with cfg := cfg, pendCfg := if n == cfg then none else some n }) }

/-- LINK_CONFIG (R221 to R223, R360). -/
def actLinkConfig (c : Core) (x : CmdCtx) (p : List Byte) : Core :=
  if p.isEmpty then c.ok x 0x71#8 ((c.nvm.linkRec.getD (List.replicate 6 LinkCfg.factory)).flatMap LinkCfg.bytes)
  else
    let g := (chunks 6 p).map linkCfgOf
    c.nvmWrite .link x 0x71#8 [] (fun c => ({ c with nvm := { c.nvm with linkRec := some g } }).configure g)

/-- RAW_LINK (R245, R246, R332): LINKCTL is written, then the characters; status and data come back and the flags returned
are cleared. DEDUCED (log 21): characters are taken where the operation in force or waiting is RAW or LOOP. -/
def actRawLink (c : Core) (x : CmdCtx) (p : List Byte) : Core :=
  let q : Port := Fin.ofNat 6 (byteAt p 0).toNat
  let l := ((c.port q).writeOp (BitVec.ofNat 2 (byteAt p 1).toNat)).writeTxbrk (byteAt p 2 == 1#8)
  let o := l.pendOp.getD l.op
  let l := if o == 1#2 || o == 2#2 then (p.drop 4).foldl LinkPort.putTx l else l
  let chars := if l.isRaw then l.rxFifo else []
  let c := c.modPort q (fun _ => ({ l with rxFifo := if l.isRaw then [] else l.rxFifo }).clearFlags l.flags)
  c.ok x 0x72#8 (bvLe 2 l.stat ++ le 1 chars.length ++ chars.flatMap (fun r => bvLe 2 r.word))

/-- DISCOVER. -/
def actDiscover (c : Core) (x : CmdCtx) : Core :=
  c.ok x 0x73#8 (ports.flatMap (fun q =>
    let h := c.hport q
    le 1 (c.port q).mon.code ++ bvLe 6 ((h.partner.map (fun k => k.uid)).getD 0#48) ++ bvLe 2 ((h.partner.map (fun k => k.addr)).getD 0#10) ++
      bvLe 2 h.delay))

/-- ROSTER. -/
def actRoster (c : Core) (x : CmdCtx) : Core := c.ok x 0x74#8 c.hg.roster.bytes

/-- RENUMBER (R268): the named tile's position changes, and the roster carries it. -/
def actRenumber (c : Core) (x : CmdCtx) (p : List Byte) : Core :=
  let a : Addr := BitVec.ofNat 10 (leAt p 0 2)
  let tiles := c.hg.roster.tiles.map (fun t => if t.addr == a && !t.lost then { t with u := byteAt p 2, v := byteAt p 3 } else t)
  let c := c.publish tiles
  let c := if a == c.hg.addr then c.takeAddress a (byteAt p 2) (byteAt p 3) else c
  c.ok x 0x75#8 []

/-- REPAIR_STATUS (R373, R374): a repair beyond the 64 entries is not recorded and has no entry. -/
def actRepairStatus (c : Core) (x : CmdCtx) : Core :=
  let v := c.rprView
  let map := c.rep.factory ++ c.nvm.fieldMap ++ c.nvm.mapPending
  c.ok x 0x80#8 (bvLe 1 c.rep.grade ++ le 1 v.stat.toNat ++ bvLe 2 v.spare ++ le 1 map.length ++ map.flatMap RepairEntry.bytes)

/-- COPPICE_SET (R374, R393): a repair in force already stays as it is. -/
def actCoppiceSet (c : Core) (x : CmdCtx) (p : List Byte) : Core :=
  let kind := coppiceKind (byteAt p 0).toNat
  let index := if kind == 3 then (byteAt p 1).toNat % 128 else (byteAt p 1).toNat
  let leg := if kind == 3 then (byteAt p 1).toNat / 128 else 0
  let there := c.repairs.any (fun r => r.kind.toNat == kind && r.index.toNat == index && (kind != 3 || r.detail.toNat == leg))
  let c := if there then c else (c.coppice kind index leg 0 3).1
  c.regrade.ok x 0x81#8 []

/-- COPPICE_CLEAR (R80, R376, R393). -/
def actCoppiceClear (c : Core) (x : CmdCtx) (p : List Byte) : Core :=
  let kind := coppiceKind (byteAt p 0).toNat
  let index := if kind == 3 then (byteAt p 1).toNat % 128 else (byteAt p 1).toNat
  let leg := if kind == 3 then (byteAt p 1).toNat / 128 else 0
  let r := c.uncoppice kind index leg
  if r.2 then (r.1.regrade.ok x 0x82#8 []).testWake else r.1.answer x 0x82#8 stNvmFail []

/-- FINGERPRINT (R80, R383): it waits for a boundary with no contact. -/
def actFingerprint (c : Core) (x : CmdCtx) : Core :=
  if c.nvmOk then c.modRep (fun r => { r with fingerWait := some x }) else c.answer x 0x83#8 stNvmFail []

/-- BG_TASK (R395): a task becomes due. -/
def actBgTask (c : Core) (x : CmdCtx) (p : List Byte) : Core :=
  let n := (byteAt p 0).toNat - 1
  (c.modRep (fun r => { r with bgDue := r.bgDue ||| (1#5 <<< n), testDue := r.testDue || n == 1 })).testWake.ok x 0x84#8 []

/-- What an opcode does. -/
def actOf (c : Core) (op : Nat) (x : CmdCtx) (p : List Byte) : Core :=
  match op with
  | 0x00 => c.actGetInfo x
  | 0x01 => c.actGetState x
  | 0x02 => c.actSetState x p
  | 0x03 => c.actReset x
  | 0x04 => c.actGetFresh x
  | 0x10 => c.actProfileRead x p
  | 0x11 => c.actProfileWrite x p
  | 0x12 => c.actProfileCommit x p
  | 0x13 => c.actProfileGen x
  | 0x20 => c.actProvKey x p
  | 0x21 => c.actTenantDefine x p
  | 0x22 => c.actTenantRemove x p
  | 0x23 => c.actTenantGet x p
  | 0x24 => c.actHedgeKey x p
  | 0x30 => c.actEntries 0x30 x p
  | 0x31 => c.actEntries 0x31 x p
  | 0x41 => c.actSenseLines x p
  | 0x42 => c.actCompCodes x p
  | 0x43 => c.actCompSeek x
  | 0x44 => c.actBaseline x p
  | 0x47 => c.actSwing x p
  | 0x50 => c.actNodeMap x p
  | 0x51 => c.actNoise x
  | 0x52 => c.actSampleView x p
  | 0x53 => c.actSelfTest x p
  | 0x54 => c.actTelemetry x p
  | 0x55 => c.actWearMap x
  | 0x56 => c.actLinkCounts x p
  | 0x57 => c.actFaults x
  | 0x62 => c.actKeyStatus x
  | 0x63 => c.actComboRead x
  | 0x70 => c.actRoutes x p
  | 0x71 => c.actLinkConfig x p
  | 0x72 => c.actRawLink x p
  | 0x73 => c.actDiscover x
  | 0x74 => c.actRoster x
  | 0x75 => c.actRenumber x p
  | 0x80 => c.actRepairStatus x
  | 0x81 => c.actCoppiceSet x p
  | 0x82 => c.actCoppiceClear x p
  | 0x83 => c.actFingerprint x
  | 0x84 => c.actBgTask x p
  | _ => c.actFields op x p

end Core

end Sys2Proof.Machine
end

