-- ==== Sys2Proof/Machine/EngineOps.lean ====
section
/-!
DEFINITION. The packet engine: the checks of Table PKT-3 in their order, freshness, segments, frame-deferred commands, and
the steps of a commit (R19, R20, R79, R80, R342 to R352, R354 to R356, R363, R397).
-/
namespace Sys2Proof.Machine

/-- A value is fresh (R343). -/
def TenantSt.isFresh (t : TenantSt) (f : BitVec 32) : Bool :=
  decide (t.h.toNat < f.toNat) ||
  (decide (f.toNat < t.h.toNat) && decide (t.h.toNat < f.toNat + 32) && !t.marks.getLsbD (t.h.toNat - 1 - f.toNat))

/-- A fresh value is consumed (R343): bit i of the marks stands for H - 1 - i. -/
def TenantSt.consume (t : TenantSt) (f : BitVec 32) : TenantSt :=
  if t.h.toNat < f.toNat then
    let n := f.toNat - t.h.toNat
    { t with h := f, marks := (t.marks <<< n) ||| (1#32 <<< (n - 1)) }
  else { t with marks := t.marks ||| (1#32 <<< (t.h.toNat - 1 - f.toNat)) }

/-- What a CMD's header brings to its opcode. -/
def ctxOf (b : List Byte) (auth : Bool) : CmdCtx :=
  { tenant := pkTenant b, auth := auth, urg := pkUrg b, frag := pkFrag b, last := pkLast b, src := pkSrc b, seq := pkSeq b }

/-- The row of NVM that a commit's step works on (Table REPAIR-8, R446). -/
def CommitJob.row (j : CommitJob) : Nat :=
  let base := match j.slot with
    | .a => 0
    | .b => 32
  match j.stage with
  | .erase r => base + r
  | .body p => base + (p + 1) / 8
  | .header | .marker => base

/-- Pages of a commit's body. -/
def CommitJob.pages (j : CommitJob) : Nat := (j.image.length + 255) / 256

/-- The step after a commit's step (R79, R446). -/
def CommitJob.next (j : CommitJob) : Option CommitStage :=
  match j.stage with
  | .erase r => some (if r + 1 < 32 then .erase (r + 1) else if j.pages = 0 then .header else .body 0)
  | .body p => some (if p + 1 < j.pages then .body (p + 1) else .header)
  | .header => some .marker
  | .marker => none

namespace Core

/-- Check 9: a later segment follows the one before it (R352). -/
def inOrder (c : Core) (x : CmdCtx) (op : Byte) (off tot : Nat) : Bool :=
  off == 0 || c.pk.transfer.any (fun o => o.tenant == x.tenant && o.opcode == op && o.total == tot && o.bytes.length == off)

/-- The bytes of the transfer before a segment. -/
def heldBytes (c : Core) (off : Nat) : List Byte := if off == 0 then [] else ((c.pk.transfer.map (fun o => o.bytes)).getD [])

/-- Apply a command whose turn has come: judged again, since an earlier command may have changed what it was judged against
(DEDUCED, log 21). -/
def applyNowCmd (c : Core) (op : Byte) (x : CmdCtx) (p : List Byte) : Core :=
  if c.isBusy op.toNat x p then c.answer x op stBusy []
  else match c.rangeOf op.toNat x p with
    | some st => c.answer x op st []
    | none => c.actOf op.toNat x p

/-- An accepted command: acted on, or kept for its boundary (R19, R20, R349); a swing change counts from its acceptance
(R85). -/
def accept (c : Core) (later : Bool) (op : Byte) (x : CmdCtx) (p : List Byte) : Core :=
  if later then
    let c := { c with pk := { c.pk with deferred := c.pk.deferred ++ [{ opcode := op, ctx := x, payload := p }] } }
    if op == 0x47#8 && c.pw.phase == .run then c.acceptSwing (byteAt p 0 == 1#8) ((byteAt p 1).getLsbD 0) else c
  else c.actOf op.toNat x p

/-- Checks 10 to 12 on a command that is whole. -/
def finishCmd (c : Core) (i : OpInfo) (op : Byte) (x : CmdCtx) (p : List Byte) (later : Bool) : Core :=
  if c.isBusy op.toNat x p then c.answer x op stBusy []
  else if later && 16 ≤ c.pk.deferred.length then c.answer x op stQueueFull []
  else if i.rootOnly && !c.hg.panelRoot then c.answer x op stRange (bvLe 2 c.hg.rootAddr)
  else match c.rangeOf op.toNat x p with
    | some st => c.answer x op st []
    | none => c.accept later op x p

/-- Checks 9 to 12 on a segment (R350 to R352): it takes its place in the staging buffer, and the last one brings the
transfer's outcome. A refused segment leaves the transfer where it was. -/
def segment (c : Core) (i : OpInfo) (op : Byte) (x : CmdCtx) (p : List Byte) (later : Bool) : Core :=
  let off := leAt p 0 3
  let tot := leAt p 3 3
  let seg := p.drop 6
  let data := c.heldBytes off ++ seg
  if !c.inOrder x op off tot then c.answer x op stSegOrder []
  else if x.last && (off + seg.length != tot || !lenOk op.toNat c.prof.nSns data) then c.answer x op stBadLength []
  else if off == 0 && c.stagingTaken x.tenant then c.answer x op stBusy []
  else if !x.last then
    if i.rootOnly && !c.hg.panelRoot then c.answer x op stRange (bvLe 2 c.hg.rootAddr)
    else
      let t : Transfer := { tenant := x.tenant, opcode := op, total := tot, bytes := data }
      ({ c with pk := { c.pk with transfer := some t, staged := none } }).ok x op []
  else if c.isBusy op.toNat x data then c.answer x op stBusy []
  else if later && 16 ≤ c.pk.deferred.length then c.answer x op stQueueFull []
  else if i.rootOnly && !c.hg.panelRoot then c.answer x op stRange (bvLe 2 c.hg.rootAddr)
  else match c.rangeOf op.toNat x data with
    | some st => c.answer x op st []
    | none => ({ c with pk := { c.pk with transfer := none, staged := some data } }).accept later op x data

/-- Checks 5 to 12 of Table PKT-3 on a command that has passed authentication and freshness (R346, R354 to R357). A segment out of order is
left to check 9, whatever its TOTAL (R352). -/
def command (c : Core) (op : Byte) (x : CmdCtx) (p : List Byte) : Core :=
  match opInfo op.toNat with
  | none => c.answer x op stBadOpcode []
  | some i =>
    let read := i.rw && !x.frag && p.isEmpty
    let off := leAt p 0 3
    let tot := leAt p 3 3
    let short := if x.frag then decide (p.length < 6) || (c.inOrder x op off tot && decide (65536 < tot ∨ tot < off + (p.drop 6).length))
      else !read && !lenOk op.toNat c.prof.nSns p
    if short then c.answer x op stBadLength []
    else if !c.mayDo i op.toNat x p then c.answer x op stNoRight []
    else
      let l := i.legal c.pw.phase
      if l == .no then c.answer x op stWrongState [BitVec.ofNat 8 c.pw.phase.code.toNat, BitVec.ofNat 8 i.needed]
      else
        let later := l == .defer && !read
        if x.frag then c.segment i op x p later else c.finishCmd i op x p later

/-- Check 4 (R343, R344), then the rest: the reservation is written first where it is due. -/
def freshThen (c : Core) (x : CmdCtx) (op : Byte) (f : BitVec 32) (p : List Byte) : Core :=
  let t := c.tenantSt x.tenant
  let due := decide ((c.tenantRec x.tenant).s.toNat ≤ f.toNat + 256)
  let failed := fun (c : Core) => c.modTele (fun k => { k with authFail := k.authFail + 1 })
  if !t.isFresh f then (failed c).answer x op stReplay []
  else
    let w := if due then c.write .tenant (fun c => c.modTenantRec x.tenant (fun r => { r with s := f + 4096#32 })) else (c, true)
    if w.2 then (w.1.modTenantSt x.tenant (fun s => s.consume f)).command op x p
    else w.1.answer x op stNvmFail []

/-- The checks of Table PKT-3 on a CMD for this tile (R342, R346); of the open opcodes, a slot that is defined has to be enabled. -/
def takeCmd (c : Core) (b : List Byte) (host : Bool) : Core :=
  let op := pkOp b
  let t := pkTenant b
  let p := pkPayload b
  let serves := c.isDefined t && c.isEnabled t
  let failed := fun (c : Core) => c.modTele (fun k => { k with authFail := k.authFail + 1 })
  if !pkIntact b then (if host then c.answer (ctxOf b false) op stBadLength [] else c)
  else if pkKind b != 1 then c.answer (ctxOf b false) op stBadOpcode []
  else if pkAuth b then
    match (if serves then c.tenantKey t else none) with
    | none => (failed c).answer (ctxOf b false) op stAuthFail []
    | some k => if tagOk k b then c.freshThen (ctxOf b true) op (pkFresh b) p else (failed c).answer (ctxOf b false) op stAuthFail []
  else if ((op == 0x00#8 || op == 0x04#8) && (serves || !c.isDefined t)) || (op == 0x20#8 && serves) then c.command op (ctxOf b serves) p
  else (failed c).answer (ctxOf b false) op stAuthFail []

/-- The oldest frame-deferred command is applied (R19, R20). -/
def applyFirst (c : Core) : Core :=
  match c.pk.deferred with
  | [] => c
  | d :: rest => ({ c with pk := { c.pk with deferred := rest } }).applyNowCmd d.opcode d.ctx d.payload

/-- Every frame-deferred command is applied in order; leaving Run, one that Quiet rejects is answered with WRONG_STATE
(R19, R356). -/
def applyDeferred (c : Core) (leaving : Bool) : Core :=
  let all := c.pk.deferred
  all.foldl (fun c d =>
    if leaving && (opInfo d.opcode.toNat).any (fun i => i.quiet == .no) then c.answer d.ctx d.opcode stWrongState [4#8, 5#8]
    else c.applyNowCmd d.opcode d.ctx d.payload) { c with pk := { c.pk with deferred := [] } }

/-- A commit ends with NVM_FAIL (R80). -/
def jobFail (c : Core) (j : CommitJob) : Core :=
  let c := { c with nvm := { c.nvm with job := none } }
  match j.reply with
  | some x => c.answer x 0x12#8 stNvmFail []
  | none => c

/-- What a completed step of a commit leaves in NVM. -/
def jobWrite (c : Core) (j : CommitJob) : Core :=
  match j.stage with
  | .erase _ => c.noteErase j.row
  | .body p => c.modSlot j.slot (fun s => { s with body := s.body ++ (j.image.drop (256 * p)).take 256 })
  | .header =>
    let h : SlotHeader := { gen := j.gen, len := j.image.length, crc := crc32 j.image }
    c.modSlot j.slot (fun s => { s with header := some h })
  | .marker => c.modSlot j.slot (fun s => { s with marker := some (markerOf j.gen) })

/-- A slot becomes the selected one. -/
def select (c : Core) (s : SlotId) (gen : BitVec 32) (image : List Byte) : Core :=
  { c with slot := some s, gen := gen, image := image, ret := { c.ret with slot := some s } }

/-- A committed profile takes effect (R77, R363): at once in BARE and Quiet, at the next boundary in Run. -/
def takeCommit (c : Core) (j : CommitJob) : Core :=
  let p := (readImage j.image).getD c.prof
  match c.pw.phase with
  | .run => { c with newProf := some (p, j.slot, j.gen) }
  | .bare =>
    let c := (c.select j.slot j.gen j.image).loadProfile p
    if c.isBare then c else c.abortEntry.enterStanding
  | _ => (c.select j.slot j.gen j.image).adoptProfile p

/-- A commit is complete (R79); one that the repair manager made for an uncorrectable slot (R399) saves the profile in use
and leaves the working configuration as it stands (DEDUCED, log 22). -/
def jobDone (c : Core) (j : CommitJob) : Core :=
  let c := { c with nvm := { c.nvm with job := none } }
  match j.reply with
  | some x => (c.ok x 0x12#8 (bvLe 4 j.gen)).takeCommit j
  | none => (c.select j.slot j.gen j.image).repairEvent 0x4D (bvLe 4 j.gen)

/-- NVM_OPERATION_DONE (R79, R80, R397): the step's effect stands, in a spare row where the row failed verify, and the next
step starts; neither a spare row nor a step is begun while writes are inhibited. -/
def jobStep (c : Core) (verified : Bool) : Core :=
  match c.nvm.job with
  | none => c
  | some j =>
    let r := if verified then (c, true) else if c.nvmOk then c.retireRow j.row else (c, false)
    if !r.2 then r.1.jobFail j
    else
      let c := r.1.jobWrite j
      match j.next with
      | none => c.jobDone j
      | some st =>
        if c.nvmOk then
          let j' := { j with stage := st }
          { c with nvm := { c.nvm with job := some j' } }
        else c.jobFail j

/-- The seek frames begin (R142, R378): at the start of a normal frame, with no contact, once no forced handover waits. Every
line in use is set to FINE and every code to the first trial. -/
def seekStart (c : Core) : Core :=
  match c.node.seek with
  | none => c
  | some k =>
    if c.pw.phase == .run && c.acq.running && c.acq.slot == some .sync && c.acq.maint.isNone && k.frame.isNone && !c.hasContact &&
        !c.acq.noiseGiven && !c.rep.bgdefer.getLsbD 0 then
      let k' := { k with frame := some 0 }
      let c := (c.modNode (fun n => { n with seek := some k' })).modAcq (fun a => { a with maint := some .seek })
      c.modAcq (fun a => { a with dac := c.dacCodes })
    else c

/-- No boundary without contact came within 10 s (R142). -/
def seekTimeout (c : Core) : Core :=
  match c.node.seek with
  | some { ctx := x, frame := none, coarse := _, codes := _, xAtC := _, clipped := _ } =>
    (c.modNode (fun n => { n with seek := none })).answer x 0x43#8 stBusy []
  | _ => c

/-- No boundary without contact came within 10 s (R383). -/
def fingerTimeout (c : Core) : Core :=
  match c.rep.fingerWait with
  | some x => (c.modRep (fun r => { r with fingerWait := none })).answer x 0x83#8 stBusy []
  | none => c

/-- No boundary without contact came within 10 s (R388); a daily self-test that is due stays due. -/
def testTimeout (c : Core) : Core :=
  match c.rep.testCtx with
  | some x => (c.modRep (fun r => { r with testCtx := none, testDue := r.bgDue.getLsbD 1 || !r.suspects.isEmpty })).answer x 0x53#8 stBusy []
  | none => c

/-- The key's area is programmed and its marker verified (R365, R444, R445), or the area failed. -/
def provDone (c : Core) (k : KeyProg) (o : Otp) (verified : Bool) : Core :=
  let otpc := { c.otpc with custodian := custodianKey o, provOpen := provisioningOpen o }
  let c := { c with keyProg := none, otpc := otpc }
  if verified then (c.freshKey 0).ok { k.ctx with auth := true } 0x20#8 [] else c.answer k.ctx 0x20#8 stNvmFail []

end Core

/-- A key takes the first blank area; a key once programmed is never changed (R365, R445). -/
def programKey (o : Otp) (key : List Byte) : Otp :=
  if (Core.custodianKey o).isSome then o else Core.firstBlank o (.programmed key)

/-- OTP_PROGRAM_DONE (R445). -/
def otpDone (verified : Bool) (s : State) : State :=
  match s.core.keyProg with
  | none => { s with core := s.core.latch }
  | some k =>
    let o := if verified then programKey s.otp k.key else Core.firstBlank s.otp .spoiled
    { s with otp := o, core := s.core.after (s.core.provDone k o verified) }

end Sys2Proof.Machine
end

