-- ==== Sys2Proof/Machine/NodeEngine.lean ====
section
/-!
DEFINITION. The node engine in COMPUTE: decode and scale, interpolation of dead lines, median, delta IIR and delta, the
measured step of a range change, self-capacitance, and the last acts of COMPUTE: baselines, fast re-calibration and the
watch for suspect lines (R127 to R141, R145, R148, R151 to R153, R389 to R391).
-/
namespace Sys2Proof.Machine

/-- Q[h] (Table NUM-2). -/
def hopQ (h : Nat) : Int :=
  ([2796203, 2396745, 2097152, 1864135, 1597830, 1398101, 1198373, 1048576] : List Int).getD h 0

/-- The node sum of drive line d (R127). -/
def nodeSum (s : List Int) (d : Nat) : Int := (s.zipIdx.map (fun x => hadamard x.2 d * x.1)).sum

/-- A node value (R129). -/
def nodeValue (n : Int) (h : Nat) (high : Bool) (gain : Nat) : Int := rhu (n * hopQ h) (40 + 2 * bit high + (3 - gain))

/-- The middle of a window (R133). -/
def median (l : List Int) : Int := (sortBy (fun a b => decide (a < b)) l).getD (l.length / 2) 0

/-- A window of `w` values takes a new one, and its oldest goes (R133). -/
def pushWindow (w : Nat) (win : List Int) (x : Int) : List Int := Core.fitWindow w (win ++ [x])

/-- Median and delta IIR of an included frame (R133, R134). -/
def NodeSt.filtered (n : NodeSt) (w k : Nat) (x : Int) : NodeSt :=
  let win := pushWindow w n.win x
  let t := median win - n.f + n.phi
  let q := rhu t k
  { n with win := win, f := n.f + q, phi := t - q * 2 ^ k }

/-- The first included frame after a synchronising reset (R141), or after a line's coppice, baseline and all (R391). -/
def NodeSt.seeded (n : NodeSt) (w : Nat) (x : Int) : NodeSt :=
  { n with win := List.replicate w x, f := x, phi := 0, b := if n.seedB then x else n.b, rho := if n.seedB then 0 else n.rho,
           valid := n.valid || n.seedB, seed := false, seedB := false }

/-- An included frame (R131 to R134). DESIGN CHOICE (log 33): the first included frame of a node never measured, be it of a neighbour new
at the seam or of a line new in use, fills its window and F as R141 has it after a synchronising reset. -/
def NodeSt.measured (n : NodeSt) (w k : Nat) (x : Int) : NodeSt :=
  let n := if n.seed || n.seedB then n.seeded w x else n.filtered w k x
  { n with ref := some x, inc := true, ranging := false }

/-- The measured step of a range change (R148). -/
def NodeSt.stepOf (n : NodeSt) (x : Int) : Int :=
  match n.ref with
  | some r => if n.zero then 0 else x - r
  | none => 0

/-- The end of an exclusion: the step is added to window, F and B (R148). DEDUCED (log 19): the value measured here is x_ref
of a change that follows at once. -/
def NodeSt.landed (n : NodeSt) (x : Int) : NodeSt :=
  let d := n.stepOf x
  { n with win := n.win.map (fun v => sat (v + d) 20), f := sat (n.f + d) 20, b := sat (n.b + d) 20,
           ref := n.ref.map (fun _ => x), excl := none, zero := false, learn := false }

/-- A frame of a node that measures nothing: an exclusion whose last frame it is ends without a step (R148). -/
def NodeSt.unmeasured (n : NodeSt) (last : Bool) : NodeSt :=
  { n with inc := false, ranging := n.excl.isSome, excl := n.excl.filter (fun e => !(last && decide (e ≤ 1))) }

/-- The delta of an included frame (R135, R136). -/
def NodeSt.formDelta (n : NodeSt) (valid : Bool) : NodeSt := { n with delta := if valid && n.valid then sat16 (n.f - n.b) else 0 }

/-- The baseline is captured as the tile's baselines become valid (R136). -/
def NodeSt.capture (n : NodeSt) : NodeSt := { n with b := n.f, rho := 0, neg := 0, valid := true }

/-- The baseline is captured by command (R137). -/
def NodeSt.recapture (n : NodeSt) : NodeSt := { n with b := n.f, rho := 0, recap := false }

/-- A baseline update with error feedback (R138). -/
def NodeSt.update (n : NodeSt) : NodeSt :=
  let t := n.f - n.b + n.rho
  let q := rhu t 8
  { n with b := n.b + q, rho := t - 256 * q }

/-- The fast re-calibration count (R140). -/
def NodeSt.recal (n : NodeSt) (thresh : Int) (frames : Nat) : NodeSt :=
  if n.delta < -thresh then
    if frames ≤ n.neg + 1 then { n with b := n.f, rho := 0, neg := 0 } else { n with neg := n.neg + 1 }
  else { n with neg := 0 }

/-- SCN of a count (R151). -/
def scnOf (nlog n : Nat) : Nat := if nlog ≤ 4 then n * 2 ^ (4 - nlog) else (rhu n (nlog - 4)).toNat

/-- A self line in a frame that counts it (R151, R152). -/
def SelfSt.counted (s : SelfSt) (valid : Bool) (nlog shift : Nat) (sc : Option Nat) : SelfSt :=
  match sc with
  | none => { s with stall := true, inc := false }
  | some n =>
    let scn := scnOf nlog n
    { s with scn := scn, stall := false, known := true, inc := true,
             delta := if valid && s.valid then sat16 (rhu (scn - s.sb) shift) else 0 }

/-- A self baseline is captured (R152). -/
def SelfSt.capture (s : SelfSt) : SelfSt := { s with sb := s.scn, res := 0, neg := 0, valid := true }

/-- A self baseline is captured by command (R137, R152). -/
def SelfSt.recapture (s : SelfSt) : SelfSt := { s with sb := s.scn, res := 0, recap := false }

/-- A self baseline is updated (R152). -/
def SelfSt.update (s : SelfSt) : SelfSt :=
  let t := (s.scn : Int) - s.sb + s.res
  let q := rhu t 8
  { s with sb := usat (s.sb + q) 24, res := t - 256 * q }

/-- Fast re-calibration of a self line (R152). -/
def SelfSt.recal (s : SelfSt) (thresh : Int) (frames : Nat) : SelfSt :=
  if s.delta < -thresh then
    if frames ≤ s.neg + 1 then { s with sb := s.scn, res := 0, neg := 0 } else { s with neg := s.neg + 1 }
  else { s with neg := 0 }

/-- What a frame gives for one node: nothing, a blind node (R390), or a value. -/
inductive Reading where
  | absent | blind | value (x : Int)
  deriving DecidableEq, Repr

/-- The value of a reading. -/
def Reading.value? : Reading → Option Int
  | .value x => some x
  | .absent | .blind => none

/-- A node formed from its two neighbours across a dead line (R390). -/
def between (a b : Option Int) : Reading :=
  match a, b with
  | some x, some y => .value (rhu (x + y) 1)
  | some x, none | none, some x => .value x
  | none, none => .blind

/-- Where a lane's coupling comes from: this tile or the neighbour on a port, its drive lines and swing, and whether its frame
is whole (R87, R128, R129, R131, R150). -/
structure LaneSrc where
  port : Option Port
  nDrv : Nat
  high : Bool
  ok   : Bool
  deriving DecidableEq, Repr

namespace Core

/-- A TILE port with a partner that carries link frames. -/
def joined (c : Core) (p : Port) : Bool := c.isTile p && c.linkUp p && (c.hport p).partner.isSome

/-- This tile's frames stand with the panel's: it is the timekeeper or has a sync depth, its plan agrees, and its hop set is
the panel's (R106, R278, R281, R288). -/
def aligned (c : Core) : Bool :=
  (c.hg.panelRoot || (c.hg.depth != 15#4 && c.hg.everSync)) && !c.hg.planMismatch && !c.acq.hopEdge

/-- The seam is not a panel edge on account of this tile or of the line (R106, R281, R290, R296). -/
def seamOpen (c : Core) (p : Port) : Bool := c.joined p && c.aligned && !(c.hport p).edge && !(c.hport p).uncertain

/-- SEAM_H of this frame from a neighbour that scans on this tile's hop set with its seam digest (R33, R290). -/
def seamOf (c : Core) (p : Port) : Option SeamH :=
  if c.seamOpen p && !(c.hport p).digestBad then
    (c.hport p).inH.filter (fun h => h.fc == c.hg.fc && h.scanning && h.hop == c.acq.hop)
  else none

/-- The port that SEAM_MAP names for a lane of a sense line, where it is not the own lane (R103, Table ACQ-2). -/
def lanePort (c : Core) (k lane : Nat) : Option Port :=
  if lane == c.colour then none else ports.find? (fun p => c.prof.seamMap k lane == p.val)

/-- Colour class of the tile at a port (R25). -/
def farColour (c : Core) (p : Port) : Nat :=
  let d := portOffset p
  colourOf (c.hg.u.toInt + d.1) (c.hg.v.toInt + d.2)

/-- The lane of a sense line that SEAM_MAP gives a port (Table ACQ-2). DEDUCED (log 25): where it gives more than one, the seam's band has
the values of the lane of the neighbour's colour, or else of the lowest lane. -/
def laneFor (c : Core) (p : Port) (k : Nat) : Option Nat :=
  ([c.farColour p, 0, 1, 2] : List Nat).find? (fun l => c.lanePort k l == some p)

/-- This tile's part of a frame is whole: not sagged and not the partial frame (R131). -/
def ownOk (c : Core) : Bool := !c.acq.sagged && !c.node.isPartial

/-- The source of a lane on a sense line, none where its sums are discarded (R103, R128). -/
def laneSrc (c : Core) (k lane : Nat) : Option LaneSrc :=
  if c.prof.nSns ≤ k then none
  else if lane == c.colour then some { port := none, nDrv := c.prof.nDrv, high := c.frameHigh, ok := c.ownOk }
  else
    match c.lanePort k lane with
    | none => none
    | some p => (c.seamOf p).map (fun h =>
        { port := some p, nDrv := h.nDrv.toNat, high := (c.hport p).swingNow, ok := !h.sagged && !h.isPartial && !c.node.isPartial })

/-- The step sums of a sense line on a lane (R91, R103). -/
def lineSums (c : Core) (k lane : Nat) : List Int := (c.acq.sums.getD (c.acq.route.getD k 0) []).getD lane []

/-- A node value as measured (R127, R129). -/
def rawValue (c : Core) (s : LaneSrc) (lane d k : Nat) : Int :=
  nodeValue (nodeSum (c.lineSums k lane) d) c.acq.hop.toNat s.high (c.node.gain.getD k 0)

/-- A node of a live sense line: measured, or formed across a dead drive line of this tile (R390). -/
def columnReading (c : Core) (s : LaneSrc) (lane d k : Nat) : Reading :=
  if s.port.isNone && c.deadDrive d then
    if (0 < d && c.deadDrive (d - 1)) || (decide (d + 1 < s.nDrv) && c.deadDrive (d + 1)) then .blind
    else between (if 0 < d then some (c.rawValue s lane (d - 1) k) else none)
      (if d + 1 < s.nDrv then some (c.rawValue s lane (d + 1) k) else none)
  else .value (c.rawValue s lane d k)

/-- What the frame gives for a node (R128, R390, R391). -/
def reading (c : Core) (lane d k : Nat) : Reading :=
  match c.laneSrc k lane with
  | none => .absent
  | some s =>
    if s.nDrv ≤ d then .absent
    else if c.deadSense k then
      if (0 < k && c.deadSense (k - 1)) || c.deadSense (k + 1) then .blind
      else
        let side := fun (j : Nat) => if c.laneSrc j lane == some s then (c.columnReading s lane d j).value? else none
        between (if 0 < k then side (k - 1) else none) (side (k + 1))
    else c.columnReading s lane d k

/-- A node of a suspect line, which reads delta 0 (R389). -/
def muted (c : Core) (i : Nat) : Bool :=
  c.rep.suspects.contains (nodeLine i) || (nodeLane i == c.colour && c.rep.suspects.contains (24 + nodeDrive i))

/-- One node in COMPUTE, up to its delta (R131 to R135, R148). The exclusion of a seam node whose neighbour gives no frame stands. -/
def nodeStep (c : Core) (n : NodeSt) (i : Nat) : NodeSt :=
  let ok := (c.laneSrc (nodeLine i) (nodeLane i)).any (fun s => s.ok)
  let n := match c.reading (nodeLane i) (nodeDrive i) (nodeLine i) with
    | .absent => n.unmeasured (nodeLane i == c.colour)
    | .blind => { n.unmeasured ok with delta := 0 }
    | .value x =>
      let n := { n with x := x }
      match n.excl with
      | some e => { (if e ≤ 1 && ok then n.landed x else n) with inc := false, ranging := true }
      | none => if ok then (n.measured c.prof.medW c.prof.diirK x).formDelta c.node.valid else { n with inc := false, ranging := false }
  if c.muted i then { n with delta := 0 } else n

/-- A line's L after a single-code change (R145). DESIGN CHOICE (log 33): a measured step beyond u16 gives 65 535. -/
def learnL (c : Core) (k : Nat) (step : Int) : Core :=
  let up := fun (l : Nat) => if l == 0 then min 65535 step.natAbs else min 65535 (rhu (3 * l + step.natAbs) 2).toNat
  c.modNode (fun n => if n.coarse.getD k false then { n with lsbC := modifyAt n.lsbC k up } else { n with lsbF := modifyAt n.lsbF k up })

/-- The nodes that a test picks take the frame, and what their steps teach is kept. -/
def updateNodes (c : Core) (pick : Nat → Bool) : Core :=
  let old := c.node.nodes
  let new := old.zipIdx.map (fun x => if pick x.2 then c.nodeStep x.1 x.2 else x.1)
  let steps := (old.zip new).zipIdx.filterMap (fun x =>
    if x.1.1.learn && x.1.1.excl.isSome && x.1.2.excl.isNone then some (nodeLine x.2, x.1.1.stepOf x.1.2.x) else none)
  steps.foldl (fun c s => c.learnL s.1 s.2) (c.modNode (fun n => { n with nodes := new }))

/-- The frame carries SETTLING (R141). -/
def willSettle (c : Core) : Bool := c.ownOk && (c.node.seedDue || decide (0 < c.node.settle))

/-- The SETTLING count of a frame (R141). -/
def settleStep (c : Core) : Core :=
  let s := if c.node.seedDue then c.prof.medW - 1 else c.node.settle
  c.modNode (fun n => if c.ownOk then { n with settling := decide (0 < s), settle := s - 1, seedDue := false } else { n with settling := false })

/-- The temperature correction of the first included frame after an entry to Run (R153). -/
def tempStep (c : Core) : Core :=
  if !(c.node.tempDue && c.ownOk) then c
  else
    let c' := c.modNode (fun n => { n with tempDue := false })
    match c.sar.tdExit, c.sar.tdNow with
    | some a, some b =>
      let fix := fun (x : NodeSt) (i : Nat) =>
        if x.valid && c.node.valid && nodeLane i == c.colour then { x with b := sat (x.b + rhu (c.prof.tco (nodeLine i) * (b - a)) 4) 20 } else x
      c'.modNode (fun n => { n with nodes := n.nodes.zipIdx.map (fun x => fix x.1 x.2) })
    | _, _ => c'

/-- The self lines in COMPUTE (R151, R152): a frame whose counts were the self-test's is not included (R388). DEDUCED (log 26): a
sagged frame drops the mutual data only (R87). -/
def selfStep (c : Core) : Core :=
  let counts := c.acq.selfRan && !c.forcedTest && !c.node.isPartial
  c.modNode (fun n => { n with selfs := n.selfs.zipIdx.map (fun x =>
    if counts && c.selfUsed x.2 then x.1.counted n.valid c.prof.scNlog c.prof.selfShift (c.acq.sc.getD x.2 none)
    else { x.1 with inc := false }) })

/-- The node engine's first part of COMPUTE (R132). -/
def nodeFrame (c : Core) : Core :=
  ((c.settleStep.tempStep.updateNodes (fun _ => true)).selfStep).modNode (fun n => { n with ownInc := c.ownOk })

/-- A node's baseline is frozen in an included frame (R139, R389). -/
def isFrozen (c : Core) (i : Nat) : Bool := c.node.settling || c.node.frozen.contains i || c.muted i

/-- A self line is frozen with any node of its line (R152; DEDUCED, log 26). -/
def selfFrozen (c : Core) (l : Nat) : Bool :=
  c.node.settling || c.rep.suspects.contains l ||
  c.node.frozen.any (fun i => if l < 24 then nodeLine i == l else nodeLane i == c.colour && nodeDrive i == l - 24)

/-- The frame captures the tile's baselines (R136): they are invalid, it carries no SETTLING, and it is included. DEDUCED (log 26): it is
included where this tile's part is whole and no own node in use is in the exclusion of a range change. -/
def captures (c : Core) : Bool :=
  !c.node.valid && c.node.ownInc && !c.node.settling &&
  c.node.nodes.zipIdx.all (fun x => !(x.1.ranging && nodeLane x.2 == c.colour &&
    decide (nodeDrive x.2 < c.prof.nDrv) && decide (nodeLine x.2 < c.prof.nSns)))

/-- The last act of COMPUTE on a node (R136 to R140); `take` tells that the frame captures the tile's baselines. -/
def nodeEnd (c : Core) (take : Bool) (n : NodeSt) (i : Nat) : NodeSt :=
  if !n.inc then n
  else
    let n := if n.recap then n.recapture else n
    if c.node.settling then n
    else if !c.node.valid then (if take then n.capture else n)
    else if !n.valid then n.capture
    else
      let n := if c.hg.fc.toNat % 2 ^ (c.prof.blK - 8) == 0 && !c.isFrozen i then n.update else n
      n.recal c.prof.negThresh c.prof.negFrames

/-- The last act of COMPUTE on a self line (R152). -/
def selfEnd (c : Core) (take : Bool) (s : SelfSt) (l : Nat) : SelfSt :=
  if !s.inc then s
  else
    let s := if s.recap then s.recapture else s
    if c.node.settling then s
    else if !c.node.valid then (if take then s.capture else s)
    else if !s.valid then s.capture
    else
      let s := if c.hg.fc.toNat % 2 ^ (c.prof.sblK - 8) == 0 && !c.selfFrozen l then s.update else s
      s.recal c.prof.negThresh c.prof.negFrames

/-- The last acts of COMPUTE (R132, R136 to R140): the tile's baselines are valid from the next frame where they were
captured in this one. DEDUCED (log 26): a node that was not included then is captured in its own next included frame. -/
def baselineStep (c : Core) : Core :=
  let take := c.captures
  c.modNode (fun n => { n with nodes := n.nodes.zipIdx.map (fun x => c.nodeEnd take x.1 x.2)
                               selfs := n.selfs.zipIdx.map (fun x => c.selfEnd take x.1 x.2)
                               valid := n.valid || take })

/-! ### Suspect lines -/

/-- Own nodes of a line: sense lines 0 to 23, drive lines 24 to 55. -/
def lineNodes (c : Core) (l : Nat) : List NodeSt :=
  if l < 24 then (List.range c.prof.nDrv).map (fun d => c.nodeOf c.colour d l)
  else (List.range c.prof.nSns).map (fun k => c.nodeOf c.colour (l - 24) k)

/-- Own nodes of a line that are measured: those not on a dead line across it. -/
def liveNodes (c : Core) (l : Nat) : List NodeSt :=
  if l < 24 then ((List.range c.prof.nDrv).filter (fun d => !c.deadDrive d)).map (fun d => c.nodeOf c.colour d l)
  else ((List.range c.prof.nSns).filter (fun k => !c.deadSense k)).map (fun k => c.nodeOf c.colour (l - 24) k)

/-- Own nodes of a line with a delta of T_ON or more either way. -/
def strongNodes (c : Core) (l : Nat) : Nat := ((c.lineNodes l).filter (fun n => decide (c.prof.tOn ≤ n.delta.natAbs))).length

/-- The line is interpolated. -/
def deadLine (c : Core) (l : Nat) : Bool := if l < 24 then c.deadSense l else c.deadDrive (l - 24)

/-- The lines beside a line in the grid. -/
def besideLine (c : Core) (l : Nat) : List Nat :=
  (if l == 0 || l == 24 then [] else [l - 1]) ++ (if c.lineUsed (l + 1) && l != 23 then [l + 1] else [])

/-- A full-length stripe on the line alone (R389). -/
def stripe (c : Core) (l : Nat) : Bool :=
  decide (3 * (c.lineNodes l).length ≤ 4 * c.strongNodes l) &&
  (c.besideLine l).all (fun m => decide (4 * c.strongNodes m < (c.lineNodes m).length))

/-- The watch for suspect lines (R389): a frame counts for a line whose measured nodes it includes; a fourth in a row makes the
line suspect, and a self-test due at the next boundary without contact. -/
def suspectStep (c : Core) : Core :=
  if !(c.node.ownInc && c.node.valid) then c
  else
    let count := fun (l : Nat) =>
      let run := c.rep.suspRun.getD l 0
      if !c.lineUsed l || c.deadLine l || c.rep.suspects.contains l then 0
      else if !(c.liveNodes l).all (fun n => n.inc) then run
      else if c.stripe l then run + 1 else 0
    let runs := (List.range 56).map count
    let new := (List.range 56).filter (fun l => decide (4 ≤ runs.getD l 0))
    c.modRep (fun r => { r with suspRun := (List.range 56).map (fun l => if new.contains l then 0 else runs.getD l 0)
                                suspects := r.suspects ++ new
                                testDue := r.testDue || !new.isEmpty })

end Core

end Sys2Proof.Machine
end

