-- ==== Sys2Proof/Machine/MaintOps.lean ====
section
/-!
DEFINITION. MAINT frames in COMPUTE: the compensation seek, the signatures of a SELFTEST frame, the fingerprint, and the end of a
self-test run with its repairs (R142, R381 to R389; DEDUCED, log 27: the readings named there).
-/
namespace Sys2Proof.Machine

/-- What a seek leaves of a range change that waits on a line: changes of codes are dropped, and others keep their GAIN with the RANGE that
the seek has found. -/
def RangePend.afterSeek (coarse : Bool) : RangePend → Option RangePend
  | .codes _ => none
  | .sense q => some (.sense { q with coarse := coarse })
  | .line q => some (.sense { gain := q.gain, coarse := coarse, forced := false })

namespace Core

/-! ### The compensation seek (R142) -/

/-- The channel that carries a sense line clipped in this frame (R97). -/
def lineClipped (c : Core) (k : Nat) : Bool := c.acq.clip.getD (c.acq.route.getD k 26) false

/-- An own node's value in a MAINT frame, at a drive swing and GAIN (R129, Table REPAIR-4). -/
def ownValue (c : Core) (d k : Nat) (high : Bool) (gain : Nat) : Int :=
  nodeValue (nodeSum (c.lineSums k c.colour) d) c.acq.hop.toNat high gain

/-- The bit that a frame tries is kept on a node: its value is no higher than B_SET, or, where the channel clipped, the own lane's
S[0] is negative. -/
def keepsBit (c : Core) (d k : Nat) : Bool :=
  if c.lineClipped k then decide ((c.lineSums k c.colour).getD 0 0 < 0) else decide (c.ownValue d k false 3 ≤ c.prof.bSet)

/-- The codes of a line after one of the twelve search frames. -/
def searchLine (c : Core) (s : SeekSt) (n k : Nat) : List Nat :=
  let old := s.codes.getD k []
  match seekBit n with
  | some b =>
    if n < 6 || s.coarse.getD k false then
      old.zipIdx.map (fun v => if c.sought v.2 k && c.keepsBit v.2 k then v.1 ||| 2 ^ b else v.1)
    else old
  | none => old

/-- A search frame ends: after the sixth, a line with a node at 63 starts again in COARSE, and with no such line the search is
over. -/
def searchFrame (c : Core) (s : SeekSt) (n : Nat) : SeekSt :=
  let codes := (List.range 24).map (c.searchLine s n)
  if n == 5 then
    let full := (List.range 24).map (fun k => decide (k < c.prof.nSns) && (codes.getD k []).contains 63)
    { s with coarse := full, codes := codes.zipIdx.map (fun l => if full.getD l.2 false then l.1.map (fun _ => 0) else l.1),
             frame := some (if full.contains true then 6 else 12) }
  else { s with codes := codes, frame := some (n + 1) }

/-- The values of the frame at code c, and the lines that clip in it. -/
def centreFrame (c : Core) (s : SeekSt) : SeekSt :=
  { s with xAtC := (List.range 24).map (fun k => (List.range 32).map (fun d => c.ownValue d k c.frameHigh (c.node.gain.getD k 0)))
           clipped := (List.range 24).map c.lineClipped, frame := some 13 }

/-- The outcome of step 4 on a line: its codes and its LSB_CNT, where it did not clip. DESIGN CHOICE (log 33): a mean of the measured steps
that is negative or beyond u16 gives LSB_CNT 0 or 65 535. -/
def settleLine (c : Core) (s : SeekSt) (k : Nat) : Option (List Nat × Nat) :=
  let old := s.codes.getD k []
  let ds := (List.range 32).filter (fun d => c.sought d k)
  if s.clipped.getD k false || c.lineClipped k || ds.isEmpty then none
  else
    let at0 := fun (d : Nat) => (s.xAtC.getD k []).getD d 0
    let at1 := fun (d : Nat) => c.ownValue d k c.frameHigh (c.node.gain.getD k 0)
    let near := fun (x : Int) => (x - c.prof.bSet).natAbs
    let next := fun (v : Nat) => if v == 63 then 62 else v + 1
    let codes := old.zipIdx.map (fun v => if c.sought v.2 k && decide (near (at1 v.2) < near (at0 v.2)) then next v.1 else v.1)
    let step := fun (d : Nat) => if old.getD d 0 == 63 then at0 d - at1 d else at1 d - at0 d
    some (codes, (max 0 (min 65535 (divr ((ds.map step).sum) ds.length))).toNat)

/-- The seek ends (R136, R142): codes, RANGE and LSB_CNT of the lines in use, a range change on each of them, and invalid
baselines. DESIGN CHOICE (log 33): a change of codes that waits on one of them is dropped, and one of GAIN and RANGE keeps its GAIN and
takes the RANGE found. -/
def seekEnd (c : Core) (s : SeekSt) : Core :=
  let used := (List.range 24).filter (fun k => decide (k < c.prof.nSns))
  let clip := fun (k : Nat) => s.clipped.getD k false || c.lineClipped k
  let new := (List.range 24).map (c.settleLine s)
  let lsb := fun (coarse : Bool) (old : List Nat) => old.zipIdx.map (fun v =>
    if used.contains v.2 && s.coarse.getD v.2 false == coarse then (((new.getD v.2 none).map (fun x => x.2)).getD v.1) else v.1)
  let codes := c.node.codes.zipIdx.map (fun l =>
    if used.contains l.2 then (((new.getD l.2 none).map (fun x => x.1)).getD (s.codes.getD l.2 [])) else l.1)
  let coarse := c.node.coarse.zipIdx.map (fun v => if used.contains v.2 then s.coarse.getD v.2 false else v.1)
  let shift := fun (x : NodeSt) => { x with excl := some 4, zero := false, learn := false }
  let c := c.modNode (fun n =>
    { n with seek := none, codes := codes, coarse := coarse, lsbF := lsb false n.lsbF, lsbC := lsb true n.lsbC
             pend := n.pend.zipIdx.map (fun v => if used.contains v.2 then v.1.bind (RangePend.afterSeek (s.coarse.getD v.2 false)) else v.1)
             nodes := mapNodes n.nodes (fun i => used.contains (nodeLine i)) shift })
  let line := fun (k : Nat) =>
    let coarse := c.node.coarse.getD k false
    le 1 (bit coarse) ++ le 2 (if coarse then c.node.lsbC.getD k 0 else c.node.lsbF.getD k 0) ++ le 1 (bit (used.contains k && clip k))
  c.invalidate.ok s.ctx 0x43#8 ((List.range 24).flatMap line)

/-- COMPUTE of a seek frame (R142). -/
def seekCompute (c : Core) : Core :=
  match c.node.seek with
  | none => c
  | some s =>
    match s.frame with
    | none => c
    | some n =>
      let keep := fun (s : SeekSt) => c.modNode (fun x => { x with seek := some s })
      if n < 12 then keep (c.searchFrame s n)
      else if n == 12 then keep (c.centreFrame s)
      else c.seekEnd s

/-! ### Signatures (Table REPAIR-5) -/

/-- The fingerprint's value of an own node. -/
def fpX (f : Fingerprint) (d k : Nat) : Int := f.x.getD (24 * d + k) 0

/-- The frame's SCN of a line at the self-test's settings; a line that stalls keeps its SCN (R151, Table REPAIR-4). -/
def testScn (c : Core) (l : Nat) : Nat :=
  match c.acq.sc.getD l none with
  | some n => n
  | none => (c.node.selfs.getD l SelfSt.reset).scn

/-- An own node's value in a SELFTEST frame. -/
def testX (c : Core) (d k : Nat) : Int := c.ownValue d k false 3

/-- The departure of the two sums of four from 1 024 codes in each (R381), once both have been made. -/
def dacmonOff (k : ChannelCheck) : Option Nat :=
  match k.high, k.low with
  | some h, some l => some ((h : Int) - l - 4096).natAbs
  | _, _ => none

/-- The channel check fails (signature 1, R381): its gain, or its DACMON difference by more than 51 codes. DEDUCED (log 27): a channel
whose conversions are not complete in COMPUTE has not failed DACMON. -/
def channelFails (k : ChannelCheck) : Bool :=
  decide (k.gain.toNat < 3072) || decide (5120 < k.gain.toNat) || (dacmonOff k).any (fun d => decide (204 < d))

/-- DACMON passes on a channel (R381). -/
def dacmonOk (k : ChannelCheck) : Bool := (dacmonOff k).any (fun d => decide (d ≤ 204))

/-- A leg fails (R382): no crossing within 64 ticks, or more than three times its fingerprint count. -/
def legFails (fp : Option Nat) (v : Option Nat) : Bool :=
  match v with
  | none => true
  | some n => decide (64 < n) || fp.any (fun f => decide (3 * f < n))

/-- The own nodes of a line with their fingerprint values. -/
def lineValues (c : Core) (f : Fingerprint) (l : Nat) : List (Int × Int) :=
  if l < 24 then (List.range c.prof.nDrv).map (fun d => (c.testX d l, fpX f d l))
  else (List.range c.prof.nSns).map (fun k => (c.testX (l - 24) k, fpX f (l - 24) k))

/-- An adjacent pair of sense lines is shorted (signature 4). -/
def pairShort (c : Core) (f : Fingerprint) (k : Nat) : Bool :=
  decide (k + 1 < c.prof.nSns) &&
  (List.range c.prof.nDrv).all (fun d => decide (64 * (c.testX d k - c.testX d (k + 1)).natAbs ≤ (fpX f d k).natAbs)) &&
  [k, k + 1].all (fun j => decide (7 * f.scn.getD j 0 ≤ 4 * c.testScn j))

/-- The self-capacitance signatures of a line: 5, then 6. -/
def selfSignature (c : Core) (f : Option Fingerprint) (l : Nat) : Option Signature :=
  if !c.acq.selfRan || !c.selfUsed l then none
  else if (c.acq.sc.getD l none).isNone then some { code := 5, index := l }
  else if f.any (fun f => decide (4 * c.testScn l < f.scn.getD l 0)) then some { code := 6, index := l }
  else none

/-- Open, or drift: the last tests of a line. -/
def openLine (c : Core) (f : Option Fingerprint) (l : Nat) : Option Signature :=
  match f with
  | none => none
  | some f =>
    if (c.lineValues f l).all (fun v => decide (8 * v.1.natAbs < v.2.natAbs)) then some { code := if l < 24 then 2 else 3, index := l } else none

/-- Drift on a line (signature 9). -/
def driftLine (c : Core) (f : Option Fingerprint) (l : Nat) : Option Signature :=
  match f with
  | none => none
  | some f => if (c.lineValues f l).any (fun v => decide (v.2.natAbs < 4 * (v.1 - v.2).natAbs)) then some { code := 9, index := l } else none

/-- The channel signature of the line it carries (signature 1). -/
def channelSignature (c : Core) (k : Nat) : Option Signature :=
  let ch := c.acq.route.getD k 26
  if (c.acq.checks[ch]?).any channelFails then some { code := 1, index := ch } else none

/-- The short of a sense line with a neighbour, named by the pair's lower line. -/
def shortSignature (c : Core) (f : Option Fingerprint) (k : Nat) : Option Signature :=
  match f with
  | none => none
  | some f =>
    if !c.acq.selfRan then none
    else if c.pairShort f k then some { code := 4, index := k }
    else if 0 < k && c.pairShort f (k - 1) then some { code := 4, index := k - 1 } else none

/-- The leg signatures of a drive line: 7, with its pin and leg, or 8. -/
def legSignature (c : Core) (f : Option Fingerprint) (d : Nat) : Option Signature :=
  match c.acq.legChecks[d]? with
  | none => none
  | some g =>
    let fp := fun (leg : Nat) => f.bind (fun f => f.legs.getD (2 * d + leg) none)
    let a := legFails (fp 0) g.leg0
    let b := legFails (fp 1) g.leg1
    if a && b then some { code := 8, index := 24 + d }
    else if a then some { code := 7, index := 2 * d }
    else if b then some { code := 7, index := 2 * d + 1 }
    else none

/-- The first signature of a sense line or of its channel, in table order (R384); the raw scan has run unless this is the forced
slot (R388). -/
def senseSignature (c : Core) (raw : Bool) (k : Nat) : Option Signature :=
  let f := c.nvm.fingerprint
  (c.channelSignature k).or ((c.selfSignature f k).or (if raw then (c.shortSignature f k).or ((c.openLine f k).or (c.driftLine f k)) else none))

/-- The first signature of a drive line, in table order (R384). -/
def driveSignature (c : Core) (raw : Bool) (d : Nat) : Option Signature :=
  let f := c.nvm.fingerprint
  (c.selfSignature f (24 + d)).or (if raw then (c.openLine f (24 + d)).or ((c.legSignature f d).or (c.driftLine f (24 + d))) else none)

/-- Every signature of the frame. -/
def signatures (c : Core) (raw : Bool) : List Signature :=
  ((List.range c.prof.nSns).filterMap (c.senseSignature raw) ++ (List.range c.prof.nDrv).filterMap (c.driveSignature raw)).eraseDups

/-- NO_FINGERPRINT, once per reset (R384). -/
def noFingerprint (c : Core) : Core :=
  if c.nvm.fingerprint.isSome || c.rep.noFpRaised then c else (c.modRep (fun r => { r with noFpRaised := true })).repairEvent 0x50 []

/-- A frame adds to a run what it found: to the first frame's signatures, or as the second frame's (R385, R388). -/
def SelfTestRun.add (r : SelfTestRun) (sigs : List Signature) (whole : Bool) : SelfTestRun :=
  let found := sigs.filter (fun s => s.code != 9)
  let drift := (sigs.filter (fun s => s.code == 9)).length
  let r := if whole then { r with drift := drift } else r
  if r.frames == 0 then { r with first := r.first ++ found.filter (fun s => !r.first.contains s), frames := if whole then 1 else 0 }
  else { r with second := found, frames := r.frames + 1 }

/-- The forced slot's tests in COMPUTE of a normal frame (R388). -/
def forcedCompute (c : Core) : Core :=
  if c.forcedTest then
    let sigs := c.signatures false
    c.noFingerprint.modRep (fun r => { r with selftest := r.selftest.map (fun t => SelfTestRun.add t sigs false) })
  else c

/-! ### The fingerprint (R383) -/

/-- Lists summed place by place. -/
def addLists (a b : List Int) : List Int := (a.zip b).map (fun x => x.1 + x.2)

/-- The mean of eight sums. -/
def eighth (x : Int) : Int := rhu x 3

/-- One of the eight frames of a fingerprint. The gains and leg counts are the last frame's; DEDUCED (log 27). -/
def fingerFrame (c : Core) (r : FingerRun) : Core :=
  let x := addLists r.x ((List.range 32).flatMap (fun d => (List.range 24).map (fun k => c.testX d k)))
  let scn := (r.scn.zip ((List.range 56).map c.testScn)).map (fun v => v.1 + v.2)
  let r := { r with frames := r.frames + 1, x := x, scn := scn, td := r.td + c.sar.tdie }
  if r.frames < 8 then c.modRep (fun s => { s with finger := some r })
  else
    let c := c.modRep (fun s => { s with finger := none })
    let gen := (c.pair .fingerprint).gen + 1#32
    let f : Fingerprint :=
      { gen := gen, x := r.x.map eighth, scn := r.scn.map (fun (v : Nat) => (rhu v 3).toNat), gain := c.acq.checks.map (fun k => k.gain.toNat)
        legs := c.acq.legChecks.flatMap (fun g => [g.leg0, g.leg1]), td := eighth r.td }
    c.nvmWrite .fingerprint r.ctx 0x83#8 (bvLe 4 gen) (fun c => { c with nvm := { c.nvm with fingerprint := some f } })

/-- COMPUTE of a SELFTEST frame (R383, R384). -/
def testCompute (c : Core) : Core :=
  match c.rep.finger with
  | some r => c.fingerFrame r
  | none =>
    let sigs := c.signatures true
    c.noFingerprint.modRep (fun r => { r with selftest := r.selftest.map (fun t => SelfTestRun.add t sigs true) })

/-! ### The end of a self-test run -/

/-- Repair kind and index that a signature asks for (Table REPAIR-5, R373), with the leg. -/
def repairOf (s : Signature) : Nat × Nat × Nat :=
  match s.code with
  | 1 => (2, s.index, 0)
  | 4 => (6, s.index, 0)
  | 7 => (3, s.index / 2, s.index % 2)
  | _ => if s.index < 24 then (4, s.index, 0) else (5, s.index - 24, 0)

/-- The sense line that a channel carries. -/
def lineFor (c : Core) (ch : Nat) : Option Nat := (List.range 24).find? (fun k => c.acq.route.getD k 26 == ch)

/-- The repair a signature asks for is in force; a dead channel may have cost its line (R90, R393). -/
def inForce (c : Core) (s : Signature) : Bool :=
  let (kind, index, leg) := repairOf s
  (kind == 2 && (List.range 24).any (fun k => c.acq.route.getD k 0 == index && c.deadSense k)) ||
  c.repairs.any (fun r => r.kind.toNat == kind && r.index.toNat == index && (kind != 3 || r.detail.toNat == leg))

/-- The lines and leg that a repair stands for show a signature (R386): a line may have been interpolated for its dead channel (R393). -/
def showsRepair (c : Core) (sigs : List Signature) (r : RepairEntry) : Bool :=
  sigs.any (fun s =>
    let (kind, index, leg) := repairOf s
    (kind == r.kind.toNat && index == r.index.toNat && (kind != 3 || leg == r.detail.toNat)) ||
    (s.code == 1 && r.kind.toNat == 4 && c.lineFor s.index == some r.index.toNat) ||
    (s.code == 8 && r.kind.toNat == 3 && s.index == 24 + r.index.toNat))

/-- A confirmed signature is repaired and its event raised (R374, R385, R393); one whose repair is in force already renews its
entry. -/
def confirm (c : Core) (s : Signature) : Core :=
  let (kind, index, leg) := repairOf s
  if c.inForce s then
    match (if s.code == 1 then (c.lineFor index).filter c.deadSense else none) with
    | some k => c.addFault 4 k s.code 2 (c.derating 4 k)
    | none => c.addFault kind index s.code 2 (c.derating kind index)
  else
    let (c, k, i, line) := c.coppice kind index leg s.code 2
    match k with
    | 2 => c.repairEvent 0x42 (le 1 i ++ le 1 (c.acq.route.getD (line.getD 0) 0) ++ le 1 (line.getD 0))
    | 3 => c.repairEvent 0x43 (le 1 i ++ le 1 leg)
    | _ => c.repairEvent 0x44 (le 1 k ++ le 1 i ++ le 1 s.code)

/-- A signature found and not confirmed is recorded as TRANSIENT (R385); not where its repair is in force. -/
def transient (c : Core) (s : Signature) : Core :=
  let (kind, index, _) := repairOf s
  if c.inForce s then c
  else (c.addFault kind index s.code 0 0).repairEvent 0x46 (le 1 kind ++ le 1 index ++ le 1 s.code)

/-- Repairs of lines and legs that a daily self-test covers (R386). -/
def watchedRepairs (c : Core) : List RepairEntry := c.repairs.filter (fun r => decide (3 ≤ r.kind.toNat) && decide (r.kind.toNat ≤ 6))

/-- A daily self-test counts toward LINE_RECOVERED (R386): three in a row without the signature. -/
def countClean (c : Core) (sigs : List Signature) : Core :=
  let old := fun (r : RepairEntry) => ((c.rep.cleanRuns.find? (fun x => x.1 == r)).map (fun x => x.2)).getD 0
  let new := c.watchedRepairs.map (fun r => (r, if c.showsRepair sigs r then 0 else min 4 (old r + 1)))
  let c := c.modRep (fun r => { r with cleanRuns := new })
  (new.filter (fun x => x.2 == 3)).foldl (fun c x =>
    let mark := fun (e : FaultEntry) => if e.kind == x.1.kind && e.index == x.1.index && e.state == 2#8 then { e with state := 3#8 } else e
    (c.setFaults (c.nvm.faults.map mark)).repairEvent 0x45 (bvLe 1 x.1.kind ++ bvLe 1 x.1.index)) c

/-- Suspicion ends (R389): every node of the line takes B = F. -/
def endSuspicion (c : Core) : Core :=
  let ls := c.rep.suspects
  let own := c.colour
  let hit := fun (i : Nat) => ls.contains (nodeLine i) || (nodeLane i == own && ls.contains (24 + nodeDrive i))
  (c.modNode (fun n => { n with nodes := mapNodes n.nodes hit (fun x => { x with b := x.f, rho := 0, delta := 0 }) })).modRep
    (fun r => { r with suspects := [] })

/-- The fault entries of a run: those of its signatures (R388), a dead channel's also where it cost its line (R393). -/
def runEntries (c : Core) (sigs : List Signature) : List FaultEntry :=
  c.nvm.faults.filter (fun e => sigs.any (fun s =>
    let (kind, index, _) := repairOf s
    e.sign.toNat == s.code && ((e.kind.toNat == kind && e.index.toNat == index) ||
      (s.code == 1 && e.kind.toNat == 4 && c.lineFor s.index == some e.index.toNat))))

/-- The CALDAC gains and the DACMON mask of a run's last channel check (R388). -/
def checkBytes (c : Core) : List Byte :=
  (List.range 26).flatMap (fun i => le 2 (((c.acq.checks[i]?).map (fun k => k.gain.toNat)).getD 0)) ++
  le 4 (((List.range 26).map (fun i => bit ((c.acq.checks[i]?).any dacmonOk) * 2 ^ i)).sum)

/-- A run is over: a first frame without a signature, or its second frame (R385, R387). -/
def runOver (c : Core) : Option SelfTestRun :=
  c.rep.selftest.filter (fun r => decide (2 ≤ r.frames) || (r.frames == 1 && r.first.isEmpty))

/-- The end of a self-test run at the boundary after its last frame (R374, R385 to R389). -/
def concludeTest (c : Core) : Core :=
  match c.runOver with
  | none => c
  | some r =>
    let sure := r.first.filter (fun s => r.second.contains s)
    let all := r.first ++ r.second.filter (fun s => !r.first.contains s)
    let loose := all.filter (fun s => !sure.contains s)
    let daily := r.ctx.isSome || c.rep.bgDue.getLsbD 1
    let c := loose.foldl transient (sure.foldl confirm c)
    let c := if daily then c.countClean all else c
    let c := c.repairEvent 0x47 (le 1 (min 255 sure.length) ++ le 1 (min 255 all.length) ++ le 1 (min 255 r.drift) ++ le 1 (bit r.forced))
    let c := c.modTele (fun t => { t with drift := r.drift })
    let c := c.endSuspicion
    let (c, march) := if daily then c.sramMarch else (c, [])
    let c := c.modRep (fun s =>
      { s with selftest := none, clearTest := false, testDue := s.testCtx.isSome || (!daily && s.bgDue.getLsbD 1)
               bgDue := if daily then s.bgDue &&& 0b11101#5 else s.bgDue, bgdefer := if daily then s.bgdefer &&& 0b11101#5 else s.bgdefer
               doneAt := if daily then s.doneAt.set 0 s.rtcLong else s.doneAt })
    match r.ctx with
    | none => c
    | some x =>
      let entries := c.runEntries all ++ march
      c.ok x 0x53#8 (le 1 (bit (!entries.isEmpty)) ++ entries.flatMap FaultEntry.bytes ++ c.checkBytes)

end Core

end Sys2Proof.Machine
end

