-- ==== Sys2Proof/Machine/PeakOps.lean ====
section
/-!
DEFINITION. Where nodes lie, the own grid and the band maps, and their peaks with position, size, signal sum and flags (R27,
R155 to R160, R167 to R169, R175, R289 to R292).
-/
namespace Sys2Proof.Machine

/-- Origin of a lattice position (R27). -/
def Profile.origin (p : Profile) (u v : Int) : Pos := { x := u * p.pitchX + v * (p.pitchX / 2), y := v * p.pitchY }

/-- X of a sense line of the tile with an origin (R155). -/
def Profile.nodeX (p : Profile) (o : Pos) (k : Nat) : Int := o.x + p.gridX0 + rhu ((256 * k + 128) * p.epitchX) 8

/-- Y of a drive line of the tile with an origin (R155, R156). -/
def Profile.nodeY (p : Profile) (o : Pos) (d : Nat) : Int := o.y + p.gridY0 + rhu ((256 * d + 128) * p.epitchY) 8

/-- The half-open area of the tile with an origin (R289). -/
def Profile.inArea (p : Profile) (o q : Pos) : Bool :=
  decide (o.x ≤ q.x) && decide (q.x < o.x + p.pitchX) && decide (o.y ≤ q.y) && decide (q.y < o.y + p.pitchY)

/-- An edge segment that two tiles share. -/
structure Segment where
  x0 : Int
  y0 : Int
  x1 : Int
  y1 : Int
  deriving DecidableEq, Repr

/-- The segment of a port's seam (R289, Table ARCH-4). -/
def Profile.segment (p : Profile) (o : Pos) (port : Port) : Segment :=
  let h := p.pitchX / 2
  let x1 := o.x + p.pitchX
  let y1 := o.y + p.pitchY
  match port.val with
  | 0 => { x0 := x1, y0 := o.y, x1 := x1, y1 := y1 }
  | 1 => { x0 := o.x + h, y0 := y1, x1 := x1, y1 := y1 }
  | 2 => { x0 := o.x, y0 := y1, x1 := o.x + h, y1 := y1 }
  | 3 => { x0 := o.x, y0 := o.y, x1 := o.x, y1 := y1 }
  | 4 => { x0 := o.x, y0 := o.y, x1 := o.x + h, y1 := o.y }
  | _ => { x0 := o.x + h, y0 := o.y, x1 := x1, y1 := o.y }

/-- Distance of a value from an interval. -/
def gap (v a b : Int) : Int := max (a - v) (max (v - b) 0)

/-- A position lies within a number of half pitches of a segment, in X and in Y. -/
def Profile.near (p : Profile) (s : Segment) (q : Pos) (halves : Int) : Bool :=
  decide (2 * gap q.x s.x0 s.x1 ≤ halves * p.epitchX) && decide (2 * gap q.y s.y0 s.y1 ≤ halves * p.epitchY)

/-- The band of a seam: 6 pitches (R289). -/
def Profile.inBand (p : Profile) (s : Segment) (q : Pos) : Bool := p.near s q 12

/-- The part of a band whose peaks the band map decides, and whose contacts travel: 4.5 pitches (R292, Table HEDGE-7). -/
def Profile.inReach (p : Profile) (s : Segment) (q : Pos) : Bool := p.near s q 9

/-- One node of a map: its position, delta and flags, whether its value is a seam node's, the self deltas that its water test
uses (none where it has no test), and its place on the own grid. -/
structure MapNode where
  pos    : Pos
  delta  : Int
  flags  : BitVec 6
  isSeam : Bool
  selfs  : Option (List Int)
  cell   : Option (Nat × Nat)
  deriving DecidableEq, Repr

/-- Merge a node into a map: at one position the largest delta and the OR of the flags (R291). The lines of the tile's own node there
serve the water test (R292); only where no tile has an own node is it a seam node's. -/
def mergeNode (l : List MapNode) (n : MapNode) : List MapNode :=
  if l.any (fun m => m.pos == n.pos) then
    l.map (fun m =>
      if m.pos == n.pos then
        { m with delta := max m.delta n.delta, flags := m.flags ||| n.flags, isSeam := m.isSeam && n.isSeam,
                 selfs := m.selfs.or n.selfs, cell := m.cell.or n.cell }
      else m)
  else l ++ [n]

/-- Earlier in order: smaller Y, then smaller X (R157, R291). -/
def before (a b : Pos) : Bool := decide (a.y < b.y) || (a.y == b.y && decide (a.x < b.x))

/-- Two positions lie within a distance in X and in Y. -/
def within (a b : Pos) (dx dy : Int) : Bool := decide ((a.x - b.x).natAbs ≤ dx) && decide ((a.y - b.y).natAbs ≤ dy)

/-- The nodes of the node-set window of a position (R158). -/
def nodeSet (p : Profile) (l : List MapNode) (q : Pos) : List MapNode :=
  l.filter (fun m => within m.pos q (rhu (3 * p.epitchX) 1) (rhu (3 * p.epitchY) 1))

/-- The nodes of the extent of a position (R158). -/
def extentOf (p : Profile) (l : List MapNode) (q : Pos) : List MapNode :=
  l.filter (fun m => within m.pos q (2 * p.epitchX) (2 * p.epitchY))

/-- The node is a peak, before separation (R157). -/
def isPeak (p : Profile) (l : List MapNode) (n : MapNode) : Bool :=
  decide (p.tOff ≤ n.delta) && (nodeSet p l n.pos).all (fun m =>
    m.pos == n.pos || (if before m.pos n.pos then decide (m.delta < n.delta) else decide (m.delta ≤ n.delta)))

/-- A peak with what R158 to R169 derive from it. -/
structure Peak where
  node    : MapNode
  pos     : Pos
  size    : Nat
  sum     : Nat
  flags   : BitVec 6
  nset    : List Pos
  ext     : List Pos
  isWater : Bool
  isPalm  : Bool
  /-- Its position on each band map that holds it, by the seam's port (R292). -/
  views   : List (Port × Pos)
  deriving DecidableEq, Repr

/-- The water test fails (R169): the smaller self delta against the peak's delta; with no self delta the peak passes. -/
def waterFails (p : Profile) (n : MapNode) : Bool :=
  match n.selfs with
  | some (s :: l) => !n.isSeam && decide (l.foldl min s < rhu (n.delta * p.waterR) 8)
  | _ => false

/-- Position, size, signal sum and tests of a peak (R159, R167 to R169). -/
def measurePeak (p : Profile) (l : List MapNode) (n : MapNode) : Peak :=
  let set := nodeSet p l n.pos
  let ext := extentOf p l n.pos
  let w := fun (m : MapNode) => max 0 (m.delta - p.centFloor)
  let total := (set.map w).sum
  let size := (ext.filter (fun m => decide (p.tOff ≤ m.delta))).length
  { node := n, pos := { x := divr ((set.map (fun m => w m * m.pos.x)).sum) total, y := divr ((set.map (fun m => w m * m.pos.y)).sum) total },
    size := min 255 size, sum := (usat (rhu ((ext.map (fun m => max 0 m.delta)).sum) 4) 16).toNat,
    flags := set.foldl (fun f m => f ||| m.flags) 0#6, nset := set.map (fun m => m.pos), ext := ext.map (fun m => m.pos),
    isWater := waterFails p n, isPalm := decide (p.palmSize < size), views := [] }

/-- The position a peak has on the map of a seam (R292). -/
def Peak.posOn (k : Peak) (p : Port) : Pos := ((k.views.find? (fun v => v.1 == p)).map (fun v => v.2)).getD k.pos

/-- The peaks of a map before separation (R157). -/
def peakNodes (p : Profile) (l : List MapNode) : List MapNode := l.filter (isPeak p l)

/-- A peak that another one within SEP_MIN drops: of larger delta, or of equal delta and earlier in order (R157, R291). -/
def beats (p : Profile) (m n : MapNode) : Bool :=
  m.pos != n.pos && within m.pos n.pos (p.sepMin * p.epitchX) (p.sepMin * p.epitchY) &&
  (decide (n.delta < m.delta) || (m.delta == n.delta && before m.pos n.pos))

/-- A node of a neighbour's SEAM_D as a map node; the bit pattern 0x8000 is no node (Table HEDGE-7). -/
def farNode (n : SeamNode) (pos : Pos) (settling isSeam : Bool) (selfs : Option (List Int)) : Option MapNode :=
  if n.delta == 0x8000#16 then none
  else
    let f : BitVec 6 := BitVec.ofNat 6 (1 + 4 * bit settling + 8 * bit n.ranging + 32 * bit n.coppiced)
    some { pos := pos, delta := n.delta.toInt, flags := f, isSeam := isSeam, selfs := selfs, cell := none }

/-- The nodes of `nd` drive lines and some sense lines whose positions lie in a band, by (d, k) (Table HEDGE-7). -/
def bandOf (p : Profile) (s : Segment) (ox oy : Pos) (nd : Nat) (lines : List Nat) : List (Nat × Nat × Pos) :=
  (List.range nd).flatMap (fun d => lines.filterMap (fun k =>
    let q : Pos := { x := p.nodeX ox k, y := p.nodeY oy d }
    if p.inBand s q then some (d, k, q) else none))

/-- The sense lines, then the drive lines that cross a band. -/
def crossing (l : List (Nat × Nat × Pos)) : List (Bool × Nat) :=
  (((List.range 24).filter (fun k => l.any (fun n => n.2.1 == k))).map (fun k => (true, k))) ++
  (((List.range 32).filter (fun d => l.any (fun n => n.1 == d))).map (fun d => (false, d)))

namespace Core

/-- Origin of this tile. -/
def origin (c : Core) : Pos := c.prof.origin c.hg.u.toInt c.hg.v.toInt

/-- Origin of the neighbour on a port (Table ARCH-4). -/
def farOrigin (c : Core) (p : Port) : Pos := c.prof.origin (c.hg.u.toInt + (portOffset p).1) (c.hg.v.toInt + (portOffset p).2)

/-- The seam segment of a port. -/
def seamSegment (c : Core) (p : Port) : Segment := c.prof.segment c.origin p

/-- A self delta for the water test and hover: none for a line that stalls, is dead or is merged (R169, R392). -/
def selfDelta (c : Core) (l : Nat) : Option Int :=
  let s := c.node.selfs.getD l SelfSt.reset
  if s.stall || c.deadLine l || (decide (l < 24) && c.mergedSense l) then none else some s.delta

/-- The water test is made at all (R169). -/
def waterOn (c : Core) : Bool := c.prof.waterR != 0 && c.prof.selfT != 0

/-- Flags of a node of this tile on a sense line (R141, R149, R175, R390, R392). -/
def nodeFlags (c : Core) (n : NodeSt) (d k : Nat) (own : Bool) : BitVec 6 :=
  let cop := c.deadSense k || c.mergedSense k || (own && c.deadDrive d)
  BitVec.ofNat 6 (bit (!own) + 4 * bit c.node.settling + 8 * bit n.ranging + 32 * bit cop)

/-- An own node as a map node. -/
def ownNode (c : Core) (d k : Nat) : MapNode :=
  let n := c.nodeOf c.colour d k
  { pos := { x := c.prof.nodeX c.origin k, y := c.prof.nodeY c.origin d }, delta := n.delta, flags := c.nodeFlags n d k true,
    isSeam := false, selfs := if c.waterOn then some ([c.selfDelta k, c.selfDelta (24 + d)].filterMap id) else none, cell := some (d, k) }

/-- The own grid in the order of R157. -/
def ownGrid (c : Core) : List MapNode :=
  (List.range c.prof.nDrv).flatMap (fun d => (List.range c.prof.nSns).map (fun k => c.ownNode d k))

/-- The sense lines whose lane maps a port. -/
def seamLines (c : Core) (p : Port) : List Nat := (List.range c.prof.nSns).filter (fun k => (c.laneFor p k).isSome)

/-- The own nodes of a band. -/
def ownBand (c : Core) (p : Port) : List (Nat × Nat × Pos) :=
  bandOf c.prof (c.seamSegment p) c.origin c.origin c.prof.nDrv (List.range c.prof.nSns)

/-- The seam nodes of a band (R156). -/
def seamBand (c : Core) (p : Port) (h : SeamH) : List (Nat × Nat × Pos) :=
  bandOf c.prof (c.seamSegment p) c.origin (c.farOrigin p) h.nDrv.toNat (c.seamLines p)

/-- The neighbour's own nodes of a band. -/
def farOwnBand (c : Core) (p : Port) (h : SeamH) : List (Nat × Nat × Pos) :=
  bandOf c.prof (c.seamSegment p) (c.farOrigin p) (c.farOrigin p) h.nDrv.toNat (List.range h.nSns.toNat)

/-- The neighbour's seam nodes of a band. -/
def farSeamBand (c : Core) (p : Port) (h : SeamH) : List (Nat × Nat × Pos) :=
  bandOf c.prof (c.seamSegment p) (c.farOrigin p) c.origin c.prof.nDrv ((List.range 24).filter (fun k => h.seamLines.getLsbD k))

/-- A seam node of this tile. -/
def seamNode (c : Core) (p : Port) (d k : Nat) : NodeSt := c.nodeOf ((c.laneFor p k).getD 3) d k

/-- A seam node as a map node, where it has ever been measured. -/
def seamMapNode (c : Core) (p : Port) (b : Nat × Nat × Pos) : Option MapNode :=
  let n := c.seamNode p b.1 b.2.1
  if n.ref.isNone then none
  else some { pos := b.2.2, delta := n.delta, flags := c.nodeFlags n b.1 b.2.1 false, isSeam := true, selfs := none, cell := none }

/-- The parts of SEAM_D of this frame, in order of part. -/
def partsOf (c : Core) (p : Port) : List SeamD :=
  sortBy (fun (a b : SeamD) => decide (a.part.toNat < b.part.toNat)) ((c.hport p).inD.filter (fun d => d.fc == c.hg.fc))

/-- Every part of SEAM_D has come (R290). -/
def haveD (c : Core) (p : Port) : Bool :=
  let l := c.partsOf p
  l.any (fun d => decide (l.length = max 1 d.parts.toNat))

/-- The neighbour's band as map nodes (R290, R291, R292). -/
def farBand (c : Core) (p : Port) (h : SeamH) : List MapNode :=
  let parts := c.partsOf p
  let nodes := parts.flatMap (fun d => d.nodes)
  let selfs := (parts.getLast?.map (fun d => d.selfs)).getD []
  let own := c.farOwnBand p h
  let seam := c.farSeamBand p h
  let lines := crossing own
  let selfOf := fun (sense : Bool) (l : Nat) =>
    match lines.findIdx? (fun x => x == (sense, l)) with
    | none => none
    | some i => (selfs[i]?).bind (fun s => if s == 0x8000#16 then none else some s.toInt)
  let near := fun (b : Nat × Nat × Pos) =>
    if c.prof.waterR != 0 then some ([selfOf true b.2.1, selfOf false b.1].filterMap id) else none
  ((own.map (fun b => (b, false)) ++ seam.map (fun b => (b, true))).zip nodes).filterMap (fun x =>
    farNode x.2 x.1.1.2.2 h.settling x.1.2 (if x.1.2 then none else near x.1.1))

/-- The band map of a seam (R291). -/
def bandMap (c : Core) (p : Port) (h : SeamH) : List MapNode :=
  ((c.ownBand p).map (fun b => c.ownNode b.1 b.2.1) ++ (c.seamBand p h).filterMap (c.seamMapNode p) ++ c.farBand p h).foldl mergeNode []

/-- A map of the frame: the own grid, or a seam's band map; its nodes, and the positions whose peaks it measures (R157, R292). -/
structure FrameMap where
  port  : Option Port
  nodes : List MapNode
  takes : Pos → Bool

/-- The band map of a mapped seam: it measures the nodes within 4.5 pitches (R292). -/
def seamMap (c : Core) (p : Port) : FrameMap :=
  { port := some p, nodes := ((c.seamOf p).map (c.bandMap p)).getD [], takes := fun q => c.prof.inReach (c.seamSegment p) q }

/-- The maps of a frame: each mapped seam's, then the own grid outside their reach. -/
def frameMaps (c : Core) (mapped : List Port) : List FrameMap :=
  mapped.map c.seamMap ++
  [{ port := none, nodes := c.ownGrid, takes := fun q => !mapped.any (fun p => c.prof.inReach (c.seamSegment p) q) }]

/-- The peaks of a frame in order (R157, R291, R292): every pair of peaks of every map is compared for separation. DEDUCED (log 25): a
node that two band maps measure has the position, size and flags that the lower port's gives it, and SEAM_X tells each neighbour
the position on their own map. -/
def framePeaks (c : Core) (mapped : List Port) : List Peak :=
  let maps := c.frameMaps mapped
  let found := maps.map (fun m => (m, peakNodes c.prof m.nodes))
  let all := found.flatMap (fun x => x.2)
  let good := found.flatMap (fun x => (x.2.filter (fun n => x.1.takes n.pos && !all.any (fun m => beats c.prof m n))).map (fun n =>
    let k := measurePeak c.prof x.1.nodes n
    { k with views := x.1.port.toList.map (fun p => (p, k.pos)) }))
  let join := fun (l : List Peak) (k : Peak) =>
    if l.any (fun m => m.node.pos == k.node.pos) then
      l.map (fun m => if m.node.pos == k.node.pos then { m with views := m.views ++ k.views } else m)
    else l ++ [k]
  sortBy (fun (a b : Peak) => before a.node.pos b.node.pos) (good.foldl join [])

/-- One node of a band for SEAM_D (Table HEDGE-7). -/
def sendNode (n : NodeSt) (known coppiced : Bool) : SeamNode :=
  { delta := if known then BitVec.ofInt 16 n.delta else 0x8000#16, ranging := n.ranging, coppiced := coppiced }

/-- SEAM_D of a frame in parts of at most 400 nodes (R290, Table HEDGE-7). DEDUCED (log 18): the self deltas stand in the last
part, and a tile without a SELF slot has none to send. -/
def composeD (c : Core) (p : Port) (h : SeamH) : List SeamD :=
  let own := c.ownBand p
  let cop := fun (k : Nat) => c.deadSense k || c.mergedSense k
  let nodes := own.map (fun b => sendNode (c.nodeOf c.colour b.1 b.2.1) true (cop b.2.1 || c.deadDrive b.1)) ++
    (c.seamBand p h).map (fun b => let n := c.seamNode p b.1 b.2.1; sendNode n n.ref.isSome (cop b.2.1))
  let selfs := (crossing own).map (fun x => match (if c.prof.selfT == 0 then none else c.selfDelta (if x.1 then x.2 else 24 + x.2)) with
    | some v => BitVec.ofInt 16 v
    | none => 0x8000#16)
  let parts := max 1 ((nodes.length + 399) / 400)
  (List.range parts).map (fun i =>
    { fc := c.hg.fc, part := BitVec.ofNat 4 i, parts := BitVec.ofNat 4 parts, first := BitVec.ofNat 16 (400 * i),
      nodes := (nodes.drop (400 * i)).take 400, selfs := if i + 1 == parts then selfs else [] })

end Core

end Sys2Proof.Machine
end

