-- ==== Sys2Proof/Machine/ZoneOps.lean ====
section
/-!
DEFINITION. Zones, engagement, strokes, gestures and hover records of the contacts this tile owns (R176 to R186, Tables
CONTACT-4 to CONTACT-8). DEDUCED (log 25): the readings named there.
-/
namespace Sys2Proof.Machine

/-- A zone entry (Table CONTACT-4). -/
structure Zone where
  num      : Nat
  x0       : Int
  y0       : Int
  x1       : Int
  y1       : Int
  /-- 0 unused, 1 AREA, 2 BUTTON, 3 MASK. -/
  kind     : Nat
  hover    : Bool
  owner    : Nat
  gestures : Nat
  deriving DecidableEq, Repr

/-- Entry `i` of the zone table. -/
def zoneOf (z : Fields) (i : Nat) : Zone :=
  let e := (z.drop (16 * i)).take 16
  let s := fun (j : Nat) => signedOf 24 (fldN e j + 256 * fldN e (j + 1) + 65536 * fldN e (j + 2))
  { num := i, x0 := s 0, y0 := s 3, x1 := s 6, y1 := s 9, kind := fldN e 12 % 4, hover := fldN e 12 / 4 % 2 == 1,
    owner := fldN e 13 % 16, gestures := fldN e 14 % 32 }

/-- A position hits a zone: half-open bounds (R176). -/
def Zone.hit (z : Zone) (p : Pos) : Bool :=
  z.kind != 0 && decide (z.x0 ≤ p.x) && decide (p.x < z.x1) && decide (z.y0 ≤ p.y) && decide (p.y < z.y1)

/-- A gesture is enabled (Table CONTACT-4). -/
def Zone.enables (z : Zone) (kind : Nat) : Bool := (z.kind == 1 || z.kind == 2) && z.gestures.testBit kind

/-- Chebyshev distance of two positions. -/
def chebPos (a b : Pos) : Int := cheb (a.x - b.x) (a.y - b.y)

/-- The zone byte without its flag NONE: the lowest zone and whether there are more; 128 names none (Table CONTACT-3). -/
def zoneName (l : List Nat) : Nat × Bool :=
  match l with
  | [] => (128, false)
  | i :: rest => (rest.foldl min i, !rest.isEmpty)

/-- The zone byte of a gesture record. -/
def zoneByte (l : List Nat) : Nat := (zoneName l).1 + 64 * bit (zoneName l).2

/-! ### Strokes -/

/-- The direction of a segment (R184). -/
def strokeSym (dx dy : Int) : Nat :=
  let ax : Int := dx.natAbs
  let ay : Int := dy.natAbs
  if 5 * ay ≤ 2 * ax then (if 0 < dx then 0 else 4)
  else if 5 * ax ≤ 2 * ay then (if 0 < dy then 2 else 6)
  else if 0 < dx then (if 0 < dy then 1 else 7)
  else if 0 < dy then 3 else 5

/-- close_run (R184): a string that would take a ninth symbol is overlong. -/
def Contact.closeRun (k : Contact) (minRun : Nat) : Contact :=
  if k.runCnt == 0 || k.runCnt < minRun || k.syms.getLast? == some k.runSym then k
  else if 8 ≤ k.syms.length then { k with overlong := true }
  else { k with syms := k.syms ++ [k.runSym] }

/-- One frame of a stroke (R184). -/
def Contact.stroke (k : Contact) (step : Int) (minRun : Nat) : Contact :=
  let dx := k.pos.x - k.anchor.x
  let dy := k.pos.y - k.anchor.y
  if cheb dx dy < step then k
  else
    let sym := strokeSym dx dy
    if k.runCnt != 0 && k.runSym == sym then { k with anchor := k.pos, runCnt := min 255 (k.runCnt + 1) }
    else { k.closeRun minRun with anchor := k.pos, runSym := sym, runCnt := 1 }

/-- A stroke template (Table CONTACT-8). -/
structure Template where
  num    : Nat
  valid  : Bool
  tol    : Nat
  free   : Bool
  tenant : Nat
  syms   : List Nat
  deriving DecidableEq, Repr

/-- Entry `i` of the template table. -/
def templateOf (t : Fields) (i : Nat) : Template :=
  let e := (t.drop (5 * i)).take 5
  let len := fldN e 1 % 16
  let w := fldN e 2 + 256 * fldN e 3 + 65536 * fldN e 4
  { num := i, valid := fldN e 0 % 2 == 1, tol := fldN e 0 / 2 % 2, free := fldN e 0 / 4 % 2 == 1, tenant := fldN e 0 / 16 % 16,
    syms := (List.range (min len 8)).map (fun j => w / 8 ^ j % 8) }

/-- Two directions are at most `tol` steps apart (R185). -/
def nearSym (tol a b : Nat) : Bool := decide ((a + 8 - b) % 8 ≤ tol) || decide ((b + 8 - a) % 8 ≤ tol)

/-- A string matches a template (R185). -/
def Template.matches (t : Template) (s : List Nat) : Bool :=
  t.valid && s.length == t.syms.length && (s.zip t.syms).all (fun x => nearSym t.tol x.1 x.2)

namespace Core

/-- The zones in the table. -/
def zones (c : Core) : List Zone := (List.range 64).map (zoneOf c.prof.zones)

/-- The zones a position hits. -/
def zonesAt (c : Core) (p : Pos) : List Zone := c.zones.filter (fun z => z.hit p)

/-- A tenant's AREA zones at a position. -/
def areasAt (c : Core) (t : Tenant) (p : Pos) : List Nat :=
  ((c.zonesAt p).filter (fun z => z.kind == 1 && z.owner == t.val)).map (fun z => z.num)

/-- The BUTTON zones of a list that still hold a position for a tenant (R178). -/
def buttonsHeld (c : Core) (t : Tenant) (p : Pos) (l : List Nat) : List Nat :=
  ((c.zonesAt p).filter (fun z => z.kind == 2 && z.owner == t.val && l.contains z.num)).map (fun z => z.num)

/-- One frame of a contact's engagement with a tenant (R178, Table CONTACT-5): its new state, and its record. `first` marks the
contact's DOWN frame. -/
def engageOne (c : Core) (k : Contact) (first : Bool) (t : Tenant) : Option Engage × List OutRec :=
  let old := k.engaged.find? (fun e => e.tenant == t)
  let areas := c.areasAt t k.pos
  let buttons := if first then
      ((c.zonesAt k.pos).filter (fun z => z.kind == 2 && z.owner == t.val)).map (fun z => z.num)
    else c.buttonsHeld t k.pos ((old.map (fun e => e.buttons)).getD [])
  let name := zoneName (areas ++ buttons)
  let rec' := fun (state : Nat) (cross : Bool) => [{ tenant := t, bytes := c.contactRec state k cross k.pos name.1 name.2 : OutRec }]
  if areas.isEmpty && buttons.isEmpty then
    match old with
    | none => (none, [])
    | some _ => (none, rec' 2 true)
  else
    match old with
    | none =>
      (some { tenant := t, area := !areas.isEmpty, buttons := buttons, last := k.pos, zone := name.1, multi := name.2 },
        rec' 0 (!first))
    | some e =>
      let moved := !areas.isEmpty && e.area && (decide (c.prof.moveMin ≤ chebPos k.pos e.last) || k.flags != k.lastFlags)
      (some { e with area := !areas.isEmpty, buttons := buttons, last := if moved then k.pos else e.last, zone := name.1, multi := name.2 },
        if moved then rec' 1 false else [])

/-- One frame of a contact's engagement with every tenant. -/
def engage (c : Core) (k : Contact) (first : Bool) : Contact × List OutRec :=
  if k.masked then (k, [])
  else
    let r := tenants.map (c.engageOne k first)
    ({ k with engaged := r.filterMap (fun x => x.1) }, r.flatMap (fun x => x.2))

/-- The zones of a tenant that enable a gesture at a contact's DOWN (R183). -/
def enabling (c : Core) (k : Contact) (kind : Nat) (t : Tenant) : List Nat :=
  ((c.zonesAt k.down).filter (fun z => z.enables kind && z.owner == t.val && k.downZones.contains z.num)).map (fun z => z.num)

/-- A gesture record of a contact for one tenant (R186). It gives the DOWN position: COPPICED where that, or the present position, depends
on an interpolated node (R42). -/
def gestureRec (c : Core) (k : Contact) (kind detail : Nat) (t : Tenant) (zone : Nat) : OutRec :=
  let flags : BitVec 6 := k.flags ||| BitVec.ofNat 6 (32 * bit k.downCop)
  { tenant := t, bytes := gestureBytes kind ((k.id.map (fun i => i.toNat)).getD 0) k.down detail k.life c.hg.addr flags zone c.frame16 }

/-- A built-in gesture for every tenant whose zone enables it (R183). -/
def builtIn (c : Core) (k : Contact) (kind detail : Nat) : List OutRec :=
  tenants.flatMap (fun t =>
    let l := c.enabling k kind t
    if l.isEmpty then [] else [c.gestureRec k kind detail t (zoneByte l)])

/-- The template records of a stroke: each tenant's lowest-indexed matching template whose SCOPE is met (R185). -/
def templateRecs (c : Core) (k : Contact) : List OutRec :=
  let all := ((List.range 8).map (templateOf c.prof.templates)).filter (fun t => t.matches k.syms)
  tenants.flatMap (fun t =>
    match all.find? (fun x => x.tenant == t.val && (x.free || !(c.enabling k 4 t).isEmpty)) with
    | none => []
    | some x => [c.gestureRec k 4 x.num t (if x.free then 128 else zoneByte (c.enabling k 4 t))])

/-- A TAP that a contact's tap completes to a DOUBLE_TAP (R181). -/
def pairsWith (c : Core) (k : Contact) (t : TapSt) : Bool :=
  decide ((k.downFc - t.fc).toNat ≤ c.prof.dtapGap) && decide (chebPos k.down t.down ≤ c.prof.dtapSlop)

/-- The gestures decided at a contact's UP (R181, R182): the records, and the TAPs that a DOUBLE_TAP may follow. One older than
510 frames lies more than DTAP_GAP before the DOWN of any tap to come. DEDUCED (log 25): a TAP that a DOUBLE_TAP has completed
is spent. -/
def gesturesAtUp (c : Core) (k : Contact) (taps : List TapSt) : List OutRec × List TapSt :=
  if k.masked || k.downSettling || k.longDone then ([], taps)
  else if decide (k.life ≤ c.prof.tapMax) && k.still then
    if taps.any (c.pairsWith k) then (c.builtIn k 1 0, taps.eraseP (c.pairsWith k))
    else
      (c.builtIn k 0 0,
        { fc := c.hg.fc, down := k.down : TapSt } :: taps.filter (fun t => decide ((c.hg.fc - t.fc).toNat ≤ 510)))
  else if k.sawEdge || k.sawRanging then ([], taps)
  else
    let k := k.closeRun c.prof.minRun
    if k.overlong then ([], taps)
    else
      match k.syms with
      | [s] =>
        if s % 2 == 0 && decide (c.prof.swipeMin ≤ chebPos k.pos k.down) && decide (k.life ≤ c.prof.swipeMax) then (c.builtIn k 3 s, taps)
        else (c.templateRecs k, taps)
      | _ => (c.templateRecs k, taps)

/-- One frame of a live contact: stroke, engagement, LONG_PRESS (R178, R181, R182, R184). -/
def liveFrame (c : Core) (k : Contact) (first : Bool) : Contact × List OutRec :=
  let k := k.stroke c.prof.pathStep c.prof.minRun
  let k := { k with sawEdge := k.sawEdge || k.flags.getLsbD 1, sawRanging := k.sawRanging || k.flags.getLsbD 3,
                    still := k.still && decide (chebPos k.pos k.down ≤ c.prof.tapSlop) }
  let r := c.engage k first
  let k := r.1
  if k.still && !k.longDone && !k.masked && !k.downSettling && k.life == c.prof.longFrames then
    ({ k with longDone := true }, r.2 ++ c.builtIn k 2 0)
  else (k, r.2)

/-- A candidate becomes a contact in this frame (R164, R178, R179, R182). -/
def touchDown (c : Core) (k : Contact) : Contact :=
  let hits := c.zonesAt k.pos
  { k with isCand := false, life := 1, down := k.pos, anchor := k.pos, runSym := 0, runCnt := 0, syms := [], overlong := false,
           still := true, longDone := false, downSettling := k.flags.getLsbD 2, downCop := k.flags.getLsbD 5, sawEdge := false, sawRanging := false,
           masked := hits.any (fun z => z.kind == 3), engaged := [], downZones := hits.map (fun z => z.num), downFc := c.hg.fc }

/-- One frame of a hover for one tenant (R180, Table CONTACT-5): its new engagement, and its record. CROSS tells that the engagement
begins after the hover's first frame, or ends with the hover still there. -/
def hoverOne (c : Core) (h : Hover) (first : Bool) (t : Tenant) : Option Engage × List OutRec :=
  let old := h.engaged.find? (fun e => e.tenant == t)
  let zs := ((c.zonesAt h.pos).filter (fun z => z.kind == 1 && z.hover && z.owner == t.val)).map (fun z => z.num)
  let name := zoneName zs
  let rec' := fun (fin cross : Bool) => [{ tenant := t, bytes := c.hoverRec h fin cross name.1 name.2 : OutRec }]
  match old with
  | none =>
    if zs.isEmpty then (none, [])
    else (some { tenant := t, area := true, buttons := [], last := h.pos, zone := name.1, multi := name.2 }, rec' false (!first))
  | some e =>
    if zs.isEmpty then (none, rec' true true)
    else if decide (c.prof.moveMin ≤ chebPos h.pos e.last) || h.wet != c.trk.wet then
      (some { e with last := h.pos, zone := name.1, multi := name.2 }, rec' false false)
    else (some { e with zone := name.1, multi := name.2 }, [])

/-- One frame of a hover. -/
def hoverFrame (c : Core) (h : Hover) (first : Bool) : Hover × List OutRec :=
  let r := tenants.map (c.hoverOne h first)
  ({ h with wet := c.trk.wet, engaged := r.filterMap (fun x => x.1) }, r.flatMap (fun x => x.2))

end Core

end Sys2Proof.Machine
end

