-- ==== Sys2Proof/Machine/TrackOps.lean ====
section
/-!
DEFINITION. The track engine: matching, SEAM_X and its state blocks, handover and takeover, the ends, candidates, ids and
touch-downs of a frame, wet mode, hover, freezing and wear (R32, R139, R149, R158 to R172, R190, R293, R296, R403).
-/
namespace Sys2Proof.Machine

/-- Predicted position (R162): without a position one frame earlier the last position. -/
def Contact.predicted (k : Contact) : Pos :=
  if (if k.isCand then k.seen else k.life) ≤ 1 then k.pos
  else { x := 2 * k.pos.x - k.prev.x, y := 2 * k.pos.y - k.prev.y }

/-- An id as it orders: one without an id stands last. -/
def idRank (i : Option (BitVec 6)) : Nat := (i.map (fun n => n.toNat)).getD 64

/-- One pair of R162: distance, id, place of the contact, place of the peak. -/
structure Pair where
  dist : Int
  id   : Nat
  who  : Nat
  peak : Nat
  deriving DecidableEq, Repr

/-- The order of pairs (R162): distance, then id, then age, then peak. -/
def Pair.before (a b : Pair) : Bool :=
  decide (a.dist < b.dist) || (a.dist == b.dist && (decide (a.id < b.id) || (a.id == b.id &&
    (decide (a.who < b.who) || (a.who == b.who && decide (a.peak < b.peak))))))

/-- Every pair within TRACK_R, in order, each contact and peak used at most once (R162). -/
def assign (trackR : Int) (ks : List (Nat × Contact)) (ps : List (Nat × Peak)) : List Pair :=
  let pairs := ks.flatMap (fun k => ps.filterMap (fun p =>
    let d := chebPos p.2.pos k.2.predicted
    if d ≤ trackR then some { dist := d, id := idRank k.2.id, who := k.1, peak := p.1 : Pair } else none))
  (sortBy Pair.before pairs).foldl (fun used x => if used.any (fun u => u.who == x.who || u.peak == x.peak) then used else used ++ [x]) []

/-- Numbered items. -/
def numbered {α : Type} (l : List α) : List (Nat × α) := l.zipIdx.map (fun x => (x.2, x.1))

/-- A position as it travels. -/
def Pos.bits (p : Pos) : PosBits := { x := BitVec.ofInt 24 p.x, y := BitVec.ofInt 24 p.y }

/-- A position as it arrives. -/
def posOf (p : PosBits) : Pos := { x := p.x.toInt, y := p.y.toInt }

/-- The state block of a contact or candidate, before this frame's match (R32, Table HEDGE-7). -/
def Contact.block (k : Contact) (handover : Bool) : StateBlock where
  id := k.id.getD 0#6
  hasId := k.id.isSome
  candidate := k.isCand
  handover := handover
  confirm := BitVec.ofNat 3 (min 7 k.seen)
  last := k.pos.bits
  prev := k.prev.bits
  down := k.down.bits
  anchor := k.anchor.bits
  runSym := BitVec.ofNat 3 k.runSym
  runCnt := BitVec.ofNat 8 k.runCnt
  syms := k.syms.map (BitVec.ofNat 3)
  overlong := k.overlong
  life := BitVec.ofNat 16 (min 65535 k.life)
  longDone := k.longDone
  downSettling := k.downSettling
  downCop := k.downCop
  sawEdge := k.sawEdge
  sawRanging := k.sawRanging
  still := k.still
  masked := k.masked
  engaged := k.engaged.foldl (fun m e => m ||| (1#16 <<< e.tenant.val)) 0#16
  flags := k.flags
  reported := k.engaged.map (fun e => (e.tenant, e.last.bits))

/-- Where R162 expects the contact of a block. -/
def blockPredicted (b : StateBlock) : Pos :=
  let l := posOf b.last
  let p := posOf b.prev
  if (if b.candidate then b.confirm.toNat else b.life.toNat) ≤ 1 then l else { x := 2 * l.x - p.x, y := 2 * l.y - p.y }

/-- A place that a candidate or a new peak asks for (R161). -/
structure Claim where
  peak : Nat
  who  : Option Contact
  deriving DecidableEq, Repr

namespace Core

/-- Change the track engine. -/
def modTrk (c : Core) (f : Track → Track) : Core := { c with trk := f c.trk }

/-- The engagement of a contact that comes from a neighbour with one tenant (R178): through the AREA zones of this tile's table at its
last position, and the BUTTON zones of it that hold its DOWN and still hold it. DEDUCED (log 25): where there is neither, it counts
as engaged through an AREA zone, and its zones in force are named with its next record. -/
def engagedIn (c : Core) (b : StateBlock) (r : Tenant × PosBits) : Engage :=
  let at' := fun (q : PosBits) => ((c.zonesAt (posOf q)).filter (fun z => z.kind == 2 && z.owner == r.1.val)).map (fun z => z.num)
  let buttons := (at' b.down).filter (fun i => (at' b.last).contains i)
  { tenant := r.1, area := buttons.isEmpty || !(c.areasAt r.1 (posOf b.last)).isEmpty, buttons := buttons, last := posOf r.2, zone := 128
    multi := false }

/-- A contact or candidate that comes from a neighbour (R32, R166, R296): engaged as it was, its zones at the DOWN judged by
this tile's table. -/
def ofBlock (c : Core) (b : StateBlock) (silent : Bool) : Contact where
  id := if b.hasId then some b.id else none
  isCand := b.candidate
  seen := b.confirm.toNat
  pos := posOf b.last
  prev := posOf b.prev
  down := posOf b.down
  anchor := posOf b.anchor
  runSym := b.runSym.toNat
  runCnt := b.runCnt.toNat
  syms := b.syms.map (fun s => s.toNat)
  overlong := b.overlong
  life := b.life.toNat
  still := b.still
  longDone := b.longDone
  downSettling := b.downSettling
  downCop := b.downCop
  sawEdge := b.sawEdge
  sawRanging := b.sawRanging
  masked := b.masked
  engaged := b.reported.map (c.engagedIn b)
  downZones := (c.zonesAt (posOf b.down)).map (fun z => z.num)
  downFc := c.hg.fc - b.life.zeroExtend 32
  size := 0
  sum := 0
  flags := b.flags
  lastFlags := b.flags
  silent := silent

/-- The seams that this frame's band maps cover (R290 to R292): SEAM_X went out on them, and they still stand. -/
def mapped (c : Core) : List Port :=
  ports.filter (fun p => (c.seamOf p).isSome && (c.hport p).outX.any (fun x => x.fc == c.hg.fc))

/-- SEAM_X of this frame has come. -/
def heardX (c : Core) (p : Port) : Option SeamX := (c.hport p).inX.filter (fun x => x.fc == c.hg.fc)

/-- Live contacts with their places in the list. -/
def liveOnes (c : Core) : List (Nat × Contact) := (numbered c.trk.contacts).filter (fun k => !k.2.isCand)

/-- Candidates with their places in the list. -/
def candOnes (c : Core) : List (Nat × Contact) := (numbered c.trk.contacts).filter (fun k => k.2.isCand)

/-- The start threshold where a peak's node lies (R159, R170, R292). -/
def startLevel (c : Core) (ps : List Port) (q : Pos) : Int :=
  let wet : Bool := match ps.find? (fun p => c.prof.inArea (c.farOrigin p) q) with
    | some p => (c.seamOf p).any (fun h => h.wet)
    | none => c.trk.wet
  if wet then min 32767 (2 * c.prof.tOn) else c.prof.tOn

/-- A peak may be a candidate (R159). -/
def qualifies (c : Core) (ps : List Port) (k : Peak) : Bool :=
  !k.isWater && !k.isPalm && decide (c.startLevel ps k.node.pos ≤ k.node.delta)

/-- The seam whose neighbour's area holds a position (R289, R293). -/
def areaPort (c : Core) (ps : List Port) (q : Pos) : Option Port := ps.find? (fun p => c.prof.inArea (c.farOrigin p) q)

/-- Matches of the frame before SEAM_X (R162): of contacts, then of candidates against the peaks that remain and qualify. -/
def matchAll (c : Core) (ps : List Port) (peaks : List Peak) : List Pair × List Pair :=
  let live := assign c.prof.trackR c.liveOnes (numbered peaks)
  let rest := (numbered peaks).filter (fun p => !live.any (fun m => m.peak == p.1) && c.qualifies ps p.2)
  (live, assign c.prof.trackR c.candOnes rest)

/-- SEAM_X for one seam (R293, Table HEDGE-7): each band peak with the contact it matched, and the blocks of the contacts and
candidates within reach, HANDOVER where the new centroid lies in the neighbour's area. -/
def composeX (c : Core) (ps : List Port) (peaks : List Peak) (p : Port) : SeamX :=
  let (live, cand) := c.matchAll ps peaks
  let newPos := fun (i : Nat) => ((live ++ cand).find? (fun m => m.who == i)).bind (fun m => (peaks[m.peak]?).map (fun k => k.pos))
  let idAt := fun (q : Pos) =>
    match (numbered peaks).find? (fun k => k.2.node.pos == q) with
    | none => 0xFF#8
    | some k => match live.find? (fun m => m.peak == k.1) with
      | none => 0xFF#8
      | some m => BitVec.ofNat 8 m.id
  let passes := fun (i : Nat) => (newPos i).any (fun q => c.areaPort ps q == some p)
  let seg := c.seamSegment p
  { fc := c.hg.fc
    more := false
    matched := (peaks.filter (fun k => c.prof.inReach seg k.node.pos)).map (fun k =>
      { x := (BitVec.ofInt 24 (k.posOn p).x), y := (BitVec.ofInt 24 (k.posOn p).y), id := idAt k.node.pos })
    blocks := ((numbered c.trk.contacts).filter (fun k => c.prof.inReach seg k.2.pos || passes k.1)).map (fun k => k.2.block (passes k.1)) }

/-- The matches a neighbour reports for this tile's peaks: place of the peak, distance, id (R162, R293). -/
def foreignMatches (c : Core) (peaks : List Peak) (p : Port) : List Pair :=
  match c.heardX p with
  | none => []
  | some x => x.matched.filterMap (fun m =>
      if m.id == 0xFF#8 then none
      else
        let q : Pos := { x := m.x.toInt, y := m.y.toInt }
        ((numbered peaks).find? (fun k => k.2.posOn p == q)).map (fun k =>
          let d := match x.blocks.find? (fun b => b.hasId && !b.candidate && b.id.toNat == m.id.toNat) with
            | some b => chebPos q (blockPredicted b)
            | none => 0
          { dist := d, id := m.id.toNat, who := 0, peak := k.1 }))

/-- The blocks that neighbours hand over in this frame, with the peak of a contact (R293). -/
def handedIn (c : Core) (ps : List Port) (peaks : List Peak) : List (Contact × Option Nat) :=
  ps.flatMap (fun p =>
    match c.heardX p with
    | none => []
    | some x => (x.blocks.filter (fun b => b.handover)).map (fun b =>
        let k := c.ofBlock b false
        (k, if b.candidate then none else ((c.foreignMatches peaks p).find? (fun m => m.id == b.id.toNat)).map (fun m => m.peak))))

/-- A block names a contact of this tile: by its id, or a candidate without one by its position. -/
def blockIs (b : StateBlock) (k : Contact) : Bool :=
  b.candidate == k.isCand && (if b.hasId then k.id == some b.id else k.id.isNone && k.pos.bits == b.last)

/-- Handed over in this frame, and acknowledged (R293). -/
def handedOut (c : Core) (ps : List Port) (k : Contact) : Bool :=
  ps.any (fun p => (c.hport p).outXAcked && (c.hport p).outX.any (fun x => x.blocks.any (fun b => b.handover && blockIs b k)))

/-- The seams whose loss makes contacts of their bands uncertain (R296). -/
def lostSeams (c : Core) : List Port := ports.filter (fun p => (c.hport p).uncertain)

/-- A contact or candidate takes its peak (R162, R167, R168, R175); EDGE_UNCERTAIN stays with it (R296). -/
def takePeak (c : Core) (k : Contact) (p : Peak) : Contact :=
  let lost := c.lostSeams.any (fun q => p.nset.any (fun n => c.prof.inBand (c.seamSegment q) n))
  let edge : BitVec 6 := BitVec.ofNat 6 (2 * bit (lost || k.flags.getLsbD 1) + 16 * bit c.trk.wet)
  { k with prev := k.pos, pos := p.pos, size := p.size, sum := p.sum, lastFlags := k.flags, flags := p.flags ||| edge, silent := false }

/-- A new candidate (R159). -/
def newCandidate (c : Core) (p : Peak) : Contact :=
  let k : Contact :=
    { id := none, isCand := true, seen := 1, pos := p.pos, prev := p.pos, down := p.pos, anchor := p.pos, runSym := 0, runCnt := 0,
      syms := [], overlong := false, life := 0, still := true, longDone := false, downSettling := false, downCop := false, sawEdge := false,
      sawRanging := false, masked := false, engaged := [], downZones := [], downFc := 0#32, size := 0, sum := 0, flags := 0#6,
      lastFlags := 0#6, silent := false }
  { c.takePeak k p with prev := p.pos }

/-- Grants go to the candidates that wait, oldest first (R164, R165). -/
def giveIds : List Contact → List (BitVec 6) → List Contact × List (BitVec 6)
  | [], ids => ([], ids)
  | k :: l, ids =>
    match k.id, ids with
    | none, i :: rest => let r := giveIds l rest; ({ k with id := some i } :: r.1, r.2)
    | _, _ => let r := giveIds l ids; (k :: r.1, r.2)

/-- What the contacts and candidates of a frame came to. -/
structure Outcome' where
  /-- Contacts and candidates, and whether the contact is new. -/
  kept   : List (Contact × Bool)
  ended  : List Contact
  /-- Ids to give back. -/
  back   : BitVec 64
  grants : List (BitVec 6)
  /-- Peaks assigned to something (R160), and those of contacts. -/
  used   : List Peak
  touch  : List Peak
  palms  : List Peak
  water  : Bool

/-- Contacts, then candidates, of one frame (R159 to R166, R293). DEDUCED (log 25): contacts beyond the ten a tile holds are those handed
in last; each finds no place for its peak, and so ends. -/
def trackFrame (c : Core) (ps : List Port) (peaks : List Peak) : Outcome' :=
  let own := (assign c.prof.trackR c.liveOnes (numbered peaks)).filter (fun m =>
    !(ps.flatMap (c.foreignMatches peaks)).any (fun f => f.peak == m.peak && (decide (f.dist < m.dist) || (f.dist == m.dist && decide (f.id < m.id)))))
  let come := c.handedIn ps peaks
  let gone := fun (k : Contact) => c.handedOut ps k
  let live := (c.liveOnes.filter (fun k => !gone k.2)).map (fun k => (k.2, (own.find? (fun m => m.who == k.1)).map (fun m => m.peak))) ++
    (come.filter (fun k => !k.1.isCand)).map (fun k => (k.1, k.2.filter (fun i => !own.any (fun m => m.peak == i))))
  let taken := own.map (fun m => m.peak) ++ (ps.flatMap (c.foreignMatches peaks)).map (fun f => f.peak)
  let matched := live.filterMap (fun k => (k.2.bind (fun i => peaks[i]?)).map (fun p => (k.1, p)))
  let moved := (matched.take 10).map (fun x => { c.takePeak x.1 x.2 with life := x.1.life + 1 })
  let ended := (live.filter (fun k => (k.2.bind (fun i => peaks[i]?)).isNone)).map (fun k => k.1) ++ (matched.drop 10).map (fun x => x.1)
  let rest := (numbered peaks).filter (fun p => !taken.contains p.1)
  let fit := rest.filter (fun p => c.qualifies ps p.2)
  let cands := numbered ((c.candOnes.filter (fun k => !gone k.2)).map (fun k => k.2) ++ (come.filter (fun k => k.1.isCand)).map (fun k => k.1))
  let cm := assign c.prof.trackR cands fit
  let mine := fun (p : Peak) => (c.areaPort ps p.pos).isNone
  let claims := cm.map (fun m => { peak := m.peak, who := (cands.find? (fun k => k.1 == m.who)).map (fun k => k.2) : Claim }) ++
    (fit.filter (fun p => !cm.any (fun m => m.peak == p.1) && mine p.2)).map (fun p => { peak := p.1, who := none : Claim })
  let level := fun (x : Claim) => (peaks[x.peak]?.map (fun p => p.node.delta)).getD 0
  let ordered := sortBy (fun (a b : Claim) => decide (level b < level a) || (level a == level b && decide (a.peak < b.peak))) claims
  let placed := ordered.take (10 - moved.length)
  let old := cands.filterMap (fun k =>
    (cm.find? (fun m => m.who == k.1)).bind (fun m => (placed.find? (fun x => x.peak == m.peak)).bind (fun x => (peaks[x.peak]?).map (fun p =>
      { c.takePeak k.2 p with seen := k.2.seen + 1 }))))
  let fresh := (placed.filter (fun x => x.who.isNone)).filterMap (fun x => (peaks[x.peak]?).map (fun p => c.newCandidate p))
  let (cs, grants) := giveIds (old ++ fresh) c.hg.grants
  let ready := fun (k : Contact) => k.id.isSome && decide (c.prof.confirmN ≤ k.seen)
  let after := cs.map (fun k => if ready k then (c.touchDown k, true) else (k, false))
  let keptIds := idMap (moved ++ cs)
  let allIds := idMap (live.map (fun k => k.1) ++ cands.map (fun k => k.2))
  let silentIds := idMap (ended.filter (fun k => k.silent))
  let isUsed := fun (i : Nat) (p : Peak) =>
    taken.contains i || p.isWater || p.isPalm || placed.any (fun x => x.peak == i) || (c.qualifies ps p && !mine p)
  let kept := moved.map (fun k => (k, false)) ++ after
  let far := ps.flatMap (c.foreignMatches peaks)
  { kept := kept, ended := ended, back := allIds &&& ~~~keptIds &&& ~~~silentIds, grants := grants
    used := ((numbered peaks).filter (fun p => isUsed p.1 p.2)).map (fun p => p.2)
    touch := ((numbered peaks).filter (fun p => far.any (fun f => f.peak == p.1) || kept.any (fun k => !k.1.isCand && k.1.pos == p.2.pos))).map (fun p => p.2)
    palms := (rest.filter (fun p => p.2.isPalm)).map (fun p => p.2)
    water := rest.any (fun p => p.2.isWater && (c.areaPort ps p.2.node.pos).isNone) }

/-- The records of a frame's contacts in ascending order of id, each followed by its gestures (R189), and the contacts as they
leave the frame. -/
def contactRecs (c : Core) (o : Outcome') : List Contact × List OutRec × List TapSt :=
  let key := fun (x : Contact × Bool × Bool) => idRank x.1.id
  let all := sortBy (fun a b => decide (key a < key b))
    ((o.kept.filter (fun k => !k.1.isCand)).map (fun k => (k.1, k.2, false)) ++ o.ended.map (fun k => (k, false, true)))
  let one := fun (s : List (Nat × Contact) × List OutRec × List TapSt) (x : Contact × Bool × Bool) =>
    if x.2.2 then
      if x.1.silent then s
      else
        let g := c.gesturesAtUp x.1 s.2.2
        (s.1, s.2.1 ++ c.upRecs x.1 ++ g.1, g.2)
    else
      let r := c.liveFrame x.1 x.2.1
      (s.1 ++ [(idRank x.1.id, r.1)], s.2.1 ++ r.2, s.2.2)
  let r := all.foldl one ([], [], c.trk.taps)
  (o.kept.map (fun k => if k.1.isCand then k.1 else ((r.1.find? (fun x => x.1 == idRank k.1.id)).map (fun x => x.2)).getD k.1), r.2.1, r.2.2)

/-! ### Hover -/

/-- The largest self delta of some lines, the lower line first, with its line (R171). -/
def topLine (c : Core) (lines : List Nat) : Option (Nat × Int) :=
  lines.foldl (fun (b : Option (Nat × Int)) l =>
    match c.selfDelta l with
    | none => b
    | some v => match b with
      | none => some (l, v)
      | some x => if x.2 < v then some (l, v) else b) none

/-- The three lines about a line that exist (R171). -/
def aroundLine (l lo hi : Nat) : List Nat := (if lo < l then [l - 1] else []) ++ [l] ++ (if l + 1 < hi then [l + 1] else [])

/-- The weighted position over the three lines about the strongest (R171). DESIGN CHOICE (log 33): three weights of 0, which HOVER_OFF = 0
allows and for which the quotient has no value, leave the centre of the strongest line. -/
def hoverCoord (c : Core) (l lo hi : Nat) (at' : Nat → Int) : Int :=
  let ls := aroundLine l lo hi
  let w := fun (i : Nat) => max 0 ((c.selfDelta i).getD 0)
  let total := (ls.map w).sum
  if total ≤ 0 then at' l else divr ((ls.map (fun i => w i * at' i)).sum) total

/-- The hover of the frame where its thresholds hold, with the nodes assigned to it (R171). -/
def hoverNow (c : Core) (level : Int) : Option (Pos × Nat × List Pos) :=
  let ns := c.prof.nSns
  let nd := c.prof.nDrv
  match c.topLine (List.range ns), c.topLine ((List.range nd).map (fun d => 24 + d)) with
  | some s, some d =>
    if level ≤ s.2 && level ≤ d.2 then
      let x := fun (k : Nat) => c.prof.nodeX c.origin k
      let y := fun (l : Nat) => c.prof.nodeY c.origin (l - 24)
      let nodes := (aroundLine d.1 24 (24 + nd)).flatMap (fun l => (aroundLine s.1 0 ns).map (fun k => ({ x := x k, y := y l } : Pos)))
      some ({ x := c.hoverCoord s.1 0 ns x, y := c.hoverCoord d.1 24 (24 + nd) y }, s.2.toNat, nodes)
    else none
  | _, _ => none

/-- The hover of a frame (R171, R172, R180), its records, and its nodes. A frame whose self counts are the self-test's leaves a
hover as it was; DEDUCED (log 25). -/
def hoverStep (c : Core) (anyContact : Bool) : Option Hover × List OutRec × List Pos :=
  let leave := fun (_ : Unit) => match c.trk.hover with
    | none => ((none : Option Hover), ([] : List OutRec), ([] : List Pos))
    | some h => (none, c.hoverEnd h, [])
  if anyContact || c.prof.hoverOn == 0 || !c.acq.selfRan then leave ()
  else if c.forcedTest then (c.trk.hover, [], [])
  else
    match c.hoverNow (if c.trk.hover.isSome then c.prof.hoverOff else c.prof.hoverOn) with
    | none => leave ()
    | some (q, sum, nodes) =>
      let h : Hover := match c.trk.hover with
        | some h => { h with pos := q, sum := sum }
        | none => { pos := q, sum := sum, wet := c.trk.wet, engaged := [] }
      let r := c.hoverFrame h c.trk.hover.isNone
      (some r.1, r.2, nodes)

/-! ### Freezing, wear and wet mode -/

/-- Position of a node, none where no band of this frame holds it. -/
def nodePos (c : Core) (ps : List Port) (i : Nat) : Option Pos :=
  let d := nodeDrive i
  let k := nodeLine i
  if nodeLane i == c.colour then
    if d < c.prof.nDrv && k < c.prof.nSns then some { x := c.prof.nodeX c.origin k, y := c.prof.nodeY c.origin d } else none
  else (ps.find? (fun p => c.lanePort k (nodeLane i) == some p)).map (fun p =>
    { x := c.prof.nodeX c.origin k, y := c.prof.nodeY (c.farOrigin p) d })

/-- The nodes within FREEZE_R pitches of some positions (R139, R147). -/
def nodesNear (c : Core) (ps : List Port) (l : List Pos) : List Nat :=
  let r := (c.prof.freezeR : Int)
  (List.range 2304).filter (fun i => (c.nodePos ps i).any (fun q =>
    l.any (fun a => within a q (r * c.prof.epitchX) (r * c.prof.epitchY))))

/-- Wear of a frame (R403): the cell of a place on the own grid. -/
def wearCell (p : Nat × Nat) : Nat := 12 * (p.1 / 2) + p.2 / 2

/-- Add a frame, or a DOWN, to a wear cell; both counts saturate (R403). -/
def addWear (l : List WearCell) (cell : Nat) (down : Bool) : List WearCell :=
  modifyAt l cell (fun w => { frames := min (2 ^ 32 - 1) (w.frames + 1), downs := min 65535 (w.downs + bit down) })

/-- Wear of the contacts and palms of an included frame whose peak node lies on the own grid (R403). -/
def wearStep (c : Core) (ps : List Port) (peaks : List Peak) (o : Outcome') : Core :=
  if !c.node.ownInc then c
  else
    let mine := fun (p : Peak) => (c.areaPort ps p.pos).isNone
    let contacts := (o.kept.filter (fun k => !k.1.isCand)).filterMap (fun k =>
      (peaks.find? (fun p => p.pos == k.1.pos)).bind (fun p => p.node.cell.map (fun x => (wearCell x, k.2))))
    let palms := (o.palms.filter mine).filterMap (fun p => p.node.cell.map (fun x => (wearCell x, false)))
    c.modRep (fun r => { r with wearAcc := (contacts ++ palms).foldl (fun l x => addWear l x.1 x.2) r.wearAcc })

/-- Wet mode after a frame (R170). -/
def wetStep (c : Core) (water : Bool) : Core :=
  c.modTrk (fun t =>
    let run := if water then min 15 (t.wetRun + 1) else 0
    let dry := if water then 0 else min 255 (t.dryRun + 1)
    { t with wetRun := run, dryRun := dry, waterNow := water,
             wet := if water then t.wet || decide (c.prof.wetEnter ≤ run) else t.wet && decide (dry < c.prof.wetExit) })

/-- The track engine of a frame with valid baselines (R132, R157 to R172, R189). -/
def trackStep (c : Core) (ps : List Port) : Core :=
  let peaks := c.framePeaks ps
  let o := c.trackFrame ps peaks
  let (contacts, recs, taps) := c.contactRecs o
  let (hover, hrecs, hnodes) := c.hoverStep (!contacts.isEmpty)
  let out := recs ++ hrecs
  let downs := (out.filter (fun r => recType r.bytes == 1 && recState r.bytes == 0)).length
  let frozen := c.nodesNear ps (o.used.flatMap (fun p => p.ext) ++ hnodes)
  let busy := ((c.nodesNear ps (o.touch.flatMap (fun p => p.ext))).map nodeLine).eraseDups
  let c := (c.wearStep ps peaks o).modTele (fun t => { t with downs := t.downs + downs })
  let c := c.modTrk (fun t => { t with contacts := contacts, hover := hover, taps := taps, out := out, returned := t.returned ||| o.back,
                                       wanted := (contacts.filter (fun k => k.isCand && k.id.isNone)).length })
  let c := c.modHg (fun h => { h with grants := o.grants })
  (c.modNode (fun n => { n with frozen := frozen, busy := busy })).wetStep o.water

/-! ### Takeover -/

/-- A position's node-set window touches the area of the tile with an origin (R158, R296). -/
def touches (p : Profile) (o q : Pos) : Bool :=
  let wx := rhu (3 * p.epitchX) 1
  let wy := rhu (3 * p.epitchY) 1
  decide (o.x - wx ≤ q.x) && decide (q.x < o.x + p.pitchX + wx) && decide (o.y - wy ≤ q.y) && decide (q.y < o.y + p.pitchY + wy)

/-- The lowest-addressed surviving tile beside a lost one that a position touches (R296). -/
def heir (c : Core) (lost : Port) (q : Pos) : Option Addr :=
  let u := c.hg.u.toInt + (portOffset lost).1
  let v := c.hg.v.toInt + (portOffset lost).2
  let beside := ports.filterMap (fun p =>
    let a := u + (portOffset p).1
    let b := v + (portOffset p).2
    if !touches c.prof (c.prof.origin a b) q then none
    else if a == c.hg.u.toInt && b == c.hg.v.toInt then some c.hg.addr
    else (c.hg.roster.live.find? (fun t => t.u.toInt == a && t.v.toInt == b)).map (fun t => t.addr))
  beside.foldl (fun b a => match b with
    | none => some a
    | some x => if a.toNat < x.toNat then some a else b) none

/-- How many more contacts and candidates the tile may hold (R161). -/
def freePlaces (c : Core) : Nat := 10 - c.trk.contacts.length

/-- The first COMPUTE after SEVERED: the lost tile's contacts that fall to this tile are taken over, as far as it has places (R161, R296);
none while its baselines are not valid (R190). DEDUCED (log 25): its candidates are not, having no record to continue. -/
def takeOver (c : Core) (p : Port) : Core :=
  if !(c.hport p).takeover then c
  else
    let blocks := if c.node.valid then ((c.hport p).lastX.map (fun x => x.blocks)).getD [] else []
    let mine := (blocks.filter (fun b => !b.candidate && c.heir p (posOf b.last) == some c.hg.addr)).take c.freePlaces
    let c' := c.modHp p (fun h => { h with takeover := false, lastX := none })
    c'.modTrk (fun t => { t with contacts := t.contacts ++ mine.map (fun b =>
      let k := c.ofBlock b true
      { k with flags := k.flags ||| 2#6, lastFlags := k.flags }) })

end Core

end Sys2Proof.Machine
end

