-- ==== Sys2Proof/Machine/SeamOps.lean ====
section
/-!
DEFINITION. COMPUTE and the seam exchange within it: SEAM_D and SEAM_X go out, the track engine waits for the neighbours' until
their deadlines, and the frame is finished (R33, R87, R132, R150, R190, R290 to R293, R296).
-/
namespace Sys2Proof.Machine

namespace Core

/-- A SEAM_D is still awaited on a port (R290): its SEAM_H has come from a scanning neighbour, or may still come from one in Run. -/
def awaitsD (c : Core) (p : Port) : Bool :=
  if (c.seamOf p).isSome then !c.haveD p
  else c.seamOpen p && !(c.hport p).asleep && (c.hport p).partner.any (fun h => h.state == 5#4) &&
    !(c.hport p).inH.any (fun h => h.fc == c.hg.fc)

/-- SEAM_D goes out to a scanning neighbour, in its parts (R290). -/
def sendD (c : Core) (p : Port) : Core :=
  match c.seamOf p with
  | none => c
  | some h => (c.composeD p h).foldl (fun c d => c.sendFrame p (.seamD d)) c

/-- A SEAM_X as the frames that carry it (R290): one where it fits a body, else its matches and then its blocks, in order. -/
def xFrames (x : SeamX) : List SeamX :=
  if x.bytes.length ≤ 1048 && x.matched.length < 128 then [x]
  else
    let cut := fun (n k : Nat) => (List.range ((n + k - 1) / k)).map (fun i => i * k)
    let parts := (cut x.matched.length 120).map (fun i => { x with matched := (x.matched.drop i).take 120, blocks := [] }) ++
      (cut x.blocks.length 7).map (fun i => { x with matched := [], blocks := (x.blocks.drop i).take 7 })
    parts.zipIdx.map (fun y => { y.1 with more := decide (y.2 + 1 < parts.length) })

/-- SEAM_X goes out on some ports (R290, R293); `ps` are the seams whose band maps the peaks came from. -/
def sendXs (c : Core) (ps : List Port) (peaks : List Peak) (dest : List Port) : Core :=
  let bodies := dest.map (fun p => (p, c.composeX ps peaks p))
  bodies.foldl (fun c b =>
    let parts := xFrames b.2
    parts.foldl (fun c x => c.sendFrame b.1 (.seamX x))
      (c.modHp b.1 (fun h => { h with outX := some b.2, outXLeft := parts, outXAcked := false, xOver := false }))) c

/-- A contact or candidate that a neighbour hands over to a tile whose track engine does not run over that seam any more: held
from now on, at the position of its match, with no record in this frame (R87, R293; DEDUCED, log 18). A tile with no place for it, or
without valid baselines, gives its id back and makes no record (R161, R190). -/
def adopt (c : Core) (p : Port) : Core :=
  match c.heardX p with
  | none => c
  | some x =>
    (x.blocks.filter (fun b => b.handover)).foldl (fun c b =>
      if c.trk.contacts.any (blockIs b) then c
      else if !c.node.valid || c.freePlaces == 0 then
        c.modTrk (fun t => { t with returned := if b.hasId then t.returned ||| (1#64 <<< b.id.toNat) else t.returned })
      else
        let k := c.ofBlock b false
        let at' := if b.candidate then none else x.matched.find? (fun m => b.hasId && m.id.toNat == b.id.toNat)
        let k := match at' with
          | some m => { k with prev := k.pos, pos := { x := m.x.toInt, y := m.y.toInt }, life := k.life + 1 }
          | none => k
        c.modTrk (fun t => { t with contacts := t.contacts ++ [k] })) c

/-- The last acts of a frame (R132): every handover over a seam that the band maps left out is taken, then the baselines and
the watch for suspect lines. -/
def closeCompute (c : Core) (ps : List Port) : Core :=
  let c := (ports.filter (fun p => !ps.contains p)).foldl adopt c
  c.baselineStep.suspectStep.modTrk (fun t => { t with phase := .done })

/-- The track engine and the end of COMPUTE (R132). -/
def finish (c : Core) : Core :=
  let ps := c.mapped
  (c.trackStep ps).closeCompute ps

/-- Every SEAM_X that the track engine waits for has come and its own are acknowledged, or their deadlines have passed
(R290, R293). -/
def xSettled (c : Core) : Bool :=
  c.mapped.all (fun p => (c.hport p).xOver || ((c.heardX p).isSome && (c.hport p).outXAcked))

/-- Finish the frame where nothing is awaited any more. -/
def tryFinish (c : Core) : Core := if c.trk.phase == .waitX && c.xSettled then c.finish else c

/-- The track engine goes on from SEAM_D to SEAM_X where no SEAM_D is awaited any more (R290). -/
def tryTrack (c : Core) : Core :=
  if c.trk.phase == .waitD && !ports.any c.awaitsD then
    let ps := ports.filter (fun p => (c.seamOf p).isSome && c.haveD p)
    let peaks := if ps.isEmpty then [] else c.framePeaks ps
    ((c.sendXs ps peaks ps).modTrk (fun t => { t with phase := .waitX })).tryFinish
  else c

/-- A tile without valid baselines holds no contact (R136, R190). -/
def clearInvalid (c : Core) : Core :=
  let recs := c.endRecs
  (c.dropContacts.modTrk (fun t => { t with out := recs })).modNode (fun n => { n with frozen := [], busy := [] })

/-- COMPUTE of a normal frame (R132, R150, R290): a sagged frame, and one without valid baselines, runs no track engine; its
SEAM_X carries the contacts held, with no match (DEDUCED, log 18). -/
def computeNormal (c : Core) : Core :=
  let c := (ports.foldl takeOver c).nodeFrame
  let c := if c.node.valid then c else c.clearInvalid
  let c := ports.foldl sendD c
  if c.acq.sagged || !c.node.valid then
    (c.sendXs [] [] (ports.filter (fun p => (c.seamOf p).isSome))).closeCompute []
  else (c.modTrk (fun t => { t with phase := .waitD })).tryTrack

/-- COMPUTE ends with the REPORT slot at the latest: every deadline has passed (R15, R290). -/
def forceCompute (c : Core) : Core :=
  let c := { c with hp := c.hp.map (fun h => { h with xOver := true }) }
  if c.trk.phase == .waitD || c.trk.phase == .waitX then c.finish else c

/-- SEAM_D_DEADLINE: half of COMPUTE_T has passed, and a seam whose SEAM_H or SEAM_D has not come is a panel edge for the frame
(R290). -/
def dDeadline (c : Core) (p : Port) : Core :=
  c.when (c.trk.phase == .waitD && c.awaitsD p) (fun c => (c.modHp p (fun h => { h with edge := true })).tryTrack)

/-- SEAM_X_DEADLINE: three quarters of COMPUTE_T have passed (R290, R293). -/
def xDeadline (c : Core) (p : Port) : Core :=
  c.when (c.trk.phase != .idle) (fun c => (c.modHp p (fun h => { h with xOver := true })).tryFinish)

/-- SEAM_H arrives (R33, R106, R129, R280, R290): PLAN_MISMATCH with the first digest that differs; one that comes late in
COMPUTE still brings its lane into the frame. -/
def takeSeamH (c : Core) (p : Port) (b : SeamH) : Core :=
  let bad := b.digest != seamDigest c.prof
  let c := if bad && !(c.hport p).digestBad then c.eventCustodian 0x08 ([BitVec.ofNat 8 p.val] ++ bvLe 2 b.digest) else c
  let c := c.modHp p (fun h => { h with inH := some b, digestBad := bad, swingNext := b.swing })
  if c.trk.phase == .waitD then
    let c := if (c.seamOf p).isSome then
        (c.updateNodes (fun i => c.lanePort (nodeLine i) (nodeLane i) == some p)).sendD p
      else c
    c.tryTrack
  else c

/-- SEAM_D arrives (R290): a part of the frame it names. -/
def takeSeamD (c : Core) (p : Port) (b : SeamD) : Core :=
  (c.modHp p (fun h => { h with inD := h.inD.filter (fun d => d.fc == b.fc && d.part != b.part) ++ [b] })).tryTrack

/-- A SEAM_X with what earlier frames of the same body brought (R290). -/
def joinX (old : Option SeamX) (b : SeamX) : SeamX :=
  match old.filter (fun x => x.fc == b.fc) with
  | some x => { b with matched := x.matched ++ b.matched, blocks := x.blocks ++ b.blocks }
  | none => b

/-- SEAM_X arrives (R290, R293, R296): once its last frame has come its state blocks are kept for a takeover; after its deadline it
counts no more for the frame. -/
def takeSeamX (c : Core) (p : Port) (b : SeamX) : Core :=
  let b := joinX (c.hport p).inXPart b
  if b.more then c.modHp p (fun h => { h with inXPart := some b })
  else
  let c := c.modHp p (fun h => { h with inXPart := none, lastX := some b, inX := if h.xOver then h.inX else some b })
  if (c.hport p).xOver then c
  else if c.trk.phase == .done then c.adopt p
  else c.tryFinish

end Core

end Sys2Proof.Machine
end

