-- ==== Sys2Proof/Machine/HedgeLink.lean ====
section
/-!
DEFINITION. Link frames as they arrive: acceptance and acknowledgement, repeats, HELLO, link delay, wake-through, and
packets on their way (R253 to R259, R271, R273 to R277).
-/
namespace Sys2Proof.Machine

/-- What became of an acknowledged frame. -/
inductive Outcome where
  | acked | noEcho | givenUp
  deriving DecidableEq, Repr

/-- A frame of this frame's SEAM_X is acknowledged; with its last one the whole is (R293). -/
def HedgePort.ackX (h : HedgePort) (b : SeamX) : HedgePort :=
  let left := h.outXLeft.filter (fun x => x != b)
  { h with outXLeft := left, outXAcked := h.outXAcked || (h.outXLeft.contains b && left.isEmpty) }

namespace Core

/-- The port takes link frames: awake, enabled, LIVE, in NORMAL operation (R244). -/
def hears (c : Core) (p : Port) : Bool :=
  let l := c.port p
  c.fast && l.cfg.mode != 0#2 && l.op == 0#2 && l.mon == .live

/-- A valid frame has come (R274, R277): it leaves the frames delivered, and its sender is there and awake. -/
def heard (c : Core) (p : Port) (body : LinkBody) (lseq : BitVec 4) : Core :=
  let bytes := body.frame lseq
  let c := c.modPort p (fun l => { l with delivered := l.delivered.eraseP (fun d => d.bytes == bytes) })
  c.modHp p (fun h => { h with asleep := false, present := true, wakeTry := none })

/-- An acknowledged frame that is next in order is accepted and acknowledged, and acted on; one among the eight before is
acknowledged again; any other is discarded (R253). -/
def accepted (c : Core) (p : Port) (lseq : BitVec 4) (body : LinkBody) (act : Core → Core) : Core :=
  if !c.hears p then c
  else
    let c := c.heard p body lseq
    let due := (c.hport p).lseqRx
    if lseq == due then
      act ((c.modHp p (fun h => { h with lseqRx := lseq + 1#4 })).sendFrame p (.ack lseq))
    else if decide ((due - lseq).toNat ≤ 8) then c.sendFrame p (.ack lseq)
    else c

/-- A port that carries packets, SYNC and seams: not MISWIRED (R257). -/
def wired (c : Core) (p : Port) : Bool := !(c.hport p).miswired

/-! ### Acknowledgement -/

/-- Records that a packet carried leave their queue on its acknowledgement (R21), or wait again where it was given up. -/
def carriesEnd (c : Core) (x : Tenant × Nat × Bool × Bool) (done : Bool) : Core :=
  let (t, n, _, full) := x
  if done then
    let (q, again) := (c.queue t).leave n full
    (c.modQueue t (fun _ => q)).attnIf again 13
  else c.modQueue t (fun q => q.fix n full false)

/-- What follows when a frame is acknowledged, refused, or given up (R254, R259, R273, R293). -/
def settled (c : Core) (p : Port) (f : TxFrame) (o : Outcome) : Core :=
  match f.carries with
  | some x => c.carriesEnd x (o != .givenUp)
  | none =>
    match f.body with
    | .echoReq =>
      if o == .acked then c.sendFrame p .probe else c.modHp p (fun h => { h with delayRun := none })
    | .seamX b => if o == .acked then (c.modHp p (fun h => h.ackX b)).tryFinish else c
    | .data b =>
      if o == .givenUp && pkDst b != 0x3FF#10 then
        let wait : RelayItem := { bytes := b, held := none, came := c.pw.rtc, notVia := if f.again then none else some p }
        match (if f.again then none else c.hopFor b (some p)) with
        | some q => c.sendPacketOn q b none true
        | none => c.relayPut wait
      else c
    | _ => c

/-- A frame of this port with a number that an acknowledgement of `n` covers: `n` itself, or one numbered before it. -/
def covers (n : BitVec 4) (f : TxFrame) : Bool := f.lseq.any (fun m => decide ((n - m).toNat < 8))

/-- Acknowledge a frame and every earlier one (R253); the named one ends with the given outcome. -/
def acknowledge (c : Core) (p : Port) (n : BitVec 4) (o : Outcome) : Core :=
  let all := (c.hport p).outstanding ++ (c.port p).txq
  if !all.any (fun f => f.lseq == some n) then c
  else
    let done := all.filter (covers n)
    let c := c.modHp p (fun h => { h with outstanding := h.outstanding.filter (fun f => !covers n f) })
    let c := c.modPort p (fun l => { l with txq := l.txq.filter (fun f => !covers n f) })
    done.foldl (fun c f => c.settled p f (if f.lseq == some n then o else .acked)) c

/-- Frames go back to the head of their port's list, behind what goes ahead of every frame. -/
def sendAgain (c : Core) (p : Port) (fs : List TxFrame) : Core :=
  let ahead := fun (g : TxFrame) => decide (g.body.txRank < 2)
  (c.modHp p (fun h => { h with outstanding := [], nakWait := false })).modPort p (fun l =>
    { l with txq := l.txq.takeWhile ahead ++ fs ++ l.txq.dropWhile ahead })

/-- ACK_TIMEOUT (R254): every unacknowledged frame goes out again; the oldest is given up after its third repeat. -/
def ackTimeout (c : Core) (p : Port) : Core :=
  c.when c.fast (fun c =>
    match (c.hport p).outstanding with
    | [] => c
    | f :: rest =>
      if 3 ≤ f.tries then (c.modHp p (fun h => { h with outstanding := rest })).settled p f .givenUp
      else c.sendAgain p ((f :: rest).map (fun g => { g with tries := g.tries + 1 })))

/-- NAK (R255, R259): BUSY asks for a repeat, NO_ECHO ends a delay measurement. -/
def nakked (c : Core) (p : Port) (n : BitVec 4) (reason : Byte) : Core :=
  if reason == 1#8 then c.acknowledge p n .noEcho
  else if reason == 0#8 && (c.hport p).outstanding.any (fun f => f.lseq == some n) then
    c.modHp p (fun h => { h with nakWait := true })
  else c

/-- NAK_BUSY_REPEAT (R255): repeats that do not count toward R254. -/
def nakRepeat (c : Core) (p : Port) : Core :=
  c.when (c.fast && (c.hport p).nakWait) (fun c => c.sendAgain p (c.hport p).outstanding)

/-! ### Packets -/

/-- A record of an RPT or EVT packet with the frame count of its generation (R367). -/
def datedRecord (base : BitVec 32) (r : List Byte) : List Byte × BitVec 32 :=
  (r, base + BitVec.ofNat 32 (BitVec.ofNat 16 (leAt r 14 2) - base.truncate 16).toNat)

/-- Place dated records in order; a TILE_LOST and the TILE_LOST_IDS after it stand or fall together (R368). -/
def placeDated (c : Core) (t : Tenant) (origin : Addr) : List (List Byte × BitVec 32) → Core
  | [] => c
  | [x] => c.placeRec t x.1 x.2 origin
  | x :: y :: l =>
    if isEventOf 0x10#8 x.1 && isEventOf 0x11#8 y.1 then (c.placePair t x.1 y.1 x.2 origin).placeDated t origin l
    else (c.placeRec t x.1 x.2 origin).placeDated t origin (y :: l)

/-- Records of an RPT or EVT packet take their places in the tenant's queue, each with the frame count of its generation
(R21, R23, R367). -/
def takeRecords (c : Core) (b : List Byte) : Core :=
  let pay := pkPayload b
  let origin : Addr := BitVec.ofNat 10 (leAt pay 0 2)
  let base : BitVec 32 := BitVec.ofNat 32 (leAt pay 2 4)
  let recs := (chunks 16 (pay.drop 8)).take (byteAt pay 6).toNat
  c.placeDated (pkTenant b) origin (recs.map (datedRecord base))

/-- RPT_PACKET: an RPT or EVT packet for this tile. -/
def takeReportPacket (c : Core) (b : List Byte) : Core :=
  c.when (c.fast && pkIntact b && (pkKind b == 3 || pkKind b == 4)) (fun c => c.takeRecords b)

/-- Panel root: a JOIN_REQ. -/
def atRoot (c : Core) (f : Core → Core) : Core := c.when (c.fast && c.hg.panelRoot) f

/-- A HEDGE packet acts by its opcode (Table HEDGE-3). -/
def hedgeAct (c : Core) (src : Addr) (op : Nat) (b : List Byte) : Core :=
  match op with
  | 1 => c.atRoot (fun c => c.rootJoin src (Hello.ofBytes b) (BitVec.ofNat 10 (leAt b 21 2)) (BitVec.ofNat 3 (byteAt b 23).toNat))
  | 2 => c.admitBack (.grant (JoinGrant.ofBytes b))
  | 3 => c.admitBack (.refuse (BitVec.ofNat 48 (leAt b 0 6)) (RefuseReason.ofCode (byteAt b 6)))
  | 4 => c.takeRoster (Roster.ofBytes b)
  | 5 => c.atRoot (fun c => c.takeReport src (TileReport.ofBytes b))
  | 6 => c.atRoot (fun c => c.rootLoss src (LossReport.ofBytes b))
  | 7 => c.takeAdvert (PanelAdvert.ofBytes b)
  | 8 => c.atRoot (fun c => c.takeGrant (PanelGrant.ofBytes b))
  | 9 => if c.hg.panelRoot then c else (c.modHg (fun h => { h with routes := (routesOf b).take 64 })).relayRetry
  | _ => c

/-- A HEDGE packet for this tile (R261): under the hedge key where one is held, but for the three JOIN packets. -/
def takeHedge (c : Core) (b : List Byte) : Core :=
  let op := (pkOp b).toNat
  let good := match c.nvm.hedgeKey with
    | none => true
    | some k => if pkAuth b then tagOk k b else decide (1 ≤ op) && decide (op ≤ 3)
  c.when good (fun c => c.hedgeAct (pkSrc b) op (pkPayload b))

/-- A packet for this tile acts by its KIND (Table PKT-1). -/
def takePacket (c : Core) (b : List Byte) : Core :=
  match pkKind b with
  | 2 => c.present (.foreign (pkUrg b) b)
  | 3 | 4 => c.takeReportPacket b
  | 8 => c.takeHedge b
  | _ => c.takeCmd b false

/-- The PANEL_ADVERT of a root with provisional addresses tells the way back to it (R264). -/
def noteWay (c : Core) (b : List Byte) (p : Port) : Core :=
  if pkKind b == 8 && pkOp b == 7#8 then
    let a := PanelAdvert.ofBytes (pkPayload b)
    let rest := c.hg.advertVia.filter (fun x => x.1 != pkSrc b)
    c.modHg (fun h => { h with advertVia := if a.provisional && a.rootUid != h.lowestRoot then rest ++ [(pkSrc b, p)] else rest })
  else c

/-- A packet arrives in a DATA frame (R271, R273, R346): for this tile, for every tile once, or to be relayed. -/
def arrive (c : Core) (b : List Byte) (p : Port) : Core :=
  if !pkIntact b then c
  else if pkDst b == 0x3FF#10 then
    if c.wasSeen b || (panelBroadcast b && c.isWire p) then c
    else
      let c := (c.noteSeen b).noteWay b p
      let c := if pkTtl b ≤ 1 then c else c.sendOut (setTtl b (pkTtl b - 1)) (some p)
      c.takePacket b
  else if c.forMe b then c.takePacket b
  else c.relay b (some p)

/-- DATA (R253, R255, R273): refused with BUSY where the relay buffer has no room for its packet. -/
def takeData (c : Core) (p : Port) (lseq : BitVec 4) (b : List Byte) : Core :=
  if c.hears p && lseq == (c.hport p).lseqRx && !c.relayRoom b.length then
    (c.heard p (.data b) lseq).sendFrame p (.nak lseq 0#8)
  else c.accepted p lseq (.data b) (fun c => if c.wired p then c.arrive b p else c)

/-! ### HELLO, JOIN and ADMIT -/

/-- MISWIRED (R257): on TILE ports only. -/
def checkWiring (c : Core) (p : Port) (h : Hello) : Core :=
  if !c.isTile p then c.modHp p (fun x => { x with miswired := false })
  else
    let bad := h.port.toNat != (oppositePort p).val
    let again := (c.hport p).miswired && (c.hport p).partner.any (fun g => g.port == h.port)
    let c := if bad && !again then c.eventCustodian 0x17 [BitVec.ofNat 8 p.val, h.port.zeroExtend 8] else c
    c.modHp p (fun x => { x with miswired := bad })

/-- HELLO (R253, R256 to R258, R267, R297): always accepted; it sets the expectation, and what it says is kept. The link to a tile that
the roster has as LOST is back, and this tile asks that tile's root to take it in. -/
def takeHello (c : Core) (p : Port) (lseq : BitVec 4) (h : Hello) : Core :=
  c.when (c.hears p) (fun c =>
    let c := (c.heard p (.hello h) lseq).modHp p (fun x => { x with lseqRx := lseq + 1#4 })
    let c := (c.sendFrame p (.ack lseq)).checkWiring p h
    let c := (c.modHp p (fun x => { x with partner := some h })).leaveAlone p
    let back := (c.hg.roster.byUid h.uid).any (fun t => t.lost)
    ((if back then c.rejoin (some p) else c.tryJoin)).relayRetry)

/-- JOIN at the sponsor (R267): it goes on as JOIN_REQ to the panel root. -/
def takeJoin (c : Core) (p : Port) (lseq : BitVec 4) (h : Hello) (a : Addr) : Core :=
  c.accepted p lseq (.join h a) (fun c =>
    if c.wired p && c.hg.confirmed then
      let port : BitVec 3 := BitVec.ofNat 3 p.val
      let c := c.modHg (fun x => { x with joinWait := x.joinWait.filter (fun w => w.2 != h.uid) ++ [(p, h.uid)] })
      c.toRoot 1 (h.bytes ++ bvLe 2 a ++ [port.zeroExtend 8]) (fun c => c.rootJoin c.hg.addr h a port)
    else c)

/-- ADMIT at the joining tile (R267). -/
def takeAdmit (c : Core) (p : Port) (lseq : BitVec 4) (a : Admission) : Core :=
  c.accepted p lseq (.admission a) (fun c => if c.wired p then c.takeAdmission p a else c)

/-! ### Wake-through, keep-alive, link delay -/

/-- DOZE (R274). -/
def takeDoze (c : Core) (p : Port) (lseq : BitVec 4) (state : Byte) : Core :=
  c.accepted p lseq (.doze state) (fun c => c.modHp p (fun h =>
    { h with asleep := true, partner := h.partner.map (fun g => { g with state := BitVec.ofNat 4 state.toNat }) }))

/-- WAKE takes the tile to its target (R35, R276): Run from Quiet; a bare tile stays in BARE. -/
def wakeTo (c : Core) (target : Byte) : Core :=
  let t := Phase.ofCode target.toNat
  if t == .run && c.pw.phase == .quiet then
    ((c.abortEntry).modPw (fun p => { p with reqState := false })).goAwake .run
  else if t.isAwake then c.abortEntry else c

/-- WAKE (R276): one of scope PANEL whose number is new is forwarded on the other TILE ports. DEDUCED (log 18): scope 1 is
PANEL, and a repeated number has no further effect. -/
def takeWake (c : Core) (p : Port) (lseq : BitVec 4) (target : Byte) (number : Word) (scope : Byte) : Core :=
  c.accepted p lseq (.wake target number scope) (fun c =>
    if !c.wired p then c
    else if scope == 1#8 then
      if c.hg.wakesSeen.contains number then c
      else
        let c := c.modHg (fun h => { h with wakesSeen := number :: h.wakesSeen })
        let c := (ports.filter (fun q => q != p && c.isTile q && c.linkUp q)).foldl
          (fun c q => c.sendFrame q (.wake target number scope)) c
        c.wakeTo target
    else c.wakeTo target)

/-- This tile wakes others by its wake policy (R35, R276). DEDUCED (log 18): wake numbers count from the low half of the UID. -/
def wakeOthers (c : Core) : Core :=
  let policy := c.prof.wakePolicy
  if policy == 0 then c
  else
    let n := c.hg.wakeNo + 1#16
    let num : Word := n + c.hg.uid.truncate 16
    let c := c.modHg (fun h => { h with wakeNo := n, wakesSeen := num :: h.wakesSeen })
    (ports.filter (fun q => c.isTile q && c.linkUp q)).foldl
      (fun c q => c.sendFrame q (.wake 5#8 num (if policy == 2 then 1#8 else 0#8))) c

/-- KA (R277). -/
def takeKa (c : Core) (p : Port) (state : Byte) : Core :=
  c.when (c.hears p && c.isWire p) (fun c =>
    (c.heard p (.ka state) 0#4).modHp p (fun h => { h with partner := h.partner.map (fun g => { g with state := BitVec.ofNat 4 state.toNat }) }))

/-- KEEPALIVE_SEND (R277). -/
def sendKa (c : Core) (p : Port) : Core :=
  c.when (c.fast && c.isWire p && c.linkUp p && !(c.hport p).asleep) (fun c => c.sendFrame p (.ka (c.pw.phase.code.zeroExtend 8)))

/-- KEEPALIVE_LOSS (R277). -/
def keepaliveLoss (c : Core) (p : Port) : Core :=
  c.when (c.fast && c.isWire p && c.linkUp p && (c.hport p).present && !(c.hport p).asleep) (fun c => c.partnerLost p .keepalive)

/-- ECHO_REQ (R249, R259): the port goes into ECHO once its ACK is out, or refuses. -/
def takeEchoReq (c : Core) (p : Port) (lseq : BitVec 4) : Core :=
  let g := (c.port p).cfg
  if c.hears p && lseq == (c.hport p).lseqRx && c.isWire p && (decide (12 < g.lead.toNat) || decide (12 < g.tail.toNat)) then
    ((c.heard p .echoReq lseq).modHp p (fun h => { h with lseqRx := lseq + 1#4 })).sendFrame p (.nak lseq 1#8)
  else c.accepted p lseq .echoReq (fun c => c.modPort p (fun l => { l with pendOp := some 3#2 }))

/-- QUICKSET to a tile that is awake (R252). -/
def takeQuickset (c : Core) (p : Port) : Core :=
  c.when (c.hears p) (fun c => (c.heard p .quickset 0#4).sendFrame p .ready)

/-- READY (R274, R275): the partner is awake, and the waiting frames go out. -/
def takeReady (c : Core) (p : Port) : Core := c.when (c.hears p) (fun c => c.heard p .ready 0#4)

/-- WAKE_THROUGH_TIMEOUT (R275): another attempt at once, and after the third the partner is lost. -/
def wakeTimeout (c : Core) (p : Port) : Core :=
  match (c.hport p).wakeTry with
  | none => c
  | some n =>
    c.when c.fast (fun c =>
      if 3 ≤ n + 1 then c.partnerLost p .wakeFail
      else (c.modHp p (fun h => { h with wakeTry := some (n + 1) })).sendFrame p .quickset)

/-- DELAY_MEASURE (R259): sixteen echoes. -/
def measureDelay (c : Core) (p : Port) : Core :=
  c.when (c.fast && c.linkUp p) (fun c =>
    (c.modHp p (fun h => { h with delayRun := some { left := 15, sum := 0, got := 0, launch := none } })).sendFrame p .echoReq)

end Core

/-- The mean delay of a run, in 1/16 tick (R259): each echo gives twice the delay in ticks. -/
def meanDelay (sum : Int) (got : Nat) : BitVec 16 := BitVec.ofInt 16 (max 0 (min 65535 (divr (8 * sum) got)))

namespace Core

/-- DELAY_PROBE (R250, R252, R259): the echo of this port's probe; any other probe is ignored. -/
def takeProbe (c : Core) (p : Port) (edge : Nat) (echoD : Nat) : Core :=
  if !c.hears p then c
  else
    let c := c.heard p .probe 0#4
    match (c.hport p).delayRun with
    | none => c
    | some r =>
      match r.launch with
      | none => c
      | some at0 =>
        let sum := r.sum + ((edge : Int) - at0 - echoD - 4)
        let got := r.got + 1
        if r.left == 0 then c.modHp p (fun h => { h with delayRun := none, delay := meanDelay sum got })
        else
          (c.modHp p (fun h => { h with delayRun := some { left := r.left - 1, sum := sum, got := got, launch := none } })).sendFrame p .echoReq

/-- RPT_SEND (R21, R23, R367): the leading records of a queue whose home tile is another go out, one packet at a time. -/
def sendRecords (c : Core) (t : Tenant) : Core :=
  let home := (c.tenantRec t).home
  let items := leadRun c.hg.addr (c.queue t).items
  c.when (c.fast && c.isDefined t && !c.isHome t && !items.isEmpty && !items.any (fun i => i.isFixed)) (fun c =>
    match c.nextHop home with
    | none => c
    | some p =>
      let evt := items.all (fun i => i.isEvent c.hg.addr)
      match c.originate t evt items home 15 with
      | (c, none) => c
      | (c, some b) => c.sendPacketOn p b (some (t, recCount items, evt, hasFull items)) false)

/-- RELAY_WAIT_EXPIRY (R273): a packet has waited 10 s for a route. -/
def relayExpire (c : Core) (i : Nat) : Core :=
  match c.hg.relay[i]? with
  | none => c
  | some x =>
    c.when c.fast (fun c =>
      let c := c.modHg (fun h => { h with relay := h.relay.eraseIdx i })
      if x.held.isSome then c else c.dropPacket x.bytes)

end Core

end Sys2Proof.Machine
end

