-- ==== Sys2Proof/Machine/SyncOps.lean ====
section
/-!
DEFINITION. Frame alignment: SYNC and its parent, the phase error and its correction, the synchronising reset, and the
timekeeper's succession (R278 to R288, R295).
-/
namespace Sys2Proof.Machine

/-- Idle ticks of a profile's frame (R15). -/
def Profile.idleTicks (p : Profile) : Int :=
  (p.frameTicks : Int) - (p.syncT + p.noiseT + p.mutualT + p.selfT + p.seamT + p.computeT + p.reportT : Nat)

/-- The stage of R279. -/
def syncStage : Int := 20608

namespace Core

/-- The TILE ports whose partner delivered a valid SYNC in this frame or the one before, the least depth first among equals
the lower port (R278). -/
def bestParent (c : Core) : Option (Port × Nat) :=
  ports.foldl (fun (b : Option (Port × Nat)) p =>
    match (if c.isTile p && c.linkUp p then (c.hport p).syncD else none) with
    | none => b
    | some d => match b with
      | none => some (p, d.toNat)
      | some x => if d.toNat < x.2 then some (p, d.toNat) else b) none

/-- Choose the sync parent (R278, R282): a depth of 15 or more is none, and raises SYNC_DEPTH once. -/
def chooseParent (c : Core) : Core :=
  let best := c.bestParent
  let deep := best.any (fun x => decide (14 ≤ x.2))
  let c := if deep && !c.hg.tooDeep then c.eventCustodian 0x1A [BitVec.ofNat 8 ((best.map (fun x => x.2 + 1)).getD 0)] else c
  let pick := if deep then none else best
  let parent := pick.map (fun x => x.1)
  let depth : BitVec 4 := match pick with
    | some x => BitVec.ofNat 4 (x.2 + 1)
    | none => 15#4
  let c := if parent == c.hg.parent then c else c.modHg (fun h => { h with p := 0, phi := 0, lockedFor := 0 })
  c.modHg (fun h => { h with parent := parent, depth := depth, tooDeep := deep || (h.tooDeep && best.isNone) })

/-- The frame in progress ends at once, as the partial frame, and the next one starts at a panel boundary (R283, R141). -/
def alignTo (c : Core) (start : Int) : Core :=
  let c := c.syncReset
  let c := c.modHg (fun h => { h with realign := some start, everSync := true })
  let c := c.modNode (fun n => { n with isPartial := true })
  let c := c.modAcq (fun a => { a with slot := none })
  { c with trk := { c.trk with phase := .idle } }

/-- What a valid SYNC of the parent says (R106, R281): the panel's root and epoch, grants, the hop set, the plan digest. -/
def takeSyncBody (c : Core) (b : SyncBody) (fc : BitVec 32) : Core :=
  let bad := planDigest c.prof != b.digest
  let c := if bad && !c.hg.planMismatch then c.eventCustodian 0x08 ([0xFF#8] ++ bvLe 2 b.digest) else c
  let mine := (b.grants.filter (fun g => g.tile == c.hg.addr)).map (fun g => g.id)
  let differs := b.hopCur != c.acq.hop
  let pend := if differs then some (b.hopCur, fc + 1#32)
    else if b.changeIn == 0#8 then none else some (b.hopNext, b.fc + b.changeIn.zeroExtend 32)
  let c := c.modAcq (fun a => { a with hopPend := pend, hopEdge := differs })
  c.modHg (fun h => { h with epoch := b.epoch, rootAddr := b.tkAddr, planMismatch := bad, grants := h.grants ++ mine, syncBody := some b,
                             fc := fc })

/-- Phase error and correction (R282, R283, R288); a tile whose plan differs from the timekeeper's scans on its own (R106). `edge` is the start edge in ticks after this tile's boundary; the boundary
the error is taken from is the nearer of the present one and the next (DEDUCED, log 18). -/
def correctPhase (c : Core) (p : Port) (edge : Int) (b : SyncBody) : Core :=
  let ft : Int := c.prof.frameTicks
  let d : Int := (c.hport p).delay.toNat
  let stage := syncStage * b.depth.toNat
  let errOf := fun (e : Int) => 16 * (e - 64 - stage - 2) - d
  let next := decide ((errOf (edge - ft)).natAbs < (errOf edge).natAbs)
  let err := errOf (if next then edge - ft else edge)
  let first := !c.hg.everSync
  let alone := planDigest c.prof != b.digest
  let c := c.takeSyncBody b (if next then b.fc - 1#32 else b.fc)
  let c := c.modHg (fun h => { h with syncThis := true, framesNoSync := 0, ranFc := h.fc })
  let start := edge - 2 - rhu d 4 - 64 - stage + ft
  if alone then c
  else if first || decide (512 < err.natAbs) then (c.modHg (fun h => { h with fc := b.fc })).alignTo start
  else
    let t := err - c.hg.p + c.hg.phi
    let q := rhu t 3
    let pNew := c.hg.p + q
    let k := rhu pNew 4
    if c.prof.idleTicks + c.hg.idleAdj + k < 0 then (c.modHg (fun h => { h with fc := b.fc })).alignTo start
    else
      c.modHg (fun h => { h with p := pNew - 16 * k, phi := t - 8 * q, idleAdj := h.idleAdj + k, corrSum := h.corrSum + k,
                                 lockedFor := min 256 (h.lockedFor + 1) })

/-- A tile in Run that runs its frames. -/
def scanning (c : Core) : Bool := c.pw.phase == .run && c.acq.running

/-- A root gives way to a timekeeper of a higher epoch, and of the same epoch to one whose panel root has the lower UID (R29, R295). -/
def givesWay (c : Core) (p : Port) (b : SyncBody) : Bool :=
  decide (c.hg.epoch.toNat < b.epoch.toNat) ||
  (b.epoch == c.hg.epoch && (c.hport p).partner.any (fun h => decide (h.lowestRoot.toNat < c.hg.uid.toNat)))

/-- SYNC (R278, R281, R282, R288, R295): of two epochs the higher is taken. -/
def takeSync (c : Core) (p : Port) (edge : Int) (b : SyncBody) : Core :=
  if !c.hears p then c
  else
    let c := c.heard p (.sync b) 0#4
    let lower := decide (b.epoch.toNat < c.hg.epoch.toNat)
    let held := ports.any (fun q => q != p && (c.hport q).syncD.isSome)
    if !c.isTile p || !c.linkUp p || (c.hg.panelRoot && !c.givesWay p b) || (lower && held) then c
    else
      let c := if c.hg.panelRoot then c.yieldRoles b.tkAddr else c
      let c := if b.epoch == c.hg.epoch then c
        else { c with hp := c.hp.map (fun h => { h with syncD := none }) }
      let c := (c.modHp p (fun h => { h with syncD := some b.depth, syncAge := 0 })).chooseParent
      if c.hg.parent != some p then c
      else if c.scanning then c.correctPhase p edge b
      else c.modHg (fun h => { h with everSync := true, framesNoSync := 0, syncThis := true }) |>.takeSyncBody b b.fc

/-- A SYNC that still waits on a port, its partner being woken, makes place for that of the next frame (R274; DEDUCED, log 18). -/
def dropSync (c : Core) (q : Port) : Core :=
  let isSync := fun (f : TxFrame) => match f.body with
    | .sync _ => true
    | _ => false
  c.modPort q (fun l => { l with txq := l.txq.filter (fun f => !isSync f) })

/-- SYNC_SEND (R279): the timekeeper, or a tile that has its parent's SYNC of the frame. -/
def sendSync (c : Core) : Core :=
  let may := c.fast && (if c.hg.panelRoot then c.acq.running || c.hg.tk.timing else c.hg.depth != 15#4 && c.hg.syncThis)
  match (if may then c.hg.syncBody else none) with
  | none => c
  | some b =>
    (ports.filter (fun q => c.isTile q && c.linkUp q)).foldl (fun c q => (c.dropSync q).sendFrame q (.sync { b with depth := c.hg.depth })) c

/-- SYNC_LOST (R288): own boundaries again, at the rate and phase as they stood. -/
def syncLost (c : Core) : Core :=
  c.when (c.scanning && !c.hg.panelRoot && decide (3 ≤ c.hg.framesNoSync)) (fun c =>
    c.modHg (fun h => { h with parent := none, depth := 15#4, p := 0, phi := 0, lockedFor := 0 }))

/-- Rank of this tile in the succession: tiles of lower UID among those of the roster, without the lost timekeeper (R295). -/
def succession (c : Core) : Nat :=
  (c.hg.roster.live.filter (fun t => t.addr != c.hg.rootAddr && decide (t.uid.toNat < c.hg.uid.toNat))).length

/-- TIMEKEEPER_CLAIM (R295): at a boundary, after 3 + 4k frames without a valid SYNC. -/
def claim (c : Core) : Core :=
  c.when (c.scanning && !c.hg.panelRoot && c.hg.roster.live.any (fun t => t.uid == c.hg.uid) &&
      decide (3 + 4 * c.succession ≤ c.hg.framesNoSync)) (fun c => c.takeRoles.composeSync)

/-- ROOT_HANDOVER (R269). -/
def handover (c : Core) : Core :=
  c.when (c.fast && c.hg.handoverDue && !c.hg.panelRoot) (fun c => c.takeRoles.composeSync)

/-- XTRIM moved by some codes against a sum of corrections, within its ten bits (R284). -/
def xtrimMoved (x : BitVec 10) (sum : Int) (codes : Nat) : BitVec 10 :=
  BitVec.ofNat 10 (if 0 < sum then x.toNat - codes else min 1023 (x.toNat + codes))

/-- XTRIM_ADJUST (R284): after 64 frames XTRIM moves against the summed corrections; by how many codes, one at least, is open (log 3). -/
def adjustXtrim (c : Core) : Core :=
  c.when (c.fast && !c.hg.panelRoot && decide (64 ≤ c.hg.corrFrames)) (fun c =>
    let sum := c.hg.corrSum
    let c := c.modHg (fun h => { h with corrSum := 0, corrFrames := 0 })
    if sum == 0 then c
    else
      let x := xtrimMoved c.hg.xtrim sum (max 1 (Config.xtrimAmount c.free c.hg.xtrim sum))
      { c with free := c.free + 1, hg := { c.hg with xtrim := x } })

/-- FRAME_TIMING_STOP (R287). -/
def timingStop (c : Core) : Core :=
  c.when (c.hg.tk.timing && decide (3 ≤ c.hg.tk.framesQuiet)) (fun c => c.modHg (fun h => { h with tk := { h.tk with timing := false } }))

/-- PANEL_ROOT_ELECTION (R262). -/
def electPanelRoot (c : Core) : Core :=
  c.when (c.fast && !c.hg.panelRoot && !c.hg.hasRoster && c.lowestKnown == c.hg.uid) becomeRoot

/-- HEDGE_ROOT_ELECTION (R265). -/
def electHedgeRoot (c : Core) : Core := c.when (c.fast && c.hg.panelRoot && !c.hg.hedgeRoot) becomeHedgeRoot

/-- JOIN_RETRY (R267). -/
def joinRetry (c : Core) : Core :=
  c.when (c.fast && c.hg.joinRefused) askJoin

/-- CONTACT_ID_FREE (R294): the ids of a lost tile are free again. -/
def freeIds (c : Core) (tile : Addr) : Core :=
  c.when c.fast (fun c => c.modHg (fun h => { h with lost := h.lost.filter (fun l => l.1 != tile) }))

/-- HEDGE_ROUTES (R272). -/
def takeRoutes (c : Core) (l : List RouteEntry) : Core :=
  c.when (c.fast && !c.hg.panelRoot) (fun c => (c.modHg (fun h => { h with routes := l.take 64 })).relayRetry)

/-- PANEL_REQUEST_RETRY (R266). -/
def panelRetry (c : Core) : Core := c.when (c.fast && c.hg.panelRoot && c.hg.panelRefused) sendAdvert

end Core

end Sys2Proof.Machine
end

