-- ==== Sys2Proof/Machine/FrameOps.lean ====
section
/-!
DEFINITION. The frame boundary: what ends with the frame before it, the decision to leave Run, and all that a frame begins with
(R15 to R20, R26, R36, R42, R52, R56, R85, R90, R93, R148, R166, R191, R278, R287, R331, R336, R376 to R379, R383, R387, R388,
R391, R441; DEDUCED, log 28: the order among them where the manual gives none).
-/
namespace Sys2Proof.Machine

/-- An exclusion counts down at each boundary, and its last frame stands until the step is measured (R148). -/
def NodeSt.tick (n : NodeSt) : NodeSt := { n with excl := n.excl.map (fun k => max 1 (k - 1)) }

/-- The frame that a boundary begins, where it is a MAINT frame: the first or a further one of its run. -/
inductive Turn where
  | seek | fingerOn | fingerNew | testNew | testOn
  | slicecal (converter : Fin 2)
  deriving DecidableEq, Repr

/-- The MAINT frame of a turn. -/
def Turn.maint : Turn → Maint
  | .seek => .seek
  | .fingerOn | .fingerNew | .testNew | .testOn => .selftest
  | .slicecal n => .slicecal n

/-- The task a turn shows in RPRSTAT (Table REPAIR-7). -/
def Turn.task : Turn → BitVec 4
  | .seek | .fingerOn | .fingerNew => 0#4
  | .testNew | .testOn => 2#4
  | .slicecal _ => 1#4

/-- The calibrated slice returns to service with its new trims, and the next slice goes out (R377). -/
def SliceRot.next' (r : SliceRot) : SliceRot :=
  { r with doneCal := false, out := r.out + 1, trims := r.trims.set r.out.val r.newTrim }

/-- A slice that has failed leaves service (R374, R379). -/
def SliceRot.dropFailed (r : SliceRot) : SliceRot :=
  match r.failDue with
  | some s => { r with failDue := none, out := s, failed := r.failed.filter (fun f => f != s) ++ [s] }
  | none => r

namespace Core

/-! ### The end of the frame before -/

/-- Records that no REPORT slot has placed, grants that no candidate took (R166), and exclusions. -/
def endFrame (c : Core) : Core :=
  let c := c.placeOut c.trk.out
  let back := c.hg.grants.foldl (fun (m : BitVec 64) i => m ||| (1#64 <<< i.toNat)) 0#64
  let c := c.modTrk (fun t => { t with out := [], returned := t.returned ||| back })
  let c := c.modHg (fun h => { h with grants := [] })
  if c.acq.running then c.modNode (fun n => { n with nodes := n.nodes.map NodeSt.tick }) else c

/-- A boundary is counted (R281, R282, R284, R295, R331). -/
def countBoundary (c : Core) : Core :=
  let root := c.hg.panelRoot
  c.modHg (fun h => { h with
    fc := h.fc + 1#32, ranFc := h.fc + 1#32, sub := 0#24, subPhase := 0#4, ranBoundary := true, realign := none, idleAdj := 0
    corrFrames := if root then 0 else h.corrFrames + 1
    framesNoSync := if root || h.syncThis then 0 else h.framesNoSync + 1
    syncThis := false })

/-- A SYNC counts for its frame and the next (R278). -/
def HedgePort.ageSync (h : HedgePort) : HedgePort :=
  if h.syncD.isNone then h
  else if 2 ≤ h.syncAge + 1 then { h with syncD := none, syncAge := 0 }
  else { h with syncAge := h.syncAge + 1 }

/-- The sync parent at a boundary (R278). -/
def ageParents (c : Core) : Core :=
  if c.hg.panelRoot then c else ({ c with hp := c.hp.map HedgePort.ageSync }).chooseParent

/-! ### Leaving Run -/

/-- The state a boundary leaves Run for, and whether by REQ (R28, R36, R52, R376, Table POWER-2); the timekeeper of a panel that runs
frames goes no lower than Quiet (R286). -/
def leaveTo (c : Core) : Option (Phase × Bool) :=
  let down := fun (t : Phase) => if t.isAsleep && c.panelRuns then .quiet else t
  if c.pw.req != 0#4 then some (down (Phase.ofCode c.pw.req.toNat), true)
  else if c.pw.idleDue && c.idleTarget != .run then some (down c.idleTarget, false)
  else if !c.mayRun then some (.quiet, false)
  else none

/-- Runs that only Run allows end with WRONG_STATE (R356; DEDUCED, log 28). -/
def cancelRuns (c : Core) : Core :=
  let wrong : List Byte := [4#8, 5#8]
  let c := match c.node.seek with
    | some s => (c.modNode (fun n => { n with seek := none })).answer s.ctx 0x43#8 stWrongState wrong
    | none => c
  let c := match c.rep.fingerWait with
    | some x => (c.modRep (fun r => { r with fingerWait := none })).answer x 0x83#8 stWrongState wrong
    | none => c
  let c := match c.rep.finger with
    | some r => (c.modRep (fun s => { s with finger := none })).answer r.ctx 0x83#8 stWrongState wrong
    | none => c
  match c.rep.testCtx with
  | some x => (c.modRep (fun r => { r with testCtx := none, testDue := r.bgDue.getLsbD 1 || !r.suspects.isEmpty })).answer x 0x53#8 stWrongState wrong
  | none => c

/-- The tile leaves Run at a boundary (R19, R50, R52, R191, R356, R441): a Doze entry is decided, or Quiet is entered, where a
swing change that waited is applied with nothing to wait for. -/
def leaveRun (c : Core) (t : Phase) (byReq : Bool) : Core :=
  let c := (c.cancelRuns.applyDeferred true).modAcq (fun a => { a with slot := none, maint := none })
  if t.isAsleep then c.decideEntry t byReq
  else
    let c := (c.leaveFrames.setPhase .quiet).modAcq (fun a => { a with running := false })
    let c := c.modPw (fun p => { p with req := 0#4, idleDue := false, reqState := byReq && c.keptBelowFloor t, pump := false })
    match c.acq.swingPend with
    | some w => c.acceptSwing w.high w.forced
    | none => c

/-! ### What a frame begins with -/

/-- Frames begin (R56, R287, R441): the synchronising reset has come with the entry to Run, and a return from a Doze entry
resumes without one. -/
def startFrames (c : Core) : Core :=
  if c.acq.running then c
  else
    let c := if c.acq.joining then c else c.syncReset
    (c.modAcq (fun a => { a with running := true, joining := false })).modHg (fun h => { h with tk := { h.tk with timing := false } })

/-- An announced swing change is applied (R85). -/
def swingStep (c : Core) : Core :=
  match c.acq.swingAnn with
  | some high => (c.modAcq (fun a => { a with swingAnn := none })).applySwing high
  | none => c

/-- A committed profile takes effect (R363). -/
def profileStep (c : Core) : Core :=
  match c.newProf with
  | some (p, slot, gen) =>
    let image := (c.slotOf slot).body
    (({ c with newProf := none }).select slot gen image).adoptProfile p
  | none => c

/-- Place of a set in HOP_ORDER. -/
def hopIndex (c : Core) (h : Nat) : Nat := (c.prof.hopSets.findIdx? (fun x => x == h)).getD 0

/-- The hop set of the frame (R26, R107, R110, R281): an announced set takes effect at its frame. DEDUCED (log 13): before any set has
been announced, and when the plan leaves the current set out, it is the first of HOP_ORDER. -/
def hopStep (c : Core) : Core :=
  let c := if c.prof.hopSets.contains c.acq.hop.toNat then c
    else c.modAcq (fun a => { a with hop := BitVec.ofNat 3 (c.prof.hopOrder 0), surveyPtr := 1 })
  match c.acq.hopPend with
  | none => c
  | some (h, f) =>
    if (c.hg.fc - f).toInt < 0 then c
    else
      let moved := h != c.acq.hop
      let c := c.modAcq (fun a => { a with hopPend := none, hopEdge := false })
      if moved then
        (c.modAcq (fun a => { a with hop := h, surveyPtr := c.hopIndex h.toNat + 1 })).modTele (fun t => { t with hops := t.hops + 1 })
      else c

/-- A neighbour's swing change takes effect at the boundary it announced: a range change on the lanes that decode it (R146,
R147). -/
def farSwing (c : Core) (p : Port) : Core :=
  let h := c.hport p
  if !c.isTile p || h.swingNow == h.swingNext then c
  else
    let c := c.modHp p (fun h => { h with swingNow := h.swingNext })
    (List.range 3).foldl (fun c l =>
      c.excludeLane l ((List.range 24).filter (fun k => c.lanePort k l == some p))) c

/-- A port's part of the frame (R33, R290, R296). -/
def portFrame (c : Core) (p : Port) : Core :=
  let fc := c.hg.fc
  let mon := (c.port p).mon
  let lost := c.isTile p && (mon == .brk || mon == .severed)
  c.modHp p (fun h => { h with
    inH := h.inH.filter (fun b => b.fc == fc), inD := h.inD.filter (fun b => b.fc == fc), inX := h.inX.filter (fun b => b.fc == fc)
    inXPart := none, outX := none, outXLeft := [], outXAcked := false, xOver := false, edge := mon != .live, uncertain := lost })

/-- The registers of the frame at its start. -/
def freshFrame (c : Core) : Core :=
  let c := ports.foldl portFrame (ports.foldl farSwing c)
  let c := c.modAcq (fun a => { a with slot := some .sync, maint := none, sagged := false, noiseGiven := false, selfRan := false,
                                       checks := [], legChecks := [] })
  let c := (c.modNode (fun n => { n with isPartial := false })).modTrk (fun t => { t with phase := .idle, waterNow := false })
  c.modRep (fun r => { r with task := 0#4 })

/-- A self-test frame is due with no contact present (R385, R387, R388). -/
def testNow (c : Core) : Bool :=
  match c.rep.selftest with
  | none => c.rep.testDue
  | some r => r.frames == 0 || c.acq.maintDue.contains .selftest

/-- The MAINT frame that a boundary begins (R142, R379, R383, R387, R389): seek and fingerprint frames follow one another; the
self-test of a suspect line runs after 2 s whatever the contacts. -/
def nextTurn (c : Core) : Option Turn :=
  let free := !c.hasContact
  if (c.node.seek.bind (fun s => s.frame)).isSome then some .seek
  else if c.rep.finger.isSome then some .fingerOn
  else if c.acq.maintDue.contains .selftest && c.rep.selftest.isNone then some .testNew
  else if free && c.rep.fingerWait.isSome then some .fingerNew
  else if free && c.testNow then some (if c.rep.selftest.isNone then .testNew else .testOn)
  else ([0, 1] : List (Fin 2)).findSome? (fun n => if c.acq.maintDue.contains (.slicecal n) then some (.slicecal n) else none)

/-- A self-test run begins; `forced` tells that its first frame is a normal frame's forced slot (R388). -/
def startTest (c : Core) (forced : Bool) : Core :=
  let run : SelfTestRun := { frames := 0, first := [], second := [], drift := 0, forced := forced, ctx := c.rep.testCtx }
  c.modRep (fun r => { r with selftest := some run, testCtx := none })

/-- A MAINT frame begins (R17). -/
def startTurn (c : Core) (t : Turn) : Core :=
  let c := c.modAcq (fun a => { a with maint := some t.maint, maintDue := a.maintDue.filter (fun m => m != t.maint) })
  let c := c.modRep (fun r => { r with task := t.task })
  match t with
  | .testNew => c.startTest false
  | .fingerNew =>
    match c.rep.fingerWait with
    | some x =>
      let run : FingerRun := { ctx := x, frames := 0, x := List.replicate 768 0, scn := List.replicate 56 0, td := 0 }
      c.modRep (fun r => { r with fingerWait := none, finger := some run })
    | none => c
  | _ => c

/-- Failed slices leave service at the boundary (R374). -/
def dropSlices (c : Core) : Core := c.modRep (fun r => { r with slices := r.slices.map SliceRot.dropFailed })

/-- Calibrated slices return to service at a normal frame's boundary (R377, R378). -/
def handSlices (c : Core) : Core :=
  c.modRep (fun r => { r with slices := r.slices.map (fun s => if s.doneCal && s.failed.isEmpty then s.next' else s) })

/-- A normal frame begins: a slice handover, and at most one forced slot, slices first (R378, R388, R394). -/
def startNormal (c : Core) : Core :=
  let c := c.handSlices
  if c.rep.bgdefer.getLsbD 0 then
    (c.modRep (fun r => { r with bgdefer := r.bgdefer &&& 0b11110#5, task := 1#4 })).modAcq (fun a => { a with noiseGiven := true })
  else if c.rep.bgdefer.getLsbD 1 && c.rep.testDue && c.rep.selftest.isNone then
    ((c.startTest true).modRep (fun r => { r with task := 2#4 })).modAcq (fun a => { a with noiseGiven := true })
  else c

/-- The frame's kind (R17, R376): at grade 6 only MAINT frames run. -/
def startKind (c : Core) : Core :=
  match c.nextTurn with
  | some t => c.startTurn t
  | none => if c.rep.grade == 6#3 then c.modAcq (fun a => { a with slot := none }) else c.startNormal

/-- A frame begins (R15, R19, R42, R90, R92, R148, R336). -/
def beginFrame (c : Core) : Core :=
  let c := (c.startFrames.swingStep.applyRanges.profileStep).applyDeferred false
  let c := c.regradeNow.hopStep.freshFrame.startKind
  let c := c.modAcq (fun a => { a with dac := c.dacCodes })
  let c := if c.hg.panelRoot then c.composeSync else c
  c.latchRpr

/-- FRAME_BOUNDARY in Run (R15, R441): a tile that is in a Doze entry counts its boundary and starts no frame. -/
def runBoundary (c : Core) : Core :=
  let c := (c.endFrame.dropSlices.concludeTest.regradeNow).countBoundary.ageParents
  if c.pw.entry.isSome then
    let c := ((c.swingStep.applyRanges.profileStep).applyDeferred false).modAcq (fun a => { a with slot := none })
    (if c.hg.panelRoot then c.composeSync else c).latchRpr
  else match c.leaveTo with
    | some (t, byReq) => ((c.swingStep.profileStep).leaveRun t byReq).latchRpr
    | none => c.beginFrame

/-- FRAME_BOUNDARY while the timekeeper keeps frame timing without scanning (R287). -/
def timingBoundary (c : Core) : Core :=
  let c := c.countBoundary.hopStep
  (c.modHg (fun h => { h with tk := { h.tk with framesQuiet := h.tk.framesQuiet + 1 } })).composeSync

/-- FRAME_BOUNDARY (R15). -/
def boundary (c : Core) : Core :=
  if c.pw.phase == .run then c.runBoundary
  else if c.fast && c.hg.tk.timing then c.timingBoundary
  else c

end Core

end Sys2Proof.Machine
end

