-- ==== Sys2Proof/Machine/KeeperOps.lean ====
section
/-!
DEFINITION. The compensation keeper (R143 to R145).
-/
namespace Sys2Proof.Machine

namespace Core

/-- L of a line for its present range; 0 takes the other range's figure (R143). -/
def lineL (c : Core) (k : Nat) : Int :=
  let f := c.node.lsbF.getD k 0
  let g := c.node.lsbC.getD k 0
  if c.node.coarse.getD k false then (if g == 0 then 4 * f else g) else (if f == 0 then rhu g 2 else f)

/-- The deviation of an own node from B_SET. -/
def deviation (c : Core) (d k : Nat) : Int := (c.nodeOf c.colour d k).b - c.prof.bSet

/-- Own nodes of a line that the keeper looks at: their baselines are valid and not frozen, as those of a frame not included are (R131,
R143). A dead drive line's codes stay 0 (R391; DEDUCED, log 20). -/
def keptNodes (c : Core) (k : Nat) : List Nat :=
  (List.range 32).filter (fun d =>
    let n := c.nodeOf c.colour d k
    c.sought d k && n.valid && n.inc && !c.isFrozen (nodeAt c.colour d k))

/-- The node of the largest deviation, the lower drive line where two are equal. -/
def worstNode (c : Core) (k : Nat) : Option Nat :=
  (c.keptNodes k).foldl (fun (b : Option Nat) d => match b with
    | none => some d
    | some x => if (c.deviation x k).natAbs < (c.deviation d k).natAbs then some d else b) none

/-- A node is at the end of its compensation (R143, R404). -/
def compLimit (c : Core) (d k : Nat) : Core :=
  let c := (c.modRep (fun r => { r with complim := true })).addFault (Config.faultCode 4).toNat k (Config.faultCode 20).toNat 4 0
  c.repairEvent 0x4E (le 1 k ++ le 1 d)

/-- The keeper's one act on a line (R143, R144). -/
def keepLine (c : Core) (k : Nat) : Core :=
  let coarse := c.node.coarse.getD k false
  let gain := c.node.gain.getD k 0
  if c.lineExcluded k then c
  else if coarse && (List.range c.prof.nDrv).all (fun d => decide ((c.lineCodes k).getD d 0 ≤ 12)) then c.requestSense k gain false false
  else match c.worstNode k with
    | none => c
    | some d =>
      let dev := c.deviation d k
      let code := (c.lineCodes k).getD d 0
      if 4 * (dev.natAbs : Int) ≤ 3 * c.lineL k then c
      else if dev < 0 then
        if code < 63 then c.requestCodes k [(d, code + 1)] false
        else if coarse then c.compLimit d k
        else c.requestSense k gain true false
      else if 0 < code then c.requestCodes k [(d, code - 1)] false
      else c.compLimit d k

/-- KEEPER_EVALUATION (R143). -/
def keeper (c : Core) : Core :=
  c.when (c.pw.phase == .run && c.acq.running && c.prof.keepInt != 0 && c.node.valid && c.acq.maint.isNone)
    (fun c => (List.range c.prof.nSns).foldl keepLine c)

end Core

end Sys2Proof.Machine
end

