-- ==== Sys2Proof/Machine/WatchOps.lean ====
section
/-!
DEFINITION. The Watch burst: baselines, candidates, approach, WATCH_FAULT and the wake gesture (R35, R116 to R121, R187, R188,
Table REPAIR-2; DEDUCED, log 29: the readings named there).
-/
namespace Sys2Proof.Machine

/-- A burst's count for one group: n, with FULL where no transfer crossed (R116, R119). -/
def WatchGroup.counted (g : WatchGroup) (ctMax : Nat) (v : Option Nat) : WatchGroup := { g with n := v.getD ctMax, full := v.isNone }

/-- A group's count is SHORT (R119). -/
def WatchGroup.isShort (g : WatchGroup) (p : Profile) : Bool := !g.full && decide (g.n < p.ctMin)

/-- A group's baseline and run in a burst (R120, R121); `can` tells that the burst can make a candidate of it. -/
def WatchGroup.detect (g : WatchGroup) (can : Bool) (delta : Int) (k : Nat) : WatchGroup :=
  if !g.seeded then { g with base := 16 * g.n, seeded := true, run := 0, cand := false }
  else if can && decide ((16 * g.n : Int) < g.base - 16 * delta) then { g with run := g.run + 1, cand := true }
  else { g with base := (usat (g.base + rhu (16 * g.n - g.base) k) 16).toNat, run := 0, cand := false }

/-- A burst of one group (R119 to R121): a SHORT count makes no candidate, and is else a burst as any. -/
def WatchGroup.burst (g : WatchGroup) (p : Profile) (v : Option Nat) : WatchGroup :=
  let g := g.counted p.ctMax v
  let short := g.isShort p
  ({ g with shortRun := if short then min 3 (g.shortRun + 1) else 0 } : WatchGroup).detect (!g.full && !short) p.wDelta p.wK

/-- Steps of the wake gesture that one burst meets, from a step on (R187). -/
def gestureSteps (p : Profile) (cand : Nat → Bool) : Nat → Nat → Nat
  | 0, at' => at'
  | fuel + 1, at' => if at' < p.wgLen && cand (p.wgSeq at') then gestureSteps p cand fuel (at' + 1) else at'

/-- The wake sequence after a burst: the steps met and the bursts since (R187). A step not met in time restarts it with this
burst. -/
def gestureBurst (p : Profile) (cand : Nat → Bool) (at' age : Nat) : Nat × Nat :=
  let next := gestureSteps p cand 4 at'
  if at' < next then (next, 0)
  else if at' != 0 && p.wgGap ≤ age + 1 then (gestureSteps p cand 4 0, 0)
  else (at', if at' == 0 then 0 else age + 1)

namespace Core

/-- The third SHORT burst in a row on a group: WATCH_FAULT, and an entry in the fault list (R119, R404). -/
def watchFault (c : Core) (g : Nat) : Core :=
  (c.eventCustodian 0x09 [BitVec.ofNat 8 g]).addFault (Config.faultCode 5).toNat g (Config.faultCode 21).toNat 5 0

/-- Groups after a burst, with their faults and the grade (R119, R375). -/
def burstGroups (c : Core) (counts : List (Option Nat)) : Core :=
  let old := c.acq.watch
  let new := old.zipIdx.map (fun g => match counts[g.2]? with
    | some v => WatchGroup.burst g.1 c.prof v
    | none => g.1)
  let third := (List.range counts.length).filter (fun i =>
    (old[i]?).any (fun g => decide (g.shortRun < 3)) && (new[i]?).any (fun g => decide (3 ≤ g.shortRun)))
  let short := (new.take counts.length).any (fun g => decide (0 < g.shortRun))
  let bad := (new.take counts.length).any (fun g => decide (3 ≤ g.shortRun))
  let c := c.modAcq (fun a => { a with watch := new })
  let c := third.foldl watchFault c
  (c.modRep (fun r => { r with watchFault := bad || (r.watchFault && short) })).regrade

/-- Approach is declared (R121, R188). -/
def approach (c : Core) : Bool :=
  c.prof.wakeOn.testBit 0 && c.acq.watch.any (fun g => decide (c.prof.wConfirm ≤ g.run) && g.cand)

/-- The tile wakes to Run by a Watch burst, and wakes others by its wake policy (R35, Table POWER-3). -/
def watchWake (c : Core) (bit : Nat) : Core :=
  ((c.modAcq (fun a => { a with wgStep := 0, wgAge := 0 })).wakeOthers).wakeSource (bitMask bit) .run false

/-- The WAKE record (R186, R187). -/
def wakeRecord (c : Core) : Core :=
  c.placeOwn (Fin.ofNat 16 c.prof.wgTenant)
    (gestureBytes 5 0 { x := 0, y := 0 } c.prof.wgLen 0 c.hg.addr 0#6 128 c.frame16)

/-- WATCH_BURST (R116 to R121, R187, R188): approach goes before the gesture, which then leaves no record. -/
def watchBurst (c : Core) (counts : List (Option Nat)) : Core :=
  c.when (c.pw.phase == .watch) (fun c =>
    let c := c.burstGroups counts
    if c.approach then c.watchWake 5
    else
      let cand := fun (g : Nat) => (c.acq.watch[g]?).any (fun x => x.cand)
      let (at', age) := gestureBurst c.prof cand c.acq.wgStep c.acq.wgAge
      if c.prof.wgLen ≤ at' then
        let c := c.modAcq (fun a => { a with wgStep := 0, wgAge := 0 })
        if c.prof.wakeOn.testBit 1 then (c.watchWake 6).wakeRecord else c
      else c.modAcq (fun a => { a with wgStep := at', wgAge := age }))

end Core

end Sys2Proof.Machine
end

