-- ==== Sys2Proof/Machine/Acquisition.lean ====
section
/-!
DEFINITION. The commands of the frame slots, of the compensation keeper and of the Watch burst (chapters 01, 03, 04, 05, 08).
-/
namespace Sys2Proof.Machine

namespace Core

/-- A pending swing change is decided: announced, unless a contact defers it, or a line's exclusion in which it falls due (R85, R86, R147).
DEDUCED (log 19): a forced change waits for neither, since the sagged frames that force it would hold up the end of an exclusion. -/
def decideSwing (c : Core) : Core :=
  match c.acq.swingPend with
  | some w =>
    if w.forced || (!c.hasContact && !(List.range c.prof.nSns).any c.lineExcluded) then
      c.modAcq (fun a => { a with swingAnn := some w.high, swingPend := none })
    else c
  | none => c

/-- SEAM_H for a port (Table HEDGE-7). -/
def seamHead (c : Core) (p : Port) : SeamH where
  fc := c.hg.fc
  scanning := true
  sagged := c.acq.sagged
  isPartial := c.node.isPartial
  settling := c.willSettle
  swing := c.acq.swingAnn.getD c.acq.highNow
  wet := c.trk.wet
  nDrv := BitVec.ofNat 6 c.prof.nDrv
  nSns := BitVec.ofNat 5 c.prof.nSns
  hop := c.acq.hop
  digest := seamDigest c.prof
  seamLines := (c.seamLines p).foldl (fun m k => m ||| (1#24 <<< k)) 0#24

/-- Ports with a scanning TILE neighbour (R33, R290). -/
def seamPorts (c : Core) : List Port :=
  ports.filter (fun p => c.isTile p && c.linkUp p && !(c.hport p).asleep && (c.hport p).partner.any (fun h => h.state == 5#4))

/-- SEAM_SLOT (R17, R85, R86, R290, R382): MAINT frames make the swing decision and send no SEAM_H. -/
def seamSlot (c : Core) (legs : List LegCheck) : Core :=
  c.when c.beforeSeam (fun c =>
    let c := (c.modAcq (fun a => { a with slot := some .seam })).decideSwing
    let c := if c.inSelftest then c.modAcq (fun a => { a with legChecks := legs }) else c
    if c.acq.maint.isNone then c.seamPorts.foldl (fun c p => c.sendFrame p (.seamH (c.seamHead p))) c else c)

/-- COMPUTE_SLOT (R17, R132, R142, R383, R384, R388): what the frame's kind asks for. -/
def computeSlot (c : Core) : Core :=
  c.when (c.atSlot .seam) (fun c =>
    let c := c.modAcq (fun a => { a with slot := some .compute })
    match c.acq.maint with
    | none => c.forcedCompute.computeNormal
    | some .seek => c.seekCompute.modTrk (fun t => { t with phase := .done })
    | some .selftest => c.testCompute.modTrk (fun t => { t with phase := .done })
    | some (.slicecal _) => c.modTrk (fun t => { t with phase := .done }))

/-- The surveys of the frame for TILE_REPORT: each set with the largest of its lane sums (R109, Table HEDGE-6); none where the
survey was given up (R378). -/
def surveyFigures (c : Core) : List (Byte × BitVec 32) :=
  if c.acq.noiseGiven then []
  else c.acq.noiseViews.map (fun v =>
    (BitVec.ofNat 8 v.hop.toNat, BitVec.ofNat 32 (usat ((v.lanes.map (fun l => l.sum)).foldl max 0) 32).toNat))

/-- TILE_REPORT (Table HEDGE-6). -/
def ownReport (c : Core) : TileReport where
  fc := c.hg.fc
  state := c.pw.phase.code
  sagged := c.acq.sagged
  idsReq := BitVec.ofNat 4 (min 10 c.trk.wanted)
  inUse := idMap c.trk.contacts
  returned := c.trk.returned
  digest := planDigest c.prof
  frameTicks := BitVec.ofNat 32 c.prof.frameTicks
  surveys := c.surveyFigures

/-- Send TILE_REPORT to the panel's timekeeper (R109, R165, R286); an unconfirmed tile has none (R267). -/
def sendReport (c : Core) : Core :=
  if c.hg.confirmed || c.hg.panelRoot then
    let r := c.ownReport
    (c.modTrk (fun t => { t with returned := 0#64 })).toRoot 5 r.bytes (fun c => c.takeReport c.hg.addr r)
  else c

/-- REPORT_SLOT (R15, R17, R189, R213, R216): records go to their queues in the order of R189, then key records, and after them encoder
records (DEDUCED, log 17). -/
def reportSlot (c : Core) : Core :=
  c.when (c.atSlot .compute) (fun c =>
    let c := c.modAcq (fun a => { a with slot := some .report })
    if c.acq.maint.isSome then c
    else
      let c := c.forceCompute
      let out := c.trk.out
      ((c.modTrk (fun t => { t with out := [] })).placeOut out).placeKeyRecs.encoderRecords.sendReport)

end Core

/-- FRAME_BOUNDARY (R15 to R20). -/
def execFrameBoundary (s : State) : Host.Outcome State Fault Refusal :=
  onCore (fun c => c.boundary) s
/-- NOISE_SLOT (R107). -/
def execNoiseSlot (windows : List (List Samples)) (gains : List (BitVec 16)) (s : State) : Host.Outcome State Fault Refusal :=
  onCoreIf (!s.core.atSlot .sync || s.core.noiseShape windows gains) (fun c => c.noiseSlot windows gains) s
/-- MUTUAL_SLOT (R99 to R103). -/
def execMutualSlot (scan : ScanSamples) (sag : Bool) (s : State) : Host.Outcome State Fault Refusal :=
  onCoreIf (!s.core.atSlot .noise || s.core.mutualShape scan) (fun c => c.mutualSlot scan sag) s
/-- SELF_SLOT (R111 to R113). -/
def execSelfSlot (crossings : List (List Nat)) (s : State) : Host.Outcome State Fault Refusal :=
  onCoreIf (!(s.core.atSlot .scan && decide (0 < s.core.prof.selfT)) || s.core.selfShape crossings) (fun c => c.selfSlot crossings) s
/-- SEAM_SLOT (R85, R290). -/
def execSeamSlot (legs : List LegCheck) (s : State) : Host.Outcome State Fault Refusal :=
  onCoreIf (!s.core.beforeSeam || s.core.seamShape legs) (fun c => c.seamSlot legs) s
/-- COMPUTE_SLOT (R132). -/
def execComputeSlot (s : State) : Host.Outcome State Fault Refusal :=
  onCore (fun c => c.computeSlot) s
/-- SEAM_D_DEADLINE (R290). -/
def execSeamDDeadline (p : Port) (s : State) : Host.Outcome State Fault Refusal :=
  onCore (fun c => c.dDeadline p) s
/-- SEAM_X_DEADLINE (R290). -/
def execSeamXDeadline (p : Port) (s : State) : Host.Outcome State Fault Refusal :=
  onCore (fun c => c.xDeadline p) s
/-- REPORT_SLOT (R189). -/
def execReportSlot (s : State) : Host.Outcome State Fault Refusal :=
  onCore (fun c => c.reportSlot) s
/-- KEEPER_EVALUATION (R143). -/
def execKeeperEvaluation (s : State) : Host.Outcome State Fault Refusal :=
  onCore (fun c => c.keeper) s
/-- WATCH_BURST (R116 to R121). -/
def execWatchBurst (counts : List (Option Nat)) (s : State) : Host.Outcome State Fault Refusal :=
  onCoreIf (s.core.pw.phase != .watch || s.core.burstShape counts) (fun c => c.watchBurst counts) s

end Sys2Proof.Machine
end

