-- ==== Sys2Proof/Machine/Link.lean ====
section
/-!
DEFINITION. The commands of the link ports: characters, frames on the line, the line monitor, ECHO, and link
wakes (chapter 07).
-/
namespace Sys2Proof.Machine

/-- One character time in ticks (R224, R226). -/
def LinkCfg.charTicks (g : LinkCfg) : Nat := g.nbits * (if g.mode = 2#2 then 8 else 3) * g.div.toNat

/-- ECHO_D in ticks (R248). -/
def LinkCfg.echoD (g : LinkCfg) : Nat :=
  if g.mode = 2#2 then (g.nbits + 4) * 8 * g.div.toNat else (g.nbits + 1) * 3 * g.div.toNat

/-- A bit by the majority of its samples: one in TILE mode, three in WIRE mode (R231, R232). -/
def majority (l : List Bool) : Bool := decide (l.length < 2 * (l.filter (fun b => b)).length)

/-- A character as its decided bits read, start bit first (R226, R233). -/
def readChar (par : BitVec 2) (bits : List Bool) (first : Bool) : RxChar :=
  let d := (bits.drop 1).take 8
  let ones := (d.filter (fun b => b)).length + bit (bits.getD 9 false)
  let pe := par != 0#2 && (ones % 2 == 1) != (par == 2#2)
  { data := BitVec.ofNat 8 ((d.zipIdx.map (fun b => bit b.1 * 2 ^ b.2)).sum)
    fe := !(bits.getLastD true), pe := pe, frameStart := first }


/-- The receiver takes characters from LnRX: enabled, LIVE, hunting, not in LOOP (R242, R247, Table LINK-5). -/
def LinkPort.listens (l : LinkPort) : Bool :=
  l.cfg.mode != 0#2 && l.mon == .live && !l.noHunt && l.op != 2#2 && !l.suppressed

/-- The counts and sticky flags of a character (R233, R236, R246). -/
def LinkPort.count (l : LinkPort) (x : RxChar) : LinkPort :=
  { l with cntFe := if x.fe then incSat l.cntFe else l.cntFe, cntPe := if x.pe then incSat l.cntPe else l.cntPe,
           flags := l.flags ||| BitVec.ofNat 4 (bit x.fe + 2 * bit x.pe) }

/-- Put a received character in the raw FIFO; one that finds it full is discarded with OE (R245). -/
def LinkPort.rawPut (l : LinkPort) (x : RxChar) : LinkPort :=
  if l.rxFifo.length < 16 then { l with rxFifo := l.rxFifo ++ [x] } else { l with flags := l.flags ||| 4#4 }

/-- Characters that wait in the hedge layer's receive buffer: those of delivered frames and of the frame being received. -/
def LinkPort.rxHeld (l : LinkPort) : Nat := (l.delivered.map (fun d => d.bytes.length)).sum + l.rxBytes.length

/-- The receive buffer is full; it holds one frame of the largest size at least, and its size is open (R235, log 3). -/
def LinkPort.rxFull (l : LinkPort) : Bool := !(decide (l.rxHeld < 1051) || decide (l.rxHeld < 1051 + Config.linkBuffer))

/-- A character joins the frame being received; those beyond 1 051 are discarded and the frame is LONG. A character with FE or PE, or
one that finds the receive buffer full (OE), makes the frame BAD (R235). -/
def LinkPort.framePut (l : LinkPort) (x : RxChar) : LinkPort :=
  let oe := l.op == 0#2 && l.rxFull
  let l := { l with rxBad := l.rxBad || x.fe || x.pe || oe }
  if l.rxBytes.length < 1051 then { l with rxBytes := l.rxBytes ++ [x] } else { l with rxLong := true }

/-- A character to echo: every one in TILE mode, the first of a frame in WIRE mode (R248). -/
def LinkPort.echoPut (l : LinkPort) (x : RxChar) : LinkPort :=
  { l with echo := l.echo.map (fun e =>
      { e with started := true, waiting := if l.cfg.mode != 2#2 || x.frameStart then e.waiting ++ [x] else e.waiting }) }

/-- A frame is under way on the receiver (R234). -/
def LinkPort.begin (l : LinkPort) (start : Nat) : LinkPort :=
  if l.inFrame then l else { l with inFrame := true, rxEdge := start, rxBytes := [], rxLong := false, rxBad := false }

/-- A character reaches the port in its operation (R235, R245, R248). -/
def LinkPort.accept (l : LinkPort) (start : Nat) (x : RxChar) : LinkPort :=
  let l := (l.begin start).count x
  match l.op.toNat with
  | 0 => l.framePut x
  | 1 => l.rawPut x
  | _ => (l.framePut x).echoPut x

/-- The next raw character goes on the line (R245). -/
def LinkPort.nextRaw (l : LinkPort) : LinkPort :=
  match l.txFifo with
  | [] => { l with rawOnLine := false, lineOut := [] }
  | b :: rest => if l.txbrk then { l with rawOnLine := false, lineOut := [] }
    else { l with rawOnLine := true, lineOut := [b], txFifo := rest }

/-- The ECHO operation is over (R249). -/
def LinkPort.endEcho (l : LinkPort) : LinkPort := { l with op := 0#2, echo := none }

/-- Unacknowledged frames of a port: sent, or waiting to be repeated (R253). -/
def unacked (l : LinkPort) (h : HedgePort) : Nat :=
  h.outstanding.length + ((l.txq ++ l.onLine.toList).filter (fun f => f.lseq.isSome)).length

namespace Core

/-- The receiver is a false start: one NOISE, and it hunts again (R232). -/
def falseStart (c : Core) (p : Port) : Core :=
  c.when (c.fast && (c.port p).listens && c.isWire p) (fun c => c.modPort p (fun l => { l with cntNoise := incSat l.cntNoise }))

/-- LINK_CHARACTER (R226 to R235, R245, R248, R58, R63): on a port whose wake is not masked it is a wake source (Table POWER-3). DESIGN CHOICE
(log 32): that holds of the characters of an ACK too for which a Doze entry waits in step E2. -/
def linkChar (c : Core) (p : Port) (start : Nat) (bits : List (List Bool)) : Core :=
  let l := c.port p
  let b := bits.map majority
  if !c.fast || !l.listens then c
  else if c.isWire p && b.headD false then c.falseStart p
  else
    let x := readChar l.cfg.par b (!l.inFrame)
    let valid := !x.fe && !x.pe
    let masked := l.noiseMask || l.sevMask
    let c := c.modPort p (fun l =>
      let l := l.accept start x
      if valid then { l with woke := false, noiseMask := false } else l)
    let c := if !valid then c.modTele (fun t => { t with linkErr := t.linkErr + 1 }) else c
    if masked then c else c.wakeSource (bitMask 1 ||| bitMask (8 + p.val)) .quiet false

/-- The ECHO operation ends once the frame has ended and every echoed character has been sent (R249). -/
def echoEnd (c : Core) (p : Port) : Core :=
  match (c.port p).echo with
  | none => c
  | some e => if e.ended && e.waiting.isEmpty && !(c.port p).echoOut then c.modPort p LinkPort.endEcho else c

/-- LINK_FRAME_END (R234, R235, R251, R252). -/
def frameEnd (c : Core) (p : Port) : Core :=
  let l := c.port p
  c.when (c.fast && l.inFrame) (fun c =>
    let bad := l.rxBad
    let bytes := l.rxBytes.map (fun x => x.data)
    let takes := l.op == 0#2 || l.op == 3#2
    let c := c.modPort p (fun l =>
      { l with
        inFrame := false, rxBytes := [], rxLong := false, rxBad := false
        cntBad := if bad && takes then incSat l.cntBad else l.cntBad
        echo := l.echo.map (fun e => { e with ended := e.started })
        delivered := if takes && !bad && !l.rxLong && frameOk bytes then l.delivered ++ [{ bytes := bytes, edge := l.rxEdge }]
          else l.delivered })
    c.echoEnd p)

/-- Link outputs may drive (R65, R227). -/
def linkDrives (c : Core) (p : Port) : Bool := c.fast && !c.pw.linkQuiet && (c.port p).cfg.mode != 0#2

/-- The transmitter may start (R237, R238, R241): nothing on the line, in WIRE mode the receiver outside a frame and the monitor LIVE, in
TILE mode neither BREAK nor SEVERED; LOOP does not use the line (R247). -/
def canSend (c : Core) (p : Port) : Bool :=
  let l := c.port p
  c.linkDrives p && l.onLine.isNone && !l.rawOnLine && !l.echoOut && !l.txbrk &&
  (l.op == 2#2 || (if l.cfg.mode == 2#2 then !l.inFrame && l.mon == .live else l.mon != .brk && l.mon != .severed))

/-- The hedge layer's frame at the front of a port: numbered where it is acknowledged and within the window (R253).
None goes out while a change of MODE, DIV or PAR waits (R223) or in an operation other than NORMAL (R244), and only an answer while a
change of OP waits. An asleep partner first gets a quickset, whatever the frame (R274, R275). -/
def startFrame (c : Core) (p : Port) (launch : Nat) : Core :=
  let l := c.port p
  let h := c.hport p
  let put := fun (c : Core) (f : TxFrame) (n : BitVec 4) =>
    let c := if f.body == .probe then c.modHp p (fun h => { h with delayRun := h.delayRun.map (fun r => { r with launch := some launch }) }) else c
    c.modPort p (fun l => { l with onLine := some f, lineOut := f.body.frame n, launch := launch })
  let answer := fun (f : TxFrame) => match f.body with
    | .ack _ | .nak _ _ => true
    | _ => false
  match l.txq with
  | [] => c
  | f :: rest =>
    let single := f.body.typeCode.isNone
    if l.pendCfg.isSome || l.op != 0#2 || (l.pendOp.isSome && !answer f) then c
    else if h.asleep && !single then
      if h.wakeTry.isSome then c
      else put (c.modHp p (fun h => { h with wakeTry := some 0 }))
        { body := .quickset, lseq := none, tries := 0, carries := none, again := false } 0#4
    else if !f.body.acked then put (c.modPort p (fun l => { l with txq := rest })) f 0#4
    else
      match f.lseq with
      | some n => put (c.modPort p (fun l => { l with txq := rest })) f n
      | none =>
        if (if c.isWire p then 1 else 4) ≤ unacked l h then c
        else
          let n := h.lseqTx
          put ((c.modPort p (fun l => { l with txq := rest })).modHp p (fun h => { h with lseqTx := n + 1#4 })) { f with lseq := some n } n

/-- LINK_TRANSMIT (R237, R238, R245): a hedge frame in NORMAL operation, a run of raw characters in RAW and LOOP: each leaves the FIFO as
it goes on the line. -/
def transmit (c : Core) (p : Port) (launch : Nat) : Core :=
  c.when (c.canSend p) (fun c =>
    let l := c.port p
    if l.op == 1#2 || l.op == 2#2 then
      if l.txFifo.isEmpty then c
      else c.modPort p (fun l => { l.nextRaw with launch := launch })
    else c.startFrame p launch)

/-- In LOOP the receiver takes the transmitter's characters (R247). -/
def loopBack (l : LinkPort) (bytes : List Byte) : LinkPort :=
  bytes.foldl (fun l b =>
    ({ l with inFrame := true }).rawPut { data := b, fe := false, pe := false, frameStart := !l.inFrame }) l

/-- LINK_FRAME_SENT (R237, R238, R245, R249, R253): an acknowledged frame waits for its ACK; after READY of a wake the spurious-wake
time runs (R63). DEDUCED (log 18): of raw and of echoed characters each one's last stop bit counts, and the next raw character
follows at once, but under TXBRK. -/
def frameSent (c : Core) (p : Port) : Core :=
  c.when c.fast (fun c =>
    let l := c.port p
    if l.rawOnLine then
      c.modPort p (fun l => (if l.op == 2#2 then loopBack l l.lineOut else l).nextRaw)
    else if l.echoOut then (c.modPort p (fun l => { l with echoOut := false, lineOut := [] })).echoEnd p
    else
      match l.onLine with
      | none => c
      | some f =>
        let ready := f.body == .ready && l.latch
        let c := c.modPort p (fun l =>
          { l with onLine := none, lineOut := [], latch := l.latch && !ready, woke := l.woke || ready })
        if f.body.acked then c.modHp p (fun h => { h with outstanding := h.outstanding ++ [f] }) else c)

/-- LINK_CONFIG_APPLY (R223, R227, R332): outside a frame, the gap complete. A port that is switched on starts in ABSENT. -/
def configApply (c : Core) (p : Port) : Core :=
  let l := c.port p
  let answers := l.txq.any (fun f => match f.body with
    | .ack _ | .nak _ _ => true
    | _ => false)
  c.when (c.fast && !l.inFrame && l.onLine.isNone && !l.rawOnLine && !l.echoOut && !(l.pendOp.isSome && answers)) (fun c =>
    let c := match l.pendCfg with
      | none => c
      | some g =>
        let c := c.modPort p (fun l =>
          { l with cfg := g, pendCfg := none,
                   mon := if (l.cfg.mode == 0#2) != (g.mode == 0#2) then .absent else l.mon })
        if g.mode == 0#2 then c.modHp p (fun _ => HedgePort.reset) else c
    match l.pendOp with
    | none => c
    | some o => c.modPort p (fun l =>
        { l with op := o, pendOp := none,
                 echo := if o == 3#2 then some { waiting := [], started := false, ended := false } else none }))

/-- LINK_HUNT_START (R242, R275): the line has been high for a character time; the WOKE indication is answered with
READY, and the partner that woke this tile is awake. -/
def huntStart (c : Core) (p : Port) : Core :=
  c.when (c.fast && (c.port p).noHunt && (c.port p).mon == .live) (fun c =>
    ((c.modPort p (fun l => { l with noHunt := false })).modHp p (fun h => { h with asleep := false })).sendFrame p .ready)

/-- LINE_LIVE (R62, R239, R240, R256): HELLO goes out, and the link delay is to be measured (R259). -/
def lineLive (c : Core) (p : Port) : Core :=
  let l := c.port p
  c.when (c.powered && c.pw.ready && l.cfg.mode != 0#2 && (l.mon == .absent || l.mon == .severed)) (fun c =>
    let c := c.modPort p (fun l => { l with mon := .live, sevMask := false, noHunt := false, lowDoze := false })
    let c := c.modHp p (fun h => { h with asleep := false, lseqRx := 0#4, syncD := none })
    (c.attn 5).sendHello p)

/-- The contacts of a seam's band are uncertain from now on (R296). DEDUCED (log 25): those the tile holds are judged by their position. -/
def bandUncertain (c : Core) (p : Port) : Core :=
  let hit := fun (k : Contact) => !k.isCand && c.prof.inBand (c.seamSegment p) k.pos
  { c.modHp p (fun h => { h with uncertain := true }) with
    trk := { c.trk with contacts := c.trk.contacts.map (fun k => if hit k then { k with flags := k.flags ||| 2#6 } else k) } }

/-- LINE_BREAK (R239, R240, R296): from now on the seam is an edge and its contacts are uncertain. A WIRE port that sends counts its line
as high (R238). -/
def lineBreak (c : Core) (p : Port) : Core :=
  c.when (c.fast && (c.port p).mon == .live && !(c.port p).suppressed) (fun c =>
    let c := c.modPort p (fun l => { l with mon := .brk })
    (if c.pw.phase == .run && c.isTile p && (c.hport p).present then c.bandUncertain p else c).attn 5)

/-- The line monitor times a low: at 800 MHz, in Doze and in Watch (R239, Table LINK-5). -/
def monTimes (c : Core) : Bool := c.fast || c.pw.phase.isAsleep

/-- LINE_BREAK_CLEAR (R236, R239). -/
def breakClear (c : Core) (p : Port) : Core :=
  c.when (c.monTimes && (c.port p).mon == .brk) (fun c =>
    (c.modPort p (fun l => { l with mon := .live, cntBreak := incSat l.cntBreak })).modTele
      (fun t => { t with breaks := t.breaks + 1 }))

/-- SEVERED (R62, R239, R240): wake is masked on the port and the partner is lost. -/
def severed (c : Core) (p : Port) : Core :=
  c.when (c.monTimes && (c.port p).mon == .brk && !(c.port p).suppressed) (fun c =>
    ((c.modPort p (fun l => { l with mon := .severed, sevMask := true })).attn 5).partnerLost p .severed)

/-- ECHO_CHARACTER (R248): the oldest waiting character goes out again. -/
def echoChar (c : Core) (p : Port) : Core :=
  match (c.port p).echo with
  | none => c
  | some e =>
    match e.waiting with
    | [] => c
    | x :: rest =>
      c.when (c.linkDrives p) (fun c =>
        c.modPort p (fun l => { l with echoOut := true, lineOut := [x.data], echo := some { e with waiting := rest } }))

/-- ECHO_TIMEOUT (R249). -/
def echoTimeout (c : Core) (p : Port) : Core :=
  c.when ((c.port p).echo.any (fun e => !e.started)) (fun c => c.modPort p LinkPort.endEcho)

/-- LINK_WAKE_SPURIOUS (R63): sixteen within 3 600 s of RTC mask the port's wake. -/
def wakeSpurious (c : Core) (p : Port) : Core :=
  c.when (c.fast && (c.port p).woke) (fun c =>
    let recent := ((c.port p).spurious.filter (fun t => decide ((c.pw.rtc - t).toNat ≤ 117964800))) ++ [c.pw.rtc]
    if 16 ≤ recent.length then
      (c.modPort p (fun l => { l with woke := false, noiseMask := true, spurious := [] })).eventCustodian 0x06 [BitVec.ofNat 8 p.val]
    else c.modPort p (fun l => { l with woke := false, spurious := recent }))

end Core

/-- LINK_CHARACTER. -/
def execLinkCharacter (p : Port) (start : Nat) (bits : List (List Bool)) (s : State) : Host.Outcome State Fault Refusal :=
  onCoreIf (!(s.core.fast && (s.core.port p).listens) || s.core.charShape p bits) (fun c => c.linkChar p start bits) s
/-- LINK_FRAME_END. -/
def execLinkFrameEnd (p : Port) (s : State) : Host.Outcome State Fault Refusal := onCore (fun c => c.frameEnd p) s
/-- LINK_TRANSMIT. -/
def execLinkTransmit (p : Port) (launch : Nat) (s : State) : Host.Outcome State Fault Refusal := onCore (fun c => c.transmit p launch) s
/-- LINK_CONFIG_APPLY. -/
def execLinkConfigApply (p : Port) (s : State) : Host.Outcome State Fault Refusal := onCore (fun c => c.configApply p) s
/-- LINK_HUNT_START. -/
def execLinkHuntStart (p : Port) (s : State) : Host.Outcome State Fault Refusal := onCore (fun c => c.huntStart p) s
/-- LINE_LIVE. -/
def execLineLive (p : Port) (s : State) : Host.Outcome State Fault Refusal := onCore (fun c => c.lineLive p) s
/-- LINE_BREAK. -/
def execLineBreak (p : Port) (s : State) : Host.Outcome State Fault Refusal := onCore (fun c => c.lineBreak p) s
/-- LINE_BREAK_CLEAR. -/
def execLineBreakClear (p : Port) (s : State) : Host.Outcome State Fault Refusal := onCore (fun c => c.breakClear p) s
/-- SEVERED. -/
def execSevered (p : Port) (s : State) : Host.Outcome State Fault Refusal := onCore (fun c => c.severed p) s
/-- ECHO_CHARACTER. -/
def execEchoCharacter (p : Port) (s : State) : Host.Outcome State Fault Refusal := onCore (fun c => c.echoChar p) s
/-- ECHO_TIMEOUT. -/
def execEchoTimeout (p : Port) (s : State) : Host.Outcome State Fault Refusal := onCore (fun c => c.echoTimeout p) s
/-- LINK_WAKE_SPURIOUS. -/
def execLinkWakeSpurious (p : Port) (s : State) : Host.Outcome State Fault Refusal := onCore (fun c => c.wakeSpurious p) s
/-- LINK_WAKE_MASK_END (R63). -/
def execLinkWakeMaskEnd (p : Port) (s : State) : Host.Outcome State Fault Refusal :=
  onCore (fun c => c.modPort p (fun l => { l with noiseMask := false })) s
/-- FALSE_START. -/
def execFalseStart (p : Port) (s : State) : Host.Outcome State Fault Refusal := onCore (fun c => c.falseStart p) s
/-- LINK_FRAME_SENT. -/
def execLinkFrameSent (p : Port) (s : State) : Host.Outcome State Fault Refusal := onCore (fun c => c.frameSent p) s

end Sys2Proof.Machine
end

