-- ==== Sys2Proof/Machine/Hedge.lean ====
section
/-!
DEFINITION. The commands of link frames and of the hedge layer (chapter 08), but for the seams.
-/
namespace Sys2Proof.Machine

/-- DATA (R253, R255, R271, R273). -/
def execData (p : Port) (lseq : BitVec 4) (packet : List Byte) (s : State) : Host.Outcome State Fault Refusal :=
  onCore (fun c => c.takeData p lseq packet) s
/-- ACK (R253). -/
def execAck (p : Port) (lseq : BitVec 4) (s : State) : Host.Outcome State Fault Refusal :=
  onCore (fun c => c.when (c.hears p) (fun c => (c.heard p (.ack lseq) lseq).acknowledge p lseq .acked)) s
/-- NAK (R255, R259). -/
def execNak (p : Port) (lseq : BitVec 4) (reason : Byte) (s : State) : Host.Outcome State Fault Refusal :=
  onCore (fun c => c.when (c.hears p) (fun c => (c.heard p (.nak lseq reason) lseq).nakked p lseq reason)) s
/-- ACK_TIMEOUT (R254). -/
def execAckTimeout (p : Port) (s : State) : Host.Outcome State Fault Refusal :=
  onCore (fun c => c.ackTimeout p) s
/-- NAK_BUSY_REPEAT (R255). -/
def execNakBusyRepeat (p : Port) (s : State) : Host.Outcome State Fault Refusal :=
  onCore (fun c => c.nakRepeat p) s
/-- HELLO (R253, R256 to R258). -/
def execHello (p : Port) (lseq : BitVec 4) (body : Hello) (s : State) : Host.Outcome State Fault Refusal :=
  onCore (fun c => c.takeHello p lseq body) s
/-- HELLO_PERIODIC (R256). -/
def execHelloPeriodic (s : State) : Host.Outcome State Fault Refusal :=
  onCore (fun c => c.when c.fast Core.helloAll) s
/-- JOIN (R267). -/
def execJoin (p : Port) (lseq : BitVec 4) (body : Hello) (requested : Addr) (s : State) : Host.Outcome State Fault Refusal :=
  onCore (fun c => c.takeJoin p lseq body requested) s
/-- ADMIT (R267). -/
def execAdmission (p : Port) (lseq : BitVec 4) (answer : Admission) (s : State) : Host.Outcome State Fault Refusal :=
  onCore (fun c => c.takeAdmit p lseq answer) s
/-- SYNC (R278, R281, R282): `edge` is its start edge in ticks after this tile's latest boundary. -/
def execSync (p : Port) (edge : Int) (body : SyncBody) (s : State) : Host.Outcome State Fault Refusal :=
  onCore (fun c => c.takeSync p edge body) s
/-- SYNC_SEND (R279). -/
def execSyncSend (s : State) : Host.Outcome State Fault Refusal :=
  onCore (fun c => c.sendSync) s
/-- SYNC_LOST (R288). -/
def execSyncLost (s : State) : Host.Outcome State Fault Refusal :=
  onCore (fun c => c.syncLost) s
/-- TIMEKEEPER_CLAIM (R295). -/
def execTimekeeperClaim (s : State) : Host.Outcome State Fault Refusal :=
  onCore (fun c => c.claim) s
/-- XTRIM_ADJUST (R284). -/
def execXtrimAdjust (s : State) : Host.Outcome State Fault Refusal :=
  onCore (fun c => c.adjustXtrim) s
/-- KA (R277). -/
def execKa (p : Port) (state : Byte) (s : State) : Host.Outcome State Fault Refusal :=
  onCore (fun c => c.takeKa p state) s
/-- KEEPALIVE_SEND (R277). -/
def execKeepaliveSend (p : Port) (s : State) : Host.Outcome State Fault Refusal :=
  onCore (fun c => c.sendKa p) s
/-- KEEPALIVE_LOSS (R277). -/
def execKeepaliveLoss (p : Port) (s : State) : Host.Outcome State Fault Refusal :=
  onCore (fun c => c.keepaliveLoss p) s
/-- DOZE (R274). -/
def execDoze (p : Port) (lseq : BitVec 4) (state : Byte) (s : State) : Host.Outcome State Fault Refusal :=
  onCore (fun c => c.takeDoze p lseq state) s
/-- ECHO_REQ (R249, R259). -/
def execEchoReq (p : Port) (lseq : BitVec 4) (s : State) : Host.Outcome State Fault Refusal :=
  onCore (fun c => c.takeEchoReq p lseq) s
/-- WAKE (R35, R276). -/
def execWake (p : Port) (lseq : BitVec 4) (target : Byte) (number : Word) (scope : Byte) (s : State) : Host.Outcome State Fault Refusal :=
  onCore (fun c => c.takeWake p lseq target number scope) s
/-- QUICKSET (R252). -/
def execQuickset (p : Port) (s : State) : Host.Outcome State Fault Refusal :=
  onCore (fun c => c.takeQuickset p) s
/-- READY (R274, R275). -/
def execReady (p : Port) (s : State) : Host.Outcome State Fault Refusal :=
  onCore (fun c => c.takeReady p) s
/-- DELAY_PROBE (R250, R259). -/
def execDelayProbe (p : Port) (edge : Nat) (s : State) : Host.Outcome State Fault Refusal :=
  onCore (fun c => c.takeProbe p edge (c.port p).cfg.echoD) s
/-- WAKE_THROUGH_TIMEOUT (R275). -/
def execWakeThroughTimeout (p : Port) (s : State) : Host.Outcome State Fault Refusal :=
  onCore (fun c => c.wakeTimeout p) s
/-- DELAY_MEASURE (R259). -/
def execDelayMeasure (p : Port) (s : State) : Host.Outcome State Fault Refusal :=
  onCore (fun c => c.measureDelay p) s
/-- PANEL_ROOT_ELECTION (R262, R263). -/
def execPanelRootElection (s : State) : Host.Outcome State Fault Refusal :=
  onCore (fun c => c.electPanelRoot) s
/-- HEDGE_ROOT_ELECTION (R265). -/
def execHedgeRootElection (s : State) : Host.Outcome State Fault Refusal :=
  onCore (fun c => c.electHedgeRoot) s
/-- JOIN_REQ (R28, R267). -/
def execJoinReq (sponsor : Addr) (body : Hello) (requested : Addr) (sponsorPort : BitVec 3) (s : State) : Host.Outcome State Fault Refusal :=
  onCore (fun c => c.atRoot (fun c => c.rootJoin sponsor body requested sponsorPort)) s
/-- JOIN_GRANT at the sponsor (R267). -/
def execJoinGrant (g : JoinGrant) (s : State) : Host.Outcome State Fault Refusal :=
  onCore (fun c => c.when c.fast (fun c => c.admitBack (.grant g))) s
/-- JOIN_REFUSE at the sponsor (R267). -/
def execJoinRefuse (uid : Uid) (reason : RefuseReason) (s : State) : Host.Outcome State Fault Refusal :=
  onCore (fun c => c.when c.fast (fun c => c.admitBack (.refuse uid reason))) s
/-- JOIN_RETRY (R267). -/
def execJoinRetry (s : State) : Host.Outcome State Fault Refusal :=
  onCore (fun c => c.joinRetry) s
/-- HEDGE_ROSTER (R264, R270). -/
def execHedgeRoster (r : Roster) (s : State) : Host.Outcome State Fault Refusal :=
  onCore (fun c => c.when c.fast (fun c => c.takeRoster r)) s
/-- TILE_REPORT (R286, R287). -/
def execTileReport (src : Addr) (r : TileReport) (s : State) : Host.Outcome State Fault Refusal :=
  onCore (fun c => c.atRoot (fun c => c.takeReport src r)) s
/-- FRAME_TIMING_STOP (R287). -/
def execFrameTimingStop (s : State) : Host.Outcome State Fault Refusal :=
  onCore (fun c => c.timingStop) s
/-- LOSS (R294). -/
def execLoss (src : Addr) (r : LossReport) (s : State) : Host.Outcome State Fault Refusal :=
  onCore (fun c => c.atRoot (fun c => c.rootLoss src r)) s
/-- LOSS_DECISION (R294). -/
def execLossDecision (s : State) : Host.Outcome State Fault Refusal :=
  onCore (fun c => c.atRoot (fun c => c.decideFirst)) s
/-- CONTACT_ID_FREE (R294). -/
def execContactIdFree (tile : Addr) (s : State) : Host.Outcome State Fault Refusal :=
  onCore (fun c => c.freeIds tile) s
/-- PANEL_ADVERT (R265, R266, R272). -/
def execPanelAdvert (a : PanelAdvert) (s : State) : Host.Outcome State Fault Refusal :=
  onCore (fun c => c.when c.fast (fun c => c.takeAdvert a)) s
/-- PANEL_ADVERT_PERIODIC (Table HEDGE-3). -/
def execPanelAdvertPeriodic (s : State) : Host.Outcome State Fault Refusal :=
  onCore (fun c => c.atRoot Core.advertTime) s
/-- PANEL_GRANT (R264, R266). -/
def execPanelGrant (g : PanelGrant) (s : State) : Host.Outcome State Fault Refusal :=
  onCore (fun c => c.atRoot (fun c => c.takeGrant g)) s
/-- PANEL_REQUEST_RETRY (R266). -/
def execPanelRequestRetry (s : State) : Host.Outcome State Fault Refusal :=
  onCore (fun c => c.panelRetry) s
/-- HEDGE_ROUTES (R272). -/
def execHedgeRoutes (entries : List RouteEntry) (s : State) : Host.Outcome State Fault Refusal :=
  onCore (fun c => c.takeRoutes entries) s
/-- ROOT_HANDOVER (R269). -/
def execRootHandover (s : State) : Host.Outcome State Fault Refusal :=
  onCore (fun c => c.handover) s
/-- RELAY_WAIT_EXPIRY (R273). -/
def execRelayWaitExpiry (index : Nat) (s : State) : Host.Outcome State Fault Refusal :=
  onCore (fun c => c.relayExpire index) s
/-- RPT_PACKET (R21). -/
def execRptPacket (packet : List Byte) (s : State) : Host.Outcome State Fault Refusal :=
  onCore (fun c => c.takeReportPacket packet) s
/-- RPT_SEND (R21, R23). -/
def execRptSend (t : Tenant) (s : State) : Host.Outcome State Fault Refusal :=
  onCore (fun c => c.sendRecords t) s

end Sys2Proof.Machine
end

