-- ==== Sys2Proof/Machine/HostOps.lean ====
section
/-!
DEFINITION. The host port: transactions, framing faults, register writes, PKTIN, and register reads with side effects
(chapters 09 and 10).
-/
namespace Sys2Proof.Machine

/-- DIR of a header: a read (Table HOST-3). -/
def hdrRead (h : Word) : Bool := h.getLsbD 15
/-- Number of data words W (R303). -/
def hdrCount (h : Word) : Nat := h.toNat % 256 + 1
/-- Address of data word `i` (R303). -/
def hdrAddr (h : Word) (i : Nat) : Nat := (h.toNat / 256 % 64 + (if h.getLsbD 14 then i else 0)) % 64

/-- The data word a read row stands for: the first from the words completed on that has the register's address. Reads
without side effects have no row of their own, so words may lie between (DEDUCED, log 23). -/
def Txn.readIndex (t : Txn) (addr : Nat) : Option Nat :=
  (List.range (hdrCount t.header)).find? (fun i => decide (t.words ≤ i) && hdrAddr t.header i == addr)

/-- The first word's VER is not 1, or LEN is above 1 024, as far as the bytes have come (R312). -/
def pktinBad (b : List Byte) : Bool :=
  (b.length == 2 && pkVer b != 1) || (b.length == 12 && decide (1024 < pkLen b))

/-- ENTRY fields of a USEQn word. -/
def nibbles (w : Word) : List Nat := (List.range 4).map (fun i => w.toNat / 16 ^ i % 16)

namespace Core

/-- Change the host port. -/
def modHost (c : Core) (f : HostPort → HostPort) : Core := { c with host := f c.host }

/-- Change the open transaction. -/
def modTxn (c : Core) (f : Txn → Txn) : Core := c.modHost (fun h => { h with txn := h.txn.map f })

/-- CS# falls while the port is live (R298, R304, R319, R320, R322, Table HOST-7): a fall too soon is not served; one during a Doze
entry aborts it. In BOOT the port is live from step B4, which lies inside PLL_LOCK: a fall given in BOOT is one of steps B4 to
B8, with READY = 0 (DEDUCED, log 23). -/
def txnStart (c : Core) (highTicks : Nat) (header : Word) : Core :=
  c.when ((c.pw.phase.isAwake || c.pw.phase == .boot) && c.host.txn.isNone && !c.host.csHeld) (fun c =>
    let c := if c.pw.entry.isSome then c.wakeSource 0#16 .run true else c
    let served := decide (40 ≤ highTicks)
    let t : Txn := { captured := c.hoststat, header := header, words := 0, served := served, ready := c.pw.ready, inSkip := false, outDone := false }
    let c := c.modHost (fun h => { h with txn := some t, miso := t.captured })
    if served then c else c.hostFlag 4)

/-- A partly assembled packet is discarded (Table HOST-7). -/
def dropPktin (c : Core) : Core := c.modHost (fun h => { h with pktin := [] })

/-- CS# rises after a number of counted rising edges (R318, Table HOST-7). -/
def txnEnd (c : Core) (edges : Nat) : Core :=
  let closed := c.modHost (fun h => { h with txn := none, csHeld := false })
  match c.host.txn with
  | none => closed
  | some t =>
    let w := hdrCount t.header
    if !t.served || edges == 0 || !t.ready then closed
    else if edges < 16 then (closed.dropPktin).hostFlag 4
    else if 16 * (w + 1) < edges then closed.hostFlag 5
    else if edges % 16 != 0 then (closed.dropPktin).hostFlag 4
    else if edges < 16 * (w + 1) then closed.hostFlag 6
    else closed

/-- The first counted edge beyond the last data word (Table HOST-7): every word is over, and all extra bits read 0. Reads without side
effects have no row, so the words of a read transaction need not have been counted (log 23). -/
def txnOver (c : Core) : Core :=
  match c.host.txn with
  | none => c
  | some t =>
    c.when (t.served && (hdrRead t.header || decide (hdrCount t.header ≤ t.words))) (fun c =>
      let c := (c.modTxn (fun t => { t with words := hdrCount t.header })).modHost (fun h => { h with miso := 0#16 })
      if t.ready then c.hostFlag 5 else c)

/-- A packet that the host hands over (R311, R339): this tile writes its address into SRC, and takes, broadcasts or sends it. -/
def inject (c : Core) (b : List Byte) : Core :=
  let own := setSrc b c.hg.addr
  if !pkIntact b then
    c.answer { ctxOf b false with src := c.hg.addr } (pkOp b) stBadLength []
  else
    let dst := pkDst own
    if dst == 0x3FF#10 then
      let c := c.noteSeen own
      (if pkTtl own == 0 then c else c.sendOut own none).takeCmd own true
    else if dst == 0#10 || dst == c.hg.addr || (dst == 0x3FE#10 && c.hg.panelRoot) then c.takeCmd own true
    else if pkTtl own == 0 then c.dropPacket own
    else c.sendOut own none

/-- A PKTIN word (R310 to R312). -/
def pktinWord (c : Core) (w : Word) : Core :=
  if c.host.txn.any (fun t => t.inSkip) then c
  else
    let b := c.host.pktin ++ [BitVec.ofNat 8 (w.toNat / 256), BitVec.ofNat 8 w.toNat]
    if 2096 < b.length || pktinBad b then
      ((c.dropPktin).modTxn (fun t => { t with inSkip := true })).hostFlag 8
    else if 12 ≤ b.length && pkTotal b ≤ b.length then (c.dropPktin).inject (b.take (pkTotal b))
    else c.modHost (fun h => { h with pktin := b })

/-- Every user window closes (Table KEY-3, R333). -/
def closeUser (c : Core) : Core :=
  (c.modSar (fun s => { s with usrView := s.usr, usr := List.replicate 14 Tracker.code })).attn 6

/-- USEQCTL (Table REGS-6, R196, R325, R333). -/
def writeUseqctl (c : Core) (w : Word) : Core :=
  let len := w.toNat % 32
  let acc := w.toNat / 128 % 16
  if 16 < len || 12 < acc then c.attn 11
  else
    let c := c.setUseq { c.sar.useqReg with len := len, abort := w.getLsbD 5, accLog := acc }
    let c := c.when (w.getLsbD 11) closeUser
    c.when (w.getLsbD 6 && c.sar.useqReg.period == 0) userRun

/-- LINKCTL of the selected port (R245, R332). -/
def writeLinkctl (c : Core) (w : Word) : Core :=
  c.modPort c.host.linksel (fun l =>
    ((if w.getLsbD 3 then l.flush else l).writeOp (BitVec.ofNat 2 w.toNat)).writeTxbrk (w.getLsbD 2))

/-- SARVSEL allows this word (R333). -/
def vselOk (w : Word) : Bool :=
  let ch := w.toNat % 16
  match w.toNat / 16 % 4 with
  | 0 => decide (ch ≤ 13)
  | 1 => decide (8 ≤ ch) && decide (ch ≤ 12)
  | 2 => true
  | _ => false

/-- What a committed write does to its register (R305, R325, Table REGS-1); writes of other registers do nothing. -/
def writeReg (c : Core) (addr : Nat) (w : Word) : Core :=
  match addr with
  | 0x01 => c.modHost (fun h => { h with flags := h.flags &&& ~~~(w &&& 0x03F0#16) })
  | 0x02 => c.modHost (fun h => { h with attnsrc := h.attnsrc &&& ~~~w })
  | 0x03 => c.modHost (fun h => { h with attnen := w &&& 0x7FFF#16 })
  | 0x04 =>
    let r := w.toNat % 16
    let f := w.toNat / 16 % 16
    if (r == 0 || (decide (2 ≤ r) && decide (r ≤ 5))) && decide (2 ≤ f) && decide (f ≤ 5) then c.writePwrctl (BitVec.ofNat 4 r) (BitVec.ofNat 4 f)
    else c.attn 11
  | 0x07 => if w == 0xC3A5#16 then c.enterReset 6#3 0#8 c.pw.xtal else c
  | 0x08 => c.pktinWord w
  | 0x16 =>
    if w.toNat % 8 ≤ 5 then c.modHost (fun h => { h with linksel := Fin.ofNat 6 (w.toNat % 8), clrArm := none, snapLink := none }) else c.attn 11
  | 0x17 => c.writeLinkctl w
  | 0x19 => c.modPort c.host.linksel (fun l => l.writeData (BitVec.ofNat 8 w.toNat))
  | 0x1D => c.modSar (fun s =>
      { s with refNotReady := s.refNotReady && !w.getLsbD 1, overrun := s.overrun && !w.getLsbD 2, urgFull := s.urgFull && !w.getLsbD 3 })
  | 0x1E => c.writeUseqctl w
  | 0x1F => c.setUseq { c.sar.useqReg with period := w.toNat }
  | 0x20 | 0x21 | 0x22 | 0x23 =>
    if (nibbles w).all (fun e => decide (e ≤ 13)) then
      c.setUseq { c.sar.useqReg with entries := c.sar.useqReg.entries.take (4 * (addr - 32)) ++ nibbles w ++ c.sar.useqReg.entries.drop (4 * (addr - 32) + 4) }
    else c.attn 11
  | 0x24 => if w.toNat % 16 ≤ 13 then c.urgent .host (w.toNat % 16) (w.toNat / 16 % 16 + 1) else c.attn 11
  | 0x25 => if vselOk w then c.modHost (fun h => { h with sarvsel := w &&& 0x003F#16 }) else c.attn 11
  | 0x3E => c.modHost (fun h => { h with scratch0 := w })
  | 0x3F => c.modHost (fun h => { h with scratch1 := w })
  | _ => c

/-- A write data word commits in the open transaction (R305, R317, R322): no effect where the transaction is not served, is no
write, is past its words or addresses another register; discarded where it began before READY. -/
def commitWrite (c : Core) (addr : Nat) (w : Word) : Core :=
  match c.host.txn with
  | none => c
  | some t =>
    if t.served && !hdrRead t.header && decide (t.words < hdrCount t.header) && hdrAddr t.header t.words == addr then
      let c := (c.modTxn (fun t => { t with words := t.words + 1 })).modHost (fun h => { h with miso := 0#16 })
      if t.ready then (c.modHost (fun h => { h with firstWrite := true })).writeReg addr w else c
    else c

/-- A read data word of a register with a side effect (R306, R307): `fetch` acts at the fetch, whether or not the word
completes, and `done` with the word fetched once it does. A transaction that began before READY reads reset values (R72, R322). -/
def readWord (c : Core) (addr : Nat) (completed : Bool) (fetch : Core → Core) (done : Core → Word → Core) : Core :=
  match c.host.txn with
  | none => c
  | some t =>
    match (if t.served && hdrRead t.header then t.readIndex addr else none) with
    | none => c
    | some i =>
      let c := if t.ready then fetch c else c
      let v := if t.ready then c.readReg addr else regReset addr
      let c := c.modHost (fun h => { h with miso := v })
      if completed then
        let c := c.modTxn (fun t => { t with words := i + 1 })
        if t.ready then done c v else c
      else c

/-- PKTOUT is read (R313, R314): the first word seals the head packet; past its end nothing is consumed. -/
def readPktout (c : Core) (completed : Bool) : Core :=
  c.readWord 0x0A completed (fun c => if c.host.txn.any (fun t => t.outDone) then c else c.sealHead) (fun c _ =>
    let (c, ended) := c.pktoutDone (c.host.txn.any (fun t => t.outDone))
    if ended then c.modTxn (fun t => { t with outDone := true }) else c)

/-- PKTOUTLVL is read (R313). -/
def readPktoutlvl (c : Core) (completed : Bool) : Core := c.readWord 0x0B completed sealHead (fun c _ => c)

/-- WAKESRC is read (R307). -/
def readWakesrc (c : Core) (completed : Bool) : Core :=
  c.readWord 0x06 completed (fun c => c) (fun c v => c.modPw (fun p => { p with wakesrc := p.wakesrc &&& ~~~v }))

/-- ENCSTAT is read (R307, R335). -/
def readEncstat (c : Core) (completed : Bool) : Core :=
  c.readWord 0x36 completed (fun c => c) (fun c v =>
    { c with keys := { c.keys with encs := c.keys.encs.zipIdx.map (fun e => { e.1 with errStat := e.1.errStat && !v.getLsbD (4 + e.2) }) } })

/-- HTFC0 is read (R326). -/
def readHtfc0 (c : Core) (completed : Bool) : Core :=
  let s : SnapHt := { fc1 := c.htfc true, sub0 := c.htsub0, sub1 := c.htsub1 }
  c.readWord 0x12 completed (fun c => c.modHost (fun h => { h with snapHt := some s })) (fun c _ => c)

/-- SARMIN is read (R326, R334). -/
def readSarmin (c : Core) (completed : Bool) : Core :=
  let v := c.sarView
  let s : SnapSar := { max := word v.1.mx.toNat, cnt := word v.1.count, sum0 := word v.1.sum.toNat, sum1 := sarsum1 v }
  c.readWord 0x26 completed (fun c => c.modHost (fun h => { h with snapSar := some s })) (fun c _ => c)

/-- RTC0 is read (R326). -/
def readRtc0 (c : Core) (completed : Bool) : Core :=
  c.readWord 0x3C completed (fun c => c.modHost (fun h => { h with snapRtc := some (word (c.pw.rtc.toNat / 65536)) })) (fun c _ => c)

/-- LINKSTAT is read (R246, R326): a completed read arms the clear sequence with the flags it returned, one that is cut off
cancels it. -/
def readLinkstat (c : Core) (completed : Bool) : Core :=
  let p := c.host.linksel
  let s : SnapLink := { mon := c.linkmon p, div := (c.port p).cfg.div.zeroExtend 16, dly := (c.hport p).delay }
  c.readWord 0x18 completed (fun c => c.modHost (fun h => { h with snapLink := some s, clrArm := none }))
    (fun c v => c.modHost (fun h => { h with clrArm := some (BitVec.ofNat 4 v.toNat) }))

/-- LINKDATA is read (R245, R246, R332). -/
def readLinkdata (c : Core) (completed : Bool) : Core :=
  c.readWord 0x19 completed (fun c => c) (fun c _ =>
    let m := c.host.clrArm.getD 0#4
    (c.modPort c.host.linksel (fun l => ({ l with rxFifo := if l.isRaw then l.rxFifo.drop 1 else l.rxFifo }).clearFlags m)).modHost
      (fun h => { h with clrArm := none }))

end Core

end Sys2Proof.Machine
end

