-- ==== Sys2Proof/Machine/Host.lean ====
section
/-!
DEFINITION. The commands of the host port: transactions, register writes, and register reads with side effects
(chapters 09 and 10).
-/
namespace Sys2Proof.Machine

/-- TRANSACTION_START (R304): CS# falls after `highTicks` ticks high. -/
def execTransactionStart (highTicks : Nat) (header : Word) (s : State) : Host.Outcome State Fault Refusal :=
  onCore (fun c => c.txnStart highTicks header) s
/-- TRANSACTION_END (R318): CS# rises after `edges` counted SCK rising edges. -/
def execTransactionEnd (edges : Nat) (s : State) : Host.Outcome State Fault Refusal :=
  onCore (fun c => c.txnEnd edges) s
/-- OVERCLK (R318). -/
def execOverclk (s : State) : Host.Outcome State Fault Refusal :=
  onCore Core.txnOver s
/-- REGISTER_WRITE (R305): a write word commits at any address. -/
def execRegisterWrite (addr : BitVec 6) (w : Word) (s : State) : Host.Outcome State Fault Refusal :=
  onCore (fun c => c.commitWrite addr.toNat w) s
/-- HOSTSTAT_WRITE (R308). -/
def execHoststatWrite (w : Word) (s : State) : Host.Outcome State Fault Refusal :=
  onCore (fun c => c.commitWrite 0x01 w) s
/-- ATTNSRC_WRITE (R328). -/
def execAttnsrcWrite (w : Word) (s : State) : Host.Outcome State Fault Refusal :=
  onCore (fun c => c.commitWrite 0x02 w) s
/-- REQ (R52): a write of PWRCTL, both its fields. -/
def execReq (w : Word) (s : State) : Host.Outcome State Fault Refusal :=
  onCore (fun c => c.commitWrite 0x04 w) s
/-- FLOOR (R53): a write of PWRCTL, both its fields. -/
def execFloor (w : Word) (s : State) : Host.Outcome State Fault Refusal :=
  onCore (fun c => c.commitWrite 0x04 w) s
/-- HOSTCTL_RESET (R330). -/
def execHostctlReset (w : Word) (s : State) : Host.Outcome State Fault Refusal :=
  onCore (fun c => c.commitWrite 0x07 w) s
/-- PKTIN_WRITE (R310 to R312). -/
def execPktinWrite (w : Word) (s : State) : Host.Outcome State Fault Refusal :=
  onCore (fun c => c.commitWrite 0x08 w) s
/-- PKTOUT_READ (R314). -/
def execPktoutRead (completed : Bool) (s : State) : Host.Outcome State Fault Refusal :=
  onCore (fun c => c.readPktout completed) s
/-- PKTOUTLVL_READ (R313). -/
def execPktoutlvlRead (completed : Bool) (s : State) : Host.Outcome State Fault Refusal :=
  onCore (fun c => c.readPktoutlvl completed) s
/-- WAKESRC_READ (R307). -/
def execWakesrcRead (completed : Bool) (s : State) : Host.Outcome State Fault Refusal :=
  onCore (fun c => c.readWakesrc completed) s
/-- ENCSTAT_READ (R335). -/
def execEncstatRead (completed : Bool) (s : State) : Host.Outcome State Fault Refusal :=
  onCore (fun c => c.readEncstat completed) s
/-- HTFC0_READ (R326). -/
def execHtfc0Read (completed : Bool) (s : State) : Host.Outcome State Fault Refusal :=
  onCore (fun c => c.readHtfc0 completed) s
/-- SARMIN_READ (R326). -/
def execSarminRead (completed : Bool) (s : State) : Host.Outcome State Fault Refusal :=
  onCore (fun c => c.readSarmin completed) s
/-- RTC0_READ (R326). -/
def execRtc0Read (completed : Bool) (s : State) : Host.Outcome State Fault Refusal :=
  onCore (fun c => c.readRtc0 completed) s
/-- LINKSTAT_READ (R246). -/
def execLinkstatRead (completed : Bool) (s : State) : Host.Outcome State Fault Refusal :=
  onCore (fun c => c.readLinkstat completed) s
/-- LINKDATA_READ (R245, R246). -/
def execLinkdataRead (completed : Bool) (s : State) : Host.Outcome State Fault Refusal :=
  onCore (fun c => c.readLinkdata completed) s
/-- LINKDATA_WRITE (R245). -/
def execLinkdataWrite (w : Word) (s : State) : Host.Outcome State Fault Refusal :=
  onCore (fun c => c.commitWrite 0x19 w) s
/-- LINKSEL_WRITE (R326). -/
def execLinkselWrite (w : Word) (s : State) : Host.Outcome State Fault Refusal :=
  onCore (fun c => c.commitWrite 0x16 w) s
/-- OP (R332): a write of LINKCTL, all its fields. -/
def execOp (w : Word) (s : State) : Host.Outcome State Fault Refusal :=
  onCore (fun c => c.commitWrite 0x17 w) s
/-- TXBRK (R245): a write of LINKCTL, all its fields. -/
def execTxbrk (w : Word) (s : State) : Host.Outcome State Fault Refusal :=
  onCore (fun c => c.commitWrite 0x17 w) s
/-- FLUSH (R332): a write of LINKCTL, all its fields. -/
def execFlush (w : Word) (s : State) : Host.Outcome State Fault Refusal :=
  onCore (fun c => c.commitWrite 0x17 w) s
/-- START (R196): a write of USEQCTL, all its fields. -/
def execStart (w : Word) (s : State) : Host.Outcome State Fault Refusal :=
  onCore (fun c => c.commitWrite 0x1E w) s
/-- CLOSE (R333): a write of USEQCTL, all its fields. -/
def execClose (w : Word) (s : State) : Host.Outcome State Fault Refusal :=
  onCore (fun c => c.commitWrite 0x1E w) s
/-- USEQ_SETTINGS_WRITE (R333): a write of USEQCTL, USEQPER or USEQ0 to USEQ3; another address is no such write. -/
def execUseqSettingsWrite (addr : BitVec 6) (w : Word) (s : State) : Host.Outcome State Fault Refusal :=
  onCore (fun c => c.when (decide (0x1E ≤ addr.toNat) && decide (addr.toNat ≤ 0x23)) (fun c => c.commitWrite addr.toNat w)) s
/-- SARURG (R333). -/
def execSarurg (w : Word) (s : State) : Host.Outcome State Fault Refusal :=
  onCore (fun c => c.commitWrite 0x24 w) s

end Sys2Proof.Machine
end

