-- ==== Sys2Proof/Machine/Opcodes.lean ====
section
/-!
DEFINITION. The opcode commands of Table PKT-5, and the events of the packet engine and the NVM (chapter 11, R79, R142,
R351, R357, R383, R388, R445).
-/
namespace Sys2Proof.Machine

/-- A CMD that has passed checks 1 to 4 reaches its opcode, in BARE, Quiet or Run (R354). -/
def Core.opcode (c : Core) (op : Byte) (x : CmdCtx) (p : List Byte) : Core := c.when c.fast (fun c => c.command op x p)

/-- GET_INFO. -/
def execGetInfo (x : CmdCtx) (p : List Byte) (s : State) : Host.Outcome State Fault Refusal :=
  onCore (fun c => c.opcode 0x00#8 x p) s
/-- GET_STATE. -/
def execGetState (x : CmdCtx) (p : List Byte) (s : State) : Host.Outcome State Fault Refusal :=
  onCore (fun c => c.opcode 0x01#8 x p) s
/-- SET_STATE. -/
def execSetState (x : CmdCtx) (p : List Byte) (s : State) : Host.Outcome State Fault Refusal :=
  onCore (fun c => c.opcode 0x02#8 x p) s
/-- RESET. -/
def execReset (x : CmdCtx) (p : List Byte) (s : State) : Host.Outcome State Fault Refusal :=
  onCore (fun c => c.opcode 0x03#8 x p) s
/-- GET_FRESH. -/
def execGetFresh (x : CmdCtx) (p : List Byte) (s : State) : Host.Outcome State Fault Refusal :=
  onCore (fun c => c.opcode 0x04#8 x p) s
/-- PROFILE_READ. -/
def execProfileRead (x : CmdCtx) (p : List Byte) (s : State) : Host.Outcome State Fault Refusal :=
  onCore (fun c => c.opcode 0x10#8 x p) s
/-- PROFILE_WRITE. -/
def execProfileWrite (x : CmdCtx) (p : List Byte) (s : State) : Host.Outcome State Fault Refusal :=
  onCore (fun c => c.opcode 0x11#8 x p) s
/-- PROFILE_COMMIT. -/
def execProfileCommit (x : CmdCtx) (p : List Byte) (s : State) : Host.Outcome State Fault Refusal :=
  onCore (fun c => c.opcode 0x12#8 x p) s
/-- PROFILE_GEN. -/
def execProfileGen (x : CmdCtx) (p : List Byte) (s : State) : Host.Outcome State Fault Refusal :=
  onCore (fun c => c.opcode 0x13#8 x p) s
/-- PROV_KEY. -/
def execProvKey (x : CmdCtx) (p : List Byte) (s : State) : Host.Outcome State Fault Refusal :=
  onCore (fun c => c.opcode 0x20#8 x p) s
/-- TENANT_DEFINE. -/
def execTenantDefine (x : CmdCtx) (p : List Byte) (s : State) : Host.Outcome State Fault Refusal :=
  onCore (fun c => c.opcode 0x21#8 x p) s
/-- TENANT_REMOVE. -/
def execTenantRemove (x : CmdCtx) (p : List Byte) (s : State) : Host.Outcome State Fault Refusal :=
  onCore (fun c => c.opcode 0x22#8 x p) s
/-- TENANT_GET. -/
def execTenantGet (x : CmdCtx) (p : List Byte) (s : State) : Host.Outcome State Fault Refusal :=
  onCore (fun c => c.opcode 0x23#8 x p) s
/-- HEDGE_KEY. -/
def execHedgeKey (x : CmdCtx) (p : List Byte) (s : State) : Host.Outcome State Fault Refusal :=
  onCore (fun c => c.opcode 0x24#8 x p) s
/-- ZONES. -/
def execZones (x : CmdCtx) (p : List Byte) (s : State) : Host.Outcome State Fault Refusal :=
  onCore (fun c => c.opcode 0x30#8 x p) s
/-- TEMPLATES. -/
def execTemplates (x : CmdCtx) (p : List Byte) (s : State) : Host.Outcome State Fault Refusal :=
  onCore (fun c => c.opcode 0x31#8 x p) s
/-- GESTURE_FIELDS. -/
def execGestureFields (x : CmdCtx) (p : List Byte) (s : State) : Host.Outcome State Fault Refusal :=
  onCore (fun c => c.opcode 0x32#8 x p) s
/-- WAKE_CONFIG. -/
def execWakeConfig (x : CmdCtx) (p : List Byte) (s : State) : Host.Outcome State Fault Refusal :=
  onCore (fun c => c.opcode 0x33#8 x p) s
/-- FRAME_PLAN. -/
def execFramePlan (x : CmdCtx) (p : List Byte) (s : State) : Host.Outcome State Fault Refusal :=
  onCore (fun c => c.opcode 0x40#8 x p) s
/-- SENSE_LINES. -/
def execSenseLines (x : CmdCtx) (p : List Byte) (s : State) : Host.Outcome State Fault Refusal :=
  onCore (fun c => c.opcode 0x41#8 x p) s
/-- COMP_CODES. -/
def execCompCodes (x : CmdCtx) (p : List Byte) (s : State) : Host.Outcome State Fault Refusal :=
  onCore (fun c => c.opcode 0x42#8 x p) s
/-- COMP_SEEK. -/
def execCompSeek (x : CmdCtx) (p : List Byte) (s : State) : Host.Outcome State Fault Refusal :=
  onCore (fun c => c.opcode 0x43#8 x p) s
/-- BASELINE_CAPTURE. -/
def execBaselineCapture (x : CmdCtx) (p : List Byte) (s : State) : Host.Outcome State Fault Refusal :=
  onCore (fun c => c.opcode 0x44#8 x p) s
/-- NODE_FIELDS. -/
def execNodeFields (x : CmdCtx) (p : List Byte) (s : State) : Host.Outcome State Fault Refusal :=
  onCore (fun c => c.opcode 0x45#8 x p) s
/-- TRACK_FIELDS. -/
def execTrackFields (x : CmdCtx) (p : List Byte) (s : State) : Host.Outcome State Fault Refusal :=
  onCore (fun c => c.opcode 0x46#8 x p) s
/-- SWING. -/
def execSwing (x : CmdCtx) (p : List Byte) (s : State) : Host.Outcome State Fault Refusal :=
  onCore (fun c => c.opcode 0x47#8 x p) s
/-- SELF_FIELDS. -/
def execSelfFields (x : CmdCtx) (p : List Byte) (s : State) : Host.Outcome State Fault Refusal :=
  onCore (fun c => c.opcode 0x48#8 x p) s
/-- NODE_MAP. -/
def execNodeMap (x : CmdCtx) (p : List Byte) (s : State) : Host.Outcome State Fault Refusal :=
  onCore (fun c => c.opcode 0x50#8 x p) s
/-- NOISE. -/
def execNoise (x : CmdCtx) (p : List Byte) (s : State) : Host.Outcome State Fault Refusal :=
  onCore (fun c => c.opcode 0x51#8 x p) s
/-- SAMPLE_VIEW. -/
def execSampleView (x : CmdCtx) (p : List Byte) (s : State) : Host.Outcome State Fault Refusal :=
  onCore (fun c => c.opcode 0x52#8 x p) s
/-- SELF_TEST. -/
def execSelfTest (x : CmdCtx) (p : List Byte) (s : State) : Host.Outcome State Fault Refusal :=
  onCore (fun c => c.opcode 0x53#8 x p) s
/-- TELEMETRY. -/
def execTelemetry (x : CmdCtx) (p : List Byte) (s : State) : Host.Outcome State Fault Refusal :=
  onCore (fun c => c.opcode 0x54#8 x p) s
/-- WEAR_MAP. -/
def execWearMap (x : CmdCtx) (p : List Byte) (s : State) : Host.Outcome State Fault Refusal :=
  onCore (fun c => c.opcode 0x55#8 x p) s
/-- LINK_COUNTS. -/
def execLinkCounts (x : CmdCtx) (p : List Byte) (s : State) : Host.Outcome State Fault Refusal :=
  onCore (fun c => c.opcode 0x56#8 x p) s
/-- FAULTS. -/
def execFaults (x : CmdCtx) (p : List Byte) (s : State) : Host.Outcome State Fault Refusal :=
  onCore (fun c => c.opcode 0x57#8 x p) s
/-- LADDERS. -/
def execLadders (x : CmdCtx) (p : List Byte) (s : State) : Host.Outcome State Fault Refusal :=
  onCore (fun c => c.opcode 0x60#8 x p) s
/-- ENCODERS. -/
def execEncoders (x : CmdCtx) (p : List Byte) (s : State) : Host.Outcome State Fault Refusal :=
  onCore (fun c => c.opcode 0x61#8 x p) s
/-- KEY_STATUS. -/
def execKeyStatus (x : CmdCtx) (p : List Byte) (s : State) : Host.Outcome State Fault Refusal :=
  onCore (fun c => c.opcode 0x62#8 x p) s
/-- COMBO_READ. -/
def execComboRead (x : CmdCtx) (p : List Byte) (s : State) : Host.Outcome State Fault Refusal :=
  onCore (fun c => c.opcode 0x63#8 x p) s
/-- ROUTES. -/
def execRoutes (x : CmdCtx) (p : List Byte) (s : State) : Host.Outcome State Fault Refusal :=
  onCore (fun c => c.opcode 0x70#8 x p) s
/-- LINK_CONFIG. -/
def execLinkConfig (x : CmdCtx) (p : List Byte) (s : State) : Host.Outcome State Fault Refusal :=
  onCore (fun c => c.opcode 0x71#8 x p) s
/-- RAW_LINK. -/
def execRawLink (x : CmdCtx) (p : List Byte) (s : State) : Host.Outcome State Fault Refusal :=
  onCore (fun c => c.opcode 0x72#8 x p) s
/-- DISCOVER. -/
def execDiscover (x : CmdCtx) (p : List Byte) (s : State) : Host.Outcome State Fault Refusal :=
  onCore (fun c => c.opcode 0x73#8 x p) s
/-- ROSTER. -/
def execRoster (x : CmdCtx) (p : List Byte) (s : State) : Host.Outcome State Fault Refusal :=
  onCore (fun c => c.opcode 0x74#8 x p) s
/-- RENUMBER. -/
def execRenumber (x : CmdCtx) (p : List Byte) (s : State) : Host.Outcome State Fault Refusal :=
  onCore (fun c => c.opcode 0x75#8 x p) s
/-- REPAIR_STATUS. -/
def execRepairStatus (x : CmdCtx) (p : List Byte) (s : State) : Host.Outcome State Fault Refusal :=
  onCore (fun c => c.opcode 0x80#8 x p) s
/-- COPPICE_SET. -/
def execCoppiceSet (x : CmdCtx) (p : List Byte) (s : State) : Host.Outcome State Fault Refusal :=
  onCore (fun c => c.opcode 0x81#8 x p) s
/-- COPPICE_CLEAR. -/
def execCoppiceClear (x : CmdCtx) (p : List Byte) (s : State) : Host.Outcome State Fault Refusal :=
  onCore (fun c => c.opcode 0x82#8 x p) s
/-- FINGERPRINT. -/
def execFingerprint (x : CmdCtx) (p : List Byte) (s : State) : Host.Outcome State Fault Refusal :=
  onCore (fun c => c.opcode 0x83#8 x p) s
/-- BG_TASK. -/
def execBgTask (x : CmdCtx) (p : List Byte) (s : State) : Host.Outcome State Fault Refusal :=
  onCore (fun c => c.opcode 0x84#8 x p) s
/-- RESET_COMMAND_EXECUTE: the RSP has left, or 10 ms have passed (Table PKT-5). -/
def execResetCommandExecute (s : State) : Host.Outcome State Fault Refusal :=
  onCore (fun c => c.when (c.pw.resetDue && c.powered) (fun c => c.enterReset 6#3 0#8 c.pw.xtal)) s
/-- TRANSFER_ABANDON (R351). -/
def execTransferAbandon (s : State) : Host.Outcome State Fault Refusal :=
  onCore (fun c => { c with pk := { c.pk with transfer := none } }) s
/-- NVM_OPERATION_DONE (R79). -/
def execNvmOperationDone (verified : Bool) (s : State) : Host.Outcome State Fault Refusal := onCore (fun c => c.jobStep verified) s
/-- SEEK_START (R142). -/
def execSeekStart (s : State) : Host.Outcome State Fault Refusal := onCore Core.seekStart s
/-- SEEK_TIMEOUT (R142). -/
def execSeekTimeout (s : State) : Host.Outcome State Fault Refusal := onCore Core.seekTimeout s
/-- DEFERRED_COMMAND_APPLY (R20). -/
def execDeferredCommandApply (s : State) : Host.Outcome State Fault Refusal :=
  onCore (fun c => c.when (c.pw.phase == .quiet) Core.applyFirst) s
/-- FINGERPRINT_TIMEOUT (R383). -/
def execFingerprintTimeout (s : State) : Host.Outcome State Fault Refusal := onCore Core.fingerTimeout s
/-- SELF_TEST_TIMEOUT (R388). -/
def execSelfTestTimeout (s : State) : Host.Outcome State Fault Refusal := onCore Core.testTimeout s
/-- OTP_PROGRAM_DONE (R445). -/
def execOtpProgramDone (verified : Bool) (s : State) : Host.Outcome State Fault Refusal := .next (otpDone verified s)

end Sys2Proof.Machine
end

