-- ==== Sys2Proof/Machine/UpkeepOps.lean ====
section
/-!
DEFINITION. Slice calibration, the deadlines of background tasks, scrub and refresh of NVM rows, and the telemetry flush (R375,
R377 to R379, R385, R387 to R389, R394, R396 to R403).
-/
namespace Sys2Proof.Machine

/-- The first slice from one on, in cyclic order, that is not failed (R379). -/
def SliceRot.fromSlice (r : SliceRot) (s : Fin 11) : Fin 11 :=
  ((List.range 11).map (fun (i : Nat) => s + Fin.ofNat 11 i)).find? (fun x => !r.failed.contains x) |>.getD s

/-- Trims outside ±3 % or ±32 LSB (R379): the gain in hundredths of a percent (log 7). -/
def trimsBad (gain offset : Int) : Bool := decide (300 < gain.natAbs) || decide (32 < offset.natAbs)

namespace Core

/-- The tile is past BOOT and not in reset or OFF. -/
def lives (c : Core) : Bool := c.pw.phase.isAwake || c.pw.phase.isAsleep

/-! ### Slices -/

/-- A converter's rotation. -/
def sliceOf (c : Core) (n : Fin 2) : SliceRot := c.rep.slices.getD n.val SliceRot.reset

/-- Change a converter's rotation. -/
def modSlice (c : Core) (n : Fin 2) (f : SliceRot → SliceRot) : Core :=
  c.modRep (fun r => { r with slices := modifyAt r.slices n.val f })

/-- A SLICECAL frame of a converter is running. -/
def inSlicecal (c : Core) (n : Fin 2) : Bool := c.acq.maint == some (.slicecal n)

/-- The slice a calibration has been made of: the out slice, or with a failed slice the one whose turn it is (R377, R379). -/
def calibrated (c : Core) (n : Fin 2) : Option (Fin 11) :=
  let r := c.sliceOf n
  if r.failDue.isSome then none
  else if r.failed.isEmpty then (if r.doneCal then none else some r.out)
  else if c.inSlicecal n then some (r.fromSlice r.next) else none

/-- A slice fails (R373, R374, R379): its map entry is written, and at the next boundary it leaves service for good. A converter has one
spare slice, and a second failure finds none (R375, Table REPAIR-1). -/
def failSlice (c : Core) (n : Fin 2) (s : Fin 11) : Core :=
  let i := n.val * 16 + s.val
  let second := !(c.sliceOf n).failed.isEmpty
  let c := c.addRepair { kind := 1#8, index := BitVec.ofNat 8 i, detail := 0#8, origin := 2#8 }
  let c := c.modSlice n (fun r => { r with doneCal := false, failDue := some s, bad := r.bad.filter (fun b => b != s) })
  let c := (c.addFault 1 i 0 2 0).repairEvent 0x41 [BitVec.ofNat 8 n.val, BitVec.ofNat 8 s.val]
  if second then c.sparesOut 1#8 else c

/-- SLICE_CALIBRATION_DONE in Run (R377, R379): the out slice's new trims wait for its return to service; with a failed slice on the
converter, the calibrated slice is in service and takes its own. -/
def calibrationDone (c : Core) (n : Fin 2) (gain offset : Int) : Core :=
  c.when (c.pw.phase == .run) (fun c =>
    match c.calibrated n with
    | none => c
    | some s =>
      let failed := !(c.sliceOf n).failed.isEmpty
      let c := c.modRep (fun r => { r with bgDue := r.bgDue &&& 0b11110#5 })
      let c := if failed then c.modSlice n (fun r => { r with next := s + 1 }) else c
      if trimsBad gain offset && (c.sliceOf n).bad.contains s then c.failSlice n s
      else c.modSlice n (fun r =>
        { r with doneCal := !failed, bad := r.bad.filter (fun b => b != s) ++ (if trimsBad gain offset then [s] else [])
                 newTrim := if failed then r.newTrim else (gain, offset)
                 trims := if failed then r.trims.set s.val (gain, offset) else r.trims }))

/-! ### Deadlines -/

/-- A handover waits (R377). -/
def handoverWaits (c : Core) : Bool := c.rep.slices.any (fun r => r.doneCal)

/-- A row of NVM is due for refresh (R399). -/
def refreshDue (c : Core) : Bool := !c.rep.refresh.isEmpty

/-- A task can be past due: it has something to do. -/
def hasWork (c : Core) (task : Fin 5) : Bool :=
  match task with
  | 0 => c.pw.phase == .run && c.handoverWaits
  | 1 => c.rep.testDue && c.rep.selftest.isNone
  | 3 => c.refreshDue
  | _ => true

/-- A MAINT frame is due, once. -/
def dueMaint (c : Core) (m : Maint) : Core :=
  c.modAcq (fun a => { a with maintDue := if a.maintDue.contains m then a.maintDue else a.maintDue ++ [m] })

/-- A task is complete: no longer due, and no longer past due; outside Run the repair registers follow then (R336). -/
def taskOver (c : Core) (task : Fin 5) : Core :=
  let c := c.modRep (fun r => { r with bgDue := r.bgDue &&& ~~~(1#5 <<< task.val), bgdefer := r.bgdefer &&& ~~~(1#5 <<< task.val) })
  if c.pw.phase == .run then c else c.latchRpr

/-! ### Rows of NVM -/

/-- A row in use: not reserved, holding its own content, or a spare row in the place of another (R397, Table REPAIR-8). -/
def rowUsed (c : Core) (row : Nat) : Bool :=
  (decide (row < 248) && (c.rowInfo row).spare.isNone) || (decide (256 ≤ row) && decide (c.rowHolds row < 256))

/-- Rows of the telemetry ring. -/
def ringRow (c : Core) (row : Nat) : Bool := decide (88 ≤ c.rowHolds row) && decide (c.rowHolds row < 248)

/-- The row belongs to the active profile slot. -/
def activeRow (c : Core) (row : Nat) : Bool :=
  match c.slot with
  | none => false
  | some .a => decide (c.rowHolds row < 32)
  | some .b => decide (32 ≤ c.rowHolds row) && decide (c.rowHolds row < 64)

/-- The last row in use, which ends a scrub. -/
def lastRow (c : Core) : Nat := ((List.range 272).reverse.find? c.rowUsed).getD 247

/-- A forced slot of an NVM task (R394, R395): in Run within the NOISE and SELF reservations of a frame that grants none to an earlier
task of Table REPAIR-7. -/
def nvmSlot (c : Core) (task : Fin 5) : Bool :=
  c.pw.phase != .run || !c.acq.running ||
  ((c.acq.slot == some .noise || c.acq.slot == some .self) && c.rep.task == 0#4 &&
    (List.range task.val).all (fun i => decide (i < 2) || !c.rep.bgdefer.getLsbD i))

/-- An NVM task has its turn (R40, R80, R395): foreground work in NVM goes first, but not before a forced slot. -/
def nvmTurn (c : Core) (task : Fin 5) : Bool :=
  c.fast && c.nvmOk &&
  (if c.rep.bgdefer.getLsbD task.val then c.nvmSlot task
    else c.nvm.job.isNone && c.keyProg.isNone)

/-- A double-bit error (R399): the event, then the good copy over the bad one, or the loaded image into the other slot. -/
def uncorrectable (c : Core) (row : Nat) : Core :=
  let c := c.repairEvent 0x4B (Config.nvmRecordCode row :: le 2 row)
  match RecId.ofRow (c.rowHolds row) with
  | some r => c.mendRecord r row
  | none => if c.activeRow row && c.nvm.job.isNone then c.startCommit c.image (c.gen + 1#32) none else c

/-- A row is due for refresh, from the scrub that found it (R394, R399). -/
def dueRow (c : Core) (row : Nat) : Core :=
  if c.rep.refresh.any (fun r => r.1 == row) then c else c.modRep (fun r => { r with refresh := r.refresh ++ [(row, r.rtcLong)] })

/-- NVM_SCRUB of one row (R394, R395, R399); the last row in use completes the scrub. -/
def scrubRow (c : Core) (row : Nat) (read : ScrubRead) : Core :=
  c.when (c.nvmTurn 2 && c.rowUsed row) (fun c =>
    let old := decide (1826 < c.lifeDay - (c.rowInfo row).eraseDay)
    let due := !c.ringRow row && (read.corrected || read.marginDiffers || old)
    let last := row == c.lastRow
    let c := c.modTele (fun t => { t with nvmFix := t.nvmFix + bit read.corrected })
    let c := if due then c.dueRow row else c
    let c := if read.uncorrectable then c.uncorrectable row else c
    if last then (c.modRep (fun r => { r with doneAt := r.doneAt.set 1 r.rtcLong })).taskOver 2 else c)

/-- NVM_REFRESH of one row (R395, R397, R400): the buffer takes the row, the row is erased, rewritten and verified, and the buffer is
erased. A row that fails verify is retired, or with no spare row left leaves a two-copy record one copy. -/
def refreshRow (c : Core) (row : Nat) (verified : Bool) : Core :=
  c.when (c.nvmTurn 3 && c.rep.refresh.any (fun r => r.1 == row)) (fun c =>
    let held := c.rowHolds row
    let c := ((c.programRows [86, 87]).1.saveMap.noteErase held).modRep (fun r => { r with refresh := r.refresh.filter (fun x => x.1 != row) })
    let w := if verified then (c, true) else c.retireRow held
    let c := match (if w.2 then none else RecId.ofRow held) with
      | some r =>
        let p := w.1.pair r
        let isB := (r.rows true).contains held
        let q := p.put isB { (if isB then p.b else p.a) with sound := false }
        (Core.regrade { w.1 with nvm := { w.1.nvm with copies := w.1.nvm.copies.set r q } })
      | none => w.1
    if c.refreshDue then c else c.taskOver 3)

/-! ### Telemetry -/

/-- A u16 count of a telemetry record, saturating. -/
def count16 (n : Nat) : List Byte := le 2 (min 65535 n)

/-- An extreme of the interval; without a monitor burst in it the manual gives none (log 3). -/
def extreme (c : Core) (x : Option Int) : Core × Word :=
  match x with
  | some v => (c, BitVec.ofInt 16 v)
  | none =>
    let (c, n) := c.draw
    (c, Config.teleExtreme n)

/-- A telemetry record without its CRC-16 (Table REPAIR-9). -/
def teleBytes (c : Core) (low tLow tHigh : Word) : List Byte :=
  let t := c.rep.tele
  bvLe 4 c.nvm.ringSeq ++ le 4 c.lifeHours ++ count16 t.runS ++ count16 t.quietS ++ count16 t.wakes ++ count16 t.downs ++
  count16 t.presses ++ count16 t.detents ++ bvLe 2 low ++ bvLe 2 tLow ++ bvLe 2 tHigh ++ count16 t.sagged ++ count16 t.clipped ++
  count16 t.noise ++ le 1 (min 255 t.hops) ++ le 1 c.rep.grade.toNat ++ count16 t.events ++ count16 t.authFail ++
  count16 t.linkErr ++ count16 t.breaks ++ bvLe 2 c.ret.boCount ++ count16 t.qLost ++ count16 t.nvmFix ++ count16 t.drift ++
  List.replicate 12 0#8

/-- The ring takes a record in its next slot, which stays unused where the row fails verify with no spare row left (R397, R401); the head
that enters the last page of a row erases the row after it, with the records it held. -/
def ringWrite (c : Core) (rec' : List Byte) : Core :=
  let at' := c.nvm.ringSeq.toNat % 5120
  let head := (at' + 1) % 5120
  let v := c.verifies
  let w := if v.2 then (v.1, true) else v.1.retireRow (88 + at' / 32)
  let c := w.1
  let ring := if w.2 then rec' :: c.nvm.ring else c.nvm.ring
  let ahead := head % 32 == 28
  let keep := fun (b : List Byte) => decide (c.nvm.ringSeq.toNat < leAt b 0 4 + 5084)
  let c := { c with nvm := { c.nvm with ring := if ahead then ring.filter keep else ring, ringSeq := c.nvm.ringSeq + 1#32 } }
  if ahead then (c.programRow (88 + (head / 32 + 1) % 160)).1.saveMap else c

/-- The wear counted since the last merge goes into the map (R403). -/
def mergeWear (c : Core) : Core :=
  let add := fun (a b : WearCell) => ({ frames := min (2 ^ 32 - 1) (a.frames + b.frames), downs := min 65535 (a.downs + b.downs) } : WearCell)
  let hours : BitVec 32 := BitVec.ofNat 32 c.lifeHours
  let wear := (c.nvm.wear.zip c.rep.wearAcc).map (fun x => add x.1 x.2)
  let first := some (c.nvm.wearFirst.getD hours)
  let w := c.write .wear (fun c => { c with nvm := { c.nvm with wear := wear, wearFirst := first, wearLast := hours } })
  w.1.modRep (fun r => { r with flushes := 0, wearAcc := if w.2 then List.replicate 192 { frames := 0, downs := 0 } else r.wearAcc })

/-- LIFE_H is saved (R398). -/
def saveLife (c : Core) : Core :=
  let hours : BitVec 32 := BitVec.ofNat 32 c.lifeHours
  let rest := c.rep.lifeT % 117964800
  let put := fun (c : Core) => Core.modRep { c with nvm := { c.nvm with lifeH := hours } } (fun r => { r with lifeT := rest })
  (c.write .life put).1

/-- TELEMETRY_FLUSH (R398, R401 to R403). -/
def flush (c : Core) : Core :=
  c.when (c.nvmTurn 4) (fun c =>
    let t := c.rep.tele
    let (c, low) := c.extreme (t.vbatLow.map (fun n => (n : Int)))
    let (c, tLow) := c.extreme t.tdLow
    let (c, tHigh) := c.extreme t.tdHigh
    let b := c.teleBytes low tLow tHigh
    let c := (c.ringWrite (b ++ bvLe 2 (crc16 b))).saveLife
    let c := c.modRep (fun r => { r with
      flushes := r.flushes + 1, tele := { Tele.zero with runT := r.tele.runT, quietT := r.tele.quietT, drift := r.tele.drift }
      doneAt := r.doneAt.set 2 r.rtcLong })
    let c := if c.rep.flushes == 24 then c.mergeWear else c
    c.taskOver 4)

/-- NVM_FRAGILE (Table REPAIR-2, Table REPAIR-10). -/
def fragile (c : Core) : Core :=
  c.when (c.lives && (decide (16 ≤ c.nvm.sparesUsed) || c.oneCopy)) (fun c =>
    c.repairEvent 0x4C (le 1 (16 - c.nvm.sparesUsed)))

end Core

end Sys2Proof.Machine
end

