-- ==== Sys2Proof/Machine/Repair.lean ====
section
/-!
DEFINITION. The commands of repair and endurance (chapter 12), and the loss of the retention record.
-/
namespace Sys2Proof.Machine

/-- SLICE_CALIBRATION_DONE (R377, R379): gain trim in hundredths of a percent, offset trim in LSB (log 7). -/
def execSliceCalibrationDone (converter : Fin 2) (gain offset : Int) (s : State) : Host.Outcome State Fault Refusal :=
  onCore (fun c => c.calibrationDone converter gain offset) s
/-- SLICE_HANDOVER_FORCED (R378): the handover of a slice whose calibration is complete has waited 10 s. -/
def execSliceHandoverForced (converter : Fin 2) (s : State) : Host.Outcome State Fault Refusal :=
  onCore (fun c => c.when (c.pw.phase == .run && (c.sliceOf converter).doneCal) (fun c => c.pastDue 0)) s
/-- SLICECAL_DUE (R379). -/
def execSlicecalDue (converter : Fin 2) (s : State) : Host.Outcome State Fault Refusal :=
  onCore (fun c => c.when (c.pw.phase == .run && !(c.sliceOf converter).failed.isEmpty) (fun c => c.dueMaint (.slicecal converter))) s
/-- DAILY_SELFTEST_DUE (R376, R387). -/
def execDailySelftestDue (s : State) : Host.Outcome State Fault Refusal :=
  onCore (fun c => c.when c.lives (fun c => (c.modRep (fun r => { r with testDue := true, bgDue := r.bgDue ||| 2#5 })).testWake)) s
/-- SELFTEST_FORCED (R388). -/
def execSelftestForced (s : State) : Host.Outcome State Fault Refusal :=
  onCore (fun c => c.when (c.lives && c.hasWork 1) (fun c => c.pastDue 1)) s
/-- SELFTEST_CONFIRM (R385): 10 s have passed since a first frame that found a signature. -/
def execSelftestConfirm (s : State) : Host.Outcome State Fault Refusal :=
  onCore (fun c => c.when (c.rep.selftest.any (fun r => r.frames == 1 && !r.first.isEmpty)) (fun c => c.dueMaint .selftest)) s
/-- SUSPECT_SELFTEST (R389): 2 s have passed since a line became suspect. -/
def execSuspectSelftest (s : State) : Host.Outcome State Fault Refusal :=
  onCore (fun c => c.when (!c.rep.suspects.isEmpty && c.rep.selftest.isNone) (fun c => c.dueMaint .selftest)) s
/-- DEFER_FORCED (R394). -/
def execDeferForced (task : Fin 5) (s : State) : Host.Outcome State Fault Refusal :=
  onCore (fun c => c.when (c.lives && c.hasWork task) (fun c => c.pastDue task)) s
/-- NVM_SCRUB (R399). -/
def execNvmScrub (row : Nat) (read : ScrubRead) (s : State) : Host.Outcome State Fault Refusal :=
  onCore (fun c => c.scrubRow row read) s
/-- NVM_REFRESH (R400). -/
def execNvmRefresh (row : Nat) (verified : Bool) (s : State) : Host.Outcome State Fault Refusal :=
  onCore (fun c => c.refreshRow row verified) s
/-- TELEMETRY_FLUSH (R402). -/
def execTelemetryFlush (s : State) : Host.Outcome State Fault Refusal :=
  onCore (fun c => c.flush) s
/-- NVM_FRAGILE (R375). -/
def execNvmFragile (s : State) : Host.Outcome State Fault Refusal :=
  onCore (fun c => c.fragile) s
/-- RETENTION_RECORD_LOST (R64, R71). -/
def execRetentionRecordLost (s : State) : Host.Outcome State Fault Refusal :=
  onCore (fun c => c.when (c.pw.phase == .off) (fun c => { c with ret := Retention.none })) s

end Sys2Proof.Machine
end

