-- ==== Sys2Proof/Machine/Seam.lean ====
section
/-!
DEFINITION. The commands of the seam frames (chapter 08).
-/
namespace Sys2Proof.Machine

/-- SEAM_H (R253, R257, R290). -/
def execSeamH (p : Port) (lseq : BitVec 4) (body : SeamH) (s : State) : Host.Outcome State Fault Refusal :=
  onCore (fun c => c.accepted p lseq (.seamH body) (fun c => if c.wired p && c.isTile p then c.takeSeamH p body else c)) s
/-- SEAM_D (R253, R257, R290). -/
def execSeamD (p : Port) (lseq : BitVec 4) (body : SeamD) (s : State) : Host.Outcome State Fault Refusal :=
  onCore (fun c => c.accepted p lseq (.seamD body) (fun c => if c.wired p && c.isTile p then c.takeSeamD p body else c)) s
/-- SEAM_X (R253, R257, R293). -/
def execSeamX (p : Port) (lseq : BitVec 4) (body : SeamX) (s : State) : Host.Outcome State Fault Refusal :=
  onCore (fun c => c.accepted p lseq (.seamX body) (fun c => if c.wired p && c.isTile p then c.takeSeamX p body else c)) s

end Sys2Proof.Machine
end

