-- ==== Sys2Proof/Machine/Dispatch.lean ====
section
/-!
DEFINITION. One arm per command: each calls that command's meaning.
-/
namespace Sys2Proof.Machine

def exec (i : Instr) (s : State) : Host.Outcome State Fault Refusal :=
  match i with
  -- supply, reset, boot
  | .powerOn => Sys2Proof.Machine.execPowerOn s
  | .brownOut => Sys2Proof.Machine.execBrownOut s
  | .brownOutRecovery => Sys2Proof.Machine.execBrownOutRecovery s
  | .nvmInhibit => Sys2Proof.Machine.execNvmInhibit s
  | .nvmInhibitClear => Sys2Proof.Machine.execNvmInhibitClear s
  | .resetPin => Sys2Proof.Machine.execResetPin s
  | .testenHold high => Sys2Proof.Machine.execTestenHold high s
  | .vioAbsent => Sys2Proof.Machine.execVioAbsent s
  | .vioPresent => Sys2Proof.Machine.execVioPresent s
  | .refloss => Sys2Proof.Machine.execRefloss s
  | .referenceQualified => Sys2Proof.Machine.execReferenceQualified s
  | .resetRelease => Sys2Proof.Machine.execResetRelease s
  | .pllLock bist => Sys2Proof.Machine.execPllLock bist s
  | .linkQuietEnd => Sys2Proof.Machine.execLinkQuietEnd s
  | .refrdy => Sys2Proof.Machine.execRefrdy s
  -- wake and Doze entry
  | .csWake => Sys2Proof.Machine.execCsWake s
  | .linkStartEdgeWake p => Sys2Proof.Machine.execLinkStartEdgeWake p s
  | .ladderWake l => Sys2Proof.Machine.execLadderWake l s
  | .encoderEdgeWake e => Sys2Proof.Machine.execEncoderEdgeWake e s
  | .rtcAlarm => Sys2Proof.Machine.execRtcAlarm s
  | .dozeEntrySwitchover comparators => Sys2Proof.Machine.execDozeEntrySwitchover comparators s
  | .dozeEntryAbandon => Sys2Proof.Machine.execDozeEntryAbandon s
  | .dozeEntryRetry => Sys2Proof.Machine.execDozeEntryRetry s
  | .runIdleElapsed => Sys2Proof.Machine.execRunIdleElapsed s
  | .quietIdleElapsed => Sys2Proof.Machine.execQuietIdleElapsed s
  | .bareIdleElapsed => Sys2Proof.Machine.execBareIdleElapsed s
  -- frame slots
  | .frameBoundary => Sys2Proof.Machine.execFrameBoundary s
  | .noiseSlot windows gains => Sys2Proof.Machine.execNoiseSlot windows gains s
  | .mutualSlot scan sag => Sys2Proof.Machine.execMutualSlot scan sag s
  | .selfSlot crossings => Sys2Proof.Machine.execSelfSlot crossings s
  | .seamSlot legs => Sys2Proof.Machine.execSeamSlot legs s
  | .computeSlot => Sys2Proof.Machine.execComputeSlot s
  | .seamDDeadline p => Sys2Proof.Machine.execSeamDDeadline p s
  | .seamXDeadline p => Sys2Proof.Machine.execSeamXDeadline p s
  | .reportSlot => Sys2Proof.Machine.execReportSlot s
  | .keeperEvaluation => Sys2Proof.Machine.execKeeperEvaluation s
  | .watchBurst counts => Sys2Proof.Machine.execWatchBurst counts s
  -- SAR, keys, encoders, combinations
  | .sarConversionDone code => Sys2Proof.Machine.execSarConversionDone code s
  | .batteryLowRepeat => Sys2Proof.Machine.execBatteryLowRepeat s
  | .systemSequenceRun => Sys2Proof.Machine.execSystemSequenceRun s
  | .userSequenceRun => Sys2Proof.Machine.execUserSequenceRun s
  | .keyLong l k => Sys2Proof.Machine.execKeyLong l k s
  | .keyStuck l k => Sys2Proof.Machine.execKeyStuck l k s
  | .ladderFault l => Sys2Proof.Machine.execLadderFault l s
  | .ladderArm l => Sys2Proof.Machine.execLadderArm l s
  | .ladderWakeSpurious l => Sys2Proof.Machine.execLadderWakeSpurious l s
  | .ladderMaskEnd l => Sys2Proof.Machine.execLadderMaskEnd l s
  | .encoderTransition e a b => Sys2Proof.Machine.execEncoderTransition e a b s
  | .encoderReport e => Sys2Proof.Machine.execEncoderReport e s
  | .combinationA => Sys2Proof.Machine.execCombinationA s
  | .combinationB => Sys2Proof.Machine.execCombinationB s
  | .provisioningHold => Sys2Proof.Machine.execProvisioningHold s
  | .presenceEnd => Sys2Proof.Machine.execPresenceEnd s
  | .provPin => Sys2Proof.Machine.execProvPin s
  -- link ports
  | .linkCharacter p start bits => Sys2Proof.Machine.execLinkCharacter p start bits s
  | .linkFrameEnd p => Sys2Proof.Machine.execLinkFrameEnd p s
  | .linkTransmit p launch => Sys2Proof.Machine.execLinkTransmit p launch s
  | .linkConfigApply p => Sys2Proof.Machine.execLinkConfigApply p s
  | .linkHuntStart p => Sys2Proof.Machine.execLinkHuntStart p s
  | .lineLive p => Sys2Proof.Machine.execLineLive p s
  | .lineBreak p => Sys2Proof.Machine.execLineBreak p s
  | .lineBreakClear p => Sys2Proof.Machine.execLineBreakClear p s
  | .severed p => Sys2Proof.Machine.execSevered p s
  | .echoCharacter p => Sys2Proof.Machine.execEchoCharacter p s
  | .echoTimeout p => Sys2Proof.Machine.execEchoTimeout p s
  | .linkWakeSpurious p => Sys2Proof.Machine.execLinkWakeSpurious p s
  | .linkWakeMaskEnd p => Sys2Proof.Machine.execLinkWakeMaskEnd p s
  -- link frames and the hedge layer
  | .data p lseq packet => Sys2Proof.Machine.execData p lseq packet s
  | .ack p lseq => Sys2Proof.Machine.execAck p lseq s
  | .nak p lseq reason => Sys2Proof.Machine.execNak p lseq reason s
  | .ackTimeout p => Sys2Proof.Machine.execAckTimeout p s
  | .nakBusyRepeat p => Sys2Proof.Machine.execNakBusyRepeat p s
  | .hello p lseq body => Sys2Proof.Machine.execHello p lseq body s
  | .helloPeriodic => Sys2Proof.Machine.execHelloPeriodic s
  | .join p lseq body requested => Sys2Proof.Machine.execJoin p lseq body requested s
  | .admission p lseq answer => Sys2Proof.Machine.execAdmission p lseq answer s
  | .sync p edge body => Sys2Proof.Machine.execSync p edge body s
  | .syncSend => Sys2Proof.Machine.execSyncSend s
  | .syncLost => Sys2Proof.Machine.execSyncLost s
  | .timekeeperClaim => Sys2Proof.Machine.execTimekeeperClaim s
  | .xtrimAdjust => Sys2Proof.Machine.execXtrimAdjust s
  | .seamH p lseq body => Sys2Proof.Machine.execSeamH p lseq body s
  | .seamD p lseq body => Sys2Proof.Machine.execSeamD p lseq body s
  | .seamX p lseq body => Sys2Proof.Machine.execSeamX p lseq body s
  | .ka p state => Sys2Proof.Machine.execKa p state s
  | .keepaliveSend p => Sys2Proof.Machine.execKeepaliveSend p s
  | .keepaliveLoss p => Sys2Proof.Machine.execKeepaliveLoss p s
  | .doze p lseq state => Sys2Proof.Machine.execDoze p lseq state s
  | .echoReq p lseq => Sys2Proof.Machine.execEchoReq p lseq s
  | .wake p lseq target number scope => Sys2Proof.Machine.execWake p lseq target number scope s
  | .quickset p => Sys2Proof.Machine.execQuickset p s
  | .ready p => Sys2Proof.Machine.execReady p s
  | .delayProbe p edge => Sys2Proof.Machine.execDelayProbe p edge s
  | .wakeThroughTimeout p => Sys2Proof.Machine.execWakeThroughTimeout p s
  | .delayMeasure p => Sys2Proof.Machine.execDelayMeasure p s
  | .panelRootElection => Sys2Proof.Machine.execPanelRootElection s
  | .hedgeRootElection => Sys2Proof.Machine.execHedgeRootElection s
  | .joinReq sponsor body requested sponsorPort => Sys2Proof.Machine.execJoinReq sponsor body requested sponsorPort s
  | .joinGrant g => Sys2Proof.Machine.execJoinGrant g s
  | .joinRefuse uid reason => Sys2Proof.Machine.execJoinRefuse uid reason s
  | .joinRetry => Sys2Proof.Machine.execJoinRetry s
  | .hedgeRoster r => Sys2Proof.Machine.execHedgeRoster r s
  | .tileReport src r => Sys2Proof.Machine.execTileReport src r s
  | .frameTimingStop => Sys2Proof.Machine.execFrameTimingStop s
  | .loss src r => Sys2Proof.Machine.execLoss src r s
  | .lossDecision => Sys2Proof.Machine.execLossDecision s
  | .contactIdFree tile => Sys2Proof.Machine.execContactIdFree tile s
  | .panelAdvert a => Sys2Proof.Machine.execPanelAdvert a s
  | .panelAdvertPeriodic => Sys2Proof.Machine.execPanelAdvertPeriodic s
  | .panelGrant g => Sys2Proof.Machine.execPanelGrant g s
  | .panelRequestRetry => Sys2Proof.Machine.execPanelRequestRetry s
  | .hedgeRoutes entries => Sys2Proof.Machine.execHedgeRoutes entries s
  | .rootHandover => Sys2Proof.Machine.execRootHandover s
  | .relayWaitExpiry index => Sys2Proof.Machine.execRelayWaitExpiry index s
  | .rptPacket packet => Sys2Proof.Machine.execRptPacket packet s
  | .rptSend t => Sys2Proof.Machine.execRptSend t s
  -- host port and registers
  | .transactionStart highTicks header => Sys2Proof.Machine.execTransactionStart highTicks header s
  | .transactionEnd edges => Sys2Proof.Machine.execTransactionEnd edges s
  | .registerWrite addr w => Sys2Proof.Machine.execRegisterWrite addr w s
  | .hoststatWrite w => Sys2Proof.Machine.execHoststatWrite w s
  | .attnsrcWrite w => Sys2Proof.Machine.execAttnsrcWrite w s
  | .req w => Sys2Proof.Machine.execReq w s
  | .floor w => Sys2Proof.Machine.execFloor w s
  | .hostctlReset w => Sys2Proof.Machine.execHostctlReset w s
  | .pktinWrite w => Sys2Proof.Machine.execPktinWrite w s
  | .pktoutRead completed => Sys2Proof.Machine.execPktoutRead completed s
  | .pktoutlvlRead completed => Sys2Proof.Machine.execPktoutlvlRead completed s
  | .wakesrcRead completed => Sys2Proof.Machine.execWakesrcRead completed s
  | .encstatRead completed => Sys2Proof.Machine.execEncstatRead completed s
  | .htfc0Read completed => Sys2Proof.Machine.execHtfc0Read completed s
  | .sarminRead completed => Sys2Proof.Machine.execSarminRead completed s
  | .rtc0Read completed => Sys2Proof.Machine.execRtc0Read completed s
  | .linkstatRead completed => Sys2Proof.Machine.execLinkstatRead completed s
  | .linkdataRead completed => Sys2Proof.Machine.execLinkdataRead completed s
  | .linkdataWrite w => Sys2Proof.Machine.execLinkdataWrite w s
  | .linkselWrite w => Sys2Proof.Machine.execLinkselWrite w s
  | .op w => Sys2Proof.Machine.execOp w s
  | .txbrk w => Sys2Proof.Machine.execTxbrk w s
  | .flush w => Sys2Proof.Machine.execFlush w s
  | .start w => Sys2Proof.Machine.execStart w s
  | .close w => Sys2Proof.Machine.execClose w s
  | .useqSettingsWrite addr w => Sys2Proof.Machine.execUseqSettingsWrite addr w s
  | .sarurg w => Sys2Proof.Machine.execSarurg w s
  -- opcodes
  | .getInfo c payload => Sys2Proof.Machine.execGetInfo c payload s
  | .getState c payload => Sys2Proof.Machine.execGetState c payload s
  | .setState c payload => Sys2Proof.Machine.execSetState c payload s
  | .reset c payload => Sys2Proof.Machine.execReset c payload s
  | .resetCommandExecute => Sys2Proof.Machine.execResetCommandExecute s
  | .getFresh c payload => Sys2Proof.Machine.execGetFresh c payload s
  | .profileRead c payload => Sys2Proof.Machine.execProfileRead c payload s
  | .profileWrite c payload => Sys2Proof.Machine.execProfileWrite c payload s
  | .transferAbandon => Sys2Proof.Machine.execTransferAbandon s
  | .profileCommit c payload => Sys2Proof.Machine.execProfileCommit c payload s
  | .nvmOperationDone verified => Sys2Proof.Machine.execNvmOperationDone verified s
  | .profileGen c payload => Sys2Proof.Machine.execProfileGen c payload s
  | .provKey c payload => Sys2Proof.Machine.execProvKey c payload s
  | .tenantDefine c payload => Sys2Proof.Machine.execTenantDefine c payload s
  | .tenantRemove c payload => Sys2Proof.Machine.execTenantRemove c payload s
  | .tenantGet c payload => Sys2Proof.Machine.execTenantGet c payload s
  | .hedgeKey c payload => Sys2Proof.Machine.execHedgeKey c payload s
  | .zones c payload => Sys2Proof.Machine.execZones c payload s
  | .templates c payload => Sys2Proof.Machine.execTemplates c payload s
  | .gestureFields c payload => Sys2Proof.Machine.execGestureFields c payload s
  | .wakeConfig c payload => Sys2Proof.Machine.execWakeConfig c payload s
  | .framePlan c payload => Sys2Proof.Machine.execFramePlan c payload s
  | .senseLines c payload => Sys2Proof.Machine.execSenseLines c payload s
  | .compCodes c payload => Sys2Proof.Machine.execCompCodes c payload s
  | .compSeek c payload => Sys2Proof.Machine.execCompSeek c payload s
  | .seekStart => Sys2Proof.Machine.execSeekStart s
  | .seekTimeout => Sys2Proof.Machine.execSeekTimeout s
  | .baselineCapture c payload => Sys2Proof.Machine.execBaselineCapture c payload s
  | .nodeFields c payload => Sys2Proof.Machine.execNodeFields c payload s
  | .trackFields c payload => Sys2Proof.Machine.execTrackFields c payload s
  | .swing c payload => Sys2Proof.Machine.execSwing c payload s
  | .selfFields c payload => Sys2Proof.Machine.execSelfFields c payload s
  | .nodeMap c payload => Sys2Proof.Machine.execNodeMap c payload s
  | .noise c payload => Sys2Proof.Machine.execNoise c payload s
  | .sampleView c payload => Sys2Proof.Machine.execSampleView c payload s
  | .selfTest c payload => Sys2Proof.Machine.execSelfTest c payload s
  | .telemetry c payload => Sys2Proof.Machine.execTelemetry c payload s
  | .wearMap c payload => Sys2Proof.Machine.execWearMap c payload s
  | .linkCounts c payload => Sys2Proof.Machine.execLinkCounts c payload s
  | .faults c payload => Sys2Proof.Machine.execFaults c payload s
  | .ladders c payload => Sys2Proof.Machine.execLadders c payload s
  | .encoders c payload => Sys2Proof.Machine.execEncoders c payload s
  | .keyStatus c payload => Sys2Proof.Machine.execKeyStatus c payload s
  | .comboRead c payload => Sys2Proof.Machine.execComboRead c payload s
  | .routes c payload => Sys2Proof.Machine.execRoutes c payload s
  | .linkConfig c payload => Sys2Proof.Machine.execLinkConfig c payload s
  | .rawLink c payload => Sys2Proof.Machine.execRawLink c payload s
  | .discover c payload => Sys2Proof.Machine.execDiscover c payload s
  | .roster c payload => Sys2Proof.Machine.execRoster c payload s
  | .renumber c payload => Sys2Proof.Machine.execRenumber c payload s
  | .repairStatus c payload => Sys2Proof.Machine.execRepairStatus c payload s
  | .coppiceSet c payload => Sys2Proof.Machine.execCoppiceSet c payload s
  | .coppiceClear c payload => Sys2Proof.Machine.execCoppiceClear c payload s
  | .fingerprint c payload => Sys2Proof.Machine.execFingerprint c payload s
  | .bgTask c payload => Sys2Proof.Machine.execBgTask c payload s
  | .deferredCommandApply => Sys2Proof.Machine.execDeferredCommandApply s
  -- repair and endurance
  | .sliceCalibrationDone converter gain offset => Sys2Proof.Machine.execSliceCalibrationDone converter gain offset s
  | .sliceHandoverForced converter => Sys2Proof.Machine.execSliceHandoverForced converter s
  | .slicecalDue converter => Sys2Proof.Machine.execSlicecalDue converter s
  | .dailySelftestDue => Sys2Proof.Machine.execDailySelftestDue s
  | .selftestForced => Sys2Proof.Machine.execSelftestForced s
  | .selftestConfirm => Sys2Proof.Machine.execSelftestConfirm s
  | .suspectSelftest => Sys2Proof.Machine.execSuspectSelftest s
  | .deferForced task => Sys2Proof.Machine.execDeferForced task s
  | .nvmScrub row read => Sys2Proof.Machine.execNvmScrub row read s
  | .nvmRefresh row verified => Sys2Proof.Machine.execNvmRefresh row verified s
  | .telemetryFlush => Sys2Proof.Machine.execTelemetryFlush s
  | .nvmFragile => Sys2Proof.Machine.execNvmFragile s
  -- further events
  | .falseStart p => Sys2Proof.Machine.execFalseStart p s
  | .linkFrameSent p => Sys2Proof.Machine.execLinkFrameSent p s
  | .fingerprintTimeout => Sys2Proof.Machine.execFingerprintTimeout s
  | .selfTestTimeout => Sys2Proof.Machine.execSelfTestTimeout s
  | .otpProgramDone verified => Sys2Proof.Machine.execOtpProgramDone verified s
  | .provRelease => Sys2Proof.Machine.execProvRelease s
  | .retentionRecordLost => Sys2Proof.Machine.execRetentionRecordLost s
  | .overclk => Sys2Proof.Machine.execOverclk s

end Sys2Proof.Machine
end

