-- ==== Sys2Proof/Machine/Idle.lean ====
section
/-!
DEFINITION. What one reference period does when no command waits: RTC, the sub-frame count, and the counts of
time that telemetry and the life clock keep (R46, R331, R398, R402; DESIGN CHOICE, log 2).
-/
namespace Sys2Proof.Machine

namespace Core

/-- The sub-frame count after one reference period of 24 414 + 1/16 Run ticks, saturating (R331). -/
def subTick (h : Hedge) : Hedge :=
  let t := h.sub.toNat + 24414 + (h.subPhase.toNat + 1) / 16
  { h with sub := BitVec.ofNat 24 (min t 0xFFFFFF), subPhase := h.subPhase + 1#4 }

/-- The seconds counters of telemetry (Table REPAIR-9). -/
def teleTick (ph : Phase) (t : Tele) : Tele :=
  match ph with
  | .run => if t.runT + 1 = 32768 then { t with runT := 0, runS := t.runS + 1 } else { t with runT := t.runT + 1 }
  | .quiet => if t.quietT + 1 = 32768 then { t with quietT := 0, quietS := t.quietS + 1 } else { t with quietT := t.quietT + 1 }
  | _ => t

/-- One reference period. -/
def tick (c : Core) : Core :=
  match c.pw.phase with
  | .unpowered | .off | .reset => c
  | ph =>
    { c with
      pw := { c.pw with rtc := c.pw.rtc + 1#32 }
      hg := if c.fast && c.hg.ranBoundary then subTick c.hg else c.hg
      rep := { c.rep with lifeT := c.rep.lifeT + 1, rtcLong := c.rep.rtcLong + 1, tele := teleTick ph c.rep.tele } }

end Core

/-- A step on an empty queue. -/
def idle (s : State) : Host.Outcome State Fault Refusal := onCore Core.tick s

end Sys2Proof.Machine
end

