-- ==== Sys2Proof/Machine/Pins.lean ====
section
/-!
DEFINITION. What the pins and rails show outside, as functions of the state: the ball map, Table BALLS-5, the link levels
of Table LINK-3, the electrode and guard pins of Table ACQ-1, and the drive waveform (R61, R65, R73, R74, R83, R89, R100,
R111, R114, R227, R298, R301, R316, R405 to R408, R410, R413, R417).
-/
namespace Sys2Proof.Machine

/-- A signal or supply that stands on a ball (Tables BALLS-1 and BALLS-3). -/
inductive Ball where
  | drv (n : Nat) | sns (n : Nat) | grdA | grdB
  | lTx (n : Nat) | lRx (n : Nat) | lDe (n : Nat)
  | cs | sck | mosi | miso | attn
  | key (n : Nat) | enc (n : Nat) (a : Bool)
  | xti | xto | reset | prov | testen
  | cp (stage : Nat) (positive : Bool)
  | vbat | lx | pgnd | vcore | vana | vdrv | vrefc | vio | gnd
  deriving DecidableEq, Repr

/-- Balls of GND that stand side by side. -/
def grounds (n : Nat) : List Ball := List.replicate n .gnd

/-- The three balls of a link port (Table BALLS-3). -/
def linkBalls (n : Nat) : List Ball := [.lTx n, .lRx n, .lDe n]

/-- The two sense balls at the end of a row (Table BALLS-3). -/
def senseBalls (j : Nat) : List Ball := [.sns (2 * j), .sns (2 * j + 1)]

/-- Four balls of VCORE. -/
def cores : List Ball := [.vcore, .vcore, .vcore, .vcore]

/-- The pieces of a row of the ball map, A to P as 0 to 13 (Table BALLS-1). -/
def ballPieces (row : Nat) : List (List Ball) :=
  match row with
  | 0 => [[.gnd], (List.range 12).map (fun i => .drv (2 * i)), [.grdB]]
  | 1 => [[.vdrv], (List.range 12).map (fun i => .drv (2 * i + 1)), [.grdA]]
  | 2 => [[.vdrv, .gnd], (List.range 8).map (fun i => .drv (24 + i)), grounds 2, senseBalls 0]
  | 3 => [[.cp 1 true, .cp 1 false, .gnd, .vdrv, .gnd, .vana, .gnd, .vana, .gnd, .vana, .gnd, .gnd], senseBalls 1]
  | 4 => [[.cp 2 true, .cp 2 false], grounds 8, [.vrefc, .gnd], senseBalls 2]
  | 5 => [linkBalls 0, [.vio, .gnd], cores, grounds 3, senseBalls 3]
  | 6 => [linkBalls 1, [.gnd, .gnd, .vcore, .gnd, .gnd, .vcore, .gnd, .vana, .gnd], senseBalls 4]
  | 7 => [linkBalls 2, [.vio, .gnd, .vcore, .gnd, .gnd, .vcore], grounds 3, senseBalls 5]
  | 8 => [linkBalls 3, [.gnd, .gnd, .vcore, .gnd, .gnd, .vcore, .gnd, .vana, .gnd], senseBalls 6]
  | 9 => [linkBalls 4, [.vio, .gnd], cores, grounds 3, senseBalls 7]
  | 10 => [linkBalls 5, [.gnd, .vbat], grounds 7, senseBalls 8]
  | 11 => [[.vbat, .lx, .lx, .pgnd, .pgnd, .vcore, .reset, .prov, .testen, .xti, .xto, .gnd], senseBalls 9]
  | 12 => [[.vbat, .pgnd, .gnd], (List.range 8).map .key, [.gnd], senseBalls 10]
  | 13 => [[.gnd, .cs, .sck, .mosi, .miso, .attn, .vio, .enc 0 true, .enc 0 false, .enc 1 true, .enc 1 false, .gnd], senseBalls 11]
  | _ => []

/-- The ball map, row by row from A to P, columns 1 to 14 (Table BALLS-1, R405). -/
def ballMap : List (List Ball) := (List.range 14).map (fun r => (ballPieces r).flatten)

/-- The supply domain of a signal (Table BALLS-3, R406); supplies have none. -/
inductive Domain where
  | electrodes | vio | always | pump | supply
  deriving DecidableEq, Repr

/-- Domain of a ball (Table BALLS-3). -/
def Ball.domain : Ball → Domain
  | .drv _ | .sns _ | .grdA | .grdB => .electrodes
  | .lTx _ | .lRx _ | .lDe _ | .cs | .sck | .mosi | .miso | .attn | .key _ | .enc _ _ | .reset | .prov | .testen => .vio
  | .xti | .xto => .always
  | .cp _ _ => .pump
  | .vbat | .lx | .pgnd | .vcore | .vana | .vdrv | .vrefc | .vio | .gnd => .supply

/-- The nominal internal pull of a ball in ohms: upwards or downwards (Table BALLS-3, R228, R406). -/
def Ball.pull : Ball → Option (Bool × Nat)
  | .lRx _ => some (false, 60000)
  | .cs => some (true, 60000)
  | .enc _ _ => some (true, 1000000)
  | .reset | .prov => some (true, 100000)
  | .testen => some (false, 100000)
  | .drv _ | .sns _ | .grdA | .grdB | .lTx _ | .lDe _ | .sck | .mosi | .miso | .attn | .key _ | .xti | .xto | .cp _ _ | .vbat | .lx
  | .pgnd | .vcore | .vana | .vdrv | .vrefc | .vio | .gnd => none

/-- What a pin shows (Table BALLS-5). -/
inductive PinState where
  /-- High impedance. -/
  | hiZ
  | low
  | high
  /-- At 0 V through the hold switch of R89. -/
  | held
  /-- A weak pull-down, both legs off (R83). -/
  | weakLow
  /-- Driven at 0.9 V (Table ACQ-7). -/
  | mid
  /-- A pull-up; whether the pin is sampled. -/
  | pullUp (sampled : Bool)
  /-- A pull-down; whether the pin is sampled. -/
  | pullDown (sampled : Bool)
  /-- The input buffer is off, or on. -/
  | input (enabled : Bool)
  /-- An open-drain output that does not drive. -/
  | released
  /-- Bits of a frame, raw characters or an echo follow one another. -/
  | serial
  /-- The carrier with its Hadamard polarity (R100). -/
  | carrier
  /-- A sense pin at the channel's virtual ground of 0.9 V. -/
  | virtualGround (integrating : Bool)
  /-- The relaxation oscillator of R112. -/
  | oscillating
  /-- The guard waveform: that of a line's oscillator (R114), or of the group under measurement in Watch (R115). -/
  | follow (line : Nat)
  /-- Charge transfer of a Watch group (R116). -/
  | transfer
  /-- One leg after the other drives alone (R382). -/
  | legTiming
  /-- 10 kΩ to the ladder source. -/
  | ladder
  /-- 500 kΩ and the wake comparator (R207). -/
  | comparator
  | off
  | starting
  | running
  /-- The buck switches now and then (Table BALLS-5). -/
  | skipping
  deriving DecidableEq, Repr

namespace Core

/-- The pins of the VIO domain are in their unpowered states (R407, R413, R417). -/
def vioGone (c : Core) : Bool := c.pw.phase == .unpowered || c.pw.holdVio

/-! ### Link pins -/

/-- LnTX (Tables BALLS-5 and LINK-3, R61, R65, R241, R245, R247). -/
def pinTx (c : Core) (p : Port) : PinState :=
  let l := c.port p
  if c.vioGone || c.pw.linkQuiet || l.cfg.mode == 0#2 then .hiZ
  else if c.pw.phase.isAsleep then .high
  else if !c.fast then .hiZ
  else if l.breaks then .low
  else if l.sends then .serial
  else .high

/-- LnDE: high only on a WIRE port in its transmit window (Tables BALLS-5 and LINK-3, R65, R237, R245, R248). -/
def pinDe (c : Core) (p : Port) : PinState :=
  let l := c.port p
  if c.vioGone then .hiZ
  else if c.linkDrives p && l.suppressed then .high
  else .low

/-- LnRX (Tables BALLS-5 and LINK-3, R228). -/
def pinRx (c : Core) (p : Port) : PinState :=
  if c.vioGone then .hiZ
  else .pullDown ((c.fast || c.pw.phase.isAsleep) && (c.port p).cfg.mode != 0#2)

/-! ### Host port -/

/-- The port is live (R298); a transaction in BOOT is one after step B4 (log 23). -/
def portLive (c : Core) : Bool := c.fast || (c.pw.phase == .boot && c.host.txn.isSome)

/-- CS# (Table BALLS-5): in BOOT sampled from step B4. -/
def pinCs (c : Core) : PinState :=
  if c.vioGone then .hiZ
  else match c.pw.phase with
    | .unpowered => .hiZ
    | .off | .reset => .pullUp false
    | .boot => .pullUp c.portLive
    | .doze | .watch | .bare | .quiet | .run => .pullUp true

/-- SCK and MOSI (R408): the buffers are on only while the port is live and CS# is low. -/
def pinSck (c : Core) : PinState :=
  if c.vioGone then .hiZ else .input (c.portLive && (c.host.txn.isSome || c.host.csHeld))

/-- MISO is driven: the port is live, CS# is low, and the transaction is served (R301, Table HOST-7). -/
def misoDriven (c : Core) : Bool := !c.vioGone && c.portLive && c.host.txn.any (fun t => t.served)

/-- The word the host reads: what MISO carries, or 0xFFFF through the pull-up at the host's end (R73, R301). -/
def misoWord (c : Core) : Word := if c.misoDriven then c.host.miso else 0xFFFF#16

/-- ATTN# (R74, R316): it holds its level through Doze and Watch, and is released in reset and OFF. -/
def pinAttn (c : Core) : PinState :=
  if c.vioGone then .hiZ
  else match c.pw.phase with
    | .unpowered => .hiZ
    | .off | .reset | .boot => .released
    | .doze | .watch => if c.host.attnHeld then .low else .released
    | .bare | .quiet | .run => if c.attnLow then .low else .released

/-! ### Controls, resets and the crystal -/

/-- KEYn (Table BALLS-5, R207): in BARE the combination ladders only, in BOOT those from REFRDY. -/
def pinKey (c : Core) (l : Ladder) : PinState :=
  let combo := l == c.otpc.combo.ctLadder || l == c.otpc.combo.pvLadder
  if c.vioGone then .hiZ
  else match c.pw.phase with
    | .unpowered | .off | .reset => .hiZ
    | .boot => if combo && c.pw.refrdy then .ladder else .hiZ
    | .doze | .watch => if c.ladderInUse l then .comparator else .hiZ
    | .bare => if combo then .ladder else .hiZ
    | .quiet | .run => if c.ladderInUse l then .ladder else .hiZ

/-- ENCnA and ENCnB: pulled up from BOOT on, decoded where ENC_EN is 1. -/
def pinEnc (c : Core) (e : Fin 2) : PinState :=
  if c.vioGone then .hiZ
  else match c.pw.phase with
    | .unpowered | .off | .reset => .hiZ
    | .boot | .doze | .watch | .bare | .quiet | .run => .pullUp (c.prof.encEn e.val)

/-- RESET#, sensed wherever VIO is present (R410). -/
def pinReset (c : Core) : PinState := if c.vioGone then .hiZ else .pullUp true

/-- PROV#, sensed in the awake states (R219). -/
def pinProv (c : Core) : PinState := if c.vioGone then .hiZ else .pullUp c.fast

/-- TESTEN (R409). -/
def pinTesten (c : Core) : PinState := if c.vioGone then .hiZ else .pullDown true

/-- XTI and XTO. -/
def pinXtal (c : Core) : PinState :=
  match c.pw.phase with
  | .unpowered | .off => .off
  | .reset => if c.pw.xtal == .running then .running else .starting
  | .boot | .doze | .watch | .bare | .quiet | .run => .running

/-! ### Electrodes and guards -/

/-- A drive line of the carrier is high at tick `t` from the start of step 0, negative in the pre-roll (R100). -/
def driveHigh (c : Core) (t : Int) (d : Nat) : Bool :=
  let l : Int := hopL c.acq.hop.toNat
  let first := decide (2 * (((15 + c.colour : Nat) * t) % l) < l)
  let s := if t < 0 then 0 else (t / l).toNat
  if hadamard s d == 1 then first else !first

/-- The lines of a phase of SELF that are in use, by line index, ascending (R83, R111). -/
def selfLines (c : Core) (ph : Nat) : List Nat :=
  let half := fun (n : Nat) => (List.range n).filter (fun i => i % 2 == ph % 2)
  (if ph < 2 then half c.prof.nSns else (half c.prof.nDrv).map (fun d => 24 + d)).filter c.selfUsed

/-- Ticks of a phase (R111). -/
def selfPhaseTicks (c : Core) : Nat := c.prof.selfT / 16 * 4

/-- The line the guard follows in a phase: GUARD_REF, or the middle line of the phase where that is not in use, and the next
line where it is coppiced or stalls (R114). -/
def guardLine (c : Core) (ph : Nat) : Nat :=
  let ls := c.selfLines ph
  let named := c.prof.guardRef ph + (if ph < 2 then 0 else 24)
  let ref := if ls.contains named then named else ls.getD (ls.length / 2) 0
  let gone := c.deadLine ref || (c.acq.selfRan && (c.acq.sc.getD ref none).isNone)
  if !gone then ref
  else match ls.find? (fun l => decide (ref < l)) with
    | some l => l
    | none => ((ls.filter (fun l => decide (l < ref))).getLast?).getD ref

/-- The frame runs its slots with the idle states of Table ACQ-1 (Table REPAIR-4, R378). -/
def slotIdle (c : Core) (s : SlotName) : Bool :=
  match s with
  | .sync | .compute | .report => true
  | .seam => !c.inSelftest
  | .noise => c.acq.noiseGiven && !c.forcedTest || c.acq.maint.any (fun m => match m with
    | .slicecal _ | .seek => true
    | .selftest => false)
  | .scan => c.acq.maint.any (fun m => match m with
    | .slicecal _ => true
    | .seek | .selftest => false)
  | .self => c.acq.maint.any (fun m => match m with
    | .slicecal _ | .seek => true
    | .selftest => false) || c.prof.selfT == 0

/-- An oscillating line of SELF, or one that follows the guard; `ph` is the phase (R111). DESIGN CHOICE (log 33): the guard waveform that it
follows is that of the phase's GUARD_REF line, whatever the SELF mode of the guards. -/
def selfPin (c : Core) (ph line : Nat) : PinState :=
  if (c.selfLines ph).contains line then .oscillating else .follow (c.guardLine ph)

/-- DRVn (Tables ACQ-1 and BALLS-5, R83, R89): in Run by the slot and, in SELF, its phase. -/
def pinDrv (c : Core) (s : SlotName) (ph d : Nat) : PinState :=
  match c.pw.phase with
  | .unpowered => .hiZ
  | .off | .reset | .boot | .doze | .watch | .bare | .quiet => .held
  | .run =>
    if c.prof.nDrv ≤ d then .held
    else if c.acq.legs.getD d 3#2 == 0#2 then .weakLow
    else if c.slotIdle s then .low
    else match s with
      | .scan => .carrier
      | .self => c.selfPin ph (24 + d)
      | .seam => .legTiming
      | .sync | .noise | .compute | .report => .low

/-- SNSn (Tables ACQ-1 and BALLS-5, R89, R90): held where it is routed to no channel, and in SELF where its line is not in use (R111). -/
def pinSns (c : Core) (s : SlotName) (ph k : Nat) : PinState :=
  match c.pw.phase with
  | .unpowered => .hiZ
  | .off | .reset | .boot | .doze | .watch | .bare | .quiet => .held
  | .run =>
    if 26 ≤ c.acq.route.getD k 26 then .held
    else if c.slotIdle s then .virtualGround false
    else match s with
      | .noise | .scan => .virtualGround true
      | .self => if k < c.prof.nSns then c.selfPin ph k else .held
      | .sync | .seam | .compute | .report => .virtualGround false

/-- A guard mode (Table ACQ-7). -/
def guardState (mode line : Nat) : PinState :=
  match mode with
  | 0 => .low
  | 1 => .mid
  | 2 => .follow line
  | _ => .hiZ

/-- GRDA (0) and GRDB (1) (Tables ACQ-1, ACQ-7 and BALLS-5, R114, R115). -/
def pinGuard (c : Core) (s : SlotName) (ph g : Nat) : PinState :=
  match c.pw.phase with
  | .unpowered => .hiZ
  | .off | .reset | .boot | .doze | .watch | .bare | .quiet => .low
  | .run =>
    if c.slotIdle s then .low
    else match s with
      | .noise => guardState (c.prof.guardMode 0 g) 0
      | .scan => guardState (c.prof.guardMode 1 g) 0
      | .self => guardState (c.prof.guardMode 2 g) (c.guardLine ph)
      | .sync | .seam | .compute | .report => .low

/-- An electrode pin while a burst measures a group in Watch: bits 0 to 31 of the mask name DRV, 32 to 55 SNS (R116, Table
ACQ-9). -/
def watchPin (c : Core) (group bit : Nat) : PinState := if (c.prof.wMask group).testBit bit then .transfer else .held

/-- A guard pin while a burst measures a group (R115). -/
def watchGuard (c : Core) (group g : Nat) : PinState := guardState (c.prof.guardMode 3 g) group

/-! ### Rails -/

/-- VCORE in millivolts, nominal (Table BALLS-5). -/
def railVcore (c : Core) : Nat :=
  match c.pw.phase with
  | .unpowered | .off => 0
  | .reset | .doze | .watch => 550
  | .boot | .bare | .quiet | .run => 750

/-- VANA in millivolts; in Watch during bursts only (Table BALLS-5). -/
def railVana (c : Core) (burst : Bool) : Nat :=
  match c.pw.phase with
  | .unpowered | .off | .reset | .doze => 0
  | .watch => if burst then 1800 else 0
  | .boot | .bare | .quiet | .run => 1800

/-- VREFC in millivolts where it is driven: while the reference buffer is on (Table BALLS-5, R193). -/
def railVrefc (c : Core) : Nat := if c.fast && c.pw.refbuf then 1200 else 0

/-- VDRV in millivolts: 4 times VANA while the pump runs, else discharged (R50, R85, R418). -/
def railVdrv (c : Core) : Nat := if c.pw.phase == .run && c.pw.pump then 7200 else 0

/-- CPnP and CPnN switch with the pump, else 0 V (Table BALLS-5). -/
def pinCp (c : Core) : PinState :=
  if c.pw.phase == .unpowered then .hiZ else if c.pw.phase == .run && c.pw.pump then .running else .low

/-- LX (Table BALLS-5). -/
def pinLx (c : Core) : PinState :=
  match c.pw.phase with
  | .unpowered | .off => .hiZ
  | .doze | .watch => .skipping
  | .reset | .boot | .bare | .quiet | .run => .running

end Core

end Sys2Proof.Machine
end

