-- ==== Sys2Proof/Safety.lean ====
section
/-!
DEFINITION. The terms the statements about the tile use: what a command answers, what may change beside its own
effect, which commands carry a shape, and the states in which the OTP and the tenant queues are whole.
-/
namespace Sys2Proof.Machine

/-- On `s` the command answers a next state: the queue and the OTP as they were, and the rest `c` with what follows every
command: HELLO where it changed the body of this tile's HELLO (R256), and the two level bits of ATTNSRC latched (R328). -/
def Gives (i : Instr) (s : State) (c : Core) : Prop := exec i s = .next { s with core := s.core.after c }

/-- On `s` the command answers a next state of which `P` holds, before what follows every command (R256, R328). -/
def Leaves (i : Instr) (s : State) (P : Core → Prop) : Prop := ∃ c, Gives i s c ∧ P c

/-- `d` is `c` but for the tenants' queues, ATTNSRC and the telemetry counts: what placing records and raising
events may change. -/
def OnlyRecords (c d : Core) : Prop :=
  d = { c with qs := d.qs, host := { c.host with attnsrc := d.host.attnsrc }, rep := { c.rep with tele := d.rep.tele } }

/-- `d` is `c` but for what the rows and copies of NVM may change under a write: row information, spare rows and the field map, the marks
and older contents of the copies, the grade and its events, and the drawn free values (R375, R396, R397). -/
def OnlyNvm (c d : Core) : Prop :=
  d = { c with
    nvm := { c.nvm with
      fieldMap := d.nvm.fieldMap, mapPending := d.nvm.mapPending, faultsSaved := d.nvm.faultsSaved, rows := d.nvm.rows
      sparesUsed := d.nvm.sparesUsed, copies := d.nvm.copies, older := d.nvm.older }
    qs := d.qs, host := { c.host with attnsrc := d.host.attnsrc }, free := d.free
    rep := { c.rep with extra := d.rep.extra, grade := d.rep.grade, sparesOut := d.rep.sparesOut, tele := d.rep.tele } }

/-- `d` is `c` but for the frames that wait on its ports. -/
def OnlyTxq (c d : Core) : Prop :=
  d = { c with lnk := d.lnk } ∧ ∀ p : Port, d.port p = { c.port p with txq := (d.port p).txq }

/-- `d` is `c` but for what the hedge layer holds or sends: ports, roles and tables, the retention record, allocations and
counters of the tenants with what their writes to NVM may change, and what events change. -/
def OnlyHedge (c d : Core) : Prop :=
  d = { c with
    lnk := d.lnk, hp := d.hp, hg := d.hg, ret := d.ret
    nvm := { c.nvm with
      tenants := d.nvm.tenants, alloc := d.nvm.alloc, allocPending := d.nvm.allocPending, fieldMap := d.nvm.fieldMap
      mapPending := d.nvm.mapPending, faultsSaved := d.nvm.faultsSaved, rows := d.nvm.rows, sparesUsed := d.nvm.sparesUsed
      copies := d.nvm.copies, older := d.nvm.older }
    ten := d.ten, qs := d.qs, host := { c.host with attnsrc := d.host.attnsrc, outRsp := d.host.outRsp }, free := d.free
    rep := { c.rep with extra := d.rep.extra, grade := d.rep.grade, sparesOut := d.rep.sparesOut, tele := d.rep.tele } }

/-- What a reset or a loss of supply leaves of `c`: its NVM without an operation under way or what waits to be written, a custodian-key
programming that was cut off, the drawn free values; every other part as it is at a start (R64, R69, Table POWER-7). -/
def resetLeft (c : Core) (pw : Power) (ret : Retention) : Core :=
  { State.reset.core with
    pw := pw, ret := ret, ten := c.nvm.tenants.map TenantSt.ofRec, keyProg := c.keyProg, free := c.free
    nvm := { c.nvm with
      job := none, mapPending := [], faults := c.nvm.faultsSaved.getD c.nvm.faults, faultsSaved := none, allocPending := none } }

/-- The power part of a reset with the given cause: the pins that hold the reset as they stand, and PROV# as it is driven. -/
def resetPower (c : Core) (cause : BitVec 3) (xtal : Xtal) : Power :=
  { Power.reset with
    xtal := xtal, cause := cause, holdPin := c.pw.holdPin, holdTesten := c.pw.holdTesten, holdVio := c.pw.holdVio,
    provLow := c.pw.provLow, provPin := c.pw.provLow, nvmInhibit := c.pw.nvmInhibit, linkQuiet := true }

/-- The retention record a reset captures: the cause, and the records each queue held (R69, R70). -/
def retainedNow (c : Core) (cause : BitVec 3) : Retention :=
  { c.ret with valid := true, cause := cause, lost := c.qs.map (fun q => BitVec.ofNat 8 (q.recs.length + bit q.full.isSome)) }

/-- Frames put back at the head of a port's list, behind the ACK, NAK, quickset and READY that wait there (R254, R255). -/
def putBack (fs : List TxFrame) (l : LinkPort) : LinkPort :=
  { l with txq := l.txq.takeWhile (fun g => decide (g.body.txRank < 2)) ++ fs ++ l.txq.dropWhile (fun g => decide (g.body.txRank < 2)) }

/-- A key record as it waits for the REPORT slot in Run, with the mask the ladder shows (R213, Table KEY-8). -/
def Core.keyRec (c : Core) (event : Nat) (l : Ladder) (k : Key) (hold : Nat) : PendRec :=
  { mask := c.prof.keyBind l.val k.val, bytes := keyBytes event l k false (Core.keyMask (c.ladder l)) hold c.hg.addr c.frame16 }

/-- The tile is powered and neither in OFF nor unpowered. -/
def isPowered (c : Core) : Prop := c.pw.phase ≠ .unpowered ∧ c.pw.phase ≠ .off

/-- The open transaction takes a write data word for this register: served, begun with READY = 1, words left (R303, R305, R322). -/
def writesAt (c : Core) (addr : Nat) : Prop :=
  ∃ t, c.host.txn = some t ∧ t.served = true ∧ t.ready = true ∧ hdrRead t.header = false ∧ t.words < hdrCount t.header ∧
    hdrAddr t.header t.words = addr

/-- The transaction has taken one more write data word; the rest as it was (R305, R306, R317). -/
def wrote (c : Core) : Core :=
  { c with host := { c.host with
    txn := c.host.txn.map (fun t => { t with words := t.words + 1 }), firstWrite := true, miso := 0#16 } }

/-- The open transaction reads this register with its data word `i` (R303, R307). -/
def readsAt (c : Core) (addr i : Nat) : Prop :=
  ∃ t, c.host.txn = some t ∧ t.served = true ∧ t.ready = true ∧ hdrRead t.header = true ∧ t.readIndex addr = some i

/-- The data word `i` has been read and gave `v`; the rest as it was (R306, R307). -/
def gave (c : Core) (i : Nat) (v : Word) : Core :=
  { c with host := { c.host with miso := v, txn := c.host.txn.map (fun t => { t with words := i + 1 }) } }

/-- The register and the word of a row that writes a host register (Tables REGS-1, HOST-6). -/
def hostWrite (i : Instr) : Option (Nat × Word) :=
  match i with
  | .registerWrite a w => some (a.toNat, w)
  | .hoststatWrite w => some (0x01, w)
  | .attnsrcWrite w => some (0x02, w)
  | .req w | .floor w => some (0x04, w)
  | .hostctlReset w => some (0x07, w)
  | .pktinWrite w => some (0x08, w)
  | .linkselWrite w => some (0x16, w)
  | .op w | .txbrk w | .flush w => some (0x17, w)
  | .linkdataWrite w => some (0x19, w)
  | .start w | .close w => some (0x1E, w)
  | .useqSettingsWrite a w => if 0x1E ≤ a.toNat ∧ a.toNat ≤ 0x23 then some (a.toNat, w) else none
  | .sarurg w => some (0x24, w)
  | _ => none

/-- The register of a row that reads a host register with a side effect, and whether its word completes (R306, R307). -/
def hostRead (i : Instr) : Option (Nat × Bool) :=
  match i with
  | .wakesrcRead b => some (0x06, b)
  | .pktoutRead b => some (0x0A, b)
  | .pktoutlvlRead b => some (0x0B, b)
  | .htfc0Read b => some (0x12, b)
  | .linkstatRead b => some (0x18, b)
  | .linkdataRead b => some (0x19, b)
  | .sarminRead b => some (0x26, b)
  | .encstatRead b => some (0x36, b)
  | .rtc0Read b => some (0x3C, b)
  | _ => none

/-- A word that a field table does not allow its register (R325, R333, Tables REGS-3, REGS-5, REGS-6). -/
def outOfRange (a : Nat) (w : Word) : Bool :=
  let n := w.toNat
  match a with
  | 0x04 => decide (n % 16 = 1) || decide (5 < n % 16) || decide (n / 16 % 16 < 2) || decide (5 < n / 16 % 16)
  | 0x16 => decide (5 < n % 8)
  | 0x1E => decide (16 < n % 32) || decide (12 < n / 128 % 16)
  | 0x20 | 0x21 | 0x22 | 0x23 =>
    decide (13 < n % 16) || decide (13 < n / 16 % 16) || decide (13 < n / 256 % 16) || decide (13 < n / 4096)
  | 0x24 => decide (13 < n % 16)
  | 0x25 =>
    decide (n / 16 % 4 = 3) || (decide (n / 16 % 4 = 0) && decide (13 < n % 16)) ||
    (decide (n / 16 % 4 = 1) && (decide (n % 16 < 8) || decide (12 < n % 16)))
  | _ => false

/-- The commands whose operand has a shape that the tile's state asks for, each with its check where the tile takes it (log 7). -/
def wellShaped (i : Instr) (c : Core) : Bool :=
  match i with
  | .noiseSlot w k => !c.atSlot .sync || c.noiseShape w k
  | .mutualSlot w _ => !c.atSlot .noise || c.mutualShape w
  | .selfSlot x => !(c.atSlot .scan && decide (0 < c.prof.selfT)) || c.selfShape x
  | .seamSlot l => !c.beforeSeam || c.seamShape l
  | .watchBurst v => c.pw.phase != .watch || c.burstShape v
  | .linkCharacter p _ b => !(c.fast && (c.port p).listens) || c.charShape p b
  | _ => true

/-- The opcode, header and payload of the commands that stand for a CMD which has passed the checks of its tag (Table PKT-5). -/
def opcodeOf (i : Instr) : Option (Byte × CmdCtx × List Byte) :=
  match i with
  | .getInfo x p => some (0x00#8, x, p)
  | .getState x p => some (0x01#8, x, p)
  | .setState x p => some (0x02#8, x, p)
  | .reset x p => some (0x03#8, x, p)
  | .getFresh x p => some (0x04#8, x, p)
  | .profileRead x p => some (0x10#8, x, p)
  | .profileWrite x p => some (0x11#8, x, p)
  | .profileCommit x p => some (0x12#8, x, p)
  | .profileGen x p => some (0x13#8, x, p)
  | .provKey x p => some (0x20#8, x, p)
  | .tenantDefine x p => some (0x21#8, x, p)
  | .tenantRemove x p => some (0x22#8, x, p)
  | .tenantGet x p => some (0x23#8, x, p)
  | .hedgeKey x p => some (0x24#8, x, p)
  | .zones x p => some (0x30#8, x, p)
  | .templates x p => some (0x31#8, x, p)
  | .gestureFields x p => some (0x32#8, x, p)
  | .wakeConfig x p => some (0x33#8, x, p)
  | .framePlan x p => some (0x40#8, x, p)
  | .senseLines x p => some (0x41#8, x, p)
  | .compCodes x p => some (0x42#8, x, p)
  | .compSeek x p => some (0x43#8, x, p)
  | .baselineCapture x p => some (0x44#8, x, p)
  | .nodeFields x p => some (0x45#8, x, p)
  | .trackFields x p => some (0x46#8, x, p)
  | .swing x p => some (0x47#8, x, p)
  | .selfFields x p => some (0x48#8, x, p)
  | .nodeMap x p => some (0x50#8, x, p)
  | .noise x p => some (0x51#8, x, p)
  | .sampleView x p => some (0x52#8, x, p)
  | .selfTest x p => some (0x53#8, x, p)
  | .telemetry x p => some (0x54#8, x, p)
  | .wearMap x p => some (0x55#8, x, p)
  | .linkCounts x p => some (0x56#8, x, p)
  | .faults x p => some (0x57#8, x, p)
  | .ladders x p => some (0x60#8, x, p)
  | .encoders x p => some (0x61#8, x, p)
  | .keyStatus x p => some (0x62#8, x, p)
  | .comboRead x p => some (0x63#8, x, p)
  | .routes x p => some (0x70#8, x, p)
  | .linkConfig x p => some (0x71#8, x, p)
  | .rawLink x p => some (0x72#8, x, p)
  | .discover x p => some (0x73#8, x, p)
  | .roster x p => some (0x74#8, x, p)
  | .renumber x p => some (0x75#8, x, p)
  | .repairStatus x p => some (0x80#8, x, p)
  | .coppiceSet x p => some (0x81#8, x, p)
  | .coppiceClear x p => some (0x82#8, x, p)
  | .fingerprint x p => some (0x83#8, x, p)
  | .bgTask x p => some (0x84#8, x, p)
  | _ => none

/-- A CMD in one packet passes checks 5 to 11 of Table PKT-3; `later` tells whether it is frame-deferred (R346, R354 to R358). -/
def Passes (c : Core) (op : Byte) (x : CmdCtx) (p : List Byte) (later : Bool) : Prop :=
  c.fast = true ∧ x.frag = false ∧ x.src = c.hg.addr ∧ c.isBusy op.toNat x p = false ∧ c.rangeOf op.toNat x p = none ∧
  ∃ i, opInfo op.toNat = some i ∧ (lenOk op.toNat c.prof.nSns p = true ∨ (i.rw = true ∧ p = [])) ∧ c.mayDo i op.toNat x p = true ∧
    i.legal c.pw.phase ≠ .no ∧ (later = true ↔ i.legal c.pw.phase = .defer ∧ ¬ (i.rw = true ∧ p = [])) ∧
    (later = true → c.pk.deferred.length < 16) ∧ (i.rootOnly = true → c.hg.panelRoot = true)

/-- The packets of a response in PKTOUT: one, or segments where it is longer than 1 024 bytes or its opcode answers in segments
(R347, R353). -/
def rspItems (x : CmdCtx) (op status : Byte) (segmented : Bool) (payload : List Byte) : List OutItem :=
  let r : Rsp := { tenant := x.tenant, auth := x.auth, urg := x.urg, frag := segmented || decide (1024 < payload.length), last := false
                   dst := x.src, seq := x.seq, opcode := op, status := status, payload := payload }
  if r.frag then
    (if payload = [] then [(le 3 0 ++ le 3 0, true)] else Core.segments payload).map (fun s => .own { r with last := s.2, payload := s.1 })
  else [.own r]

/-- `c` with a response to this tile's own host presented in PKTOUT (R347). -/
def answered (c : Core) (x : CmdCtx) (op status : Byte) (segmented : Bool) (payload : List Byte) : Core :=
  { c with host := { c.host with outRsp := c.host.outRsp ++ rspItems x op status segmented payload } }

/-- `c` with a frame-deferred command kept for its boundary (R19, R20, R349). -/
def kept (c : Core) (op : Byte) (x : CmdCtx) (p : List Byte) : Core :=
  { c with pk := { c.pk with deferred := c.pk.deferred ++ [{ opcode := op, ctx := x, payload := p }] } }

/-- The CMD is accepted and kept, and its turn in a tile that keeps no other leaves `d` (R19, R20). -/
def Defers (i : Instr) (s : State) (P : Core → Prop) : Prop :=
  ∃ op x p, opcodeOf i = some (op, x, p) ∧ Gives i s (kept s.core op x p) ∧
    (s.core.pk.deferred = [] → P (kept s.core op x p).applyFirst)

/-- The command writes a two-copy record of NVM, whole, and goes on as `done` says; where NVM writes are inhibited, or the write fails for
want of a spare row, it goes on as `failed` says, the record's content as it was. `d` is the tile as the rows have left it (R80, R396,
R397, R444). -/
def Saves (i : Instr) (s : State) (r : RecId) (done failed : Core → Core) : Prop :=
  (s.core.nvmOk = false → Gives i s (failed s.core)) ∧
  Leaves i s (fun c => ∃ d, OnlyNvm s.core d ∧ ((s.core.writeCopy r).2 = true → c = done d) ∧
    ((s.core.writeCopy r).2 = false → c = failed d))

/-- `c` with the working configuration `p` and the keys of the ladders that it turns OFF at rest (R204, R220). -/
def withProfile (c : Core) (p : Profile) : Core :=
  { c with
    prof := p
    keys := { c.keys with ladders := c.keys.ladders.zipIdx.map (fun l =>
      if p.lMode l.2 = 0 then { l.1 with keys := List.replicate 8 KeySt.rest } else l.1) } }

/-- The OTP's custodian-key areas as R445 has them: four, of which at most one is programmed. -/
def Otp.whole (o : Otp) : Prop :=
  o.areas.length = 4 ∧ (o.areas.filter (fun a => match a with
    | .programmed _ => true
    | .blank | .spoiled => false)).length ≤ 1

/-- The losses a queue has counted and not yet given out: those of its QUEUE_FULL event and those since it was fixed (R370). -/
def Queue.losses (q : Queue) : Nat :=
  (q.full.map (fun f => f.du + f.other)).getD 0 + (q.late.map (fun f => f.du + f.other)).getD 0

end Sys2Proof.Machine
end

