-- ==== Sys2Proof/Certificates/Slice0/Obligations.lean ====
section
/-!
DEFINITION. The statements for the provers, grouped by chapter of the manual.
-/
open Sys2Proof Sys2Proof.Machine

/-- POWER_ON, BROWN_OUT, BROWN_OUT_RECOVERY, NVM_INHIBIT, NVM_INHIBIT_CLEAR and LINK_QUIET_END complete: a start from unpowered has
cause 0x0 and no retention record; a brown-out goes to OFF, counts and captures the records lost; a recovery has cause 0x2, or
0x0 where the record is gone; NVM writes are barred and allowed again, waiting map entries being written then, and with them the entries
of rows that the write itself has retired (R64, R65, R69, R70, R80, R81, R374, R397, Table POWER-7). -/
def Obligations.SupplyCommandsComplete : Prop :=
  (∀ s : State, s.core.pw.phase = .unpowered →
    Gives .powerOn s (resetLeft s.core
      { Power.reset with holdPin := s.core.pw.holdPin, holdTesten := s.core.pw.holdTesten, holdVio := s.core.pw.holdVio,
                         provLow := s.core.pw.provLow, provPin := s.core.pw.provLow } Retention.none)) ∧
  (∀ s : State, isPowered s.core →
    Gives .brownOut s (resetLeft s.core
      { Power.reset with phase := .off, xtal := .absent, cause := s.core.pw.cause, holdPin := s.core.pw.holdPin,
                         holdTesten := s.core.pw.holdTesten, holdVio := s.core.pw.holdVio, provLow := s.core.pw.provLow,
                         provPin := s.core.pw.provLow, nvmInhibit := true }
      { retainedNow s.core s.core.ret.cause with
        boCount := if s.core.ret.boCount = 0xFFFF#16 then 0xFFFF#16 else s.core.ret.boCount + 1#16 })) ∧
  (∀ s : State, s.core.pw.phase = .off → s.core.pw.holdPin = false →
    Gives .brownOutRecovery s (resetLeft s.core
      { Power.reset with cause := if s.core.ret.valid then 2#3 else 0#3, holdTesten := s.core.pw.holdTesten,
                         holdVio := s.core.pw.holdVio, provLow := s.core.pw.provLow, provPin := s.core.pw.provLow }
      (if s.core.ret.valid then { s.core.ret with cause := 2#3 } else Retention.none))) ∧
  (∀ s : State, isPowered s.core →
    Gives .nvmInhibit s { s.core with pw := { s.core.pw with nvmInhibit := true } }) ∧
  (∀ s : State, isPowered s.core → s.core.hg.relay = [] → (∀ t, s.core.keys.caretaker.held = some t → t < 20000) →
    s.core.nvm.allocPending = none →
    let d := { s.core with pw := { s.core.pw with nvmInhibit := false } }
    (s.core.nvm.mapPending = [] → s.core.nvm.faultsSaved = none → Gives .nvmInhibitClear s d) ∧
    (s.core.nvm.mapPending ≠ [] → Leaves .nvmInhibitClear s (fun c =>
      OnlyNvm d c ∧
      ((d.writeCopy .repair).2 = true →
        c.nvm.mapPending = [] ∧ c.nvm.faultsSaved = none ∧ ∃ l, c.nvm.fieldMap = s.core.nvm.fieldMap ++ s.core.nvm.mapPending ++ l) ∧
      ((d.writeCopy .repair).2 = false → c.nvm.fieldMap = s.core.nvm.fieldMap)))) ∧
  (∀ s : State, Gives .linkQuietEnd s { s.core with pw := { s.core.pw with linkQuiet := false } })

/-- RESET_PIN, TESTEN_HOLD, VIO_ABSENT, VIO_PRESENT, REFLOSS, REFERENCE_QUALIFIED and RESET_RELEASE complete: each reset clears
SRAM and RTC, keeps NVM, and records its cause and the records lost; BOOT begins once the reference is qualified and nothing holds
the reset; a pin has its hold in OFF too. In the reset the link outputs are released, MISO reads 0xFFFF, ATTN# is released and the electrodes are
at 0 V (R48, R65, R66, R69, R73, R409, R410, R413, R417, Table POWER-5, Table BALLS-5). -/
def Obligations.ResetAndHoldCommandsComplete : Prop :=
  (∀ s : State, isPowered s.core →
    Gives .resetPin s (resetLeft s.core { resetPower s.core 1#3 s.core.pw.xtal with holdPin := true } (retainedNow s.core 1#3))) ∧
  (∀ (s : State) (p : Port), isPowered s.core → s.core.pw.holdVio = false →
    Leaves .resetPin s (fun c => c.pinTx p = .hiZ ∧ c.pinDe p = .low ∧ c.pinRx p = .pullDown false ∧ c.misoWord = 0xFFFF#16 ∧
      c.pinAttn = .released ∧ (∀ (t : SlotName) (ph n : Nat), c.pinDrv t ph n = .held ∧ c.pinSns t ph n = .held ∧
        c.pinGuard t ph n = .low))) ∧
  (∀ s : State, isPowered s.core →
    Gives (.testenHold true) s (resetLeft s.core
      { resetPower s.core 7#3 s.core.pw.xtal with holdTesten := true, holdKind := 1#8 } (retainedNow s.core 7#3))) ∧
  (∀ s : State, s.core.pw.phase = .reset → s.core.pw.holdTesten = true →
    Gives (.testenHold false) s { s.core with
      pw := { s.core.pw with holdTesten := false, cause := 7#3, holdKind := 1#8, linkQuiet := true }
      ret := { s.core.ret with cause := 7#3 } }) ∧
  (∀ s : State, isPowered s.core →
    Gives .vioAbsent s (resetLeft s.core
      { resetPower s.core 7#3 s.core.pw.xtal with holdVio := true, holdKind := 0#8 } (retainedNow s.core 7#3))) ∧
  (∀ s : State, s.core.pw.phase = .reset → s.core.pw.holdVio = true →
    Gives .vioPresent s { s.core with
      pw := { s.core.pw with holdVio := false, cause := 7#3, holdKind := 0#8, linkQuiet := true }
      ret := { s.core.ret with cause := 7#3 } }) ∧
  (∀ s : State, s.core.pw.phase = .off →
    Gives .resetPin s { s.core with pw := { s.core.pw with holdPin := true } } ∧
    Gives (.testenHold true) s { s.core with pw := { s.core.pw with holdTesten := true } } ∧
    Gives .vioAbsent s { s.core with pw := { s.core.pw with holdVio := true } }) ∧
  (∀ s : State, isPowered s.core → s.core.pw.xtal = .running →
    Gives .refloss s (resetLeft s.core (resetPower s.core 5#3 .absent) (retainedNow s.core 5#3))) ∧
  (∀ s : State, s.core.pw.phase = .reset → s.core.pw.xtal ≠ .running →
    Gives .referenceQualified s { s.core with
      pw := { s.core.pw with
        xtal := .running
        phase := if s.core.pw.holdPin || s.core.pw.holdTesten || s.core.pw.holdVio then .reset else .boot } }) ∧
  (∀ s : State, Gives .resetRelease s { s.core with
    pw := { s.core.pw with
      holdPin := false
      phase := if s.core.pw.phase = .reset ∧ s.core.pw.xtal = .running ∧ s.core.pw.holdTesten = false ∧
        s.core.pw.holdVio = false then .boot else s.core.pw.phase } })

/-- PLL_LOCK and REFRDY complete: without a valid profile slot BOOT ends in BARE with the factory profile, the port READY and the
reference buffer on, the OTP read, a key area whose programming was cut off spoiled, and the content of a two-copy record that has no valid
copy its factory content; a wake ends at the highest state its
sources named, counted in WAKECNT; REFRDY starts the system sequence with a monitor burst (R55, R57, R64, R67, R78, R193, R195,
R396, R445, Tables POWER-4 and POWER-6). -/
def Obligations.LockAndReferenceComplete : Prop :=
  (∀ (s : State) (bist : List BistFault), s.core.pw.phase = .boot → s.core.nvm.slotA.marker = none →
    s.core.nvm.slotB.marker = none →
    ∃ c, exec (.pllLock bist) s = .next { s with otp := Core.spoilOtp s.otp s.core.keyProg, core := c } ∧
      c.pw.phase = .bare ∧ c.pw.ready = true ∧ c.pw.refbuf = true ∧ c.prof = Profile.factory ∧ c.slot = none ∧
      c.hg.uid = s.otp.uid ∧ c.otpc.custodian = Core.custodianKey (Core.spoilOtp s.otp s.core.keyProg) ∧ c.keyProg = none ∧
      c.ret.valid = true ∧
      c.nvm.tenants = (if (s.core.pair .tenant).a.sound || (s.core.pair .tenant).b.sound then s.core.nvm.tenants
                       else Records.factory.tenants) ∧
      c.nvm.faults = (if (s.core.pair .repair).a.sound || (s.core.pair .repair).b.sound then s.core.nvm.faults
                      else Records.factory.faults)) ∧
  (∀ (s : State) (bist : List BistFault), s.core.pw.phase = .doze ∨ s.core.pw.phase = .watch → s.core.pw.waking = true →
    s.core.pw.wakeTarget = .quiet → s.core.pw.floor = 2#4 → s.core.slot.isSome = true → s.core.rep.bistf = false →
    s.core.pw.csWoke = false → s.core.hg.relay = [] →
    Leaves (.pllLock bist) s (OnlyRecords { s.core with pw := { s.core.pw with
      phase := .quiet, provPin := s.core.pw.provLow, waking := false, refbuf := true, refrdy := false, reqState := false
      wakecnt := if s.core.pw.wakecnt = 0xFFFF#16 then 0xFFFF#16 else s.core.pw.wakecnt + 1#16 } })) ∧
  (∀ s : State, s.core.pw.refbuf = true → s.core.pw.refrdy = false →
    Leaves .refrdy s (fun c =>
      c = { s.core with
        pw := { s.core.pw with refrdy := true }
        host := { s.core.host with attnsrc := if s.core.pw.ready then s.core.host.attnsrc ||| 0x0080#16 else s.core.host.attnsrc }
        keys := { s.core.keys with ladders := s.core.keys.ladders.map (fun l => { l with seen := false }) }
        sar := c.sar } ∧
      c.sar.cur.isSome = true ∧ c.sar.burstDue = false ∧ c.sar.urgent = s.core.sar.urgent))

/-- CS_WAKE, LINK_START_EDGE_WAKE, LADDER_WAKE, ENCODER_EDGE_WAKE and RTC_ALARM complete in Doze and Watch: each latches its bit of
WAKESRC and starts the wake, and the highest state named holds: Run by select, Quiet by a link, a ladder, an encoder or an alarm
without a MAINT frame due; at the alarm every background task whose deadline has come is past due, and a daily self-test among them is due (R394, R47, R54, R57, R62, R63, R207, R214, R319, Table POWER-3). -/
def Obligations.WakeSourcesComplete : Prop :=
  ∀ s : State, s.core.pw.phase = .doze ∨ s.core.pw.phase = .watch →
    let named := fun (t : Phase) => if s.core.pw.waking then higher s.core.pw.wakeTarget t else t
    (Leaves .csWake s (fun c =>
      c = { s.core with
        host := { s.core.host with csHeld := true }
        pw := { s.core.pw with wakesrc := s.core.pw.wakesrc ||| 0x0001#16, waking := true, csWoke := true, wakeTarget := named .run } })) ∧
    (∀ p : Port, (s.core.port p).mon = .live → (s.core.port p).cfg.mode ≠ 0#2 → (s.core.port p).sevMask = false →
      (s.core.port p).noiseMask = false →
      Leaves (.linkStartEdgeWake p) s (OnlyRecords { s.core with
        lnk := modifyAt s.core.lnk p.val (fun l => { l with latch := true, noHunt := true })
        pw := { s.core.pw with wakesrc := s.core.pw.wakesrc ||| (0x0002#16 ||| (0x0100#16 <<< p.val)), waking := true
                               wakeTarget := named .quiet } })) ∧
    (∀ l : Ladder, s.core.ladderInUse l = true → (s.core.ladder l).armed = true → (s.core.ladder l).masked = false →
      Leaves (.ladderWake l) s (OnlyRecords { s.core with
        keys := { s.core.keys with ladders := modifyAt s.core.keys.ladders l.val (fun x => { x with latch := true }) }
        pw := { s.core.pw with wakesrc := s.core.pw.wakesrc ||| 0x0004#16, waking := true, wakeTarget := named .quiet } })) ∧
    (∀ e : Fin 2, s.core.prof.encEn e.val = true →
      Leaves (.encoderEdgeWake e) s (OnlyRecords { s.core with
        keys := { s.core.keys with encs := modifyAt s.core.keys.encs e.val (fun x => { x with latch := true }) }
        pw := { s.core.pw with wakesrc := s.core.pw.wakesrc ||| 0x0008#16, waking := true, wakeTarget := named .quiet } })) ∧
    (s.core.pw.alarmSet = true →
      let n := (s.core.pw.alarm - s.core.pw.rtc).toNat
      let later := { s.core with rep := { s.core.rep with rtcLong := s.core.rep.rtcLong + n, lifeT := s.core.rep.lifeT + n } }
      Leaves .rtcAlarm s (fun c =>
        OnlyRecords { later with
          pw := { s.core.pw with rtc := s.core.pw.alarm, alarmSet := false, wakesrc := s.core.pw.wakesrc ||| 0x0010#16
                                 waking := true
                                 wakeTarget := named (if c.maintIsDue then .run else .quiet) }
          rep := { later.rep with bgdefer := c.rep.bgdefer, testDue := c.rep.testDue, bgDue := c.rep.bgDue } } c ∧
        c.rep.testDue = (s.core.rep.testDue || later.deadline 1 == some 0) ∧
        ∀ t : Fin 5, c.rep.bgdefer.getLsbD t.val = (s.core.rep.bgdefer.getLsbD t.val || later.deadline t == some 0)))

/-- DOZE_ENTRY_SWITCHOVER, DOZE_ENTRY_ABANDON and DOZE_ENTRY_RETRY complete. At the switch-over the tile is in the state it entered
for, conversions and frames have stopped, REFRDY is 0, the ladders that the comparators show at rest are armed, the ports are
back in NORMAL operation and ATTN# holds its level; an abandoned entry is kept for the retry, which decides it again with DOZE on every
LIVE port, but gives up an idle entry below a FLOOR raised since (R50, R53, R58, R60, R61, R193, R207, R274, R316, R332, R441, Table
POWER-4). -/
def Obligations.DozeEntryCompletes : Prop :=
  (∀ (s : State) (e : DozeEntry) (m : BitVec 8), s.core.pw.entry = some e → s.core.pw.phase.isAwake = true →
    s.core.quiesced = true →
    Leaves (.dozeEntrySwitchover m) s (fun c =>
      c.pw.phase = e.target ∧ c.pw.entry = none ∧ c.pw.waking = false ∧ c.pw.refbuf = false ∧ c.pw.refrdy = false ∧
      c.pw.pump = false ∧ c.pw.reqState = e.byReq ∧ c.pw.alarmSet = true ∧ c.pw.rtc = s.core.pw.rtc ∧
      c.pw.wakesrc = s.core.pw.wakesrc ∧ c.pw.floor = s.core.pw.floor ∧ c.pw.ready = s.core.pw.ready ∧
      c.sar.cur = none ∧ c.sar.sysQ = [] ∧ c.sar.userNext = none ∧ c.acq.running = false ∧ c.acq.slot = none ∧
      (∀ l : Ladder, c.ladder l = { s.core.ladder l with armed := (c.ladder l).armed, latch := false }) ∧
      (∀ l : Ladder, l.val < s.core.keys.ladders.length → (c.ladder l).armed = m.getLsbD l.val) ∧
      (∀ p : Port, (c.port p).op = 0#2 ∧ (c.port p).txbrk = false ∧ (c.port p).mon = (s.core.port p).mon ∧
        (c.port p).cfg = (s.core.port p).cfg) ∧
      c.nvm = s.core.nvm ∧ c.ret = s.core.ret ∧ c.prof = s.core.prof ∧ c.hg = s.core.hg ∧ c.node = s.core.node ∧
      c.trk = s.core.trk ∧ c.ten = s.core.ten ∧ c.pk = s.core.pk ∧ c.keys.recs = [] ∧ c.rep = { s.core.rep with tele := c.rep.tele } ∧
      (s.core.keys.recs = [] → c.qs = s.core.qs ∧ c.rep = s.core.rep ∧ c.host.attnHeld = s.core.attnLow))) ∧
  (∀ (s : State) (e : DozeEntry), s.core.pw.entry = some e → s.core.pw.phase.isAwake = true →
    Gives .dozeEntryAbandon s { s.core with pw := { s.core.pw with entry := none, retry := some e } }) ∧
  (∀ (s : State) (e : DozeEntry), s.core.pw.retry = some e → s.core.pw.entry = none → s.core.pw.phase = .run ∨ s.core.pw.phase = .quiet →
    e.byReq = false → s.core.keptBelowFloor e.target = true →
    Gives .dozeEntryRetry s { s.core with pw := { s.core.pw with retry := none } }) ∧
  (∀ (s : State) (e : DozeEntry), s.core.pw.retry = some e → s.core.pw.entry = none → s.core.pw.phase = .run →
    e.byReq = true ∨ s.core.keptBelowFloor e.target = false →
    Gives .dozeEntryRetry s { s.core with pw := { s.core.pw with
      retry := none
      req := if e.byReq then e.target.code else s.core.pw.req
      idleDue := if e.byReq then s.core.pw.idleDue else true } }) ∧
  (∀ (s : State) (e : DozeEntry), s.core.pw.retry = some e → s.core.pw.entry = none →
    s.core.pw.phase = .quiet ∨ s.core.pw.phase = .bare →
    s.core.pw.phase = .bare ∨ e.byReq = true ∨ s.core.keptBelowFloor e.target = false →
    Leaves .dozeEntryRetry s (fun c =>
      c.pw = { s.core.pw with entry := some e, retry := none, req := 0#4, idleDue := false } ∧ c.nvm = s.core.nvm ∧
      c.hg = s.core.hg ∧ c.trk = s.core.trk ∧ c.acq = s.core.acq ∧ c.prof = s.core.prof ∧
      (∀ p : Port, (c.port p).cfg = (s.core.port p).cfg ∧ (c.port p).mon = (s.core.port p).mon) ∧
      (∀ p : Port, s.core.helloPort p = true → ∃ f ∈ (c.port p).txq, f.body = .doze (BitVec.ofNat 8 e.target.code.toNat))))

/-- RUN_IDLE_ELAPSED, QUIET_IDLE_ELAPSED and BARE_IDLE_ELAPSED complete: with no confirmed contact, no hover and no command that
holds Run the tile leaves at the next boundary; in Quiet with no key held and no panel timed it decides the entry to the state STANDING and FLOOR name, in BARE the entry
to Doze (R36, R53, R55, R209, R286, Table POWER-2). -/
def Obligations.IdleTimesComplete : Prop :=
  (∀ s : State, s.core.pw.phase = .run → s.core.pw.entry = none → (∀ k ∈ s.core.trk.contacts, k.isCand = true) →
    s.core.trk.hover = none → s.core.heldByCommand = false → s.core.idleTarget ≠ .run →
    Gives .runIdleElapsed s { s.core with pw := { s.core.pw with idleDue := true } }) ∧
  (∀ s : State, s.core.pw.phase = .quiet → s.core.pw.entry = none → s.core.idleTarget.isAsleep = true →
    s.core.panelRuns = false → (∀ l : Ladder, s.core.ladderHolds l = false) →
    Leaves .quietIdleElapsed s (fun c =>
      c.pw = { s.core.pw with entry := some { target := s.core.idleTarget, byReq := false }, retry := none, req := 0#4
                              idleDue := false } ∧
      c = { s.core with pw := c.pw, lnk := c.lnk })) ∧
  (∀ s : State, s.core.pw.phase = .bare → s.core.pw.entry = none → s.core.panelRuns = false →
    Leaves .bareIdleElapsed s (fun c =>
      c.pw = { s.core.pw with entry := some { target := .doze, byReq := false }, retry := none, req := 0#4, idleDue := false } ∧
      c = { s.core with pw := c.pw, lnk := c.lnk }))

/-- FRAME_BOUNDARY, NOISE_SLOT, MUTUAL_SLOT and SELF_SLOT complete in a normal frame: the boundary counts the frame and opens its
SYNC slot; NOISE stores the survey of the current set and two others and moves the survey on by two; MUTUAL stores the step sums
of every channel and lane, and from every sample of the slot the CLIP flags and the sample views, and whether the drive sagged; SELF stores a
count for each line in use whose drive pin has a leg (R15, R83, R88, R97, R101 to R103, R107, R111 to R113, R331). -/
def Obligations.SlotMeasurementsComplete : Prop :=
  (∀ s : State, s.core.pw.phase = .run → s.core.pw.entry = none → s.core.pw.req = 0#4 → s.core.pw.idleDue = false →
    s.core.gradeNow < 6 → (∀ r ∈ s.core.rep.slices, r.failDue = none) → s.core.hg.joinRefused = false → s.core.rep.selftest = none → s.core.rep.testDue = false → s.core.rep.finger = none →
    s.core.rep.fingerWait = none → s.core.acq.maintDue = [] → s.core.node.seek = none → s.core.newProf = none →
    s.core.pk.deferred = [] → s.core.acq.swingAnn = none →
    Leaves .frameBoundary s (fun c =>
      c.hg.fc = s.core.hg.fc + 1#32 ∧ c.hg.ranFc = s.core.hg.fc + 1#32 ∧ c.hg.sub = 0#24 ∧ c.pw.phase = .run ∧
      c.acq.running = true ∧ c.acq.slot = some .sync ∧ c.acq.maint = none ∧ c.acq.sagged = false ∧ c.trk.out = [] ∧
      c.prof = s.core.prof ∧ c.pk = s.core.pk)) ∧
  (∀ (s : State) (w : List (List Samples)), s.core.atSlot .sync = true → s.core.acq.maint = none → s.core.acq.noiseGiven = false →
    s.core.noiseShape w [] = true →
    Leaves (.noiseSlot w []) s (fun c =>
      c = { s.core with
        acq := { s.core.acq with slot := some .noise, noiseViews := c.acq.noiseViews, surveyPtr := s.core.acq.surveyPtr + 2 }
        rep := { s.core.rep with tele := c.rep.tele } } ∧
      c.acq.noiseViews = s.core.surveySets.zipIdx.map (fun h =>
        { hop := BitVec.ofNat 3 h.1, lanes := (List.range 3).map (fun lane =>
            s.core.noiseLane h.1 lane (w.getD (2 * h.2) []) (w.getD (2 * h.2 + 1) [])) }))) ∧
  (∀ (s : State) (m : ScanSamples) (sag : Bool), s.core.atSlot .noise = true →
    s.core.acq.maint = none → s.core.mutualShape m = true → s.core.acq.sagRun < 2 →
    Leaves (.mutualSlot m sag) s (fun c =>
      c = { s.core with acq := c.acq, rep := { s.core.rep with tele := c.rep.tele } } ∧
      c.acq = { s.core.acq with
        slot := some .scan
        sums := (List.range 26).map (fun ch => (List.range 3).map (fun lane => m.steps.map (fun x =>
          laneSum s.core.acq.hop.toNat lane ch (s.core.phaseOffset ch lane) (x.getD ch []))))
        clip := (List.range 26).map (fun ch =>
          (m.pre.getD ch [] ++ m.steps.flatMap (fun x => x.getD ch []) ++ m.tail.getD ch []).any isClipped)
        sampleView := (List.range 26).map (fun ch =>
          (m.pre.getD ch [] ++ m.steps.flatMap (fun x => x.getD ch []) ++ m.tail.getD ch []).foldl (fun t x => Tracker.add t x.toInt) (Tracker.reset (-2048) 2047))
        sagged := s.core.acq.highNow && sag
        sagRun := if s.core.acq.highNow && sag then s.core.acq.sagRun + 1 else 0 })) ∧
  (∀ (s : State) (x : List (List Nat)), s.core.atSlot .scan = true → 0 < s.core.prof.selfT → s.core.acq.maint = none →
    s.core.acq.noiseGiven = false → x.length = 56 →
    Gives (.selfSlot x) s { s.core with acq := { s.core.acq with
      slot := some .self
      selfRan := true
      sc := (List.range 56).map (fun i =>
        if s.core.lineUsed i && !(decide (24 ≤ i) && s.core.acq.legs.getD (i - 24) 3#2 == 0#2) then selfCount (2 ^ (4 + s.core.prof.scNlog)) (s.core.prof.selfT / 16 * 4) (x.getD i [])
        else s.core.acq.sc.getD i none) } })

/-- SEAM_SLOT, COMPUTE_SLOT, SEAM_D_DEADLINE, SEAM_X_DEADLINE and REPORT_SLOT complete: SEAM decides a pending swing change, which waits
for a contact and for the exclusion of any line unless it is forced (log 19), and sends SEAM_H; COMPUTE of a SLICECAL frame computes nothing;
of a normal frame of a tile without neighbours it runs to its end, and where the baselines are not valid it leaves no contact; a deadline makes its seam an edge or gives up its SEAM_X, and the last one awaited lets the track engine go on;
REPORT places the frame's records and the waiting key
records, and what the encoders have counted (R15, R17, R85, R86, R132, R136, R147, R189, R190, R213, R216, R290). -/
def Obligations.SeamComputeReportComplete : Prop :=
  (∀ s : State, s.core.beforeSeam = true → s.core.acq.maint = none →
    let waits := fun (w : SwingPend) =>
      !w.forced && (s.core.hasContact || (List.range s.core.prof.nSns).any s.core.lineExcluded)
    Leaves (.seamSlot []) s (fun c =>
      c = { s.core with acq := c.acq, lnk := c.lnk } ∧
      c.acq = { s.core.acq with
        slot := some .seam
        swingAnn := match s.core.acq.swingPend with
          | some w => if waits w then s.core.acq.swingAnn else some w.high
          | none => s.core.acq.swingAnn
        swingPend := s.core.acq.swingPend.filter waits } ∧
      ∀ p : Port, c.port p = { s.core.port p with txq := (c.port p).txq })) ∧
  (∀ (s : State) (n : Fin 2), s.core.atSlot .seam = true → s.core.acq.maint = some (.slicecal n) →
    Gives .computeSlot s { s.core with acq := { s.core.acq with slot := some .compute }, trk := { s.core.trk with phase := .done } }) ∧
  (∀ s : State, s.core.atSlot .seam = true → s.core.acq.maint = none → s.core.acq.noiseGiven = false →
    s.core.hp = List.replicate 6 HedgePort.reset →
    Leaves .computeSlot s (fun c =>
      c = { s.core with acq := { s.core.acq with slot := some .compute }, node := c.node, trk := c.trk, rep := c.rep
                        hg := { s.core.hg with grants := c.hg.grants } } ∧
      c.trk.phase = .done ∧ c.node.gain = s.core.node.gain ∧ c.node.codes = s.core.node.codes ∧ c.node.coarse = s.core.node.coarse)) ∧
  (∀ s : State, s.core.atSlot .seam = true → s.core.acq.maint = none → s.core.acq.noiseGiven = false →
    s.core.node.valid = false → s.core.hp = List.replicate 6 HedgePort.reset →
    Leaves .computeSlot s (fun c =>
      c = { s.core with acq := { s.core.acq with slot := some .compute }, node := c.node, trk := c.trk, rep := c.rep } ∧
      c.trk.phase = .done ∧ c.trk.contacts = [] ∧ c.trk.hover = none ∧ c.trk.out = s.core.endRecs ∧
      c.node.gain = s.core.node.gain ∧ c.node.codes = s.core.node.codes ∧ c.node.coarse = s.core.node.coarse)) ∧
  (∀ (s : State) (p q : Port), s.core.trk.phase = .waitD → s.core.awaitsD p = true → s.core.awaitsD q = true → p ≠ q →
    Gives (.seamDDeadline p) s { s.core with hp := modifyAt s.core.hp p.val (fun h => { h with edge := true }) }) ∧
  (∀ (s : State) (p : Port), s.core.trk.phase = .waitD → s.core.awaitsD p = true → (∀ q : Port, q ≠ p → s.core.awaitsD q = false) →
    Leaves (.seamDDeadline p) s (fun c =>
      (c.hport p).edge = true ∧ c.trk.phase ≠ .waitD ∧ c.acq = s.core.acq ∧ c.prof = s.core.prof ∧ c.pw = s.core.pw)) ∧
  (∀ (s : State) (p : Port), s.core.trk.phase = .waitX →
    (∀ q ∈ s.core.mapped, q ≠ p → (s.core.hport q).xOver = true ∨
      ((s.core.heardX q).isSome = true ∧ (s.core.hport q).outXAcked = true)) →
    Leaves (.seamXDeadline p) s (fun c =>
      c = { s.core with
        hp := modifyAt s.core.hp p.val (fun h => { h with xOver := true })
        hg := { s.core.hg with grants := c.hg.grants }, node := c.node, trk := c.trk, rep := c.rep } ∧
      c.trk.phase = .done)) ∧
  (∀ (s : State) (p : Port), s.core.trk.phase = .waitD ∨ s.core.trk.phase = .done →
    Gives (.seamXDeadline p) s { s.core with hp := modifyAt s.core.hp p.val (fun h => { h with xOver := true }) }) ∧
  (∀ s : State, s.core.atSlot .compute = true → s.core.acq.maint = none → s.core.trk.phase = .done → s.core.hg.confirmed = false →
    s.core.hg.panelRoot = false →
    Leaves .reportSlot s (OnlyRecords { s.core with
      acq := { s.core.acq with slot := some .report }
      hp := s.core.hp.map (fun h => { h with xOver := true })
      trk := { s.core.trk with out := [] }
      keys := { s.core.keys with
        recs := []
        encs := ([0, 1] : List (Fin 2)).foldl (fun l e =>
          if (s.core.enc e).net = 0 then l else modifyAt l e.val (fun x => { x with net := 0, err := false })) s.core.keys.encs } })) ∧
  (∀ (s : State) (m : Maint), s.core.atSlot .compute = true → s.core.acq.maint = some m →
    Gives .reportSlot s { s.core with acq := { s.core.acq with slot := some .report } })

/-- KEEPER_EVALUATION completes: it requests range changes only, and on a line in FINE that no range change excludes, whose worst
kept node lies more than three quarters of L below B_SET with its code below 63, it requests that code plus one (R143, R144). -/
def Obligations.KeeperRequestsOneCode : Prop :=
  ∀ s : State, s.core.pw.phase = .run → s.core.acq.running = true → s.core.prof.keepInt ≠ 0 → s.core.node.valid = true →
    s.core.acq.maint = none → s.core.node.pend.length = 24 → s.core.prof.nSns ≤ 24 →
    Leaves .keeperEvaluation s (fun c =>
      OnlyNvm { s.core with
        node := { s.core.node with pend := c.node.pend }, nvm := { s.core.nvm with faults := c.nvm.faults }
        rep := { s.core.rep with complim := c.rep.complim } } c ∧
      ∀ k d : Nat, k < s.core.prof.nSns → s.core.lineExcluded k = false → s.core.node.coarse.getD k false = false →
        s.core.worstNode k = some d → s.core.deviation d k < 0 →
        3 * s.core.lineL k < 4 * ((s.core.deviation d k).natAbs : Int) → (s.core.lineCodes k).getD d 0 < 63 →
        c.node.pend.getD k none = some (.codes { codes := [(d, (s.core.lineCodes k).getD d 0 + 1)], forced := false }))

/-- WATCH_BURST completes: each group takes its count (a first count seeds the baseline, a drop of more than W_DELTA makes a
candidate, else the baseline follows); a SHORT count makes no candidate, ends the run, and moves the baseline; without approach and gesture the tile stays asleep; a candidate whose run has reached
W_CONFIRM, with APPROACH in WAKE_ON, wakes the tile to Run (R117 to R121, R188, Table POWER-3). -/
def Obligations.WatchBurstCompletes : Prop :=
  (∀ (s : State) (v : List (Option Nat)), s.core.pw.phase = .watch → s.core.burstShape v = true →
    s.core.prof.wakeOn = 0 → s.core.rep.watchFault = false → s.core.gradeNow = s.core.rep.grade.toNat →
    (∀ n, some n ∈ v → s.core.prof.ctMin ≤ n) →
    Leaves (.watchBurst v) s (fun c =>
      c = { s.core with acq := { s.core.acq with watch := c.acq.watch, wgStep := c.acq.wgStep, wgAge := c.acq.wgAge } } ∧
      c.acq.watch = s.core.acq.watch.zipIdx.map (fun g => match v[g.2]? with
        | some n => ({ g.1.counted s.core.prof.ctMax n with shortRun := 0 } : WatchGroup).detect n.isSome s.core.prof.wDelta s.core.prof.wK
        | none => g.1))) ∧
  (∀ (s : State) (v : List (Option Nat)) (i : Nat) (g : WatchGroup) (n : Nat), s.core.pw.phase = .watch →
    s.core.burstShape v = true → s.core.acq.watch[i]? = some g → v[i]? = some (some n) → n < s.core.prof.ctMin → g.seeded = true →
    Leaves (.watchBurst v) s (fun c =>
      c.acq.watch[i]? = some { g with
        n := n, full := false, shortRun := min 3 (g.shortRun + 1), run := 0, cand := false
        base := (usat (g.base + rhu (16 * n - g.base) s.core.prof.wK) 16).toNat })) ∧
  (∀ (s : State) (v : List (Option Nat)) (i : Nat) (g : WatchGroup) (n : Nat), s.core.pw.phase = .watch →
    s.core.burstShape v = true → s.core.prof.wakeOn.testBit 0 = true → s.core.acq.watch[i]? = some g → v[i]? = some (some n) →
    g.seeded = true → s.core.prof.ctMin ≤ n → (16 * n : Int) < g.base - 16 * s.core.prof.wDelta →
    s.core.prof.wConfirm ≤ g.run + 1 →
    Leaves (.watchBurst v) s (fun c =>
      c.pw.waking = true ∧ c.pw.wakeTarget = .run ∧ c.pw.wakesrc = s.core.pw.wakesrc ||| 0x0020#16 ∧ c.pw.phase = .watch ∧
      c.acq.wgStep = 0 ∧ c.prof = s.core.prof))

/-- SAR_CONVERSION_DONE, BATTERY_LOW_REPEAT, SYSTEM_SEQUENCE_RUN and USER_SEQUENCE_RUN complete: an urgent result enters its window,
and the last one of a host request presents the window and sets SARDONE; a user result enters its channel's accumulator; a low
battery raises its event again; a system run queues the ladders and a due monitor burst; a user run starts at entry 0, or is
skipped with USEQ_OVERRUN (R122, R194 to R198, Table KEY-3, Table POWER-8). -/
def Obligations.ConverterCommandsComplete : Prop :=
  (∀ (s : State) (v : BitVec 12) (u : UrgReq) (rest : List UrgReq), s.core.pw.phase.isAwake = true → s.core.pw.refrdy = true →
    s.core.sar.cur = some .urgent → s.core.sar.urgent = u :: rest → 2 ≤ u.left →
    Gives (.sarConversionDone v) s { s.core with sar := { s.core.sar with
      urgent := { u with left := u.left - 1, win := u.win.add v.toNat } :: rest } }) ∧
  (∀ (s : State) (v : BitVec 12) (u : UrgReq) (rest : List UrgReq), s.core.pw.phase.isAwake = true → s.core.pw.ready = true →
    s.core.sar.cur = some .urgent → s.core.sar.urgent = u :: rest → u.left = 1 → u.who = .host →
    Leaves (.sarConversionDone v) s (fun c =>
      c.sar.urgView = s.core.sar.urgView.set 1 (u.win.add v.toNat) ∧ (s.core.sar.urgWait = [] → c.sar.urgent = rest) ∧
      (∀ w ws, s.core.sar.urgWait = w :: ws → rest.length < 4 → w ∈ c.sar.urgent ∧ c.sar.urgWait = ws) ∧
      c = { s.core with sar := c.sar, host := { s.core.host with attnsrc := s.core.host.attnsrc ||| 0x0040#16 } })) ∧
  (∀ (s : State) (v : BitVec 12) (i : Nat), s.core.pw.phase.isAwake = true → s.core.sar.cur = some (.user i true) →
    Leaves (.sarConversionDone v) s (fun c =>
      let ch := s.core.sar.useq.entries.getD i 0
      let t := (s.core.sar.usr.getD ch Tracker.code).add v.toNat
      c = { s.core with sar := c.sar, host := { s.core.host with attnsrc := c.host.attnsrc } } ∧
      (t.count < 2 ^ s.core.sar.useq.accLog → c.sar.usr = s.core.sar.usr.set ch t ∧ c.sar.usrView = s.core.sar.usrView) ∧
      (2 ^ s.core.sar.useq.accLog ≤ t.count →
        c.sar.usr = s.core.sar.usr.set ch Tracker.code ∧ c.sar.usrView = s.core.sar.usrView.set ch t) ∧
      (s.core.sar.useq.len ≤ i + 1 → c.sar.userNext = none))) ∧
  (∀ s : State, s.core.pw.batLow = true →
    Leaves .batteryLowRepeat s (fun c => OnlyRecords s.core c ∧ c.rep.tele.events = s.core.rep.tele.events + 1)) ∧
  (∀ (s : State) (v : Conv), s.core.pw.phase.isAwake = true → s.core.pw.refrdy = true → s.core.sar.cur = some v →
    let due := s.core.sar.burstDue || decide (1024 ≤ s.core.sar.sysRuns + 1)
    Gives .systemSequenceRun s { s.core with sar := { s.core.sar with
      sysQ := s.core.sar.sysQ ++ (s.core.sysLadders.map SysEntry.ladder ++ (if due then
        List.replicate 16 (.monitor 8) ++ List.replicate 4 (.monitor 9) ++ List.replicate 4 (.monitor 10) ++
        List.replicate 4 (.monitor 11) ++ List.replicate 4 (.monitor 12) else []))
      sysRuns := if due then 0 else s.core.sar.sysRuns + 1
      burstDue := false
      mon := if due then List.replicate 5 Tracker.code else s.core.sar.mon } }) ∧
  (∀ (s : State) (v : Conv), s.core.pw.phase.isAwake = true → s.core.sar.useq.period ≠ 0 → s.core.sar.useq.len ≠ 0 →
    s.core.sar.cur = some v →
    (s.core.sar.userNext = none → Gives .userSequenceRun s { s.core with sar := { s.core.sar with userNext := some 0 } }) ∧
    (s.core.sar.userNext ≠ none → Gives .userSequenceRun s { s.core with sar := { s.core.sar with overrun := true } }))

/-- KEY_LONG, KEY_STUCK, LADDER_FAULT, LADDER_ARM, LADDER_WAKE_SPURIOUS and LADDER_MASK_END complete: a key that is held gives LONG once
and STUCK once, its record waiting for the REPORT slot in Run; a ladder whose codes are invalid faults once; a ladder arms in Doze
and Watch; a spurious wake counts, and the sixteenth within 3 600 s masks the ladder until the mask ends (R204, R207, R208, R211,
R213). -/
def Obligations.LadderCommandsComplete : Prop :=
  (∀ (s : State) (l : Ladder) (k : Key), s.core.keyDown l k = true → s.core.prof.longMs ≠ 0 → s.core.pw.phase = .run →
    ((s.core.ladder l).keys.getD k.val KeySt.rest).long = false →
    Gives (.keyLong l k) s { s.core with keys := { s.core.keys with
      ladders := modifyAt s.core.keys.ladders l.val (fun x => { x with keys := modifyAt x.keys k.val (fun y =>
        { y with hold := max y.hold s.core.prof.longMs, long := true }) })
      recs := s.core.keys.recs ++ [s.core.keyRec 2 l k (max (s.core.keyHold l k) s.core.prof.longMs)] } }) ∧
  (∀ (s : State) (l : Ladder) (k : Key), s.core.keyDown l k = true → s.core.pw.phase = .run →
    ((s.core.ladder l).keys.getD k.val KeySt.rest).stuck = false →
    Leaves (.keyStuck l k) s (OnlyRecords { s.core with keys := { s.core.keys with
      ladders := modifyAt s.core.keys.ladders l.val (fun x => { x with keys := modifyAt x.keys k.val (fun y =>
        { y with hold := max y.hold (1000 * s.core.prof.stuckS), stuck := true }) })
      recs := s.core.keys.recs ++ [s.core.keyRec 3 l k (max (s.core.keyHold l k) (1000 * s.core.prof.stuckS))] } })) ∧
  (∀ (s : State) (l : Ladder), (s.core.ladder l).invalid = true → (s.core.ladder l).lfault = false → s.core.pw.phase.isAwake = true →
    Leaves (.ladderFault l) s (OnlyRecords { s.core with keys := { s.core.keys with
      ladders := modifyAt s.core.keys.ladders l.val (fun x => { x with lfault := true }) } })) ∧
  (∀ (s : State) (l : Ladder), s.core.pw.phase.isAsleep = true →
    Gives (.ladderArm l) s { s.core with keys := { s.core.keys with
      ladders := modifyAt s.core.keys.ladders l.val (fun x => { x with armed := true }) } }) ∧
  (∀ (s : State) (l : Ladder), s.core.pw.phase.isAwake = true → (s.core.ladder l).latch = true → (s.core.ladder l).seen = false →
    let recent := (s.core.ladder l).spurious.filter (fun t => decide ((s.core.pw.rtc - t).toNat ≤ 117964800))
    (recent.length < 15 → Gives (.ladderWakeSpurious l) s { s.core with keys := { s.core.keys with
      ladders := modifyAt s.core.keys.ladders l.val (fun x => { x with latch := false, spurious := recent ++ [s.core.pw.rtc] }) } }) ∧
    (15 ≤ recent.length → Leaves (.ladderWakeSpurious l) s (OnlyRecords { s.core with keys := { s.core.keys with
      ladders := modifyAt s.core.keys.ladders l.val (fun x => { x with latch := false, masked := true, spurious := [] }) } }))) ∧
  (∀ (s : State) (l : Ladder), Gives (.ladderMaskEnd l) s { s.core with keys := { s.core.keys with
    ladders := modifyAt s.core.keys.ladders l.val (fun x => { x with masked := false }) } })

/-- ENCODER_TRANSITION, ENCODER_REPORT, COMBINATION_A, COMBINATION_B, PROVISIONING_HOLD, PRESENCE_END, PROV_PIN and PROV_RELEASE
complete: a level enters the quadrature count; net detents become records; combination A, released after 8 s and before
20 s, resets with cause 0x3; B, held for 20 s, clears both commit markers and resets with cause 0x4, and waits while NVM writes are inhibited;
presence rises with the pin or the pair, once in ATTNSRC, and ends with them; in Doze and Watch PROV# is not sampled (R214 to R219, R327). -/
def Obligations.EncodersAndCombinationsComplete : Prop :=
  (∀ (s : State) (e : Fin 2) (a b : Bool), s.core.pw.phase ≠ .unpowered → s.core.pw.phase ≠ .off → s.core.pw.phase ≠ .reset →
    s.core.pw.entry = none → s.core.prof.encEn e.val = true →
    Leaves (.encoderTransition e a b) s (fun c =>
      c = { s.core with
        keys := { s.core.keys with encs := modifyAt s.core.keys.encs e.val (fun _ =>
          Core.Encoder.take (s.core.enc e) s.core.prof ((if a then 2#2 else 0#2) ||| (if b then 1#2 else 0#2))) }
        rep := { s.core.rep with tele := c.rep.tele } })) ∧
  (∀ (s : State) (e : Fin 2), s.core.pw.phase = .quiet → (s.core.enc e).net ≠ 0 →
    Leaves (.encoderReport e) s (OnlyRecords { s.core with keys := { s.core.keys with
      encs := modifyAt s.core.keys.encs e.val (fun x => { x with net := 0, err := false }) } })) ∧
  (∀ (s : State) (e : Fin 2), (s.core.enc e).net = 0 → Gives (.encoderReport e) s s.core) ∧
  (∀ (s : State) (t : Nat), s.core.pw.phase.isAwake = true → s.core.keys.caretaker.done = some t → 8000 ≤ t → t < 20000 →
    Gives .combinationA s (resetLeft s.core (resetPower s.core 3#3 s.core.pw.xtal) (retainedNow s.core 3#3))) ∧
  (∀ (s : State) (t : Nat), s.core.pw.phase.isAwake = true → s.core.keys.caretaker.held = some t →
    20000 < t + s.core.prof.keyPeriod →
    (s.core.pw.nvmInhibit = false →
      Gives .combinationB s (resetLeft { s.core with nvm := { s.core.nvm with
          slotA := { s.core.nvm.slotA with marker := none }, slotB := { s.core.nvm.slotB with marker := none } } }
        (resetPower s.core 4#3 s.core.pw.xtal) (retainedNow s.core 4#3))) ∧
    (s.core.pw.nvmInhibit = true →
      Gives .combinationB s { s.core with keys := { s.core.keys with caretaker := { s.core.keys.caretaker with
        held := some (max 20000 t), both := some (max 20000 t) } } })) ∧
  (∀ (s : State) (t : Nat), s.core.pw.phase.isAwake = true → s.core.keys.provision.held = some t →
    1000 * s.core.otpc.combo.pvHold < t + s.core.prof.keyPeriod →
    Gives .provisioningHold s { s.core with
      pw := { s.core.pw with provKeys := true }
      host := { s.core.host with attnsrc := if !s.core.presence && s.core.pw.ready then s.core.host.attnsrc ||| 0x4000#16
                                            else s.core.host.attnsrc } }) ∧
  (∀ s : State, Gives .presenceEnd s { s.core with pw := { s.core.pw with provKeys := false } }) ∧
  (∀ s : State, s.core.pw.phase.isAsleep = true →
    Gives .provPin s { s.core with pw := { s.core.pw with provLow := true } } ∧
    Gives .provRelease s { s.core with pw := { s.core.pw with provLow := false } }) ∧
  (∀ s : State, s.core.pw.phase.isAsleep = false → Gives .provPin s { s.core with
    pw := { s.core.pw with provLow := true, provPin := true }
    host := { s.core.host with attnsrc := if !s.core.presence && s.core.pw.ready then s.core.host.attnsrc ||| 0x4000#16
                                          else s.core.host.attnsrc } }) ∧
  (∀ s : State, s.core.pw.phase.isAsleep = false →
    Gives .provRelease s { s.core with pw := { s.core.pw with provLow := false, provPin := false } })

/-- LINK_CHARACTER, FALSE_START and LINK_FRAME_END complete: a character the port hears joins the frame, is counted by its framing and
parity, and ends what noise had masked; a WIRE start that is not low at its middle is one NOISE; a frame that ends whole and correct
is handed on, one with a bad character counts BAD (R63, R226 to R236, R251). -/
def Obligations.LinkReceptionCompletes : Prop :=
  (∀ (s : State) (p : Port) (start : Nat) (bits : List (List Bool)), s.core.fast = true → (s.core.port p).listens = true →
    s.core.charShape p bits = true → s.core.pw.entry = none →
    ((s.core.port p).cfg.mode = 2#2 → (bits.map majority).headD false = false) →
    Leaves (.linkCharacter p start bits) s (fun c =>
      let x := readChar (s.core.port p).cfg.par (bits.map majority) (!(s.core.port p).inFrame)
      c = { s.core with lnk := c.lnk, rep := { s.core.rep with tele := c.rep.tele } } ∧
      c.lnk = modifyAt s.core.lnk p.val (fun l =>
        { l.accept start x with
          woke := if x.fe || x.pe then (l.accept start x).woke else false
          noiseMask := if x.fe || x.pe then (l.accept start x).noiseMask else false }) ∧
      ((s.core.port p).inFrame = true → (s.core.port p).op = 0#2 →
        (c.port p).rxBad = ((s.core.port p).rxBad || x.fe || x.pe || (s.core.port p).rxFull)))) ∧
  (∀ (s : State) (p : Port) (start : Nat) (bits : List (List Bool)), s.core.fast = true → (s.core.port p).listens = true →
    s.core.charShape p bits = true → (s.core.port p).cfg.mode = 2#2 → (bits.map majority).headD false = true →
    Gives (.linkCharacter p start bits) s { s.core with lnk := modifyAt s.core.lnk p.val (fun l =>
      { l with cntNoise := if l.cntNoise = 0xFFFF#16 then 0xFFFF#16 else l.cntNoise + 1#16 }) }) ∧
  (∀ (s : State) (p : Port) (start : Nat) (bits : List (List Bool)), (s.core.port p).listens = false →
    Gives (.linkCharacter p start bits) s s.core) ∧
  (∀ (s : State) (p : Port), s.core.fast = true → (s.core.port p).listens = true → (s.core.port p).cfg.mode = 2#2 →
    Gives (.falseStart p) s { s.core with lnk := modifyAt s.core.lnk p.val (fun l =>
      { l with cntNoise := if l.cntNoise = 0xFFFF#16 then 0xFFFF#16 else l.cntNoise + 1#16 }) }) ∧
  (∀ (s : State) (p : Port), s.core.fast = true → (s.core.port p).inFrame = true → (s.core.port p).op = 0#2 →
    (s.core.port p).echo = none →
    let bad := (s.core.port p).rxBad
    let bytes := (s.core.port p).rxBytes.map (fun x => x.data)
    Gives (.linkFrameEnd p) s { s.core with lnk := modifyAt s.core.lnk p.val (fun l =>
      { l with
        inFrame := false, rxBytes := [], rxLong := false, rxBad := false
        cntBad := if bad then (if l.cntBad = 0xFFFF#16 then 0xFFFF#16 else l.cntBad + 1#16) else l.cntBad
        delivered := if !bad && !l.rxLong && frameOk bytes then l.delivered ++ [{ bytes := bytes, edge := l.rxEdge }]
                     else l.delivered }) })

/-- LINK_TRANSMIT, LINK_FRAME_SENT and LINK_CONFIG_APPLY complete: the transmitter takes raw characters one after another from their
FIFO, an unacknowledged frame as it is, and an acknowledged one with the next LSEQ while fewer than four (on WIRE one) wait; a sent
acknowledged frame waits for its ACK; new settings and a new operation take effect outside a frame (R223, R227, R237, R245, R253,
R332). -/
def Obligations.LinkTransmissionCompletes : Prop :=
  (∀ (s : State) (p : Port) (launch : Nat), s.core.canSend p = true →
    (s.core.port p).op = 1#2 ∨ (s.core.port p).op = 2#2 → ∀ (b : Byte) (rest : List Byte), (s.core.port p).txFifo = b :: rest →
    Gives (.linkTransmit p launch) s { s.core with lnk := modifyAt s.core.lnk p.val (fun l =>
      { l with rawOnLine := true, lineOut := [b], txFifo := rest, launch := launch }) }) ∧
  (∀ (s : State) (p : Port), s.core.fast = true → (s.core.port p).rawOnLine = true → (s.core.port p).op = 1#2 →
    ((s.core.port p).txFifo = [] → Gives (.linkFrameSent p) s { s.core with lnk := modifyAt s.core.lnk p.val (fun l =>
      { l with rawOnLine := false, lineOut := [] }) }) ∧
    (∀ (b : Byte) (rest : List Byte), (s.core.port p).txFifo = b :: rest → (s.core.port p).txbrk = false →
      Gives (.linkFrameSent p) s { s.core with lnk := modifyAt s.core.lnk p.val (fun l =>
        { l with lineOut := [b], txFifo := rest }) })) ∧
  (∀ (s : State) (p : Port) (launch : Nat) (f : TxFrame) (rest : List TxFrame), s.core.canSend p = true → (s.core.port p).op = 0#2 →
    (s.core.port p).pendCfg = none → (s.core.port p).pendOp = none → (s.core.hport p).asleep = false →
    (s.core.port p).txq = f :: rest → f.body ≠ .probe →
    (f.body.acked = false → Gives (.linkTransmit p launch) s { s.core with lnk := modifyAt s.core.lnk p.val (fun l =>
      { l with txq := rest, onLine := some f, lineOut := f.body.frame 0#4, launch := launch }) }) ∧
    (f.body.acked = true → f.lseq = none →
      unacked (s.core.port p) (s.core.hport p) < (if (s.core.port p).cfg.mode = 2#2 then 1 else 4) →
      Leaves (.linkTransmit p launch) s (fun c =>
        c = { s.core with
          hp := modifyAt s.core.hp p.val (fun h => { h with lseqTx := (s.core.hport p).lseqTx + 1#4 })
          lnk := c.lnk } ∧
        c.port p = { s.core.port p with
          txq := rest, onLine := some { f with lseq := some (s.core.hport p).lseqTx }
          lineOut := f.body.frame (s.core.hport p).lseqTx, launch := launch }))) ∧
  (∀ (s : State) (p : Port) (f : TxFrame), s.core.fast = true → (s.core.port p).rawOnLine = false →
    (s.core.port p).echoOut = false → (s.core.port p).onLine = some f → f.body ≠ .ready →
    Gives (.linkFrameSent p) s { s.core with
      lnk := modifyAt s.core.lnk p.val (fun l => { l with onLine := none, lineOut := [] })
      hp := if f.body.acked then modifyAt s.core.hp p.val (fun h => { h with outstanding := h.outstanding ++ [f] }) else s.core.hp }) ∧
  (∀ (s : State) (p : Port) (g : LinkCfg), s.core.fast = true → (s.core.port p).inFrame = false → (s.core.port p).onLine = none →
    (s.core.port p).rawOnLine = false → (s.core.port p).echoOut = false → (s.core.port p).pendCfg = some g → (s.core.port p).pendOp = none →
    (s.core.port p).cfg.mode ≠ 0#2 → g.mode ≠ 0#2 →
    Gives (.linkConfigApply p) s { s.core with lnk := modifyAt s.core.lnk p.val (fun l => { l with cfg := g, pendCfg := none }) }) ∧
  (∀ (s : State) (p : Port) (o : BitVec 2), s.core.fast = true → (s.core.port p).inFrame = false → (s.core.port p).onLine = none →
    (s.core.port p).rawOnLine = false → (s.core.port p).echoOut = false → (s.core.port p).pendCfg = none → (s.core.port p).pendOp = some o → (s.core.port p).txq = [] →
    Gives (.linkConfigApply p) s { s.core with lnk := modifyAt s.core.lnk p.val (fun l =>
      { l with op := o, pendOp := none, echo := if o = 3#2 then some { waiting := [], started := false, ended := false } else none }) })

/-- LINK_HUNT_START, LINE_LIVE, LINE_BREAK, LINE_BREAK_CLEAR, SEVERED, ECHO_CHARACTER, ECHO_TIMEOUT, LINK_WAKE_SPURIOUS and
LINK_WAKE_MASK_END complete: READY answers a wake; a line that becomes LIVE clears its wake mask, expects LSEQ 0 and sets LINKCHG;
BREAK makes the contacts of a scanned seam's band uncertain (log 25); a line low for SEV_T is SEVERED, its wake masked and its partner lost; ECHO
sends its oldest character, or ends without one; the sixteenth spurious wake within 3 600 s masks the port (R62, R63, R236, R239,
R240, R242, R248, R249, R256, R296, Table REGS-2). -/
def Obligations.LineMonitorCompletes : Prop :=
  (∀ (s : State) (p : Port), s.core.fast = true → (s.core.port p).noHunt = true → (s.core.port p).mon = .live →
    Leaves (.linkHuntStart p) s (fun c =>
      OnlyTxq { s.core with
        lnk := modifyAt s.core.lnk p.val (fun l => { l with noHunt := false })
        hp := modifyAt s.core.hp p.val (fun h => { h with asleep := false }) } c ∧
      ∃ f ∈ (c.port p).txq, f.body = .ready)) ∧
  (∀ (s : State) (p : Port), isPowered s.core → s.core.pw.ready = true → (s.core.port p).cfg.mode ≠ 0#2 →
    (s.core.port p).mon = .absent ∨ (s.core.port p).mon = .severed →
    Leaves (.lineLive p) s (OnlyTxq { s.core with
      lnk := modifyAt s.core.lnk p.val (fun l => { l with mon := .live, sevMask := false, noHunt := false, lowDoze := false })
      hp := modifyAt s.core.hp p.val (fun h => { h with asleep := false, lseqRx := 0#4, syncD := none })
      host := { s.core.host with attnsrc := s.core.host.attnsrc ||| 0x0020#16 } })) ∧
  (∀ (s : State) (p : Port), s.core.fast = true → s.core.pw.ready = true → (s.core.port p).mon = .live →
    (s.core.port p).suppressed = false →
    let seam := s.core.pw.phase == .run && (s.core.port p).cfg.mode == 1#2 && (s.core.hport p).present
    let hit := fun (k : Contact) => seam && !k.isCand && s.core.prof.inBand (s.core.seamSegment p) k.pos
    Gives (.lineBreak p) s { s.core with
      lnk := modifyAt s.core.lnk p.val (fun l => { l with mon := .brk })
      hp := modifyAt s.core.hp p.val (fun h => { h with uncertain := h.uncertain || seam })
      trk := { s.core.trk with
        contacts := s.core.trk.contacts.map (fun k => if hit k then { k with flags := k.flags ||| 2#6 } else k) }
      host := { s.core.host with attnsrc := s.core.host.attnsrc ||| 0x0020#16 } }) ∧
  (∀ (s : State) (p : Port), s.core.fast = true ∨ s.core.pw.phase.isAsleep = true → (s.core.port p).mon = .brk →
    Leaves (.lineBreakClear p) s (fun c => c = { s.core with
      lnk := modifyAt s.core.lnk p.val (fun l =>
        { l with mon := .live, cntBreak := if l.cntBreak = 0xFFFF#16 then 0xFFFF#16 else l.cntBreak + 1#16 })
      rep := { s.core.rep with tele := c.rep.tele } })) ∧
  (∀ (s : State) (p : Port), s.core.fast = true ∨ s.core.pw.phase.isAsleep = true → (s.core.port p).mon = .brk →
    (s.core.port p).suppressed = false → p.val < s.core.hp.length →
    Leaves (.severed p) s (fun c =>
      (c.port p).mon = .severed ∧ (c.port p).sevMask = true ∧ (c.port p).cfg = (s.core.port p).cfg ∧
      (c.hport p).partner = none ∧ (c.hport p).present = false ∧
      (c.hport p).uncertain = ((s.core.hport p).uncertain || (s.core.pw.phase == .run && (s.core.port p).cfg.mode == 1#2)) ∧
      c.pw = s.core.pw ∧ c.prof = s.core.prof ∧ c.trk = s.core.trk ∧ c.acq = s.core.acq ∧ c.node = s.core.node)) ∧
  (∀ (s : State) (p : Port) (e : EchoSt) (x : RxChar) (rest : List RxChar), s.core.linkDrives p = true →
    (s.core.port p).echo = some e → e.waiting = x :: rest →
    Gives (.echoCharacter p) s { s.core with lnk := modifyAt s.core.lnk p.val (fun l =>
      { l with echoOut := true, lineOut := [x.data], echo := some { e with waiting := rest } }) }) ∧
  (∀ (s : State) (p : Port) (e : EchoSt), (s.core.port p).echo = some e → e.started = false →
    Gives (.echoTimeout p) s { s.core with lnk := modifyAt s.core.lnk p.val (fun l =>
      { l with op := 0#2, echo := none }) }) ∧
  (∀ (s : State) (p : Port), s.core.fast = true → (s.core.port p).woke = true →
    let recent := (s.core.port p).spurious.filter (fun t => decide ((s.core.pw.rtc - t).toNat ≤ 117964800))
    (recent.length < 15 → Gives (.linkWakeSpurious p) s { s.core with lnk := modifyAt s.core.lnk p.val (fun l =>
      { l with woke := false, spurious := recent ++ [s.core.pw.rtc] }) }) ∧
    (15 ≤ recent.length → Leaves (.linkWakeSpurious p) s (OnlyRecords { s.core with lnk := modifyAt s.core.lnk p.val (fun l =>
      { l with woke := false, noiseMask := true, spurious := [] }) }))) ∧
  (∀ (s : State) (p : Port), Gives (.linkWakeMaskEnd p) s { s.core with lnk := modifyAt s.core.lnk p.val (fun l =>
    { l with noiseMask := false }) })

/-- DATA, ACK, NAK, ACK_TIMEOUT and NAK_BUSY_REPEAT complete: a DATA frame that is next in order is acknowledged and its packet for
this tile acts (here an RSP, which PKTOUT presents), one that finds no room is refused BUSY; an ACK ends its frame; NAK BUSY marks
the port for a repeat; a timeout sends every unacknowledged frame again, counted, and gives the oldest up after its third repeat
(R253 to R255, R273, R347). -/
def Obligations.AcknowledgementCompletes : Prop :=
  (∀ (s : State) (p : Port) (n : BitVec 4) (b : List Byte), s.core.hears p = true → n = (s.core.hport p).lseqRx →
    s.core.relayRoom b.length = true → (s.core.hport p).miswired = false → pkIntact b = true → pkKind b = 2 →
    pkDst b = s.core.hg.addr → s.core.hg.addr ≠ 0x3FF#10 →
    Leaves (.data p n b) s (fun c =>
      c = { s.core with lnk := c.lnk, hp := c.hp, host := { s.core.host with
        outRsp := s.core.host.outRsp ++ [.foreign (pkUrg b) b] } } ∧
      (p.val < s.core.hp.length → (c.hport p).lseqRx = n + 1#4) ∧
      (p.val < s.core.lnk.length → ∃ f ∈ (c.port p).txq, f.body = .ack n))) ∧
  (∀ (s : State) (p : Port) (n : BitVec 4) (b : List Byte), s.core.hears p = true → n = (s.core.hport p).lseqRx →
    s.core.relayRoom b.length = false →
    Leaves (.data p n b) s (fun c =>
      c = { s.core with lnk := c.lnk, hp := c.hp } ∧ (c.hport p).lseqRx = n ∧
      (p.val < s.core.lnk.length → ∃ f ∈ (c.port p).txq, f.body = .nak n 0#8))) ∧
  (∀ (s : State) (p : Port) (n : BitVec 4) (f : TxFrame) (h : Hello), s.core.hears p = true → (s.core.hport p).outstanding = [f] →
    (s.core.port p).txq = [] → f.lseq = some n → f.carries = none → f.body = .hello h →
    Leaves (.ack p n) s (fun c =>
      c = { s.core with lnk := c.lnk, hp := c.hp } ∧ (c.hport p).outstanding = [] ∧ (c.hport p).present = true ∧
      (c.hport p).lseqTx = (s.core.hport p).lseqTx)) ∧
  (∀ (s : State) (p : Port) (n : BitVec 4) (f : TxFrame), s.core.hears p = true → f ∈ (s.core.hport p).outstanding →
    f.lseq = some n →
    Leaves (.nak p n 0#8) s (fun c =>
      c = { s.core with lnk := c.lnk, hp := c.hp } ∧ (c.hport p).nakWait = true ∧
      (c.hport p).outstanding = (s.core.hport p).outstanding)) ∧
  (∀ (s : State) (p : Port) (f : TxFrame) (rest : List TxFrame), s.core.fast = true → (s.core.hport p).outstanding = f :: rest →
    f.tries < 3 →
    Gives (.ackTimeout p) s { s.core with
      hp := modifyAt s.core.hp p.val (fun h => { h with outstanding := [], nakWait := false })
      lnk := modifyAt s.core.lnk p.val (putBack ((f :: rest).map (fun g => { g with tries := g.tries + 1 }))) }) ∧
  (∀ (s : State) (p : Port) (f : TxFrame) (rest : List TxFrame) (h : Hello), s.core.fast = true →
    (s.core.hport p).outstanding = f :: rest → 3 ≤ f.tries → f.carries = none → f.body = .hello h →
    Gives (.ackTimeout p) s { s.core with hp := modifyAt s.core.hp p.val (fun h => { h with outstanding := rest }) }) ∧
  (∀ (s : State) (p : Port), s.core.fast = true → (s.core.hport p).nakWait = true →
    Gives (.nakBusyRepeat p) s { s.core with
      hp := modifyAt s.core.hp p.val (fun h => { h with outstanding := [], nakWait := false })
      lnk := modifyAt s.core.lnk p.val (putBack (s.core.hport p).outstanding) })

/-- HELLO, HELLO_PERIODIC, JOIN and ADMIT complete: a HELLO is always accepted, sets the LSEQ expected and is kept, and shows whether
a TILE port is MISWIRED; HELLO goes out on every LIVE port; a sponsor notes a JOIN and passes it to the root; a granted tile adopts
its address, position and panel, and its retention record with them; a refused tile waits (R24, R70, R71, R253, R256, R257, R267). -/
def Obligations.HelloAndAdmissionComplete : Prop :=
  (∀ (s : State) (p : Port) (n : BitVec 4) (h : Hello), s.core.hears p = true → s.core.hg.confirmed = true → s.core.hg.relay = [] →
    s.core.hg.wireJoined = false → p.val < s.core.hp.length →
    Leaves (.hello p n h) s (fun c =>
      OnlyRecords { s.core with lnk := c.lnk, hp := c.hp } c ∧ (c.hport p).partner = some h ∧ (c.hport p).lseqRx = n + 1#4 ∧
      (c.hport p).present = true ∧ (c.hport p).asleep = false ∧
      (c.hport p).miswired = ((s.core.port p).cfg.mode == 1#2 && h.port.toNat != (p.val + 3) % 6) ∧
      ∀ q : Port, q ≠ p → c.hport q = s.core.hport q)) ∧
  (∀ s : State, s.core.fast = true →
    Leaves .helloPeriodic s (fun c => OnlyTxq s.core c ∧
      ∀ p : Port, p.val < s.core.lnk.length → s.core.helloPort p = true →
        ∃ f ∈ (c.port p).txq, f.body = .hello (s.core.helloBody p))) ∧
  (∀ (s : State) (p : Port) (h : Hello) (a : Addr), s.core.hears p = true → (s.core.hport p).miswired = false →
    s.core.hg.confirmed = true → s.core.hg.panelRoot = false →
    Leaves (.join p (s.core.hport p).lseqRx h a) s (fun c =>
      c.hg.joinWait = s.core.hg.joinWait.filter (fun w => w.2 != h.uid) ++ [(p, h.uid)] ∧
      c.hg.ownSeq = s.core.hg.ownSeq + 1#16 ∧ c.pw = s.core.pw ∧ c.nvm = s.core.nvm ∧ c.trk = s.core.trk ∧ c.prof = s.core.prof ∧
      c.hg.addr = s.core.hg.addr ∧ c.hg.roster = s.core.hg.roster)) ∧
  (∀ (s : State) (p : Port) (g : JoinGrant), s.core.hears p = true → (s.core.hport p).miswired = false →
    (s.core.port p).cfg.mode ≠ 2#2 → s.core.hg.confirmed = false → s.core.hg.panelRoot = false → s.core.hg.posConflict = false →
    g.uid = s.core.hg.uid →
    Leaves (.admission p (s.core.hport p).lseqRx (.grant g)) s (fun c =>
      c.hg.addr = g.addr ∧ c.hg.u = g.u ∧ c.hg.v = g.v ∧ c.hg.posValid = true ∧ c.hg.confirmed = true ∧ c.hg.panel = g.panel ∧
      c.hg.epoch = g.epoch ∧ c.hg.joinRefused = false ∧ c.ret.addr = g.addr ∧ c.ret.u = g.u ∧ c.ret.v = g.v ∧
      c.ret.panel = g.panel ∧ c.pw = s.core.pw ∧ c.nvm = s.core.nvm ∧ c.prof = s.core.prof ∧ c.trk = s.core.trk)) ∧
  (∀ (s : State) (p : Port) (r : RefuseReason), s.core.hears p = true → (s.core.hport p).miswired = false →
    s.core.hg.confirmed = false →
    Leaves (.admission p (s.core.hport p).lseqRx (.refuse s.core.hg.uid r)) s (fun c =>
      c = { s.core with lnk := c.lnk, hp := c.hp, hg := { s.core.hg with joinRefused := true } }))

/-- KA, KEEPALIVE_SEND, KEEPALIVE_LOSS, DOZE, ECHO_REQ, QUICKSET, READY, WAKE_THROUGH_TIMEOUT, DELAY_MEASURE and DELAY_PROBE complete:
what a partner says of its state is kept; a silent WIRE partner is lost; ECHO_REQ sets the ECHO operation to come; READY follows a
quickset; a wake-through is tried again and after its third attempt the partner is lost; a delay is the mean of sixteen echoes
(R249, R250, R252, R259, R274, R275, R277). -/
def Obligations.PartnerFramesComplete : Prop :=
  (∀ (s : State) (p : Port) (st : Byte) (g : Hello), s.core.hears p = true → (s.core.port p).cfg.mode = 2#2 →
    (s.core.hport p).partner = some g →
    Leaves (.ka p st) s (fun c => c = { s.core with lnk := c.lnk, hp := c.hp } ∧
      (c.hport p).partner = some { g with state := BitVec.ofNat 4 st.toNat } ∧ (c.hport p).present = true ∧
      (c.hport p).asleep = false)) ∧
  (∀ (s : State) (p : Port), s.core.fast = true → (s.core.port p).cfg.mode = 2#2 → s.core.linkUp p = true →
    (s.core.hport p).asleep = false → p.val < s.core.lnk.length →
    Leaves (.keepaliveSend p) s (fun c => OnlyTxq s.core c ∧
      ∃ f ∈ (c.port p).txq, f.body = .ka (s.core.pw.phase.code.zeroExtend 8))) ∧
  (∀ (s : State) (p : Port), s.core.fast = true → (s.core.port p).cfg.mode = 2#2 → s.core.linkUp p = true →
    (s.core.hport p).present = true → (s.core.hport p).asleep = false →
    Leaves (.keepaliveLoss p) s (fun c =>
      (c.hport p).partner = none ∧ (c.hport p).present = false ∧ (c.hport p).outstanding = [] ∧
      (c.hport p).uncertain = (s.core.hport p).uncertain ∧ (c.hport p).takeover = (s.core.hport p).takeover ∧ c.pw = s.core.pw ∧
      c.prof = s.core.prof ∧ c.trk = s.core.trk ∧ c.acq = s.core.acq)) ∧
  (∀ (s : State) (p : Port) (st : Byte), s.core.hears p = true → p.val < s.core.hp.length →
    Leaves (.doze p (s.core.hport p).lseqRx st) s (fun c => c = { s.core with lnk := c.lnk, hp := c.hp } ∧
      (c.hport p).asleep = true ∧
      (c.hport p).partner = (s.core.hport p).partner.map (fun g => { g with state := BitVec.ofNat 4 st.toNat }))) ∧
  (∀ (s : State) (p : Port), s.core.hears p = true →
    ((s.core.port p).cfg.mode = 2#2 → (s.core.port p).cfg.lead.toNat ≤ 12 ∧ (s.core.port p).cfg.tail.toNat ≤ 12) →
    p.val < s.core.lnk.length →
    Leaves (.echoReq p (s.core.hport p).lseqRx) s (fun c => c = { s.core with lnk := c.lnk, hp := c.hp } ∧
      (c.port p).pendOp = some 3#2 ∧ ∃ f ∈ (c.port p).txq, f.body = .ack (s.core.hport p).lseqRx)) ∧
  (∀ (s : State) (p : Port), s.core.hears p = true → (s.core.port p).cfg.mode = 2#2 → 12 < (s.core.port p).cfg.lead.toNat →
    p.val < s.core.lnk.length →
    Leaves (.echoReq p (s.core.hport p).lseqRx) s (fun c => c = { s.core with lnk := c.lnk, hp := c.hp } ∧
      (c.port p).pendOp = (s.core.port p).pendOp ∧ ∃ f ∈ (c.port p).txq, f.body = .nak (s.core.hport p).lseqRx 1#8)) ∧
  (∀ (s : State) (p : Port), s.core.hears p = true → p.val < s.core.lnk.length →
    Leaves (.quickset p) s (fun c => c = { s.core with lnk := c.lnk, hp := c.hp } ∧ ∃ f ∈ (c.port p).txq, f.body = .ready)) ∧
  (∀ (s : State) (p : Port), s.core.hears p = true → p.val < s.core.hp.length →
    Leaves (.ready p) s (fun c => c = { s.core with lnk := c.lnk, hp := c.hp } ∧
      (c.hport p).asleep = false ∧ (c.hport p).wakeTry = none ∧ (c.hport p).present = true)) ∧
  (∀ (s : State) (p : Port) (n : Nat), s.core.fast = true → (s.core.hport p).wakeTry = some n → n < 2 → p.val < s.core.lnk.length →
    Leaves (.wakeThroughTimeout p) s (fun c =>
      OnlyTxq { s.core with hp := modifyAt s.core.hp p.val (fun h => { h with wakeTry := some (n + 1) }) } c ∧
      ∃ f ∈ (c.port p).txq, f.body = .quickset)) ∧
  (∀ (s : State) (p : Port) (n : Nat), s.core.fast = true → (s.core.hport p).wakeTry = some n → 2 ≤ n →
    Leaves (.wakeThroughTimeout p) s (fun c =>
      (c.hport p).partner = none ∧ (c.hport p).wakeTry = none ∧ c.pw = s.core.pw ∧ c.prof = s.core.prof)) ∧
  (∀ (s : State) (p : Port), s.core.fast = true → s.core.linkUp p = true → p.val < s.core.lnk.length →
    Leaves (.delayMeasure p) s (fun c =>
      OnlyTxq { s.core with hp := modifyAt s.core.hp p.val (fun h =>
        { h with delayRun := some { left := 15, sum := 0, got := 0, launch := none } }) } c ∧
      ∃ f ∈ (c.port p).txq, f.body = .echoReq)) ∧
  (∀ (s : State) (p : Port) (edge at0 : Nat) (sum : Int), s.core.hears p = true →
    (s.core.hport p).delayRun = some { left := 0, sum := sum, got := 15, launch := some at0 } →
    Leaves (.delayProbe p edge) s (fun c => c = { s.core with lnk := c.lnk, hp := c.hp } ∧
      (c.hport p).delayRun = none ∧
      (c.hport p).delay = meanDelay (sum + ((edge : Int) - at0 - (s.core.port p).cfg.echoD - 4)) 16))

/-- SYNC and SYNC_SEND complete: a tile that does not scan takes the SYNC of its only reporting neighbour: that port is its parent,
its depth one more than the neighbour's, and root, epoch, frame count and grants are the SYNC's; a SYNC with a lower epoch from
another port is only heard; the tile sends what it has with its own depth on every TILE link (R257, R278, R279, R281, R286, R295). -/
def Obligations.SyncCompletes : Prop :=
  (∀ (s : State) (p : Port) (edge : Int) (b : SyncBody), s.core.hears p = true → s.core.scanning = false → s.core.isTile p = true →
    s.core.linkUp p = true → s.core.hg.panelRoot = false → b.depth.toNat < 14 → p.val < s.core.hp.length →
    (∀ q : Port, q ≠ p → (s.core.hport q).syncD = none) →
    Leaves (.sync p edge b) s (fun c =>
      OnlyRecords { s.core with lnk := c.lnk, hp := c.hp, hg := c.hg, acq := { s.core.acq with
        hopPend := if b.hopCur ≠ s.core.acq.hop then some (b.hopCur, b.fc + 1#32)
          else if b.changeIn = 0#8 then none else some (b.hopNext, b.fc + b.changeIn.zeroExtend 32)
        hopEdge := decide (b.hopCur ≠ s.core.acq.hop) } } c ∧
      c.hg.parent = some p ∧ c.hg.depth = b.depth + 1#4 ∧ c.hg.epoch = b.epoch ∧ c.hg.rootAddr = b.tkAddr ∧ c.hg.fc = b.fc ∧
      c.hg.everSync = true ∧ c.hg.framesNoSync = 0 ∧ c.hg.syncThis = true ∧ c.hg.syncBody = some b ∧
      c.hg.planMismatch = decide (planDigest s.core.prof ≠ b.digest) ∧
      c.hg.grants = s.core.hg.grants ++ (b.grants.filter (fun g => g.tile == s.core.hg.addr)).map (fun g => g.id) ∧
      c.hg.addr = s.core.hg.addr ∧ c.hg.roster = s.core.hg.roster ∧ c.hg.relay = s.core.hg.relay ∧ c.hg.tk = s.core.hg.tk)) ∧
  (∀ (s : State) (p : Port) (edge : Int) (b : SyncBody), s.core.hears p = true → b.epoch.toNat < s.core.hg.epoch.toNat →
    (∃ q : Port, q ≠ p ∧ (s.core.hport q).syncD ≠ none) →
    Leaves (.sync p edge b) s (fun c => c = { s.core with lnk := c.lnk, hp := c.hp } ∧
      ∀ q : Port, (c.hport q).syncD = (s.core.hport q).syncD)) ∧
  (∀ (s : State) (b : SyncBody), s.core.fast = true → s.core.hg.syncBody = some b →
    (if s.core.hg.panelRoot then s.core.acq.running = true ∨ s.core.hg.tk.timing = true
      else s.core.hg.depth ≠ 15#4 ∧ s.core.hg.syncThis = true) →
    Leaves .syncSend s (fun c => OnlyTxq s.core c ∧
      ∀ p : Port, p.val < s.core.lnk.length → s.core.isTile p = true → s.core.linkUp p = true →
        ∃ f ∈ (c.port p).txq, f.body = .sync { b with depth := s.core.hg.depth }))

/-- SYNC_LOST, TIMEKEEPER_CLAIM, ROOT_HANDOVER and XTRIM_ADJUST complete: after three frames without a valid SYNC the tile keeps its
own boundaries; the claimant and the handover take both roles with the epoch one higher; after 64 frames the summed corrections
are cleared and, where they are not 0, XTRIM moves against their sum, by an amount of one code at least that the manual leaves open, a free
value (log 3) (R269, R284, R288, R295). -/
def Obligations.SuccessionAndTrimComplete : Prop :=
  (∀ s : State, s.core.scanning = true → s.core.hg.panelRoot = false → 3 ≤ s.core.hg.framesNoSync →
    Gives .syncLost s { s.core with hg := { s.core.hg with parent := none, depth := 15#4, p := 0, phi := 0, lockedFor := 0 } }) ∧
  (∀ (s : State), s.core.scanning = true → s.core.hg.panelRoot = false →
    (∃ t ∈ s.core.hg.roster.live, t.uid = s.core.hg.uid) → 3 + 4 * s.core.succession ≤ s.core.hg.framesNoSync →
    Leaves .timekeeperClaim s (fun c => OnlyHedge { s.core with acq := c.acq } c ∧ c.acq = { s.core.acq with hopPend := c.acq.hopPend } ∧
      c.hg.panelRoot = true ∧ c.hg.epoch = s.core.hg.epoch + 1#8 ∧ c.hg.depth = 0#4 ∧ c.hg.parent = none ∧
      c.hg.rootAddr = s.core.hg.addr ∧ c.hg.framesNoSync = 0 ∧ c.ret.panelRoot = true ∧ c.hg.addr = s.core.hg.addr ∧
      c.hg.roster = s.core.hg.roster ∧ c.hg.relay = s.core.hg.relay ∧ c.lnk = s.core.lnk ∧ c.hp = s.core.hp)) ∧
  (∀ (s : State), s.core.fast = true → s.core.hg.handoverDue = true → s.core.hg.panelRoot = false →
    Leaves .rootHandover s (fun c => OnlyHedge { s.core with acq := c.acq } c ∧ c.acq = { s.core.acq with hopPend := c.acq.hopPend } ∧
      c.hg.panelRoot = true ∧ c.hg.handoverDue = false ∧ c.hg.epoch = s.core.hg.epoch + 1#8 ∧ c.hg.depth = 0#4 ∧
      c.hg.parent = none ∧ c.hg.rootAddr = s.core.hg.addr ∧ c.ret.panelRoot = true ∧ c.hg.roster = s.core.hg.roster ∧
      c.lnk = s.core.lnk ∧ c.hp = s.core.hp)) ∧
  (∀ s : State, s.core.fast = true → s.core.hg.panelRoot = false → 64 ≤ s.core.hg.corrFrames →
    let codes := max 1 (Config.xtrimAmount s.core.free s.core.hg.xtrim s.core.hg.corrSum)
    (s.core.hg.corrSum = 0 → Gives .xtrimAdjust s { s.core with hg := { s.core.hg with corrSum := 0, corrFrames := 0 } }) ∧
    (s.core.hg.corrSum ≠ 0 → Gives .xtrimAdjust s { s.core with
      free := s.core.free + 1
      hg := { s.core.hg with corrSum := 0, corrFrames := 0
                             xtrim := BitVec.ofNat 10 (if 0 < s.core.hg.corrSum then s.core.hg.xtrim.toNat - codes
                               else min 1023 (s.core.hg.xtrim.toNat + codes)) } }))

/-- SEAM_H, SEAM_D, SEAM_X and WAKE complete: outside COMPUTE a SEAM_H is kept with its announced swing and its digest compared, each
part of a SEAM_D is kept once, a SEAM_X is put together from its frames (log 18), kept for a takeover and counts for the frame before its
deadline; a WAKE that names Run
takes a tile from Quiet to Run, and one of scope PANEL whose number has been seen has no further effect (R33, R35, R129, R253,
R276, R280, R290, R293, R296). -/
def Obligations.SeamFramesAndWakeComplete : Prop :=
  (∀ (s : State) (p : Port) (b : SeamH), s.core.hears p = true → (s.core.hport p).miswired = false → s.core.isTile p = true →
    s.core.trk.phase ≠ .waitD → p.val < s.core.hp.length →
    Leaves (.seamH p (s.core.hport p).lseqRx b) s (fun c => OnlyRecords { s.core with lnk := c.lnk, hp := c.hp } c ∧
      (c.hport p).inH = some b ∧ (c.hport p).swingNext = b.swing ∧
      (c.hport p).digestBad = decide (b.digest ≠ seamDigest s.core.prof) ∧ (c.hport p).lseqRx = (s.core.hport p).lseqRx + 1#4 ∧
      ∀ q : Port, q ≠ p → c.hport q = s.core.hport q)) ∧
  (∀ (s : State) (p : Port) (b : SeamD), s.core.hears p = true → (s.core.hport p).miswired = false → s.core.isTile p = true →
    s.core.trk.phase ≠ .waitD → p.val < s.core.hp.length →
    Leaves (.seamD p (s.core.hport p).lseqRx b) s (fun c => c = { s.core with lnk := c.lnk, hp := c.hp } ∧
      (c.hport p).inD = (s.core.hport p).inD.filter (fun d => d.fc == b.fc && d.part != b.part) ++ [b] ∧
      ∀ q : Port, q ≠ p → c.hport q = s.core.hport q)) ∧
  (∀ (s : State) (p : Port) (b : SeamX), s.core.hears p = true → (s.core.hport p).miswired = false → s.core.isTile p = true →
    s.core.trk.phase ≠ .waitX → s.core.trk.phase ≠ .done → p.val < s.core.hp.length →
    let x := Core.joinX (s.core.hport p).inXPart b
    Leaves (.seamX p (s.core.hport p).lseqRx b) s (fun c => c = { s.core with lnk := c.lnk, hp := c.hp } ∧
      (x.more = true → (c.hport p).inXPart = some x ∧ (c.hport p).lastX = (s.core.hport p).lastX ∧
        (c.hport p).inX = (s.core.hport p).inX) ∧
      (x.more = false → (c.hport p).inXPart = none ∧ (c.hport p).lastX = some x ∧
        (c.hport p).inX = (if (s.core.hport p).xOver then (s.core.hport p).inX else some x)))) ∧
  (∀ (s : State) (p : Port) (n : Word), s.core.hears p = true → (s.core.hport p).miswired = false → s.core.pw.phase = .quiet →
    s.core.isBare = false → s.core.mayRun = true →
    Leaves (.wake p (s.core.hport p).lseqRx 5#8 n 0#8) s (fun c =>
      c.pw.phase = .run ∧ c.acq.joining = true ∧ c.pw.entry = none ∧ c.pw.reqState = false ∧ c.hg.wakesSeen = s.core.hg.wakesSeen ∧
      c.prof = s.core.prof ∧ c.nvm = s.core.nvm ∧ c.keys = s.core.keys ∧ c.qs = s.core.qs ∧ c.trk = s.core.trk)) ∧
  (∀ (s : State) (p : Port) (t : Byte) (n : Word), s.core.hears p = true → n ∈ s.core.hg.wakesSeen →
    Leaves (.wake p (s.core.hport p).lseqRx t n 1#8) s (fun c => c = { s.core with lnk := c.lnk, hp := c.hp }))

/-- PANEL_ROOT_ELECTION and HEDGE_ROOT_ELECTION complete: a tile that knows no lower UID and no roster becomes panel root, at
depth 0, with the first address of the provisional block 0x008 where it holds no block; a panel root that becomes hedge root
without other panels numbers its own panel 0, or keeps a number that was final, and grants itself its blocks (R262 to R265, R70). -/
def Obligations.ElectionsComplete : Prop :=
  (∀ s : State, s.core.fast = true → s.core.hg.panelRoot = false → s.core.hg.hasRoster = false →
    s.core.lowestKnown = s.core.hg.uid → s.core.alloc.ownBlocks = [] → s.core.alloc.ownSingles = [] →
    s.core.alloc.byAddr = [] → s.core.alloc.singles = [] → s.core.hg.adverts = [] → s.core.hg.roster.tiles = [] → s.core.hg.relay = [] →
    Leaves .panelRootElection s (fun c => OnlyHedge s.core c ∧ c.hp = s.core.hp ∧
      c.hg.panelRoot = true ∧ c.hg.depth = 0#4 ∧ c.hg.parent = none ∧ c.hg.lowestRoot = s.core.hg.uid ∧ c.hg.addr = 0x008#10 ∧
      c.hg.rootAddr = 0x008#10 ∧ c.hg.confirmed = true ∧ c.hg.blocks = [0x008#10] ∧ c.hg.provisional = true ∧
      c.hg.u = (if s.core.hg.confirmed then s.core.hg.u else 0#8) ∧ c.hg.v = (if s.core.hg.confirmed then s.core.hg.v else 0#8) ∧
      c.hg.roster.version = s.core.hg.roster.version + 1#16 ∧ c.hg.roster.tiles.map (fun t => (t.uid, t.addr)) =
        [(s.core.hg.uid, 0x008#10)] ∧ c.alloc.byAddr = [(0x008#10, s.core.hg.uid)] ∧
      c.ret.panelRoot = true ∧ c.ret.addr = 0x008#10)) ∧
  (∀ s : State, s.core.fast = true → s.core.hg.panelRoot = true → s.core.hg.hedgeRoot = false → s.core.hg.adverts = [] →
    s.core.hg.panelNumbers = [] →
    Leaves .hedgeRootElection s (fun c => OnlyHedge s.core c ∧
      c.hg.hedgeRoot = true ∧ c.hg.panelRoot = true ∧ c.hg.panel = (if s.core.hg.provisional then 0#5 else s.core.hg.panel) ∧ c.hg.provisional = false ∧
      c.hg.panelNumbers = [(s.core.hg.uid, c.hg.panel)] ∧ c.hg.blocks = c.alloc.ownBlocks ∧
      c.hg.singles = c.alloc.ownSingles ∧ c.ret.hedgeRoot = true ∧
      c.ret.panel = c.hg.panel)) ∧
  (∀ s : State, s.core.hg.panelRoot = true → Gives .panelRootElection s s.core) ∧
  (∀ s : State, s.core.hg.panelRoot = false → Gives .hedgeRootElection s s.core)

/-- JOIN_REQ, JOIN_GRANT, JOIN_REFUSE, JOIN_RETRY and HEDGE_ROSTER complete: the root admits a tile at the address it asks for
where that is free, notes the grant and publishes the roster; a panel of 64 live tiles refuses; the sponsor passes the answer to
the port of the JOIN; a refused tile asks again, at the position its partners imply; a roster is taken whole, by a root only where it
holds that root (R28, R258, R263, R264, R267, R270). -/
def Obligations.AdmissionAtRootCompletes : Prop :=
  (∀ (s : State) (sponsor : Addr) (h : Hello) (a : Addr) (p : BitVec 3), s.core.fast = true → s.core.hg.panelRoot = true →
    a ∈ s.core.hg.blocks.flatMap blockAddrs → s.core.addrFree h.uid a = true → s.core.hg.roster.byUid h.uid = none →
    h.posValid = true → (∀ t ∈ s.core.hg.roster.live, ¬ (t.u = h.u ∧ t.v = h.v)) → s.core.hg.roster.live.length < 64 →
    s.core.hedgeTiles < 1021 →
    Leaves (.joinReq sponsor h a p) s (fun c => OnlyHedge s.core c ∧ c.hp = s.core.hp ∧
      c.hg.roster.version = s.core.hg.roster.version + 1#16 ∧ c.hg.roster.tiles.length = s.core.hg.roster.tiles.length + 1 ∧
      (∃ t ∈ c.hg.roster.tiles, t.uid = h.uid ∧ t.addr = a ∧ t.u = h.u ∧ t.v = h.v ∧ t.state = h.state ∧ t.lost = false) ∧
      c.alloc.byAddr = s.core.alloc.byAddr.filter (fun x => x.1 != a) ++ [(a, h.uid)] ∧
      c.alloc.granted = s.core.alloc.granted ∧ c.hg.addr = s.core.hg.addr ∧ c.hg.panel = s.core.hg.panel ∧
      c.hg.blocks = s.core.hg.blocks ∧ c.ret = s.core.ret)) ∧
  (∀ (s : State) (sponsor : Addr) (h : Hello) (a : Addr) (p : BitVec 3), s.core.fast = true → s.core.hg.panelRoot = true →
    s.core.hg.roster.byUid h.uid = none → h.posValid = true → (∀ t ∈ s.core.hg.roster.live, ¬ (t.u = h.u ∧ t.v = h.v)) →
    64 ≤ s.core.hg.roster.live.length →
    Leaves (.joinReq sponsor h a p) s (fun c => OnlyHedge s.core c ∧ c.hp = s.core.hp ∧ c.nvm = s.core.nvm ∧
      c.hg.roster = s.core.hg.roster ∧ c.hg.addr = s.core.hg.addr ∧ c.ret = s.core.ret)) ∧
  (∀ (s : State) (g : JoinGrant) (p : Port), s.core.fast = true → s.core.hg.joinWait = [(p, g.uid)] → p.val < s.core.lnk.length →
    Leaves (.joinGrant g) s (fun c => OnlyTxq { s.core with hg := { s.core.hg with joinWait := [] } } c ∧
      ∃ f ∈ (c.port p).txq, f.body = .admission (.grant g))) ∧
  (∀ (s : State) (u : Uid) (r : RefuseReason) (p : Port), s.core.fast = true → s.core.hg.joinWait = [(p, u)] →
    p.val < s.core.lnk.length →
    Leaves (.joinRefuse u r) s (fun c => OnlyTxq { s.core with hg := { s.core.hg with joinWait := [] } } c ∧
      ∃ f ∈ (c.port p).txq, f.body = .admission (.refuse u r))) ∧
  (∀ (s : State) (p : Port), s.core.fast = true → s.core.hg.joinRefused = true → s.core.hg.confirmed = false →
    s.core.hg.panelRoot = false → s.core.sponsor = some p → s.core.isTile p = false → p.val < s.core.lnk.length →
    Leaves .joinRetry s (fun c => OnlyTxq { s.core with hg := c.hg } c ∧
      c.hg = { s.core.hg with posConflict := false } ∧
      ∃ f ∈ (c.port p).txq, f.body = .join (s.core.helloBody p) s.core.hg.requested)) ∧
  (∀ (s : State) (p : Port) (x : Int × Int), s.core.fast = true → s.core.hg.joinRefused = true → s.core.hg.confirmed = false →
    s.core.hg.panelRoot = false → s.core.sponsor = some p → s.core.implied p = some x →
    (∀ q y, s.core.implied q = some y → y = x) → p.val < s.core.lnk.length →
    Leaves .joinRetry s (fun c => OnlyTxq { s.core with hg := c.hg } c ∧
      c.hg = { s.core.hg with posConflict := false } ∧
      ∃ f ∈ (c.port p).txq, f.body = .join
        { s.core.helloBody p with u := BitVec.ofInt 8 x.1, v := BitVec.ofInt 8 x.2, posValid := true } s.core.hg.requested)) ∧
  (∀ (s : State) (r : Roster), s.core.hg.panelRoot = true → r.byUid s.core.hg.uid = none → Gives (.hedgeRoster r) s s.core) ∧
  (∀ (s : State) (r : Roster) (t : RosterTile), s.core.fast = true → s.core.hg.panelRoot = true → r.byUid s.core.hg.uid = some t →
    t.lost = false → t.addr = s.core.hg.addr → t.u = s.core.hg.u → t.v = s.core.hg.v → s.core.hg.relay = [] →
    Gives (.hedgeRoster r) s { s.core with hg := { s.core.hg with roster := r, hasRoster := true } }) ∧
  (∀ (s : State) (r : Roster) (t : RosterTile), s.core.fast = true → s.core.hg.confirmed = true →
    r.byUid s.core.hg.uid = some t → t.lost = false →
    Leaves (.hedgeRoster r) s (fun c => OnlyHedge s.core c ∧ c.hg.roster = r ∧ c.hg.hasRoster = true ∧ c.hg.addr = t.addr ∧
      c.hg.u = t.u ∧ c.hg.v = t.v ∧ c.hp = s.core.hp ∧
      (¬ (t.addr = s.core.hg.addr ∧ t.u = s.core.hg.u ∧ t.v = s.core.hg.v) →
        c.ret.addr = t.addr ∧ c.ret.u = t.u ∧ c.ret.v = t.v)))

/-- TILE_REPORT, FRAME_TIMING_STOP, LOSS, LOSS_DECISION and CONTACT_ID_FREE complete: the timekeeper keeps what a tile reports of its
ids; frame timing stops after three frames without a scanning tile's report; a LOSS takes the link out of the map; the decision, on
the tile of the oldest report, leaves tiles in reach live, marks the tile LOST where it is out of reach, and publishes the roster; a lost tile's ids come free (R165, R286, R287, R294). -/
def Obligations.RootBookkeepingCompletes : Prop :=
  (∀ (s : State) (src : Addr) (r : TileReport), s.core.fast = true → s.core.hg.panelRoot = true → s.core.pw.phase = .run →
    (∀ t ∈ s.core.hg.roster.tiles, t.addr = src → t.lost = false) →
    Leaves (.tileReport src r) s (fun c => c = { s.core with hg := { s.core.hg with tk := c.hg.tk } } ∧
      c.hg.tk.tiles = s.core.hg.tk.tiles.filter (fun t => t.addr != src) ++
        [{ addr := src, inUse := r.inUse, wanted := r.idsReq.toNat, fc := r.fc }] ∧
      c.hg.tk.freed = s.core.hg.tk.freed ++ (bitIds (r.returned &&& s.core.idsOf src)).map (fun i => { id := i, fc := r.fc }) ∧
      c.hg.tk.framesQuiet = 0 ∧ c.hg.tk.timing = s.core.hg.tk.timing ∧
      c.hg.tk.adopted = (if s.core.hg.tk.adopted = none then some (r.frameTicks, r.digest) else s.core.hg.tk.adopted))) ∧
  (∀ s : State, s.core.hg.tk.timing = true → 3 ≤ s.core.hg.tk.framesQuiet →
    Gives .frameTimingStop s { s.core with hg := { s.core.hg with tk := { s.core.hg.tk with timing := false } } }) ∧
  (∀ (s : State) (src : Addr) (r : LossReport), s.core.fast = true → s.core.hg.panelRoot = true → r.port.toNat < 6 →
    let p := r.port.toNat
    Gives (.loss src r) s { s.core with hg := { s.core.hg with
      lossReports := s.core.hg.lossReports ++ [r]
      farLinks := s.core.hg.farLinks.filter (fun x => x.1 != src || x.2.1 != r.port)
      roster := { s.core.hg.roster with tiles := s.core.hg.roster.tiles.map (fun t =>
        if t.addr = src then { t with mask := t.mask &&& ~~~(1#6 <<< p) }
        else if t.uid = r.uid then { t with mask := t.mask &&& ~~~(1#6 <<< ((p + 3) % 6)) } else t) } } }) ∧
  (∀ s : State, s.core.hg.lossReports = [] → Gives .lossDecision s s.core) ∧
  (∀ (s : State) (u : Uid), s.core.fast = true → s.core.hg.panelRoot = true → s.core.hg.lossReports.head?.map (fun r => r.uid) = some u →
    (s.core.hg.roster.byUid u).isSome = true →
    (∀ t ∈ s.core.hg.roster.tiles, t.lost = false → t.addr ∈ s.core.reachable ∨ t.addr = s.core.hg.addr) →
    Leaves .lossDecision s (fun c => OnlyHedge s.core c ∧ c.hp = s.core.hp ∧
      c.hg.lossReports = s.core.hg.lossReports.filter (fun r => r.uid != u) ∧
      c.hg.roster = { version := s.core.hg.roster.version + 1#16, tiles := s.core.hg.roster.tiles } ∧
      c.hg.lost = s.core.hg.lost ∧ c.hg.tk = s.core.hg.tk)) ∧
  (∀ (s : State) (t : RosterTile), s.core.fast = true → s.core.hg.panelRoot = true →
    s.core.hg.lossReports.head?.map (fun r => r.uid) = some t.uid →
    t ∈ s.core.hg.roster.tiles → t.addr ∉ s.core.reachable → t.addr ≠ s.core.hg.addr → t.lost = false →
    Leaves .lossDecision s (fun c => OnlyHedge s.core c ∧ c.hp = s.core.hp ∧
      ∀ x ∈ c.hg.roster.tiles, x.uid = t.uid → x.lost = true)) ∧
  (∀ (s : State) (a : Addr), s.core.fast = true →
    Gives (.contactIdFree a) s { s.core with hg := { s.core.hg with lost := s.core.hg.lost.filter (fun l => l.1 != a) } })

/-- PANEL_ADVERT, PANEL_ADVERT_PERIODIC, PANEL_REQUEST_RETRY, PANEL_GRANT and HEDGE_ROUTES complete: a panel root keeps the adverts
of the others and yields the hedge root's role to a lower UID; a tile keeps what its own root's advert says of the panel, and a root forgets
one not heard for 30 s (log 18); its own advert takes one packet number; a grant gives it number, blocks and single addresses, a refusal only
stands; a tile takes the first 64 routes it is sent (R263 to R266, R272). -/
def Obligations.PanelsComplete : Prop :=
  (∀ (s : State) (a : PanelAdvert), s.core.fast = true → s.core.hg.panelRoot = true → a.rootUid ≠ s.core.hg.uid →
    s.core.hg.hedgeRoot = false ∨ a.rootUid.toNat < s.core.hg.uid.toNat →
    Leaves (.panelAdvert a) s (fun c => OnlyHedge s.core c ∧ c.hp = s.core.hp ∧
      c.hg.adverts = s.core.hg.adverts.filter (fun x => x.rootUid != a.rootUid) ++ [a] ∧ c.hg.hedgeRoot = false ∧
      c.hg.panelRoot = true ∧ c.hg.panel = s.core.hg.panel ∧ c.hg.blocks = s.core.hg.blocks ∧ c.hg.roster = s.core.hg.roster ∧
      (s.core.hg.hedgeRoot = true → c.ret.hedgeRoot = false))) ∧
  (∀ (s : State) (a : PanelAdvert),
    (if s.core.hg.panelRoot then a.rootUid = s.core.hg.uid else a.rootUid ≠ s.core.hg.lowestRoot ∨ s.core.hg.confirmed = false) →
    Gives (.panelAdvert a) s s.core) ∧
  (∀ (s : State) (a : PanelAdvert), s.core.fast = true → s.core.hg.panelRoot = false → s.core.hg.confirmed = true →
    a.rootUid = s.core.hg.lowestRoot →
    Gives (.panelAdvert a) s { s.core with
      hg := { s.core.hg with panel := a.panel, blocks := a.blocks, singles := a.singles, provisional := a.provisional }
      ret := { s.core.ret with addr := s.core.hg.addr, u := s.core.hg.u, v := s.core.hg.v, panel := a.panel, panelRoot := false
                               hedgeRoot := s.core.hg.hedgeRoot } }) ∧
  (∀ s : State, s.core.fast = true → s.core.hg.panelRoot = true →
    let old := fun (u : Uid) => s.core.hg.advertAt.any (fun x => x.1 == u && decide (983040 ≤ (s.core.pw.rtc - x.2).toNat))
    Leaves .panelAdvertPeriodic s (fun c => OnlyHedge s.core c ∧
      c.hg.adverts = s.core.hg.adverts.filter (fun a => !old a.rootUid) ∧
      c.hg.panelNumbers = s.core.hg.panelNumbers.filter (fun x => !old x.1))) ∧
  (∀ s : State, s.core.fast = true → s.core.hg.panelRoot = true →
    (∀ x ∈ s.core.hg.advertAt, (s.core.pw.rtc - x.2).toNat < 983040) →
    Leaves .panelAdvertPeriodic s (fun c => OnlyTxq { s.core with hg := c.hg } c ∧
      c.hg = { s.core.hg with ownSeq := s.core.hg.ownSeq + 1#16, ownFresh := c.hg.ownFresh, seen := c.hg.seen })) ∧
  (∀ s : State, s.core.fast = true → s.core.hg.panelRoot = true → s.core.hg.panelRefused = true →
    Leaves .panelRequestRetry s (fun c => OnlyTxq { s.core with hg := c.hg } c ∧
      c.hg = { s.core.hg with ownSeq := s.core.hg.ownSeq + 1#16, ownFresh := c.hg.ownFresh, seen := c.hg.seen })) ∧
  (∀ (s : State) (g : PanelGrant), s.core.fast = true → s.core.hg.panelRoot = true → g.refused = true →
    Gives (.panelGrant g) s { s.core with hg := { s.core.hg with panelRefused := true } }) ∧
  (∀ (s : State) (g : PanelGrant), s.core.fast = true → s.core.hg.panelRoot = true → g.refused = false →
    (∀ t ∈ s.core.hg.roster.tiles, t.addr ∈ g.blocks.flatMap blockAddrs ++ g.singles) →
    (∀ t ∈ s.core.hg.roster.tiles, t.uid = s.core.hg.uid → t.addr = s.core.hg.addr) →
    Leaves (.panelGrant g) s (fun c => OnlyHedge s.core c ∧ c.hp = s.core.hp ∧
      c.hg.panel = g.panel ∧ c.hg.blocks = g.blocks ∧ c.hg.singles = g.singles ∧ c.hg.provisional = false ∧
      c.hg.panelRefused = false ∧ c.hg.hedgeRootUid = some s.core.hedgeRootNow.1 ∧ c.hg.rootAddr = s.core.hg.addr ∧
      c.hg.addr = s.core.hg.addr ∧ c.hg.roster = s.core.hg.roster ∧
      c.alloc = { s.core.alloc with ownBlocks := g.blocks, ownSingles := g.singles } ∧
      c.ret = { s.core.ret with addr := s.core.hg.addr, u := s.core.hg.u, v := s.core.hg.v, panel := g.panel
                                panelRoot := true, hedgeRoot := s.core.hg.hedgeRoot })) ∧
  (∀ (s : State) (l : List RouteEntry), s.core.fast = true → s.core.hg.panelRoot = false → s.core.hg.relay = [] →
    Gives (.hedgeRoutes l) s { s.core with hg := { s.core.hg with routes := l.take 64 } })

/-- RELAY_WAIT_EXPIRY, RPT_PACKET and RPT_SEND complete: a packet that has waited ten seconds is dropped, and a dropped RPT tells its
tenant; the records of a packet take their places with the frame of their making; a queue away from its home tile sends its leading
records in one packet, which stay until it is acknowledged (R21, R23, R271, R273, R367). -/
def Obligations.ReportsOnTheirWayComplete : Prop :=
  (∀ (s : State) (i : Nat) (x : RelayItem), s.core.fast = true → s.core.hg.relay[i]? = some x →
    x.held ≠ none ∨ (pkKind x.bytes ≠ 1 ∧ pkKind x.bytes ≠ 3) →
    Gives (.relayWaitExpiry i) s { s.core with hg := { s.core.hg with relay := s.core.hg.relay.eraseIdx i } }) ∧
  (∀ (s : State) (i : Nat) (x : RelayItem), s.core.fast = true → s.core.hg.relay[i]? = some x → x.held = none →
    pkKind x.bytes = 3 →
    Leaves (.relayWaitExpiry i) s (fun c =>
      OnlyRecords { s.core with hg := { s.core.hg with relay := s.core.hg.relay.eraseIdx i } } c ∧
      (s.core.isDefined (pkTenant x.bytes) = true → (s.core.queue (pkTenant x.bytes)).recs.length < 64 →
        (pkTenant x.bytes).val < s.core.qs.length →
        ∃ e, (c.queue (pkTenant x.bytes)).recs = (s.core.queue (pkTenant x.bytes)).recs ++ [e] ∧ byteAt e.bytes 1 = 0x14#8 ∧
          byteAt e.bytes 2 = byteAt (pkPayload x.bytes) 6))) ∧
  (∀ (s : State) (b : List Byte) (r : List Byte), s.core.fast = true → pkIntact b = true → pkKind b = 3 ∨ pkKind b = 4 →
    byteAt (pkPayload b) 6 = 1#8 → chunks 16 ((pkPayload b).drop 8) = [r] → s.core.isDefined (pkTenant b) = true →
    (s.core.queue (pkTenant b)).recs.length < 64 → (pkTenant b).val < s.core.qs.length →
    Leaves (.rptPacket b) s (fun c => OnlyRecords s.core c ∧
      ∃ e, (c.queue (pkTenant b)).recs = (s.core.queue (pkTenant b)).recs ++ [e] ∧ e.bytes = r ∧ e.fixed = false ∧
        e.origin = BitVec.ofNat 10 (leAt (pkPayload b) 0 2) ∧
        e.fc.toNat % 65536 = leAt r 14 2 % 65536)) ∧
  (∀ (s : State) (t : Tenant) (p : Port), s.core.fast = true → s.core.isDefined t = true → s.core.isHome t = false →
    leadRun s.core.hg.addr (s.core.queue t).items ≠ [] →
    (∀ i ∈ leadRun s.core.hg.addr (s.core.queue t).items, i.isFixed = false) →
    s.core.nextHop (s.core.tenantRec t).home = some p → s.core.tenantKey t = none → p.val < s.core.lnk.length →
    t.val < s.core.qs.length →
    let items := leadRun s.core.hg.addr (s.core.queue t).items
    let evt := items.all (fun i => i.isEvent s.core.hg.addr)
    Leaves (.rptSend t) s (fun c =>
      OnlyTxq { s.core with ten := c.ten, qs := c.qs } c ∧
      (c.queue t).recs.map (fun e => e.bytes) = (s.core.queue t).recs.map (fun e => e.bytes) ∧
      (∀ u : Tenant, u ≠ t → c.queue u = s.core.queue u ∧ c.tenantSt u = s.core.tenantSt u) ∧
      (∃ f ∈ (c.port p).txq, f.carries = some (t, recCount items, evt, hasFull items)) ∧
      (t.val < s.core.ten.length →
        (c.tenantSt t).rptSeq = (if evt then (s.core.tenantSt t).rptSeq else (s.core.tenantSt t).rptSeq + 1#16) ∧
        (c.tenantSt t).evtSeq = (if evt then (s.core.tenantSt t).evtSeq + 1#16 else (s.core.tenantSt t).evtSeq))))

/-- TRANSACTION_START, TRANSACTION_END and OVERCLK complete: CS# captures HOSTSTAT and opens the transaction, one that falls after
fewer than 40 ticks high is not served and sets FRAME; at its rise the counted edges tell FRAME, OVERCLK, SHORT or a whole
transaction, and FRAME discards the packet being assembled; an edge beyond the last word is OVERCLK, and what it reads is 0 (R303, R304, R318,
R320, Table HOST-7). -/
def Obligations.TransactionsComplete : Prop :=
  (∀ (s : State) (n : Nat) (h : Word), s.core.pw.phase.isAwake = true → s.core.host.txn = none → s.core.host.csHeld = false →
    s.core.pw.entry = none → 40 ≤ n →
    Gives (.transactionStart n h) s { s.core with host := { s.core.host with
      miso := s.core.hoststat
      txn := some { captured := s.core.hoststat, header := h, words := 0, served := true, ready := s.core.pw.ready
                    inSkip := false, outDone := false } } }) ∧
  (∀ (s : State) (n : Nat) (h : Word), s.core.pw.phase.isAwake = true → s.core.host.txn = none → s.core.host.csHeld = false →
    s.core.pw.entry = none → s.core.pw.ready = true → n < 40 →
    Leaves (.transactionStart n h) s (fun c =>
      c = { s.core with host := { s.core.host with
        txn := c.host.txn, miso := s.core.hoststat, flags := s.core.host.flags ||| 0x0010#16, attnsrc := c.host.attnsrc } } ∧
      ∃ t, c.host.txn = some t ∧ t.served = false ∧ t.captured = s.core.hoststat)) ∧
  (∀ (s : State) (t : Txn) (n : Nat), s.core.host.txn = some t → t.served = true → t.ready = true → s.core.pw.ready = true →
    let words := 16 * (hdrCount t.header + 1)
    let frameErr : Bool := decide (0 < n) && (decide (n < 16) || (decide (n ≤ words) && decide (n % 16 ≠ 0)))
    let flag : Word := if n = 0 then 0#16 else if frameErr then 0x0010#16 else if words < n then 0x0020#16
      else if n < words then 0x0040#16 else 0#16
    Leaves (.transactionEnd n) s (fun c =>
      c = { s.core with host := { s.core.host with
        txn := none, csHeld := false, pktin := if frameErr then [] else s.core.host.pktin
        flags := s.core.host.flags ||| flag, attnsrc := c.host.attnsrc } } ∧
      c.host.attnsrc = (if flag = 0#16 ∨ s.core.host.flags &&& flag ≠ 0#16 then s.core.host.attnsrc
        else s.core.host.attnsrc ||| 0x0008#16))) ∧
  (∀ s : State, s.core.host.txn = none → Gives (.transactionEnd 0) s { s.core with host := { s.core.host with csHeld := false } }) ∧
  (∀ (s : State) (t : Txn), s.core.host.txn = some t → t.served = true → t.ready = true →
    hdrRead t.header = true ∨ hdrCount t.header ≤ t.words → s.core.pw.ready = true →
    Leaves .overclk s (fun c => c = { s.core with host := { s.core.host with
      txn := some { t with words := hdrCount t.header }, miso := 0#16
      flags := s.core.host.flags ||| 0x0020#16, attnsrc := c.host.attnsrc } }))

/-- REGISTER_WRITE, HOSTSTAT_WRITE, ATTNSRC_WRITE, REQ, FLOOR and HOSTCTL_RESET complete: a plain register takes the word, a read-only
or absent one ignores it; 1s clear sticky flags and attention bits; an allowed PWRCTL sets FLOOR and, in Run, keeps a lower REQ
until the frame ends, which REQ 0 takes back, another sets REGERR with no other effect; 0xC3A5 resets the tile, any other word does not (R52, R53, R58, R69, R305,
R308, R325, R328 to R330, Table REGS-1). -/
def Obligations.RegisterWritesComplete : Prop :=
  (∀ (s : State) (w : Word), writesAt s.core 0x03 →
    Gives (.registerWrite 0x03#6 w) s { wrote s.core with host := { (wrote s.core).host with attnen := w &&& 0x7FFF#16 } }) ∧
  (∀ (s : State) (w : Word), writesAt s.core 0x3E →
    Gives (.registerWrite 0x3E#6 w) s { wrote s.core with host := { (wrote s.core).host with scratch0 := w } }) ∧
  (∀ (s : State) (w : Word), writesAt s.core 0x3F →
    Gives (.registerWrite 0x3F#6 w) s { wrote s.core with host := { (wrote s.core).host with scratch1 := w } }) ∧
  (∀ (s : State) (a : BitVec 6) (w : Word), writesAt s.core a.toNat →
    a.toNat ∉ [0x01, 0x02, 0x03, 0x04, 0x07, 0x08, 0x16, 0x17, 0x19, 0x1D, 0x1E, 0x1F, 0x20, 0x21, 0x22, 0x23, 0x24, 0x25, 0x3E, 0x3F] →
    Gives (.registerWrite a w) s (wrote s.core)) ∧
  (∀ (s : State) (w : Word), writesAt s.core 0x01 →
    Gives (.hoststatWrite w) s { wrote s.core with host := { (wrote s.core).host with
      flags := s.core.host.flags &&& ~~~(w &&& 0x03F0#16) } }) ∧
  (∀ (s : State) (w : Word), writesAt s.core 0x02 →
    Gives (.attnsrcWrite w) s { wrote s.core with host := { (wrote s.core).host with attnsrc := s.core.host.attnsrc &&& ~~~w } }) ∧
  (∀ (s : State) (w : Word), writesAt s.core 0x04 → w.toNat % 16 = 1 ∨ 5 < w.toNat % 16 ∨ w.toNat / 16 % 16 < 2 ∨ 5 < w.toNat / 16 % 16 →
    Gives (.req w) s ((wrote s.core).attn 11) ∧ Gives (.floor w) s ((wrote s.core).attn 11)) ∧
  (∀ (s : State) (w : Word), writesAt s.core 0x04 →
    s.core.pw.phase = .bare ∨ s.core.pw.phase = .run ∧ s.core.pw.entry = none → w.toNat % 16 = 0 → 2 ≤ w.toNat / 16 % 16 →
    w.toNat / 16 % 16 ≤ 5 →
    let c := { wrote s.core with pw := { s.core.pw with floor := BitVec.ofNat 4 (w.toNat / 16 % 16), req := 0#4 } }
    Gives (.floor w) s c ∧ Gives (.req w) s c) ∧
  (∀ (s : State) (w : Word), writesAt s.core 0x04 → s.core.pw.phase = .run → 2 ≤ w.toNat % 16 → w.toNat % 16 ≤ 4 →
    2 ≤ w.toNat / 16 % 16 → w.toNat / 16 % 16 ≤ 5 →
    let c := { wrote s.core with pw := { s.core.pw with
      floor := BitVec.ofNat 4 (w.toNat / 16 % 16), req := BitVec.ofNat 4 (w.toNat % 16), entry := none, retry := none
      idleDue := false } }
    Gives (.req w) s c ∧ Gives (.floor w) s c) ∧
  (∀ (s : State), writesAt s.core 0x07 →
    Gives (.hostctlReset 0xC3A5#16) s (resetLeft s.core (resetPower s.core 6#3 s.core.pw.xtal) (retainedNow s.core 6#3))) ∧
  (∀ (s : State) (w : Word), writesAt s.core 0x07 → w ≠ 0xC3A5#16 → Gives (.hostctlReset w) s (wrote s.core)) ∧
  (∀ (s : State) (a : BitVec 6) (w : Word), s.core.host.txn = none → Gives (.registerWrite a w) s s.core)

/-- PKTIN_WRITE, PKTOUT_READ and PKTOUTLVL_READ complete: a word joins the packet being assembled, a bad first word or length sets
INERR and discards it; the head packet is read word by word and leaves PKTOUT with its last word, in the same transaction no other
follows, and an empty PKTOUT gives 0 and OUTUNDER; a packet of records takes them out of their queue; PKTOUTLVL seals the head
packet (R310 to R315, R370, Table HOST-5). -/
def Obligations.PacketPortCompletes : Prop :=
  (∀ (s : State) (w : Word), writesAt s.core 0x08 → (∀ t, s.core.host.txn = some t → t.inSkip = false) →
    let b := s.core.host.pktin ++ [BitVec.ofNat 8 (w.toNat / 256), BitVec.ofNat 8 w.toNat]
    b.length ≤ 2096 →
    (pktinBad b = false → ¬ (12 ≤ b.length ∧ pkTotal b ≤ b.length) →
      Gives (.pktinWrite w) s { wrote s.core with host := { (wrote s.core).host with pktin := b } }) ∧
    (pktinBad b = true → s.core.pw.ready = true →
      Leaves (.pktinWrite w) s (fun c => c = { s.core with host := c.host } ∧ c.host.pktin = [] ∧
        c.host.flags = s.core.host.flags ||| 0x0100#16 ∧ c.host.outHead = s.core.host.outHead ∧ c.host.outRsp = s.core.host.outRsp ∧
        ∀ t, c.host.txn = some t → t.inSkip = true))) ∧
  (∀ (s : State) (w : Word), writesAt s.core 0x08 → (∃ t, s.core.host.txn = some t ∧ t.inSkip = true) →
    Gives (.pktinWrite w) s (wrote s.core)) ∧
  (∀ (s : State) (i : Nat) (h : OutHead), readsAt s.core 0x0A i → (∀ t, s.core.host.txn = some t → t.outDone = false) →
    s.core.pw.ready = true → s.core.host.outHead = some h →
    let v : Word := BitVec.ofNat 16 ((byteAt h.bytes (2 * h.pos)).toNat * 256 + (byteAt h.bytes (2 * h.pos + 1)).toNat)
    Gives (.pktoutRead false) s { s.core with host := { s.core.host with miso := v } } ∧
    (2 * (h.pos + 1) < h.bytes.length → Gives (.pktoutRead true) s { gave s.core i v with
      host := { (gave s.core i v).host with outHead := some { h with pos := h.pos + 1 } } }) ∧
    (h.bytes.length ≤ 2 * (h.pos + 1) → h.source = .rsp → Leaves (.pktoutRead true) s (fun c =>
      c = { s.core with host := { s.core.host with miso := v, outHead := none, txn := c.host.txn } } ∧
      ∃ t, c.host.txn = some t ∧ t.outDone = true ∧ t.words = i + 1)) ∧
    (∀ (t : Tenant) (evt : Bool) (n : Nat), h.bytes.length ≤ 2 * (h.pos + 1) → h.source = .records t evt n false →
      Leaves (.pktoutRead true) s (fun c => OnlyRecords { s.core with host := { s.core.host with miso := v, outHead := none
                                                                                                 txn := c.host.txn } } c ∧
        (c.queue t).recs = (s.core.queue t).recs.drop n ∧ ∀ u : Tenant, u ≠ t → c.queue u = s.core.queue u))) ∧
  (∀ (s : State) (i : Nat), readsAt s.core 0x0A i → s.core.pw.ready = true → s.core.host.outHead = none → s.core.headPick = none →
    Leaves (.pktoutRead true) s (fun c => c = { s.core with host := c.host } ∧ c.host.miso = 0#16 ∧
      c.host.flags = s.core.host.flags ||| 0x0200#16 ∧ c.host.outRsp = s.core.host.outRsp ∧ c.host.pktin = s.core.host.pktin)) ∧
  (∀ (s : State) (i : Nat) (b : Bool), readsAt s.core 0x0B i → s.core.pw.ready = true → s.core.host.outHead.isSome = true →
    Gives (.pktoutlvlRead b) s (if b then gave s.core i s.core.pktoutLvl
      else { s.core with host := { s.core.host with miso := s.core.pktoutLvl } })) ∧
  (∀ (s : State) (i j : Nat) (u : Bool) (b : List Byte), readsAt s.core 0x0B i → s.core.pw.ready = true →
    s.core.host.outHead = none → s.core.headPick = some (.rsp j) → s.core.host.outRsp[j]? = some (.foreign u b) →
    Leaves (.pktoutlvlRead false) s (fun c => c = { s.core with host := c.host } ∧
      c.host.outHead = some { source := .rsp, bytes := b, pos := 0 } ∧ c.host.outRsp = s.core.host.outRsp.eraseIdx j ∧
      c.host.miso = c.pktoutLvl))

/-- WAKESRC_READ, ENCSTAT_READ, HTFC0_READ, SARMIN_READ, RTC0_READ, LINKSTAT_READ and LINKDATA_READ complete: a completed read clears
what it returned, one cut off clears nothing; the first register of a group takes the snapshot its others are read from; LINKSTAT
then LINKDATA clear the flags LINKSTAT returned, and LINKDATA takes the oldest raw character (R245, R246, R306, R307, R326, R332,
R335). -/
def Obligations.ReadsWithEffectsComplete : Prop :=
  (∀ (s : State) (i : Nat), readsAt s.core 0x06 i → s.core.pw.ready = true →
    Gives (.wakesrcRead true) s { gave s.core i s.core.pw.wakesrc with pw := { s.core.pw with wakesrc := 0#16 } } ∧
    Gives (.wakesrcRead false) s { s.core with host := { s.core.host with miso := s.core.pw.wakesrc } }) ∧
  (∀ (s : State) (i : Nat), readsAt s.core 0x36 i → s.core.pw.ready = true → s.core.keys.encs.length = 2 →
    let encs := s.core.keys.encs.map (fun e => { e with errStat := false })
    Gives (.encstatRead true) s { gave s.core i s.core.encstat with keys := { s.core.keys with encs := encs } } ∧
    Gives (.encstatRead false) s { s.core with host := { s.core.host with miso := s.core.encstat } }) ∧
  (∀ (s : State) (i : Nat) (b : Bool), readsAt s.core 0x12 i → s.core.pw.ready = true →
    let d := { s.core with host := { s.core.host with
      snapHt := some { fc1 := s.core.htfc true, sub0 := s.core.htsub0, sub1 := s.core.htsub1 } } }
    Gives (.htfc0Read b) s (if b then gave d i (s.core.htfc false)
      else { d with host := { d.host with miso := s.core.htfc false } })) ∧
  (∀ (s : State) (i : Nat) (b : Bool), readsAt s.core 0x26 i → s.core.pw.ready = true →
    let v := s.core.sarView
    let d := { s.core with host := { s.core.host with
      snapSar := some { max := word v.1.mx.toNat, cnt := word v.1.count, sum0 := word v.1.sum.toNat, sum1 := Core.sarsum1 v } } }
    Gives (.sarminRead b) s (if b then gave d i (word v.1.mn.toNat)
      else { d with host := { d.host with miso := word v.1.mn.toNat } })) ∧
  (∀ (s : State) (i : Nat) (b : Bool), readsAt s.core 0x3C i → s.core.pw.ready = true →
    let d := { s.core with host := { s.core.host with snapRtc := some (word (s.core.pw.rtc.toNat / 65536)) } }
    Gives (.rtc0Read b) s (if b then gave d i (word s.core.pw.rtc.toNat)
      else { d with host := { d.host with miso := word s.core.pw.rtc.toNat } })) ∧
  (∀ (s : State) (i : Nat), readsAt s.core 0x18 i → s.core.pw.ready = true →
    let p := s.core.host.linksel
    let snap : SnapLink :=
      { mon := s.core.linkmon p, div := (s.core.port p).cfg.div.zeroExtend 16, dly := (s.core.hport p).delay }
    Gives (.linkstatRead true) s { gave s.core i (s.core.port p).stat with
      host := { (gave s.core i (s.core.port p).stat).host with snapLink := some snap, clrArm := some (s.core.port p).flags } } ∧
    Gives (.linkstatRead false) s { s.core with host := { s.core.host with
      miso := (s.core.port p).stat, snapLink := some snap, clrArm := none } }) ∧
  (∀ (s : State) (i : Nat), readsAt s.core 0x19 i → s.core.pw.ready = true →
    let p := s.core.host.linksel
    let v := (s.core.port p).dataWord
    Gives (.linkdataRead true) s { gave s.core i v with
      lnk := modifyAt s.core.lnk p.val (fun l =>
        { l with rxFifo := if l.op = 1#2 ∨ l.op = 2#2 then l.rxFifo.drop 1 else l.rxFifo
                 flags := l.flags &&& ~~~(s.core.host.clrArm.getD 0#4) })
      host := { (gave s.core i v).host with clrArm := none } } ∧
    Gives (.linkdataRead false) s { s.core with host := { s.core.host with miso := v } })

/-- LINKDATA_WRITE, LINKSEL_WRITE, OP, TXBRK, FLUSH, USEQ_SETTINGS_WRITE, START, CLOSE and SARURG complete: in RAW and LOOP a written
character joins the transmit FIFO; LINKSEL takes a port up to 5; LINKCTL writes OP and TXBRK and flushes the FIFOs; a settings word
in range is in force at once while no run is in progress; START begins a run and CLOSE ends every user window; SARURG queues a
conversion, up to four (R196, R197, R245, R246, R325, R326, R332 to R334, Table REGS-6). -/
def Obligations.LinkAndConverterWritesComplete : Prop :=
  (∀ (s : State) (w : Word), writesAt s.core 0x19 → (s.core.port s.core.host.linksel).isRaw = true →
    (s.core.port s.core.host.linksel).txFifo.length < 16 →
    Leaves (.linkdataWrite w) s (fun c => c = { wrote s.core with lnk := c.lnk } ∧
      (s.core.host.linksel.val < s.core.lnk.length → c.port s.core.host.linksel = { s.core.port s.core.host.linksel with
        txFifo := (s.core.port s.core.host.linksel).txFifo ++ [BitVec.ofNat 8 w.toNat] }))) ∧
  (∀ (s : State) (w : Word), writesAt s.core 0x19 → (s.core.port s.core.host.linksel).isRaw = false →
    Gives (.linkdataWrite w) s (wrote s.core)) ∧
  (∀ (s : State) (w : Word) (p : Port), writesAt s.core 0x16 → w.toNat % 8 = p.val →
    Gives (.linkselWrite w) s { wrote s.core with host := { (wrote s.core).host with linksel := p, clrArm := none, snapLink := none } }) ∧
  (∀ (s : State) (w : Word), writesAt s.core 0x16 → 5 < w.toNat % 8 → Gives (.linkselWrite w) s ((wrote s.core).attn 11)) ∧
  (∀ (s : State) (w : Word), writesAt s.core 0x17 →
    let c := { wrote s.core with lnk := modifyAt s.core.lnk s.core.host.linksel.val (fun l =>
      ((if w.getLsbD 3 then l.flush else l).writeOp (BitVec.ofNat 2 w.toNat)).writeTxbrk (w.getLsbD 2)) }
    Gives (.op w) s c ∧ Gives (.txbrk w) s c ∧ Gives (.flush w) s c) ∧
  (∀ (s : State) (w : Word), writesAt s.core 0x1F → s.core.sar.userBegun = false →
    let u := { s.core.sar.useqReg with period := w.toNat }
    Gives (.useqSettingsWrite 0x1F#6 w) s { wrote s.core with sar := { s.core.sar with
      useqReg := u, useq := u, userNext := if u.len = 0 then none else s.core.sar.userNext } }) ∧
  (∀ (s : State) (k : Fin 4) (w : Word), writesAt s.core (0x20 + k.val) → (∀ e ∈ nibbles w, e ≤ 13) → s.core.sar.userBegun = true →
    let u := { s.core.sar.useqReg with
      entries := s.core.sar.useqReg.entries.take (4 * k.val) ++ nibbles w ++ s.core.sar.useqReg.entries.drop (4 * k.val + 4) }
    Gives (.useqSettingsWrite (BitVec.ofNat 6 (0x20 + k.val)) w) s { wrote s.core with sar := { s.core.sar with useqReg := u } }) ∧
  (∀ (s : State) (k : Fin 4) (w : Word), writesAt s.core (0x20 + k.val) → (∃ e ∈ nibbles w, 13 < e) →
    Gives (.useqSettingsWrite (BitVec.ofNat 6 (0x20 + k.val)) w) s ((wrote s.core).attn 11)) ∧
  (∀ (s : State) (w : Word), writesAt s.core 0x1E → w.toNat % 32 ≤ 16 → 1 ≤ w.toNat % 32 → w.toNat / 128 % 16 ≤ 12 →
    w.getLsbD 11 = false → w.getLsbD 6 = true → s.core.sar.useqReg.period = 0 → s.core.sar.userNext = none →
    s.core.sar.userBegun = false → s.core.sar.cur = none → s.core.sar.urgent = [] → s.core.sar.sysQ = [] →
    let u := { s.core.sar.useqReg with len := w.toNat % 32, abort := w.getLsbD 5, accLog := w.toNat / 128 % 16 }
    Gives (.start w) s { wrote s.core with sar := { s.core.sar with
      useqReg := u, useq := u, userNext := some 0, userBegun := true, cur := some (.user 0 s.core.pw.refrdy) } }) ∧
  (∀ (s : State) (w : Word), writesAt s.core 0x1E → w.toNat % 32 ≤ 16 → w.toNat / 128 % 16 ≤ 12 →
    w.getLsbD 11 = true → w.getLsbD 6 = false → s.core.sar.userNext = none → s.core.sar.userBegun = false →
    let u := { s.core.sar.useqReg with len := w.toNat % 32, abort := w.getLsbD 5, accLog := w.toNat / 128 % 16 }
    Gives (.close w) s ({ wrote s.core with sar := { s.core.sar with
      useqReg := u, useq := u, usrView := s.core.sar.usr, usr := List.replicate 14 Tracker.code } }.attn 6)) ∧
  (∀ (s : State) (w : Word), writesAt s.core 0x24 → w.toNat % 16 ≤ 13 → 4 ≤ s.core.sar.urgent.length →
    Gives (.sarurg w) s { wrote s.core with sar := { s.core.sar with urgFull := true } }) ∧
  (∀ (s : State) (w : Word), writesAt s.core 0x24 → w.toNat % 16 ≤ 13 → s.core.sar.urgent = [] → s.core.sar.cur = none →
    s.core.pw.refrdy = true →
    Gives (.sarurg w) s { wrote s.core with sar := { s.core.sar with
      cur := some .urgent
      urgent := [{ who := .host, chan := w.toNat % 16, count := w.toNat / 16 % 16 + 1, left := w.toNat / 16 % 16 + 1
                   win := Tracker.code, tag := 0 }] } }) ∧
  (∀ (s : State) (w : Word), writesAt s.core 0x24 → 13 < w.toNat % 16 → Gives (.sarurg w) s ((wrote s.core).attn 11))

/-- GET_INFO, GET_STATE, GET_FRESH, PROFILE_READ, PROFILE_GEN, TENANT_GET, TELEMETRY, WEAR_MAP, LINK_COUNTS and FAULTS complete where
the checks pass: the answer of Table PKT-5 is presented in PKTOUT and nothing else changes (R347, R353, R357, R361). -/
def Obligations.EngineReadsComplete : Prop :=
  ∀ (s : State) (x : CmdCtx) (p : List Byte),
    (Passes s.core 0x00#8 x p false → Gives (.getInfo x p) s (answered s.core x 0x00#8 0x00#8 false
      ([0x16#8, 0xB6#8, Config.stepping] ++ bvLe 6 s.core.hg.uid ++ le 2 (if s.core.hg.confirmed then s.core.hg.addr.toNat else 0) ++
        (if s.core.hg.posValid then [s.core.hg.u, s.core.hg.v] else [0#8, 0#8]) ++ bvLe 1 s.core.pw.phase.code ++ bvLe 4 s.core.gen ++
        le 1 (bit s.core.otpc.custodian.isSome + 2 * bit s.core.otpc.provOpen + 4 * bit s.core.presence +
          8 * bit s.core.nvm.hedgeKey.isSome)))) ∧
    (Passes s.core 0x01#8 x p false → Gives (.getState x p) s (answered s.core x 0x01#8 0x00#8 false
      (bvLe 2 s.core.pwrstat ++ bvLe 2 s.core.pwrctl ++ bvLe 4 s.core.pw.rtc))) ∧
    (Passes s.core 0x04#8 x p false → Gives (.getFresh x p) s (answered s.core x 0x04#8 0x00#8 false
      (bvLe 4 (s.core.tenantSt x.tenant).h ++ bvLe 4 (s.core.tenantSt x.tenant).txCtr))) ∧
    (Passes s.core 0x10#8 x p false →
      (byteAt p 0 = 1#8 → Gives (.profileRead x p) s (answered s.core x 0x10#8 0x00#8 true s.core.nvm.slotA.body)) ∧
      (byteAt p 0 = 2#8 → Gives (.profileRead x p) s (answered s.core x 0x10#8 0x00#8 true s.core.nvm.slotB.body)) ∧
      (byteAt p 0 = 3#8 → Gives (.profileRead x p) s (answered s.core x 0x10#8 0x00#8 true s.core.working.image)) ∧
      (byteAt p 0 = 0#8 → Gives (.profileRead x p) s (answered s.core x 0x10#8 0x00#8 true
        (if s.core.slot = none then Profile.factory.image else s.core.image)))) ∧
    (Passes s.core 0x13#8 x p false → Leaves (.profileGen x p) s (fun c => ∃ act marks, c = answered s.core x 0x13#8 0x00#8 false
        (bvLe 4 s.core.nvm.slotA.gen ++ bvLe 4 s.core.nvm.slotB.gen ++ le 1 act ++ le 1 marks) ∧
      act = (match s.core.slot with | some .a => 0 | some .b => 1 | none => 255) ∧
      marks = bit s.core.nvm.slotA.marked + 2 * bit s.core.nvm.slotB.marked)) ∧
    (Passes s.core 0x23#8 x p false → ∀ t : Tenant, byteAt p 0 = BitVec.ofNat 8 t.val →
      Gives (.tenantGet x p) s (answered s.core x 0x23#8 0x00#8 false
        ([(s.core.tenantRec t).rights] ++ bvLe 2 (s.core.tenantRec t).home ++ le 1 (bit (s.core.isEnabled t)) ++
          le 1 (bit (s.core.tenantKey t).isSome) ++ bvLe 4 (s.core.tenantSt t).h ++ le 1 (Core.heldRecords (s.core.queue t))))) ∧
    (Passes s.core 0x54#8 x p false → Gives (.telemetry x p) s (answered s.core x 0x54#8 0x00#8 true
      ((s.core.nvm.ring.drop (leAt p 0 2)).take (min (leAt p 2 2) 1024)).flatten)) ∧
    (Passes s.core 0x55#8 x p false → Leaves (.wearMap x p) s (fun c => ∃ cells, c = answered s.core x 0x55#8 0x00#8 true
      (bvLe 2 s.core.hg.addr ++ le 1 ((s.core.prof.nSns + 1) / 2) ++ le 1 ((s.core.prof.nDrv + 1) / 2) ++
        bvLe 4 (s.core.nvm.wearFirst.getD 0#32) ++ bvLe 4 s.core.nvm.wearLast ++ List.replicate 4 0#8 ++ cells) ∧
      cells.length = 6 * (((s.core.prof.nDrv + 1) / 2) * ((s.core.prof.nSns + 1) / 2)))) ∧
    (Passes s.core 0x56#8 x p false → ∀ q : Port, byteAt p 0 = BitVec.ofNat 8 q.val →
      Gives (.linkCounts x p) s (answered s.core x 0x56#8 0x00#8 false
        (bvLe 2 (s.core.port q).cntFe ++ bvLe 2 (s.core.port q).cntPe ++ bvLe 2 (s.core.port q).cntNoise ++
          bvLe 2 (s.core.port q).cntBreak ++ bvLe 2 (s.core.port q).cntBad ++ le 1 (s.core.port q).mon.code ++
          bvLe 2 (s.core.hport q).delay))) ∧
    (Passes s.core 0x57#8 x p false → Gives (.faults x p) s (answered s.core x 0x57#8 0x00#8 false
      (le 1 s.core.nvm.faults.length ++ s.core.nvm.faults.flatMap FaultEntry.bytes)))

/-- KEY_STATUS, COMBO_READ, DISCOVER, ROSTER, REPAIR_STATUS and the reads of ROUTES, LINK_CONFIG, LADDERS and ENCODERS complete where the
checks pass: the answer is presented in PKTOUT and nothing else changes; REPAIR_STATUS gives the factory and the field map, and no entry
that the map does not hold (R272, R347, R357, R360, R373, R374, Table KEY-7, Table KEY-11). -/
def Obligations.TileReadsComplete : Prop :=
  ∀ (s : State) (x : CmdCtx) (p : List Byte),
    (Passes s.core 0x62#8 x p false → Gives (.keyStatus x p) s (answered s.core x 0x62#8 0x00#8 false
      (s.core.keys.ladders.flatMap (fun l => l.keys.flatMap (fun k => le 1 k.st.code ++ le 2 (min k.hold 65535)))))) ∧
    (Passes s.core 0x63#8 x p false →
      let o := s.core.otpc.combo
      Gives (.comboRead x p) s (answered s.core x 0x63#8 0x00#8 false
        (le 1 o.ctLadder.val ++ bvLe 1 o.ctMode ++ le 1 o.ctKeyA.val ++ le 1 o.ctKeyB.val ++ le 1 o.pvLadder.val ++ bvLe 1 o.pvMode ++
          le 1 o.pvKeyA.val ++ le 1 o.pvKeyB.val ++ le 2 o.pvHold))) ∧
    (Passes s.core 0x73#8 x p false → Gives (.discover x p) s (answered s.core x 0x73#8 0x00#8 false
      (Core.ports.flatMap (fun q => le 1 (s.core.port q).mon.code ++
        bvLe 6 (((s.core.hport q).partner.map (fun k => k.uid)).getD 0#48) ++
        bvLe 2 (((s.core.hport q).partner.map (fun k => k.addr)).getD 0#10) ++ bvLe 2 (s.core.hport q).delay)))) ∧
    (Passes s.core 0x74#8 x p false → Gives (.roster x p) s (answered s.core x 0x74#8 0x00#8 false s.core.hg.roster.bytes)) ∧
    (Passes s.core 0x80#8 x p false → Gives (.repairStatus x p) s (answered s.core x 0x80#8 0x00#8 false
      (bvLe 1 s.core.rep.grade ++ le 1 s.core.rprView.stat.toNat ++ bvLe 2 s.core.rprView.spare ++
        le 1 (s.core.rep.factory ++ s.core.nvm.fieldMap ++ s.core.nvm.mapPending).length ++
        (s.core.rep.factory ++ s.core.nvm.fieldMap ++ s.core.nvm.mapPending).flatMap RepairEntry.bytes))) ∧
    (Passes s.core 0x70#8 x [] false → Gives (.routes x []) s (answered s.core x 0x70#8 0x00#8 false
      ((s.core.hg.routes.filter (fun r => r.isStatic)).flatMap RouteEntry.bytes))) ∧
    (Passes s.core 0x71#8 x [] false → Gives (.linkConfig x []) s (answered s.core x 0x71#8 0x00#8 false
      ((s.core.nvm.linkRec.getD (List.replicate 6 LinkCfg.factory)).flatMap LinkCfg.bytes))) ∧
    (Passes s.core 0x60#8 x [] false → Gives (.ladders x []) s (answered s.core x 0x60#8 0x00#8 false
      (packFields ladderSpec (ladderWire (s.core.prof.record 8))))) ∧
    (Passes s.core 0x61#8 x [] false → Gives (.encoders x []) s (answered s.core x 0x61#8 0x00#8 false
      (packFields encSpec (s.core.prof.record 9))))

/-- SET_STATE, RESET, PROFILE_WRITE, PROFILE_COMMIT, PROV_KEY, TENANT_DEFINE, TENANT_REMOVE and HEDGE_KEY complete where the checks
pass: the effect of Table PKT-5 and its answer; a commit and a key programming answer later, and a record that cannot be written stays as it
was, with NVM_FAIL (R52, R53, R79, R80, R329, R342, R351, R357, R363 to R366, R397, R444, R445). -/
def Obligations.EngineWritesComplete : Prop :=
  ∀ (s : State) (x : CmdCtx) (p : List Byte),
    (Passes s.core 0x02#8 x p false → s.core.pw.phase = .bare → byteAt p 0 = 0#8 →
      let a := answered s.core x 0x02#8 0x00#8 false []
      Gives (.setState x p) s { a with pw := { s.core.pw with
        req := 0#4, floor := if byteAt p 1 = 0xFF#8 then s.core.pw.floor else BitVec.ofNat 4 (byteAt p 1).toNat } }) ∧
    (Passes s.core 0x03#8 x p false →
      let a := answered s.core x 0x03#8 0x00#8 false []
      Gives (.reset x p) s { a with pw := { s.core.pw with resetDue := true } }) ∧
    (Passes s.core 0x11#8 x p false → 12 ≤ p.length →
      let bad := decide (leAt p (p.length - 4) 4 ≠ (crc32 (p.take (p.length - 4))).toNat)
      let a := answered s.core x 0x11#8 0x00#8 false (le 3 p.length ++ le 1 (bit bad))
      Gives (.profileWrite x p) s { a with pk := { s.core.pk with staged := some p } }) ∧
    (∀ image, Passes s.core 0x12#8 x p false → s.core.nvmOk = true → s.core.commitImage (byteAt p 0) = some image →
      Leaves (.profileCommit x p) s (fun c =>
        c = { s.core with nvm := { s.core.nvm with slotA := c.nvm.slotA, slotB := c.nvm.slotB, job := c.nvm.job } } ∧
        ∃ t, t = s.core.commitSlot ∧
          c.nvm.job = some { slot := t, image := image, gen := s.core.gen + 1#32, stage := .erase 0, reply := some x } ∧
          (t = .a → c.nvm.slotA = Slot.erased ∧ c.nvm.slotB = s.core.nvm.slotB) ∧
          (t = .b → c.nvm.slotB = Slot.erased ∧ c.nvm.slotA = s.core.nvm.slotA))) ∧
    (∀ image, Passes s.core 0x12#8 x p false → s.core.nvmOk = false → s.core.commitImage (byteAt p 0) = some image →
      Gives (.profileCommit x p) s (answered s.core x 0x12#8 0x09#8 false [])) ∧
    (Passes s.core 0x20#8 x p false → Saves (.provKey x p) s .tenant
      (fun d => { d with
        keyProg := some { key := p, ctx := x }
        nvm := { d.nvm with tenants := modifyAt s.core.nvm.tenants 0 (fun r => { r with s := 4096#32, txS := 4096#32 }) } })
      (fun d => answered d x 0x20#8 0x09#8 false [])) ∧
    (∀ t : Tenant, Passes s.core 0x21#8 x p false → p.length = 5 → byteAt p 0 = BitVec.ofNat 8 t.val →
      Saves (.tenantDefine x p) s .tenant
        (fun d => { answered d x 0x21#8 0x00#8 false [] with
          nvm := { d.nvm with tenants := modifyAt s.core.nvm.tenants t.val (fun r =>
            { r with isDefined := true, enabled := (byteAt p 4).getLsbD 0, rights := byteAt p 1
                     home := BitVec.ofNat 10 (leAt p 2 2) }) } })
        (fun d => answered d x 0x21#8 0x09#8 false [])) ∧
    (∀ (t : Tenant) (k : List Byte), Passes s.core 0x21#8 x p false → p.length = 29 →
      byteAt p 0 = BitVec.ofNat 8 t.val → s.core.unwrap (p.drop 5) = some k →
      Saves (.tenantDefine x p) s .tenant
        (fun d => { answered d x 0x21#8 0x00#8 false [] with
          nvm := { d.nvm with tenants := modifyAt s.core.nvm.tenants t.val (fun r =>
            { r with isDefined := true, enabled := (byteAt p 4).getLsbD 0, rights := byteAt p 1
                     home := BitVec.ofNat 10 (leAt p 2 2), key := some k, s := 4096#32, txS := 4096#32 }) }
          ten := modifyAt s.core.ten t.val (fun r => { r with h := 0#32, marks := 0#32, txCtr := 0#32 }) })
        (fun d => answered d x 0x21#8 0x09#8 false [])) ∧
    (∀ t : Tenant, Passes s.core 0x22#8 x p false → byteAt p 0 = BitVec.ofNat 8 t.val →
      (s.core.nvmOk = false → Gives (.tenantRemove x p) s (answered s.core x 0x22#8 0x09#8 false [])) ∧
      Leaves (.tenantRemove x p) s (fun c =>
        ((s.core.writeCopy .tenant).2 = false → ∃ d, OnlyNvm s.core d ∧ c = answered d x 0x22#8 0x09#8 false []) ∧
        ((s.core.writeCopy .tenant).2 = true →
          c.isDefined t = false ∧ (c.tenantRec t).key = none ∧ (c.tenantRec t).s = (s.core.tenantRec t).s ∧ c.queue t = Queue.empty ∧
          (∀ u : Tenant, u ≠ t → c.tenantRec u = s.core.tenantRec u) ∧
          (∀ k ∈ c.trk.contacts, ∀ e ∈ k.engaged, e.tenant ≠ t) ∧ c.trk.contacts.length = s.core.trk.contacts.length ∧
          (s.core.prof.zones.length = 1024 →
            ∀ i < 64, entryUsed 0x30 (c.entryAt 0x30 i) = true → entryOwner 0x30 (c.entryAt 0x30 i) ≠ t.val) ∧
          (∃ n, c.host.outRsp = s.core.host.outRsp ++ rspItems x 0x22#8 0x00#8 false n) ∧
          (s.core.nvm.mapPending = [] → s.core.nvm.faultsSaved = none → c.nvm.sparesUsed = s.core.nvm.sparesUsed →
            c.rep = s.core.rep ∧ ∀ u : Tenant, u ≠ t → c.queue u = s.core.queue u)) ∧
        c.pw = s.core.pw ∧ c.ten = s.core.ten ∧ c.hg = s.core.hg ∧ c.acq = s.core.acq ∧ c.node = s.core.node ∧ c.sar = s.core.sar ∧
        c.keys = s.core.keys)) ∧
    (Passes s.core 0x24#8 x p false → Saves (.hedgeKey x p) s .tenant
      (fun d => { answered d x 0x24#8 0x00#8 false [] with nvm := { d.nvm with hedgeKey := s.core.unwrap p } })
      (fun d => answered d x 0x24#8 0x09#8 false []))

/-- ROUTES, LINK_CONFIG, RAW_LINK, RENUMBER, BG_TASK and the writes of LADDERS and ENCODERS complete where the checks pass: static
routes stand first in the table; LEAD and TAIL reach a port at once and the rest waits; RAW_LINK sends and drains the raw FIFOs and
clears the flags it returned; RENUMBER moves a tile in the roster; a task becomes due; the working configuration changes (R221 to
R223, R245, R246, R268, R272, R332, R354, R360, R395). -/
def Obligations.TileWritesComplete : Prop :=
  ∀ (s : State) (x : CmdCtx) (p : List Byte),
    (Passes s.core 0x70#8 x p false → p ≠ [] → s.core.hg.relay = [] →
      Leaves (.routes x p) s (fun c => OnlyHedge s.core c ∧ c.hp = s.core.hp ∧ c.nvm = s.core.nvm ∧ c.hg.roster = s.core.hg.roster ∧
        c.host.outRsp = s.core.host.outRsp ++ rspItems x 0x70#8 0x00#8 false [] ∧
        ∃ made, (∀ r ∈ made, r.isStatic = false) ∧
          c.hg.routes = ((routesOf p).map (fun r => { r with isStatic := true }) ++ made).take 64)) ∧
    (Passes s.core 0x71#8 x p false → p ≠ [] →
      let g := (chunks 6 p).map linkCfgOf
      (s.core.nvmOk = false → Gives (.linkConfig x p) s (answered s.core x 0x71#8 0x09#8 false [])) ∧
      Leaves (.linkConfig x p) s (fun c => ∃ d, OnlyNvm s.core d ∧
        ((s.core.writeCopy .link).2 = false → c = answered d x 0x71#8 0x09#8 false []) ∧
        ((s.core.writeCopy .link).2 = true →
          c = { answered d x 0x71#8 0x00#8 false [] with nvm := { d.nvm with linkRec := some g }, lnk := c.lnk } ∧
          ∀ q : Port, q.val < s.core.lnk.length →
            let n := g.getD q.val LinkCfg.factory
            let cfg := { (s.core.port q).cfg with lead := n.lead, tail := n.tail }
            c.port q = { s.core.port q with cfg := cfg, pendCfg := if n = cfg then none else some n }))) ∧
    (∀ (q : Port) (l : LinkPort), Passes s.core 0x72#8 x p false → byteAt p 0 = BitVec.ofNat 8 q.val → byteAt p 1 = 1#8 →
      l = s.core.port q → q.val < s.core.lnk.length → l.op = 1#2 → l.txFifo.length + (p.drop 4).length ≤ 16 →
      let fed := { l with pendOp := none, txbrk := byteAt p 2 == 1#8, txFifo := l.txFifo ++ p.drop 4 }
      let a := answered s.core x 0x72#8 0x00#8 false
        (bvLe 2 fed.stat ++ le 1 l.rxFifo.length ++ l.rxFifo.flatMap (fun r => bvLe 2 r.word))
      Leaves (.rawLink x p) s (fun c => c = { a with lnk := c.lnk } ∧
        c.port q = { fed with rxFifo := [], flags := 0#4 } ∧ ∀ r : Port, r ≠ q → c.port r = s.core.port r)) ∧
    (Passes s.core 0x75#8 x p false → BitVec.ofNat 10 (leAt p 0 2) ≠ s.core.hg.addr →
      Leaves (.renumber x p) s (fun c => OnlyHedge s.core c ∧ c.hp = s.core.hp ∧
        c.hg.roster.version = s.core.hg.roster.version + 1#16 ∧ c.hg.addr = s.core.hg.addr ∧ c.hg.u = s.core.hg.u ∧
        c.hg.v = s.core.hg.v ∧ c.ret = s.core.ret ∧
        c.hg.roster.tiles = s.core.hg.roster.tiles.map (fun t =>
          if t.addr = BitVec.ofNat 10 (leAt p 0 2) ∧ t.lost = false then { t with u := byteAt p 2, v := byteAt p 3 } else t))) ∧
    (Passes s.core 0x75#8 x p false → BitVec.ofNat 10 (leAt p 0 2) = s.core.hg.addr →
      Leaves (.renumber x p) s (fun c => OnlyHedge s.core c ∧ c.hp = s.core.hp ∧ c.hg.addr = s.core.hg.addr ∧ c.hg.u = byteAt p 2 ∧
        c.hg.v = byteAt p 3 ∧ c.ret.u = byteAt p 2 ∧ c.ret.v = byteAt p 3)) ∧
    (Passes s.core 0x84#8 x p false →
      s.core.rep.grade ≠ 6#3 ∨ s.core.pw.phase ≠ .quiet ∨ s.core.pw.entry ≠ none ∨
        (s.core.rep.testDue = false ∧ byteAt p 0 ≠ 2#8) →
      let a := answered s.core x 0x84#8 0x00#8 false []
      Gives (.bgTask x p) s { a with rep := { s.core.rep with
        bgDue := s.core.rep.bgDue ||| (1#5 <<< ((byteAt p 0).toNat - 1))
        testDue := s.core.rep.testDue || decide (byteAt p 0 = 2#8) } }) ∧
    (Passes s.core 0x84#8 x p false → byteAt p 0 = 2#8 → s.core.rep.grade = 6#3 → s.core.pw.phase = .quiet → s.core.pw.entry = none →
      s.core.slot.isSome = true → s.core.rep.bistf = false → s.core.hg.joinRefused = false →
      Leaves (.bgTask x p) s (fun c => c.pw.phase = .run ∧ c.rep.testDue = true ∧
        c.host.outRsp = s.core.host.outRsp ++ rspItems x 0x84#8 0x00#8 false [])) ∧
    (Passes s.core 0x60#8 x p false → p ≠ [] →
      Gives (.ladders x p) s
        (withProfile (answered s.core x 0x60#8 0x00#8 false []) (s.core.prof.withRecord 8 (s.core.fieldWrite 0x60 8 p)))) ∧
    (Passes s.core 0x61#8 x p false → p ≠ [] →
      Gives (.encoders x p) s
        (withProfile (answered s.core x 0x61#8 0x00#8 false []) (s.core.prof.withRecord 9 (s.core.fieldWrite 0x61 9 p))))

/-- The frame-deferred field sets complete where the checks pass: FRAME_PLAN, NODE_FIELDS, TRACK_FIELDS, SELF_FIELDS, GESTURE_FIELDS,
WAKE_CONFIG, ZONES and TEMPLATES are kept for their boundary, and their turn changes the working configuration and answers; so are
SENSE_LINES, COMP_CODES and SWING, whose turn changes lines, codes and swing (R19, R20, R85, R136, R146, R349, R354, R359, R360). -/
def Obligations.DeferredSettingsComplete : Prop :=
  ∀ (s : State) (x : CmdCtx) (p : List Byte), p ≠ [] →
    (Passes s.core 0x32#8 x p true → Defers (.gestureFields x p) s (fun c =>
      c = withProfile (answered s.core x 0x32#8 0x00#8 false []) (s.core.prof.withRecord 6 (s.core.fieldWrite 0x32 6 p)))) ∧
    (Passes s.core 0x33#8 x p true → Defers (.wakeConfig x p) s (fun c =>
      c = withProfile (answered s.core x 0x33#8 0x00#8 false []) (s.core.prof.withRecord 7 (s.core.fieldWrite 0x33 7 p)))) ∧
    (Passes s.core 0x46#8 x p true → Defers (.trackFields x p) s (fun c =>
      c = withProfile (answered s.core x 0x46#8 0x00#8 false []) (s.core.prof.withRecord 3 (s.core.fieldWrite 0x46 3 p)))) ∧
    (Passes s.core 0x48#8 x p true → Defers (.selfFields x p) s (fun c =>
      c = withProfile (answered s.core x 0x48#8 0x00#8 false []) (s.core.prof.withRecord 12 (s.core.fieldWrite 0x48 12 p)))) ∧
    (Passes s.core 0x45#8 x p true → Defers (.nodeFields x p) s (fun c =>
      c.prof = s.core.prof.withRecord 2 (s.core.fieldWrite 0x45 2 p) ∧ c.node.lsbF = (List.range 24).map c.prof.lsbF ∧
      c.node.lsbC = (List.range 24).map c.prof.lsbC ∧
      c.node.nodes = s.core.node.nodes.map (fun n => { n with win := Core.fitWindow c.prof.medW n.win }) ∧
      c = { answered s.core x 0x45#8 0x00#8 false [] with
        prof := c.prof, node := { s.core.node with lsbF := c.node.lsbF, lsbC := c.node.lsbC, nodes := c.node.nodes } })) ∧
    (Passes s.core 0x40#8 x p true → s.core.pw.phase = .quiet → Defers (.framePlan x p) s (fun c =>
      c.prof = s.core.prof.withRecord 1 (s.core.fieldWrite 0x40 1 p) ∧ c.acq.highNow = c.prof.swingHigh ∧
      (c.prof.nDrv ≠ s.core.prof.nDrv ∨ c.prof.nSns ≠ s.core.prof.nSns → c.node.valid = false) ∧
      c = { answered s.core x 0x40#8 0x00#8 false [] with prof := c.prof, node := c.node, acq := c.acq
                                                          pw := { s.core.pw with pump := c.pw.pump } })) ∧
    (Passes s.core 0x30#8 x p true → Defers (.zones x p) s (fun c =>
      c = { answered s.core x 0x30#8 0x00#8 false [] with prof := { s.core.prof with zones := c.prof.zones } } ∧
      c.prof.zones = patch s.core.prof.zones (16 * (byteAt p 0).toNat)
        ((entriesOf 0x30 p).flatMap zoneKept))) ∧
    (Passes s.core 0x31#8 x p true → Defers (.templates x p) s (fun c =>
      c = { answered s.core x 0x31#8 0x00#8 false [] with prof := { s.core.prof with templates := c.prof.templates } } ∧
      c.prof.templates = patch s.core.prof.templates (5 * (byteAt p 0).toNat) ((entriesOf 0x31 p).flatMap templateKept))) ∧
    (Passes s.core 0x41#8 x p true → Defers (.senseLines x p) s (fun c =>
      (∃ d, c.host.outRsp = s.core.host.outRsp ++ rspItems x 0x41#8 0x00#8 false (le 1 (bit d))) ∧
      c = { s.core with host := c.host, prof := { s.core.prof with sense := c.prof.sense }, node := c.node } ∧
      (s.core.node.pend = List.replicate 24 none → c.node.selfs = s.core.node.selfs ∧ c.node.valid = s.core.node.valid))) ∧
    (∀ k : Nat, k < 24 → Passes s.core 0x42#8 x p true → byteAt p 0 = BitVec.ofNat 8 k → s.core.pw.phase = .quiet →
      s.core.node.pend = List.replicate 24 none → s.core.node.codes.length = 24 → (s.core.lineCodes k).length = 32 →
      Defers (.compCodes x p) s (fun c =>
        c = { answered s.core x 0x42#8 0x00#8 false [0#8] with node := c.node } ∧
        c.lineCodes k = (s.core.lineCodes k).zipIdx.map (fun v =>
          if s.core.deadDrive v.2 = true then v.1 else (byteAt p (2 + v.2)).toNat) ∧ ∀ j, j ≠ k → c.lineCodes j = s.core.lineCodes j)) ∧
    (Passes s.core 0x47#8 x p true → s.core.pw.phase = .quiet → Defers (.swing x p) s (fun c =>
      c.acq.highNow = (byteAt p 0 == 1#8) ∧ c.acq.swingPend = none ∧ c.host.outRsp = s.core.host.outRsp ++
        rspItems x 0x47#8 0x00#8 false [0#8] ∧
      c = { s.core with host := c.host, acq := c.acq, node := c.node, pw := { s.core.pw with pump := c.pw.pump } }))

/-- The frame-deferred requests complete where the checks pass: COMP_SEEK, SELF_TEST and FINGERPRINT wait for a boundary without
contact; BASELINE_CAPTURE names its nodes and the self lines they lie on; NODE_MAP, NOISE and SAMPLE_VIEW answer; the other kinds of
SELF_TEST answer with the entries of what they found; COPPICE_SET puts a repair in force and COPPICE_CLEAR takes it back, but not where the
repair record cannot be written (R80, R137, R142, R152, R349, R373, R374, R376, R383, R388, R393). -/
def Obligations.DeferredRequestsComplete : Prop :=
  ∀ (s : State) (x : CmdCtx) (p : List Byte),
    (Passes s.core 0x43#8 x p true → Defers (.compSeek x p) s (fun c =>
      c = { s.core with node := { s.core.node with seek := c.node.seek } } ∧ ∃ k, c.node.seek = some k ∧ k.ctx = x ∧ k.frame = none)) ∧
    (Passes s.core 0x44#8 x p true → Defers (.baselineCapture x p) s (fun c =>
      c = { answered s.core x 0x44#8 0x00#8 false [] with node := { s.core.node with nodes := c.node.nodes, selfs := c.node.selfs } } ∧
      c.node.selfs = s.core.node.selfs.zipIdx.map (fun n =>
        if (n.2 < 24 ∧ (leAt p 0 3).testBit n.2 ∧ leAt p 3 4 ≠ 0) ∨ (24 ≤ n.2 ∧ (leAt p 3 4).testBit (n.2 - 24) ∧ leAt p 0 3 ≠ 0)
        then { n.1 with recap := true } else n.1) ∧
      c.node.nodes = s.core.node.nodes.zipIdx.map (fun n =>
        if (leAt p 0 3).testBit (nodeLine n.2) ∧ (leAt p 3 4).testBit (nodeDrive n.2) ∧
            (nodeLane n.2 = s.core.colour ∨ (byteAt p 7).getLsbD (nodeLane n.2) = true) then { n.1 with recap := true }
        else n.1))) ∧
    (Passes s.core 0x50#8 x p true → Defers (.nodeMap x p) s (fun c => ∃ b, c = answered s.core x 0x50#8 0x00#8 true b ∧
      (byteAt p 0 = 1#8 → b = (s.core.mapNodesOf (byteAt p 1).toNat).flatMap (fun i =>
        leInt 2 (s.core.node.nodes.getD i NodeSt.fresh).delta)))) ∧
    (Passes s.core 0x51#8 x p true → Defers (.noise x p) s (fun c => ∃ b, c = answered s.core x 0x51#8 0x00#8 false b)) ∧
    (Passes s.core 0x52#8 x p true → Defers (.sampleView x p) s (fun c => ∃ b, c = answered s.core x 0x52#8 0x00#8 false b)) ∧
    (Passes s.core 0x53#8 x [0#8] true → Defers (.selfTest x [0#8]) s (fun c =>
      c = { s.core with rep := { s.core.rep with testDue := true, testCtx := some x } })) ∧
    (Passes s.core 0x53#8 x [1#8] true → Defers (.selfTest x [1#8]) s (fun c => ∃ es : List FaultEntry,
      c.host.outRsp = s.core.host.outRsp ++ rspItems x 0x53#8 0x00#8 false (le 1 (bit (!es.isEmpty)) ++ es.flatMap FaultEntry.bytes) ∧
      (∀ e ∈ es, e ∈ c.nvm.faults ∧ e.kind = 0#8) ∧
      (Config.marchFault s.core.free = none → es = [] ∧
        c = { answered s.core x 0x53#8 0x00#8 false [0#8] with free := s.core.free + 1 }))) ∧
    (∀ k : Byte, k = 2#8 ∨ k = 3#8 → Passes s.core 0x53#8 x [k] true → Defers (.selfTest x [k]) s (fun c => ∃ es : List FaultEntry,
      c.host.outRsp = s.core.host.outRsp ++ rspItems x 0x53#8 0x00#8 false (le 1 (bit (!es.isEmpty)) ++ es.flatMap FaultEntry.bytes) ∧
      (∀ e ∈ es, e ∈ c.nvm.faults ∧ (e.kind, e.index, e.sign) ∈ Config.testFaults s.core.free) ∧
      (Config.testFaults s.core.free = [] → es = [] ∧
        c = { answered s.core x 0x53#8 0x00#8 false [0#8] with free := s.core.free + 1 }) ∧
      c.pw = s.core.pw ∧ c.hg = s.core.hg ∧ c.lnk = s.core.lnk ∧ c.hp = s.core.hp ∧ c.prof = s.core.prof ∧ c.trk = s.core.trk ∧
      c.node = s.core.node ∧ c.acq = s.core.acq)) ∧
    (Passes s.core 0x83#8 x p true → s.core.nvmOk = false → Defers (.fingerprint x p) s (fun c =>
      c = answered s.core x 0x83#8 0x09#8 false [])) ∧
    (Passes s.core 0x83#8 x p true → s.core.nvmOk = true → Defers (.fingerprint x p) s (fun c =>
      c = { s.core with rep := { s.core.rep with fingerWait := some x } })) ∧
    (∀ kind index : Nat, Passes s.core 0x81#8 x p true →
      (byteAt p 0 = 1#8 ∧ kind = 4 ∧ index = (byteAt p 1).toNat) ∨ (byteAt p 0 = 2#8 ∧ kind = 5 ∧ index = (byteAt p 1).toNat) ∨
        (byteAt p 0 = 3#8 ∧ kind = 3 ∧ index = (byteAt p 1).toNat % 128) →
      Defers (.coppiceSet x p) s (fun c => c.hasRepair kind index = true ∧
        c.host.outRsp = s.core.host.outRsp ++ rspItems x 0x81#8 0x00#8 false [] ∧ c.pw = s.core.pw ∧ c.hg = s.core.hg ∧
        c.lnk = s.core.lnk ∧ c.hp = s.core.hp ∧ c.prof = s.core.prof ∧ c.trk = s.core.trk ∧ c.keys = s.core.keys)) ∧
    (Passes s.core 0x81#8 x p true → byteAt p 0 = 0#8 → Defers (.coppiceSet x p) s (fun c =>
      (c.hasRepair 2 (byteAt p 1).toNat = true ∨
        ∃ k < 24, s.core.acq.route.getD k 0 = (byteAt p 1).toNat ∧ c.hasRepair 4 k = true) ∧
      c.host.outRsp = s.core.host.outRsp ++ rspItems x 0x81#8 0x00#8 false [])) ∧
    (Passes s.core 0x82#8 x p true →
      let kind := coppiceKind (byteAt p 0).toNat
      let index := if kind = 3 then (byteAt p 1).toNat % 128 else (byteAt p 1).toNat
      let mine := fun (c : Core) => ∃ r ∈ c.repairs, r.index.toNat = index ∧
        (r.kind.toNat = kind ∨ (kind = 4 ∧ r.kind.toNat = 6)) ∧ (kind = 3 → r.detail.toNat = (byteAt p 1).toNat / 128)
      Defers (.coppiceClear x p) s (fun c =>
        (¬ mine s.core ∨ (s.core.writeCopy .repair).2 = true →
          ¬ mine c ∧ c.host.outRsp = s.core.host.outRsp ++ rspItems x 0x82#8 0x00#8 false []) ∧
        (mine s.core → (s.core.writeCopy .repair).2 = false →
          mine c ∧ c.host.outRsp = s.core.host.outRsp ++ rspItems x 0x82#8 0x09#8 false []) ∧
        (s.core.pw.phase ≠ .quiet ∨ c.rep.grade ≠ 6#3 → c.pw = s.core.pw ∧ c.hg = s.core.hg ∧ c.lnk = s.core.lnk ∧
          c.hp = s.core.hp ∧ c.prof = s.core.prof ∧ c.trk = s.core.trk ∧ c.keys = s.core.keys) ∧
        (mine s.core → (s.core.writeCopy .repair).2 = true → s.core.rep.grade = 6#3 → s.core.gradeNow = 6 → s.core.pw.phase = .quiet →
          s.core.pw.entry = none → s.core.slot.isSome = true → s.core.rep.bistf = false → s.core.hg.joinRefused = false →
          c.pw.phase = .run ∧ c.rep.testDue = true ∧ c.rep.grade = 6#3)))

/-- RESET_COMMAND_EXECUTE, TRANSFER_ABANDON, DEFERRED_COMMAND_APPLY, SEEK_START, SEEK_TIMEOUT, FINGERPRINT_TIMEOUT, SELF_TEST_TIMEOUT and
RETENTION_RECORD_LOST complete: the accepted RESET takes place with cause 0x6; a transfer is given up; the oldest deferred command
has its turn in Quiet; a seek begins with the frame, and what waited 10 s in vain for a boundary without contact answers
BUSY_RETRY (R20, R69, R71, R142, R351, R383, R388). -/
def Obligations.EngineEventsComplete : Prop :=
  (∀ s : State, s.core.pw.resetDue = true → isPowered s.core →
    Gives .resetCommandExecute s (resetLeft s.core (resetPower s.core 6#3 s.core.pw.xtal) (retainedNow s.core 6#3))) ∧
  (∀ s : State, Gives .transferAbandon s { s.core with pk := { s.core.pk with transfer := none } }) ∧
  (∀ (s : State) (d : Deferred) (rest : List Deferred), s.core.pw.phase = .quiet → s.core.pk.deferred = d :: rest →
    Gives .deferredCommandApply s
      ({ s.core with pk := { s.core.pk with deferred := rest } }.applyNowCmd d.opcode d.ctx d.payload)) ∧
  (∀ (s : State) (k : SeekSt), s.core.node.seek = some k → k.frame = none → s.core.pw.phase = .run → s.core.acq.running = true →
    s.core.acq.slot = some .sync → s.core.acq.maint = none → s.core.acq.noiseGiven = false →
    (∀ e ∈ s.core.trk.contacts, e.isCand = true) → s.core.rep.bgdefer.getLsbD 0 = false →
    Leaves .seekStart s (fun c => c = { s.core with
        node := { s.core.node with seek := some { k with frame := some 0 } }
        acq := { s.core.acq with maint := some .seek, dac := c.acq.dac } })) ∧
  (∀ (s : State) (k : SeekSt), s.core.node.seek = some k → k.frame = none → k.ctx.src = s.core.hg.addr →
    let a := answered s.core k.ctx 0x43#8 0x06#8 false []
    Gives .seekTimeout s { a with node := { s.core.node with seek := none } }) ∧
  (∀ (s : State) (x : CmdCtx), s.core.rep.fingerWait = some x → x.src = s.core.hg.addr →
    let a := answered s.core x 0x83#8 0x06#8 false []
    Gives .fingerprintTimeout s { a with rep := { s.core.rep with fingerWait := none } }) ∧
  (∀ (s : State) (x : CmdCtx), s.core.rep.testCtx = some x → x.src = s.core.hg.addr → s.core.rep.suspects = [] →
    let a := answered s.core x 0x53#8 0x06#8 false []
    Gives .selfTestTimeout s { a with rep := { s.core.rep with testCtx := none, testDue := s.core.rep.bgDue.getLsbD 1 } }) ∧
  (∀ s : State, s.core.pw.phase = .off → Gives .retentionRecordLost s { s.core with ret := Retention.none })

/-- NVM_OPERATION_DONE and OTP_PROGRAM_DONE complete: each verified step of a commit stands and the next begins, the marker last, and
in Run the profile then waits for the boundary; a row that fails verify is retired into the next spare row, and with no spare row left, or
while NVM writes are inhibited, ends the commit with NVM_FAIL; a programmed key takes the first blank area and opens T0's counters anew, a failed one spoils the area (R77, R79, R80, R343 to R345, R363, R365,
R397, R444 to R446). -/
def Obligations.CommitAndKeyStepsComplete : Prop :=
  (∀ (s : State) (j : CommitJob) (r : Nat), s.core.nvm.job = some j → j.stage = .erase r → r + 1 < 32 → s.core.nvmOk = true →
    Leaves (.nvmOperationDone true) s (fun c =>
      c = { s.core with nvm := { s.core.nvm with rows := c.nvm.rows, job := some { j with stage := .erase (r + 1) } } } ∧
      c.nvm.rows.length = s.core.nvm.rows.length)) ∧
  (∀ (s : State) (j : CommitJob) (n : Nat), s.core.nvm.job = some j → j.stage = .body n → j.slot = .a → s.core.nvmOk = true →
    Gives (.nvmOperationDone true) s { s.core with nvm := { s.core.nvm with
      slotA := { s.core.nvm.slotA with body := s.core.nvm.slotA.body ++ (j.image.drop (256 * n)).take 256 }
      job := some { j with stage := if n + 1 < (j.image.length + 255) / 256 then .body (n + 1) else .header } } }) ∧
  (∀ (s : State) (j : CommitJob), s.core.nvm.job = some j → j.stage = .header → j.slot = .b → s.core.nvmOk = true →
    Gives (.nvmOperationDone true) s { s.core with nvm := { s.core.nvm with
      slotB := { s.core.nvm.slotB with header := some { gen := j.gen, len := j.image.length, crc := crc32 j.image } }
      job := some { j with stage := .marker } } }) ∧
  (∀ (s : State) (j : CommitJob) (x : CmdCtx) (q : Profile), s.core.nvm.job = some j → j.stage = .marker → j.slot = .a →
    j.reply = some x → x.src = s.core.hg.addr → s.core.pw.phase = .run → readImage j.image = some q →
    let a := answered s.core x 0x12#8 0x00#8 false (bvLe 4 j.gen)
    Gives (.nvmOperationDone true) s { a with
      nvm := { s.core.nvm with slotA := { s.core.nvm.slotA with marker := some (markerOf j.gen) }, job := none }
      newProf := some (q, .a, j.gen) }) ∧
  (∀ (s : State) (j : CommitJob) (x : CmdCtx), s.core.nvm.job = some j → j.reply = some x → x.src = s.core.hg.addr →
    s.core.nvmOk = true → 16 ≤ s.core.nvm.sparesUsed → s.core.nvm.mapPending = [] → s.core.nvm.faultsSaved = none →
    let a := answered s.core x 0x12#8 0x09#8 false []
    Leaves (.nvmOperationDone false) s (fun c => 7#8 ∈ c.rep.sparesOut ∧ OnlyRecords { a with
      nvm := { s.core.nvm with job := none }, rep := { s.core.rep with sparesOut := c.rep.sparesOut } } c)) ∧
  (∀ (s : State) (j : CommitJob) (n : Nat), s.core.nvm.job = some j → j.stage = .body n → s.core.nvmOk = true →
    s.core.nvm.sparesUsed < 16 →
    Leaves (.nvmOperationDone false) s (fun c => s.core.nvm.sparesUsed < c.nvm.sparesUsed ∧
      ∃ e ∈ c.repairs, e = { kind := 7#8, index := BitVec.ofNat 8 j.row, detail := BitVec.ofNat 8 s.core.nvm.sparesUsed, origin := 2#8 })) ∧
  (∀ (s : State) (j : CommitJob) (x : CmdCtx), s.core.nvm.job = some j → j.reply = some x → x.src = s.core.hg.addr →
    s.core.nvmOk = false →
    let a := answered s.core x 0x12#8 0x09#8 false []
    Gives (.nvmOperationDone false) s { a with nvm := { s.core.nvm with job := none } }) ∧
  (∀ (s : State) (k : KeyProg) (pre post : List KeyArea), s.core.keyProg = some k → k.ctx.src = s.core.hg.addr →
    s.otp.areas = pre ++ .blank :: post → (∀ a ∈ pre, a = .spoiled) → (∀ a ∈ post, a = .blank ∨ a = .spoiled) →
    ∃ t, exec (.otpProgramDone true) s = .next t ∧ t.pending = s.pending ∧
      t.otp = { s.otp with areas := pre ++ .programmed k.key :: post } ∧ t.core.otpc.custodian = some k.key ∧
      t.core.otpc.provOpen = false ∧ t.core.keyProg = none ∧
      t.core.host.outRsp = s.core.host.outRsp ++ rspItems { k.ctx with auth := true } 0x20#8 0x00#8 false [] ∧
      t.core.nvm = { s.core.nvm with tenants := modifyAt s.core.nvm.tenants 0 (fun r => { r with s := 4096#32, txS := 4096#32 }) } ∧
      t.core.ten = modifyAt s.core.ten 0 (fun r => { r with h := 0#32, marks := 0#32, txCtr := 0#32 }) ∧ t.core.pw = s.core.pw) ∧
  (∀ (s : State) (k : KeyProg) (pre post : List KeyArea), s.core.keyProg = some k → k.ctx.src = s.core.hg.addr →
    s.otp.areas = pre ++ .blank :: post → (∀ a ∈ pre, a ≠ .blank) →
    ∃ t, exec (.otpProgramDone false) s = .next t ∧ t.pending = s.pending ∧
      t.otp = { s.otp with areas := pre ++ .spoiled :: post } ∧ t.core.keyProg = none ∧ t.core.nvm = s.core.nvm ∧
      t.core.ten = s.core.ten ∧ t.core.host.outRsp = s.core.host.outRsp ++ rspItems k.ctx 0x20#8 0x09#8 false [])

/-- SLICE_CALIBRATION_DONE, SLICE_HANDOVER_FORCED, SLICECAL_DUE, DAILY_SELFTEST_DUE, SELFTEST_FORCED, SELFTEST_CONFIRM,
SUSPECT_SELFTEST and DEFER_FORCED complete: a calibrated slice waits for its handover with its new trims, trims out of range twice fail it,
to leave service at the next boundary; a task past due is forced with its event, and a MAINT frame that is due is wanted once; a daily
self-test takes a tile of grade 6 from Quiet into Run (R373, R374, R376 to R379, R385, R387 to R389, R394). -/
def Obligations.SliceAndSelftestCommandsComplete : Prop :=
  (∀ (s : State) (n : Fin 2) (g o : Int), s.core.pw.phase = .run → (s.core.sliceOf n).failed = [] → (s.core.sliceOf n).doneCal = false →
    (s.core.sliceOf n).failDue = none →
    g.natAbs ≤ 300 → o.natAbs ≤ 32 →
    Gives (.sliceCalibrationDone n g o) s { s.core with rep := { s.core.rep with
      bgDue := s.core.rep.bgDue &&& 0b11110#5
      slices := modifyAt s.core.rep.slices n.val (fun r =>
        { r with doneCal := true, newTrim := (g, o), bad := r.bad.filter (fun b => b != r.out) }) } }) ∧
  (∀ (s : State) (n : Fin 2) (g o : Int), s.core.pw.phase = .run → (s.core.sliceOf n).failed = [] → (s.core.sliceOf n).doneCal = false →
    (s.core.sliceOf n).failDue = none →
    n.val < s.core.rep.slices.length → 300 < g.natAbs ∨ 32 < o.natAbs → (s.core.sliceOf n).out ∉ (s.core.sliceOf n).bad →
    Leaves (.sliceCalibrationDone n g o) s (fun c => c = { s.core with rep := { s.core.rep with
        bgDue := s.core.rep.bgDue &&& 0b11110#5, slices := c.rep.slices } } ∧
      (c.sliceOf n).doneCal = true ∧ (c.sliceOf n).out ∈ (c.sliceOf n).bad ∧ (c.sliceOf n).failed = [])) ∧
  (∀ (s : State) (n : Fin 2) (g o : Int), s.core.pw.phase = .run → (s.core.sliceOf n).failed = [] → (s.core.sliceOf n).doneCal = false →
    (s.core.sliceOf n).failDue = none →
    n.val < s.core.rep.slices.length → 300 < g.natAbs ∨ 32 < o.natAbs → (s.core.sliceOf n).out ∈ (s.core.sliceOf n).bad →
    Leaves (.sliceCalibrationDone n g o) s (fun c =>
      (c.sliceOf n).failDue = some (s.core.sliceOf n).out ∧ (c.sliceOf n).failed = [] ∧ (c.sliceOf n).out = (s.core.sliceOf n).out ∧ (c.sliceOf n).doneCal = false ∧
      (∃ r ∈ c.repairs, r.kind = 1#8 ∧ r.index = BitVec.ofNat 8 (n.val * 16 + (s.core.sliceOf n).out.val)) ∧
      c.pw = s.core.pw ∧ c.acq = s.core.acq ∧ c.node = s.core.node ∧ c.trk = s.core.trk ∧ c.hg = s.core.hg)) ∧
  (∀ (s : State) (n : Fin 2), s.core.pw.phase = .run → (s.core.sliceOf n).doneCal = true → s.core.rep.bgdefer.getLsbD 0 = false →
    Leaves (.sliceHandoverForced n) s (OnlyRecords { s.core with rep := { s.core.rep with bgdefer := s.core.rep.bgdefer ||| 1#5 } })) ∧
  (∀ (s : State) (n : Fin 2), s.core.pw.phase = .run → (s.core.sliceOf n).failed ≠ [] → .slicecal n ∉ s.core.acq.maintDue →
    Gives (.slicecalDue n) s { s.core with acq := { s.core.acq with maintDue := s.core.acq.maintDue ++ [.slicecal n] } }) ∧
  (∀ s : State, s.core.lives = true → s.core.rep.grade = 6#3 → s.core.pw.phase = .quiet → s.core.pw.entry = none →
    s.core.slot.isSome = true → s.core.rep.bistf = false → s.core.hg.joinRefused = false →
    Leaves .dailySelftestDue s (fun c => c.pw.phase = .run ∧ c.rep.testDue = true ∧ c.rep.bgDue = s.core.rep.bgDue ||| 2#5)) ∧
  (∀ s : State, s.core.lives = true → s.core.rep.grade ≠ 6#3 ∨ s.core.pw.phase ≠ .quiet ∨ s.core.pw.entry ≠ none →
    Gives .dailySelftestDue s { s.core with rep := { s.core.rep with testDue := true, bgDue := s.core.rep.bgDue ||| 2#5 } }) ∧
  (∀ s : State, s.core.lives = true → s.core.rep.testDue = true → s.core.rep.selftest = none → s.core.rep.bgdefer.getLsbD 1 = false →
    Leaves .selftestForced s (OnlyRecords { s.core with rep := { s.core.rep with bgdefer := s.core.rep.bgdefer ||| 2#5 } })) ∧
  (∀ (s : State) (r : SelfTestRun), s.core.rep.selftest = some r → r.frames = 1 → r.first ≠ [] → .selftest ∉ s.core.acq.maintDue →
    Gives .selftestConfirm s { s.core with acq := { s.core.acq with maintDue := s.core.acq.maintDue ++ [.selftest] } }) ∧
  (∀ s : State, s.core.rep.suspects ≠ [] → s.core.rep.selftest = none → .selftest ∉ s.core.acq.maintDue →
    Gives .suspectSelftest s { s.core with acq := { s.core.acq with maintDue := s.core.acq.maintDue ++ [.selftest] } }) ∧
  (∀ (s : State) (k : Fin 5), s.core.lives = true → s.core.hasWork k = true → s.core.rep.bgdefer.getLsbD k.val = false →
    Leaves (.deferForced k) s (OnlyRecords { s.core with rep := { s.core.rep with
      bgdefer := s.core.rep.bgdefer ||| (1#5 <<< k.val) } }))

/-- NVM_SCRUB, NVM_REFRESH, TELEMETRY_FLUSH and NVM_FRAGILE complete: none of the first three has an effect before its turn; a row whose
read was corrected or differs at the margins becomes due for refresh, and the last row ends the scrub; a record with a double-bit error
takes the content of its other copy where that is valid and else its factory content; a refreshed row is erased anew and due no more, or
retired where it fails verify; a flush appends one record to the ring and clears the counts; NVM_FRAGILE tells the spare rows left (R40,
R375, R394 to R402, Table REPAIR-9, Table REPAIR-10). -/
def Obligations.EnduranceCommandsComplete : Prop :=
  (∀ (s : State) (row : Nat) (r : ScrubRead), s.core.nvmTurn 2 = false → Gives (.nvmScrub row r) s s.core) ∧
  (∀ (s : State) (row : Nat) (b : Bool), s.core.nvmTurn 3 = false → Gives (.nvmRefresh row b) s s.core) ∧
  (∀ s : State, s.core.nvmTurn 4 = false → Gives .telemetryFlush s s.core) ∧
  (∀ (s : State) (row : Nat) (r : ScrubRead), s.core.nvmTurn 2 = true → s.core.rowUsed row = true →
    s.core.ringRow row = false → r.corrected = true ∨ r.marginDiffers = true → r.uncorrectable = false → row ≠ s.core.lastRow →
    Gives (.nvmScrub row r) s { s.core with
      rep := { s.core.rep with
        refresh := if s.core.rep.refresh.any (fun x => x.1 == row) then s.core.rep.refresh
                   else s.core.rep.refresh ++ [(row, s.core.rep.rtcLong)]
        tele := { s.core.rep.tele with nvmFix := s.core.rep.tele.nvmFix + bit r.corrected } } }) ∧
  (∀ (s : State) (row : Nat) (r : ScrubRead), s.core.nvmTurn 2 = true → s.core.rowUsed row = true →
    s.core.ringRow row = true → r.corrected = false → r.uncorrectable = false → row = s.core.lastRow →
    let c : Core := { s.core with rep := { s.core.rep with
      doneAt := s.core.rep.doneAt.set 1 s.core.rep.rtcLong
      bgDue := s.core.rep.bgDue &&& 0b11011#5, bgdefer := s.core.rep.bgdefer &&& 0b11011#5 } }
    Gives (.nvmScrub row r) s (if s.core.pw.phase = .run then c else { c with rep := { c.rep with regs := c.rprLive } })) ∧
  (∀ (s : State) (row : Nat) (r : ScrubRead) (k : RecId), s.core.nvmTurn 2 = true → s.core.rowUsed row = true →
    RecId.ofRow (s.core.rowHolds row) = some k → r.uncorrectable = true → row ≠ s.core.lastRow →
    let second := (k.rows true).contains (s.core.rowHolds row)
    let p := s.core.pair k
    let from' := fun (nvm : Nvm) => { s.core with nvm := nvm }
    Leaves (.nvmScrub row r) s (fun c =>
      ((if second then p.a.sound else p.b.sound) = true →
        OnlyNvm { from' (if p.latestB = second then s.core.nvm.take k s.core.nvm.older else s.core.nvm) with
          rep := { s.core.rep with refresh := c.rep.refresh } } c ∧
        (((c.pair k).a.sound = true ∧ (c.pair k).b.sound = true) ∨ 16 ≤ c.nvm.sparesUsed)) ∧
      ((if second then p.a.sound else p.b.sound) = false →
        OnlyNvm { from' (s.core.nvm.take k Records.factory) with rep := { s.core.rep with refresh := c.rep.refresh } } c ∧
        (c.pair k).a.sound = false ∧ (c.pair k).b.sound = false))) ∧
  (∀ (s : State) (row : Nat), s.core.nvmTurn 3 = true → (∃ x ∈ s.core.rep.refresh, x.1 = row) →
    Leaves (.nvmRefresh row true) s (fun c =>
      OnlyNvm { s.core with rep := { s.core.rep with
        refresh := s.core.rep.refresh.filter (fun x => x.1 != row)
        bgDue := c.rep.bgDue, bgdefer := c.rep.bgdefer, regs := c.rep.regs } } c ∧
      (c.physical (s.core.rowHolds row) < c.nvm.rows.length →
        (c.rowInfo (c.physical (s.core.rowHolds row))).eraseDay = s.core.lifeDay) ∧
      (c.rep.refresh = [] → c.rep.bgDue.getLsbD 3 = false ∧ c.rep.bgdefer.getLsbD 3 = false))) ∧
  (∀ (s : State) (row : Nat), s.core.nvmTurn 3 = true → (∃ x ∈ s.core.rep.refresh, x.1 = row) →
    Leaves (.nvmRefresh row false) s (fun c => c.rep.refresh = s.core.rep.refresh.filter (fun x => x.1 != row) ∧
      (s.core.nvm.sparesUsed < 16 → s.core.nvm.sparesUsed < c.nvm.sparesUsed))) ∧
  (∀ (s : State) (v : Nat) (a b : Int), s.core.nvmTurn 4 = true → s.core.rep.tele.vbatLow = some v →
    s.core.rep.tele.tdLow = some a → s.core.rep.tele.tdHigh = some b → (s.core.nvm.ringSeq.toNat % 5120 + 1) % 5120 % 32 ≠ 28 →
    s.core.rep.flushes ≠ 23 →
    let r := s.core.teleBytes (BitVec.ofNat 16 v) (BitVec.ofInt 16 a) (BitVec.ofInt 16 b)
    Leaves .telemetryFlush s (fun c =>
      OnlyNvm { s.core with
        nvm := { s.core.nvm with ring := c.nvm.ring, ringSeq := s.core.nvm.ringSeq + 1#32, lifeH := c.nvm.lifeH }
        rep := { s.core.rep with
          flushes := s.core.rep.flushes + 1, lifeT := c.rep.lifeT, doneAt := s.core.rep.doneAt.set 2 s.core.rep.rtcLong
          bgDue := s.core.rep.bgDue &&& 0b01111#5, bgdefer := s.core.rep.bgdefer &&& 0b01111#5, regs := c.rep.regs } } c ∧
      c.rep.tele = { Tele.zero with runT := s.core.rep.tele.runT, quietT := s.core.rep.tele.quietT } ∧
      (Config.rowFails s.core.free = false → c.nvm.ring = (r ++ bvLe 2 (crc16 r)) :: s.core.nvm.ring) ∧
      ((c.nvm.lifeH = BitVec.ofNat 32 s.core.lifeHours ∧ c.rep.lifeT = s.core.rep.lifeT % 117964800) ∨
        (16 ≤ c.nvm.sparesUsed ∧ c.nvm.lifeH = s.core.nvm.lifeH ∧ c.rep.lifeT = s.core.rep.lifeT)))) ∧
  (∀ s : State, s.core.lives = true → 16 ≤ s.core.nvm.sparesUsed ∨ s.core.oneCopy = true →
    Leaves .nvmFragile s (OnlyRecords s.core))

/-- A step takes the command at the front of the queue and runs it on the state with the queue's rest. -/
def Obligations.StepRunsFront : Prop :=
  ∀ (s : State) (i : Instr) (rest : List Instr), step { s with pending := i :: rest } = exec i { s with pending := rest }

/-- A step on an empty queue is one reference period, the model's choice (log 2): RTC, the life clock and the clock of the deadlines count, the sub-frame
count takes 24 414 and 1/16 ticks once a boundary has run, and Run and Quiet count their seconds; a tile that is off,
unpowered or in reset stays as it is. -/
def Obligations.IdleStepIsOnePeriod : Prop :=
  (∀ s : State, s.pending = [] → s.core.pw.phase = .unpowered ∨ s.core.pw.phase = .off ∨ s.core.pw.phase = .reset →
    step s = .next { s with core := s.core.latch }) ∧
  (∀ s : State, s.pending = [] → s.core.pw.phase ≠ .unpowered → s.core.pw.phase ≠ .off → s.core.pw.phase ≠ .reset →
    ∃ c : Core, step s = .next { s with core := c.latch } ∧
      c = { s.core with pw := { s.core.pw with rtc := s.core.pw.rtc + 1#32 }
                        hg := { s.core.hg with sub := c.hg.sub, subPhase := c.hg.subPhase }
                        rep := { s.core.rep with lifeT := s.core.rep.lifeT + 1, rtcLong := s.core.rep.rtcLong + 1, tele := c.rep.tele } } ∧
      (s.core.hg.ranBoundary = true → s.core.pw.phase.isAwake = true →
        c.hg.sub.toNat = min (s.core.hg.sub.toNat + 24414 + (s.core.hg.subPhase.toNat + 1) / 16) 0xFFFFFF ∧
        c.hg.subPhase = s.core.hg.subPhase + 1#4) ∧
      (s.core.hg.ranBoundary = false ∨ s.core.pw.phase.isAwake = false → c.hg = s.core.hg) ∧
      (s.core.pw.phase = .run → 32768 * c.rep.tele.runS + c.rep.tele.runT = 32768 * s.core.rep.tele.runS + s.core.rep.tele.runT + 1 ∧
        c.rep.tele = { s.core.rep.tele with runS := c.rep.tele.runS, runT := c.rep.tele.runT }) ∧
      (s.core.pw.phase = .quiet →
        32768 * c.rep.tele.quietS + c.rep.tele.quietT = 32768 * s.core.rep.tele.quietS + s.core.rep.tele.quietT + 1 ∧
        c.rep.tele = { s.core.rep.tele with quietS := c.rep.tele.quietS, quietT := c.rep.tele.quietT }) ∧
      (s.core.pw.phase ≠ .run → s.core.pw.phase ≠ .quiet → c.rep.tele = s.core.rep.tele))

/-- Until READY every register reads its reset value; a transaction that began before READY writes nothing, reads reset values,
and sets no flag when it ends or overruns, even once READY is set (R72, R322, Table REGS-1). -/
def Obligations.NothingHappensBeforeReady : Prop :=
  (∀ (c : Core) (a : Nat), c.pw.ready = false →
    c.readReg a = if a = 0x00 then 0xB616#16 else if a = 0x03 then 0x0001#16 else if a = 0x04 then 0x0020#16
      else if a = 0x09 then 0x0418#16 else if a = 0x11 then 0x00F0#16 else if a = 0x18 then 0x2000#16
      else if a = 0x19 then 0x8000#16 else if a = 0x1A then 0x0001#16 else if a = 0x1B then 0x0002#16
      else if a = 0x1E then 0x0200#16 else 0x0000#16) ∧
  (∀ (s : State) (n : Nat) (h : Word), s.core.pw.phase = .boot → s.core.pw.ready = false → s.core.host.txn = none →
    s.core.host.csHeld = false → s.core.pw.entry = none → 40 ≤ n →
    Gives (.transactionStart n h) s { s.core with host := { s.core.host with
      miso := 0x0000#16
      txn := some { captured := 0x0000#16, header := h, words := 0, served := true, ready := false, inSkip := false, outDone := false } } }) ∧
  (∀ (s : State) (t : Txn) (i : Instr) (a : Nat) (w : Word), s.core.host.txn = some t → t.ready = false → hostWrite i = some (a, w) →
    Leaves i s (fun c => ∃ n, c = { s.core with host := { s.core.host with miso := c.host.miso, txn := some { t with words := n } } })) ∧
  (∀ (s : State) (t : Txn) (i : Instr) (a : Nat) (b : Bool), s.core.host.txn = some t → t.ready = false → hostRead i = some (a, b) →
    Leaves i s (fun c => (∃ n, c = { s.core with host := { s.core.host with miso := c.host.miso, txn := some { t with words := n } } }) ∧
      (c.host.miso = s.core.host.miso ∨ c.host.miso = regReset a))) ∧
  (∀ (s : State) (t : Txn) (n : Nat), s.core.host.txn = some t → t.ready = false →
    Gives (.transactionEnd n) s { s.core with host := { s.core.host with txn := none, csHeld := false } } ∧ Gives .overclk s s.core)

/-- A write of 0xC3A5 to HOSTCTL resets the tile with cause 0x6, and a write of any other value sets nothing, under either row
that writes a register (R330). -/
def Obligations.HostctlResetsOnItsKeyOnly : Prop :=
  ∀ (s : State) (w : Word), writesAt s.core 0x07 →
    let c := if w = 0xC3A5#16 then resetLeft s.core (resetPower s.core 6#3 s.core.pw.xtal) (retainedNow s.core 6#3) else wrote s.core
    Gives (.registerWrite 0x07#6 w) s c ∧ Gives (.hostctlReset w) s c

/-- A write that a field table does not allow is discarded whole and sets REGERR: PWRCTL, LINKSEL, USEQCTL, USEQ0 to USEQ3, SARURG
and SARVSEL have values out of range; a write to a W1C or RC register, or to one whose every value is allowed, never sets REGERR
(R325, Tables REGS-2 to REGS-7). -/
def Obligations.OutOfRangeWritesAreDiscarded : Prop :=
  (∀ (s : State) (i : Instr) (a : Nat) (w : Word), hostWrite i = some (a, w) → writesAt s.core a → outOfRange a w = true →
    Gives i s ((wrote s.core).attn 11)) ∧
  (∀ (s : State) (i : Instr) (a : Nat) (w : Word), hostWrite i = some (a, w) → writesAt s.core a →
    a ∈ [0x01, 0x02, 0x03, 0x06, 0x1D, 0x1F, 0x36, 0x3E, 0x3F] →
    Leaves i s (fun c =>
      c = { s.core with host := c.host, sar := c.sar } ∧ c.host.attnsrc = s.core.host.attnsrc &&& ~~~(if a = 0x02 then w else 0x0000#16)))

/-- Until the first accepted write ATTN# follows WOKE alone; the first word that commits in a transaction begun with READY = 1,
whatever its register, makes it follow every enabled source from then on, and a write of 1 to WOKE clears the wake attention (R74,
R316, R317). -/
def Obligations.FirstWriteReleasesAttention : Prop :=
  (∀ c : Core, c.pw.ready = true → c.host.firstWrite = false → (c.attnLow = true ↔ c.attnView.getLsbD 0 = true ∧ c.host.attnen.getLsbD 0 = true)) ∧
  (∀ c : Core, c.pw.ready = true → c.host.firstWrite = true → (c.attnLow = true ↔ c.attnView &&& c.host.attnen ≠ 0#16)) ∧
  (∀ c : Core, c.pw.ready = false → c.attnLow = false) ∧
  (∀ (s : State) (i : Instr) (a : Nat) (w : Word), hostWrite i = some (a, w) → writesAt s.core a → ¬ (a = 0x07 ∧ w = 0xC3A5#16) →
    a ≠ 0x08 → Leaves i s (fun c => c.host.firstWrite = true)) ∧
  (∀ (s : State) (i : Instr) (w : Word), hostWrite i = some (0x08, w) → writesAt s.core 0x08 →
    Gives i s ((wrote s.core).pktinWord w) ∧ (wrote s.core).host.firstWrite = true) ∧
  (∀ (s : State) (w : Word), writesAt s.core 0x02 → w.getLsbD 0 = true →
    Leaves (.attnsrcWrite w) s (fun c => c.host.attnsrc.getLsbD 0 = false ∧ (c.latch).host.attnsrc.getLsbD 0 = false))

/-- Freshness: an authenticated CMD is fresh above H, or less than 32 below it with its mark clear, and is refused with REPLAY
otherwise; once consumed, a value is never fresh again, no value that was not fresh becomes fresh, and a value still in the window
keeps the answer it had (R343). -/
def Obligations.ReplayWindow : Prop :=
  (∀ (t : TenantSt) (f : BitVec 32), t.isFresh f = true ↔ t.h.toNat < f.toNat ∨
    (f.toNat < t.h.toNat ∧ t.h.toNat < f.toNat + 32 ∧ t.marks.getLsbD (t.h.toNat - 1 - f.toNat) = false)) ∧
  (∀ (t : TenantSt) (f : BitVec 32), t.isFresh f = true → (t.consume f).h.toNat = max t.h.toNat f.toNat ∧
    (t.consume f) = { t with h := (t.consume f).h, marks := (t.consume f).marks }) ∧
  (∀ (t : TenantSt) (f g : BitVec 32), t.isFresh f = true →
    ((t.consume f).isFresh g = true ↔ t.isFresh g = true ∧ g ≠ f ∧ f.toNat < g.toNat + 32)) ∧
  (∀ (c : Core) (x : CmdCtx) (op : Byte) (f : BitVec 32) (p : List Byte), (c.tenantSt x.tenant).isFresh f = false →
    c.freshThen x op f p = (c.modTele (fun k => { k with authFail := k.authFail + 1 })).answer x op stReplay []) ∧
  (∀ (c : Core) (x : CmdCtx) (op : Byte) (f : BitVec 32) (p : List Byte), (c.tenantSt x.tenant).isFresh f = true →
    f.toNat + 256 < (c.tenantRec x.tenant).s.toNat →
    c.freshThen x op f p = (c.modTenantSt x.tenant (fun s => s.consume f)).command op x p)

/-- A renewal of the reservation goes before the command: within 256 of S it is written first, and while NVM is inhibited or the write
fails the command ends with NVM_FAIL and H and the marks stay; a reset leaves H = S with every mark set, so that nothing up to S is fresh after
it (R344, R345, R444). -/
def Obligations.ReservationGoesFirst : Prop :=
  (∀ (c : Core) (x : CmdCtx) (op : Byte) (f : BitVec 32) (p : List Byte), (c.tenantSt x.tenant).isFresh f = true →
    (c.tenantRec x.tenant).s.toNat ≤ f.toNat + 256 →
    (c.pw.nvmInhibit = true → c.freshThen x op f p = c.answer x op stNvmFail []) ∧
    (∃ d, OnlyNvm c d ∧
      ((c.writeCopy .tenant).2 = true → c.freshThen x op f p =
        ((d.modTenantRec x.tenant (fun r => { r with s := f + 4096#32 })).modTenantSt x.tenant (fun s => s.consume f)).command op x p) ∧
      ((c.writeCopy .tenant).2 = false → c.freshThen x op f p = d.answer x op stNvmFail []))) ∧
  (∀ (r : TenantRec) (f : BitVec 32), (TenantSt.ofRec r).isFresh f = true ↔ r.s.toNat < f.toNat) ∧
  (∀ (s : State) (t : Tenant), writesAt s.core 0x07 → s.core.nvm.tenants.length = 16 →
    Leaves (.hostctlReset 0xC3A5#16) s (fun c => c.tenantRec t = s.core.tenantRec t ∧ c.tenantSt t = TenantSt.ofRec (s.core.tenantRec t)))

/-- A tracker at reset holds the most negative MAX, the most positive MIN, COUNT and sum 0 and EMPTY; a sample moves MIN down to it and
MAX up to it, raises COUNT up to 65 535, adds to the sum and clears EMPTY (R122). -/
def Obligations.TrackersKeepExtremes : Prop :=
  (∀ lo hi : Int, (Tracker.reset lo hi).mn = hi ∧ (Tracker.reset lo hi).mx = lo ∧ (Tracker.reset lo hi).count = 0 ∧
    (Tracker.reset lo hi).sum = 0 ∧ (Tracker.reset lo hi).isEmpty = true) ∧
  (∀ (t : Tracker) (v : Int), (t.add v).mn = (if v < t.mn then v else t.mn) ∧ (t.add v).mx = (if t.mx < v then v else t.mx) ∧
    (t.add v).count = min (t.count + 1) 65535 ∧ (t.add v).sum = t.sum + v ∧ (t.add v).isEmpty = false) ∧
  (∀ (lo hi v : Int) (l : List Int), lo ≤ hi → (∀ x ∈ v :: l, lo ≤ x ∧ x ≤ hi) →
    let t := (v :: l).foldl Tracker.add (Tracker.reset lo hi)
    (t.mn ∈ v :: l ∧ t.mx ∈ v :: l ∧ ∀ x ∈ v :: l, t.mn ≤ x ∧ x ≤ t.mx) ∧ t.count = min (l.length + 1) 65535 ∧ t.sum = v + l.sum ∧
      t.isEmpty = false)

/-- Filter and baseline feed their rounding back. An included frame moves F by the rounded 2^k-th part of the median's distance and
the remainder kept, within half a step. In each included frame whose count is a multiple of 2^(BL_K - 8) a node that is not frozen
moves its baseline by the rounded 256th part of F - B and the remainder kept, within -128 to 127; in other frames and while frozen it
stays; a delta below -NEG_THRESH for NEG_FRAMES frames sets it to F (R133, R134, R138 to R140). -/
def Obligations.FilterAndBaselineLoseNothing : Prop :=
  (∀ (n : NodeSt) (w k : Nat) (x : Int),
    let d := n.filtered w k x
    let m := median d.win
    d = { n with win := pushWindow w n.win x, f := d.f, phi := d.phi } ∧ d.f = n.f + rhu (m - n.f + n.phi) k ∧
    d.f * 2 ^ k + d.phi = n.f * 2 ^ k + (m - n.f + n.phi) ∧ -(2 ^ k) ≤ 2 * d.phi ∧ 2 * d.phi < 2 ^ k ∧
    (k = 0 → d.phi = 0 ∧ d.f = m + n.phi)) ∧
  (∀ (c : Core) (take : Bool) (n : NodeSt) (i : Nat), n.inc = true → n.recap = false → c.node.settling = false → c.node.valid = true → n.valid = true →
    let due := c.hg.fc.toNat % 2 ^ (c.prof.blK - 8) = 0 ∧ c.isFrozen i = false
    let t := n.f - n.b + n.rho
    let low := n.delta < -(c.prof.negThresh : Int)
    let d := c.nodeEnd take n i
    (low → c.prof.negFrames ≤ n.neg + 1 → d = { n with b := n.f, rho := 0, neg := 0 }) ∧
    (¬ (low ∧ c.prof.negFrames ≤ n.neg + 1) → d = { n with b := d.b, rho := d.rho, neg := d.neg } ∧
      (low → d.neg = n.neg + 1) ∧ (¬ low → d.neg = 0) ∧
      (due → d.b = n.b + rhu t 8 ∧ 256 * d.b + d.rho = 256 * n.b + t ∧ -128 ≤ d.rho ∧ d.rho ≤ 127) ∧
      (¬ due → d.b = n.b ∧ d.rho = n.rho)))

/-- Placing a record in a queue: it joins at the end while fewer than 64 are held; a full queue never grows, keeps every fixed
record and every record that is neither a MOVE, nor a HOVER without END, nor an encoder's, counts the record as lost exactly
where no merge, overwriting or removal made room, and then keeps all it held (R216, R369, R370). -/
def Obligations.FullQueueKeepsWhatCounts : Prop :=
  ∀ (q : Queue) (e : QEnt),
    let r := q.place e
    (q.recs.length < 64 → r = { q := { q with recs := q.recs ++ [e] }, lost := false, qfull := false }) ∧
    (q.recs.length = 64 → r.q.recs.length = 64 ∧
      (∀ x ∈ q.recs, x.fixed = true → x ∈ r.q.recs) ∧
      (∀ x ∈ q.recs, isMoving x.bytes = false → recType x.bytes ≠ 4 → x ∈ r.q.recs) ∧
      (r.lost = true → r.q.recs = q.recs ∧ r.q.losses = q.losses + 1) ∧
      (r.lost = false → r.q.losses = q.losses ∧ r.qfull = false) ∧
      (r.qfull = true ↔ r.lost = true ∧ q.full = none) ∧
      (isMoving e.bytes = false → recType e.bytes ≠ 4 → r.lost = true ∨ (r.q.recs.getLast? = some e ∧
        ∃ i, ∃ x, q.recs[i]? = some x ∧ isMoving x.bytes = true ∧ x.fixed = false ∧ r.q.recs = q.recs.eraseIdx i ++ [e] ∧
          ∃ y ∈ q.recs.drop (i + 1), sameContact y.bytes x.bytes = true)))

/-- No step changes a custodian key that is programmed, an area that is programmed or spoiled, or any other part of the OTP; every step
keeps the OTP whole: four areas, of which at most one is programmed (R365, R445). -/
def Obligations.CustodianKeyIsPermanent : Prop :=
  (∀ (s t : State), step s = .next t →
    (∀ k, Core.custodianKey s.otp = some k → Core.custodianKey t.otp = some k) ∧
    t.otp = { s.otp with areas := t.otp.areas } ∧ t.otp.areas.length = s.otp.areas.length ∧
    (∀ (i : Nat) (a : KeyArea), s.otp.areas[i]? = some a → a ≠ .blank → t.otp.areas[i]? = some a)) ∧
  (∀ (s t : State), s.otp.whole → step s = .next t → t.otp.whole)

/-- The OTP is whole at reset, with no key programmed: provisioning is open there, the model's choice of a tile as it leaves the factory
(log 4). -/
def Obligations.ResetOtpIsWhole : Prop :=
  State.reset.otp.whole ∧ Core.custodianKey State.reset.otp = none ∧ Core.provisioningOpen State.reset.otp = true

/-- Every command whose operand has the shape the tile asks for answers a next state and leaves the queue as it was; the others, and
only they, stop with the fault of an ill-formed operand (log 7). -/
def Obligations.OnlyIllFormedOperandsStop : Prop :=
  ∀ (i : Instr) (s : State),
    (wellShaped i s.core = true → ∃ t, exec i s = .next t ∧ t.pending = s.pending) ∧
    (wellShaped i s.core = false → exec i s = .fault .illFormedOperand)

/-- After every step of a tile with READY = 1, OUTRDY stands in ATTNSRC while a packet waits in PKTOUT, and INROOM while PKTIN has room
for the largest packet (R328). -/
def Obligations.LevelBitsStandAfterEveryStep : Prop :=
  ∀ (s t : State), step s = .next t → t.core.pw.ready = true →
    (t.core.outWaits = true → t.core.host.attnsrc.getLsbD 1 = true) ∧
    (t.core.pktinUsed ≤ 524 → t.core.host.attnsrc.getLsbD 2 = true)

/-- A character, start bit low, data least significant bit first, parity where the port has one, stop bit high, is read as its byte
without error; a wrong parity bit is a parity error and a low stop bit a framing error (R226, R233). -/
def Obligations.CharactersAndFramesReadAsSent : Prop :=
  (∀ (par : BitVec 2) (b : Byte) (first p stop : Bool), par ≠ 3#2 →
    let data : List Bool := [b.getLsbD 0, b.getLsbD 1, b.getLsbD 2, b.getLsbD 3, b.getLsbD 4, b.getLsbD 5, b.getLsbD 6, b.getLsbD 7]
    let ones := (data.filter (fun x => x)).length + bit p
    let x := readChar par ([false] ++ data ++ (if par = 0#2 then [] else [p]) ++ [stop]) first
    x.data = b ∧ x.fe = !stop ∧ x.frameStart = first ∧
      x.pe = (decide (par = 1#2) && decide (ones % 2 = 1) || decide (par = 2#2) && decide (ones % 2 = 0))) ∧
  (∀ (b : LinkBody) (n : BitVec 4), frameOk (b.frame n) = true) ∧
  (∀ (b : LinkBody) (n : BitVec 4) (t : Nat), b.typeCode = some t → (byteAt (b.frame n) 0).toNat % 16 = t ∧
    ((b.frame n).drop 1).take ((b.frame n).length - 3) = b.bodyBytes)

/-- What the hedge frames and packets carry comes back from their bytes as it was: HELLO, JOIN_GRANT, LOSS, ROSTER, TILE_REPORT with its
three surveys, PANEL_ADVERT, PANEL_GRANT and route tables (Tables HEDGE-1 to HEDGE-6; where the manual lists fields without bytes
the layout is the model's, log 13). -/
def Obligations.HedgePayloadsRoundTrip : Prop :=
  (∀ h : Hello, Hello.ofBytes h.bytes = h ∧ h.bytes.length = 21) ∧
  (∀ g : JoinGrant, JoinGrant.ofBytes g.bytes = g) ∧
  (∀ l : LossReport, LossReport.ofBytes l.bytes = l) ∧
  (∀ r : Roster, Roster.ofBytes r.bytes = r ∧ r.bytes.length = 2 + 12 * r.tiles.length) ∧
  (∀ r : TileReport, r.surveys.length ≤ 3 → TileReport.ofBytes r.bytes = r ∧ r.bytes.length = 44) ∧
  (∀ a : PanelAdvert, a.blocks.length < 256 → a.singles.length < 256 → a.wires.length < 256 → PanelAdvert.ofBytes a.bytes = a) ∧
  (∀ g : PanelGrant, g.blocks.length < 256 → g.singles.length < 256 → PanelGrant.ofBytes g.bytes = g) ∧
  (∀ l : List RouteEntry, routesOf (l.flatMap RouteEntry.bytes) = l)

/-- A packet is read as it was built: intact, every header field and the payload back, and with AUTH = 1 its FRESH and a tag that is
correct under the key; another TTL or SRC, with its CRC-32 computed again, leaves it intact and the tag correct (R337 to R341, Table
PKT-1). -/
def Obligations.PacketsRoundTrip : Prop :=
  ∀ (h : PktHead) (p : List Byte) (a : Option (BitVec 32 × List Byte)), h.kind < 16 → h.ttl < 16 → p.length ≤ 1024 →
    (∀ f k, a = some (f, k) → k.length = 16) →
    let b := buildPacket h p a
    let same := fun (x : List Byte) => pkIntact x = true ∧ x.length = p.length + (if a.isSome then 24 else 16) ∧ pkVer x = 1 ∧
      pkKind x = h.kind ∧ pkTenant x = h.tenant ∧ pkAuth x = a.isSome ∧ pkUrg x = h.urg ∧ pkFrag x = h.frag ∧ pkLast x = h.last ∧
      pkDst x = h.dst ∧ pkSeq x = h.seq ∧ pkOp x = h.opcode ∧ pkStatus x = h.status ∧ pkLen x = p.length ∧ pkPayload x = p ∧
      (∀ f k, a = some (f, k) → pkFresh x = f ∧ tagOk k x = true)
    (same b ∧ pkTtl b = h.ttl ∧ pkSrc b = h.src) ∧
    (∀ n, n < 16 → same (setTtl b n) ∧ pkTtl (setTtl b n) = n ∧ pkSrc (setTtl b n) = h.src) ∧
    (∀ s : Addr, same (setSrc b s) ∧ pkTtl (setSrc b s) = h.ttl ∧ pkSrc (setSrc b s) = s)
end

