-- ==== Sys2Proof/Laws/Bytes.lean ====
section
/-!
SUPPORT. Bytes: a number packed and read again, places of joined lists, the fields of a record and the records of an image packed and
read again, and an image read after it was sealed with its CRC-32.
-/
namespace Sys2Proof.Machine

theorem ofLe_map (n : Nat) : ∀ (x i : Nat), ofLe ((List.range' i n).map (fun j => BitVec.ofNat 8 (x / 256 ^ j))) = x / 256 ^ i % 256 ^ n := by
  induction n with
  | zero => intro x i; simp [ofLe, Nat.mod_one]
  | succ n ih =>
    intro x i
    simp only [List.range'_succ, List.map_cons, ofLe, ih, BitVec.toNat_ofNat]
    rw [Nat.pow_succ 256 i, ← Nat.div_div_eq_div_mul, Nat.pow_succ 256 n, Nat.mul_comm (256 ^ n) 256, Nat.mod_mul]

/-- A number packed in `n` bytes reads as itself, reduced to them. -/
theorem ofLe_le (n x : Nat) : ofLe (le n x) = x % 256 ^ n := by
  have := ofLe_map n x 0
  simpa [le, List.range_eq_range'] using this

@[simp] theorem le_length (n x : Nat) : (le n x).length = n := by simp [le]

/-- Bytes read behind a prefix. -/
theorem leAt_append_right (a b : List Byte) (i n : Nat) (h : a.length ≤ i) : leAt (a ++ b) i n = leAt b (i - a.length) n := by
  simp [leAt, List.drop_append, List.drop_eq_nil_of_le h]

/-- Bytes read inside a prefix. -/
theorem leAt_append_left (a b : List Byte) (i n : Nat) (h : i + n ≤ a.length) : leAt (a ++ b) i n = leAt a i n := by
  unfold leAt
  congr 1
  rw [List.drop_append_of_le_length (by omega), List.take_append_of_le_length (by simp; omega)]

/-- One byte inside a prefix. -/
theorem byteAt_append_left (a b : List Byte) (i : Nat) (h : i < a.length) : byteAt (a ++ b) i = byteAt a i := by
  simp [byteAt, List.getElem?_append_left h]

/-- A packed number is read from its own bytes. -/
theorem leAt_le (n x : Nat) : leAt (le n x) 0 n = x % 256 ^ n := by
  simp [leAt, List.take_of_length_le, ofLe_le]

/-- A CRC-32 put behind its message is read back. -/
theorem leAt_crc (body : List Byte) : leAt (body ++ le 4 (crc32 body).toNat) body.length 4 = (crc32 body).toNat := by
  rw [leAt_append_right _ _ _ _ (Nat.le_refl _), Nat.sub_self, leAt_le]
  exact Nat.mod_eq_of_lt (crc32 body).isLt

/-- What `readImage` makes of the part of an image before its CRC-32. -/
def readBody (body : List Byte) : Option Profile :=
  match splitRecords (byteAt body 6).toNat (body.drop 8) with
  | none => none
  | some recs =>
    let types := recs.map (fun r => r.1)
    let known := recs.all (fun r => recordSpecs.any (fun s => s.1 == r.1 && specLength s.2.1 == r.2.length))
    let whole := recordSpecs.all (fun s => !s.2.2 || types.contains s.1)
    if known && whole && noRepeats types then
      some (recs.foldl (fun p r =>
        match recordSpecs.find? (fun s => s.1 == r.1) with
        | some s => p.withRecord r.1 (recordKept r.1 (readFields s.2.1 r.2))
        | none => p) Profile.factory)
    else none

/-- An image sealed with its own CRC-32 is read from the part before it. -/
theorem readImage_crc (body : List Byte) (h : 8 ≤ body.length) (m : leAt body 0 2 = 0x4C50) (l : leAt body 2 3 = body.length + 4)
    (v : byteAt body 5 = 1#8) : readImage (body ++ le 4 (crc32 body).toNat) = readBody body := by
  unfold readImage readBody
  have e : (body ++ le 4 (crc32 body).toNat).length = body.length + 4 := by simp
  rw [e, Nat.add_sub_cancel, leAt_crc, List.take_left', leAt_append_left _ _ _ _ (by omega), leAt_append_left _ _ _ _ (by omega),
    byteAt_append_left _ _ _ (by omega), byteAt_append_left _ _ _ (by omega), m, l, v]
  · have : ¬ (body.length + 4 < 12) := by omega
    simp [this]; all_goals rfl
  · rfl

/-- A value that a field can hold in its bytes. -/
def FieldSpec.holds (f : FieldSpec) (v : Int) : Bool :=
  decide (1 ≤ f.bits) && decide (f.bits ≤ 8 * f.bytes) &&
  (if f.lo < 0 then decide (-(2 ^ (f.bits - 1)) ≤ v) && decide (v < 2 ^ (f.bits - 1)) else decide (0 ≤ v) && decide (v < 2 ^ f.bits))

/-- A field's value is read back from its bytes. -/
theorem readField_leInt (f : FieldSpec) (v : Int) (h : f.holds v = true) : readField f (leInt f.bytes v) = v := by
  unfold FieldSpec.holds at h
  simp only [Bool.and_eq_true, decide_eq_true_eq] at h
  obtain ⟨⟨h0, h1⟩, h2⟩ := h
  have hd : (2 : Int) ^ f.bits ∣ 256 ^ f.bytes := by
    have : (256 : Int) ^ f.bytes = 2 ^ (8 * f.bytes) := by rw [pow_mul]; norm_num
    rw [this]; exact pow_dvd_pow 2 h1
  have hp : (0 : Int) < 256 ^ f.bytes := by positivity
  have hn : 0 ≤ v % 256 ^ f.bytes := Int.emod_nonneg _ hp.ne'
  have hl : v % 256 ^ f.bytes < 256 ^ f.bytes := Int.emod_lt_of_pos _ hp
  have e : ((ofLe (leInt f.bytes v) : Nat) : Int) = v % 256 ^ f.bytes := by
    unfold leInt
    rw [ofLe_le, Nat.mod_eq_of_lt]
    · exact Int.toNat_of_nonneg hn
    · zify; rw [Int.toNat_of_nonneg hn]; exact hl
  unfold readField
  split at h2 <;> simp only [Bool.and_eq_true, decide_eq_true_eq] at h2 <;> rename_i hs <;> simp only [hs, if_true, if_false]
  · rw [BitVec.toInt_eq_toNat_bmod, BitVec.toNat_ofNat]
    push_cast
    rw [e]
    have hk : (2 : Int) ^ f.bits = 2 * 2 ^ (f.bits - 1) := by
      rw [← pow_succ']; congr 1; omega
    have hb : (v % 256 ^ f.bytes) % 2 ^ f.bits = v % 2 ^ f.bits := Int.emod_emod_of_dvd v hd
    have : (((2 ^ f.bits : Nat) : Int)) = 2 ^ f.bits := by norm_cast
    rw [Int.bmod_def, this, Int.emod_emod, hb]
    have hv : v % 2 ^ f.bits = if v < 0 then v + 2 ^ f.bits else v := by
      split
      · rw [← Int.add_emod_right, Int.emod_eq_of_lt] <;> omega
      · rw [Int.emod_eq_of_lt] <;> omega
    rw [hv]
    split <;> split <;> omega
  · have hb : (v % 256 ^ f.bytes) % 2 ^ f.bits = v % 2 ^ f.bits := Int.emod_emod_of_dvd v hd
    push_cast
    rw [e, hb, Int.emod_eq_of_lt h2.1 h2.2]

@[simp] theorem leInt_length (n : Nat) (v : Int) : (leInt n v).length = n := by simp [leInt]

/-- The values of one field's places are read back in order. -/
theorem readPlaces (f : FieldSpec) (vs : List Int) (rest : List Byte) (h : ∀ v ∈ vs, f.holds v = true) :
    (List.range vs.length).map (fun i => readField f (((vs.flatMap (leInt f.bytes) ++ rest).drop (f.bytes * i)).take f.bytes)) = vs := by
  induction vs with
  | nil => rfl
  | cons v vs ih =>
    rw [List.length_cons, List.range_succ_eq_map, List.map_cons, List.map_map]
    congr 1
    · simp [List.flatMap_cons, readField_leInt f v (h v (by simp))]
    · refine Eq.trans (List.map_congr_left fun i _ => ?_) (ih (fun x hx => h x (by simp [hx])))
      simp only [Function.comp, List.flatMap_cons, List.append_assoc]
      congr 2
      rw [Nat.succ_eq_add_one, Nat.mul_add, Nat.mul_one, Nat.add_comm, ← List.drop_drop]
      congr 1
      simp

/-- Every value of a record fits its field. -/
def recordHolds : List FieldSpec → Fields → Bool
  | [], vs => vs.isEmpty
  | f :: fs, vs => decide (f.count ≤ vs.length) && (vs.take f.count).all f.holds && recordHolds fs (vs.drop f.count)

/-- A record's fields are read back from their bytes. -/
theorem readFields_packFields (specs : List FieldSpec) (vs : Fields) (h : recordHolds specs vs = true) :
    readFields specs (packFields specs vs) = vs := by
  induction specs generalizing vs with
  | nil => simp [recordHolds] at h; simp [readFields, h]
  | cons f fs ih =>
    simp only [recordHolds, Bool.and_eq_true, decide_eq_true_eq, List.all_eq_true] at h
    obtain ⟨⟨hc, ha⟩, hr⟩ := h
    unfold readFields packFields
    have hl : (vs.take f.count).length = f.count := by simp [hc]
    have hb : ((vs.take f.count).flatMap (leInt f.bytes)).length = f.bytes * f.count := by
      simp [List.length_flatMap, hc, Nat.mul_comm]
    have := readPlaces f (vs.take f.count) (packFields fs (vs.drop f.count)) ha
    rw [hl] at this
    rw [this, List.drop_left' hb, ih _ hr, List.take_append_drop]

/-- A record's bytes are as many as its fields ask for. -/
theorem packFields_length (specs : List FieldSpec) (vs : Fields) (h : recordHolds specs vs = true) :
    (packFields specs vs).length = specLength specs := by
  induction specs generalizing vs with
  | nil => rfl
  | cons f fs ih =>
    simp only [recordHolds, Bool.and_eq_true, decide_eq_true_eq] at h
    obtain ⟨⟨hc, _⟩, hr⟩ := h
    simp [packFields, specLength, List.length_flatMap, hc] at ih ⊢
    rw [ih _ hr, Nat.mul_comm]

/-- The first record of an image is split off. -/
theorem splitRecords_cons (n t : Nat) (body rest : List Byte) (ht : t < 256) (hb : body.length < 65536) :
    splitRecords (n + 1) ((le 1 t ++ le 2 body.length ++ body) ++ rest) = (splitRecords n rest).map (fun l => (t, body) :: l) := by
  have h1 : leAt ((le 1 t ++ le 2 body.length ++ body) ++ rest) 1 2 = body.length := by
    rw [List.append_assoc, List.append_assoc, leAt_append_right _ _ _ _ (by simp), leAt_append_left _ _ _ _ (by simp)]
    simp only [le_length, Nat.sub_self]
    rw [leAt_le]
    exact Nat.mod_eq_of_lt (by omega)
  have h0 : (byteAt ((le 1 t ++ le 2 body.length ++ body) ++ rest) 0).toNat = t := by
    simp [byteAt, le]
    omega
  conv_lhs => unfold splitRecords
  simp only [h1, h0]
  have h3 : ((le 1 t ++ le 2 body.length ++ body) ++ rest).drop 3 = body ++ rest := by
    rw [List.append_assoc, List.drop_left' (by simp)]
  rw [if_neg (by simp; omega), ← List.drop_drop, h3]
  simp

/-- A record of an image: its type, its length, its body. -/
def recordBytes (r : Nat × List Byte) : List Byte := le 1 r.1 ++ le 2 r.2.length ++ r.2

/-- An image's records are split as they were joined. -/
theorem splitRecords_flatMap (l : List (Nat × List Byte)) (h : ∀ r ∈ l, r.1 < 256 ∧ r.2.length < 65536) :
    splitRecords l.length (l.flatMap recordBytes) = some l := by
  induction l with
  | nil => rfl
  | cons r l ih =>
    have hr := h r (by simp)
    rw [List.length_cons, List.flatMap_cons, recordBytes, splitRecords_cons _ _ _ _ hr.1 hr.2, ih (fun x hx => h x (by simp [hx]))]
    rfl

end Sys2Proof.Machine
end

