-- ==== Sys2Proof/Laws/State.lean ====
section
/-!
SUPPORT. One lemma for each field of Core under each updater, true by unfolding the updater once, so that no later proof unfolds a
record update; then ATTNSRC, whose changes touch one register.
-/
namespace Sys2Proof.Machine.Core

@[simp] theorem modPw_pw (c : Core) (f : Power → Power) : (c.modPw f).pw = f c.pw := rfl
@[simp] theorem modPw_ret (c : Core) (f : Power → Power) : (c.modPw f).ret = c.ret := rfl
@[simp] theorem modPw_otpc (c : Core) (f : Power → Power) : (c.modPw f).otpc = c.otpc := rfl
@[simp] theorem modPw_keyProg (c : Core) (f : Power → Power) : (c.modPw f).keyProg = c.keyProg := rfl
@[simp] theorem modPw_nvm (c : Core) (f : Power → Power) : (c.modPw f).nvm = c.nvm := rfl
@[simp] theorem modPw_host (c : Core) (f : Power → Power) : (c.modPw f).host = c.host := rfl
@[simp] theorem modPw_prof (c : Core) (f : Power → Power) : (c.modPw f).prof = c.prof := rfl
@[simp] theorem modPw_slot (c : Core) (f : Power → Power) : (c.modPw f).slot = c.slot := rfl
@[simp] theorem modPw_gen (c : Core) (f : Power → Power) : (c.modPw f).gen = c.gen := rfl
@[simp] theorem modPw_image (c : Core) (f : Power → Power) : (c.modPw f).image = c.image := rfl
@[simp] theorem modPw_newProf (c : Core) (f : Power → Power) : (c.modPw f).newProf = c.newProf := rfl
@[simp] theorem modPw_sar (c : Core) (f : Power → Power) : (c.modPw f).sar = c.sar := rfl
@[simp] theorem modPw_keys (c : Core) (f : Power → Power) : (c.modPw f).keys = c.keys := rfl
@[simp] theorem modPw_lnk (c : Core) (f : Power → Power) : (c.modPw f).lnk = c.lnk := rfl
@[simp] theorem modPw_hp (c : Core) (f : Power → Power) : (c.modPw f).hp = c.hp := rfl
@[simp] theorem modPw_hg (c : Core) (f : Power → Power) : (c.modPw f).hg = c.hg := rfl
@[simp] theorem modPw_acq (c : Core) (f : Power → Power) : (c.modPw f).acq = c.acq := rfl
@[simp] theorem modPw_node (c : Core) (f : Power → Power) : (c.modPw f).node = c.node := rfl
@[simp] theorem modPw_trk (c : Core) (f : Power → Power) : (c.modPw f).trk = c.trk := rfl
@[simp] theorem modPw_ten (c : Core) (f : Power → Power) : (c.modPw f).ten = c.ten := rfl
@[simp] theorem modPw_qs (c : Core) (f : Power → Power) : (c.modPw f).qs = c.qs := rfl
@[simp] theorem modPw_pk (c : Core) (f : Power → Power) : (c.modPw f).pk = c.pk := rfl
@[simp] theorem modPw_rep (c : Core) (f : Power → Power) : (c.modPw f).rep = c.rep := rfl
@[simp] theorem modPw_free (c : Core) (f : Power → Power) : (c.modPw f).free = c.free := rfl

@[simp] theorem modSar_pw (c : Core) (f : Sar → Sar) : (c.modSar f).pw = c.pw := rfl
@[simp] theorem modSar_ret (c : Core) (f : Sar → Sar) : (c.modSar f).ret = c.ret := rfl
@[simp] theorem modSar_otpc (c : Core) (f : Sar → Sar) : (c.modSar f).otpc = c.otpc := rfl
@[simp] theorem modSar_keyProg (c : Core) (f : Sar → Sar) : (c.modSar f).keyProg = c.keyProg := rfl
@[simp] theorem modSar_nvm (c : Core) (f : Sar → Sar) : (c.modSar f).nvm = c.nvm := rfl
@[simp] theorem modSar_host (c : Core) (f : Sar → Sar) : (c.modSar f).host = c.host := rfl
@[simp] theorem modSar_prof (c : Core) (f : Sar → Sar) : (c.modSar f).prof = c.prof := rfl
@[simp] theorem modSar_slot (c : Core) (f : Sar → Sar) : (c.modSar f).slot = c.slot := rfl
@[simp] theorem modSar_gen (c : Core) (f : Sar → Sar) : (c.modSar f).gen = c.gen := rfl
@[simp] theorem modSar_image (c : Core) (f : Sar → Sar) : (c.modSar f).image = c.image := rfl
@[simp] theorem modSar_newProf (c : Core) (f : Sar → Sar) : (c.modSar f).newProf = c.newProf := rfl
@[simp] theorem modSar_sar (c : Core) (f : Sar → Sar) : (c.modSar f).sar = f c.sar := rfl
@[simp] theorem modSar_keys (c : Core) (f : Sar → Sar) : (c.modSar f).keys = c.keys := rfl
@[simp] theorem modSar_lnk (c : Core) (f : Sar → Sar) : (c.modSar f).lnk = c.lnk := rfl
@[simp] theorem modSar_hp (c : Core) (f : Sar → Sar) : (c.modSar f).hp = c.hp := rfl
@[simp] theorem modSar_hg (c : Core) (f : Sar → Sar) : (c.modSar f).hg = c.hg := rfl
@[simp] theorem modSar_acq (c : Core) (f : Sar → Sar) : (c.modSar f).acq = c.acq := rfl
@[simp] theorem modSar_node (c : Core) (f : Sar → Sar) : (c.modSar f).node = c.node := rfl
@[simp] theorem modSar_trk (c : Core) (f : Sar → Sar) : (c.modSar f).trk = c.trk := rfl
@[simp] theorem modSar_ten (c : Core) (f : Sar → Sar) : (c.modSar f).ten = c.ten := rfl
@[simp] theorem modSar_qs (c : Core) (f : Sar → Sar) : (c.modSar f).qs = c.qs := rfl
@[simp] theorem modSar_pk (c : Core) (f : Sar → Sar) : (c.modSar f).pk = c.pk := rfl
@[simp] theorem modSar_rep (c : Core) (f : Sar → Sar) : (c.modSar f).rep = c.rep := rfl
@[simp] theorem modSar_free (c : Core) (f : Sar → Sar) : (c.modSar f).free = c.free := rfl

@[simp] theorem modHg_pw (c : Core) (f : Hedge → Hedge) : (c.modHg f).pw = c.pw := rfl
@[simp] theorem modHg_ret (c : Core) (f : Hedge → Hedge) : (c.modHg f).ret = c.ret := rfl
@[simp] theorem modHg_otpc (c : Core) (f : Hedge → Hedge) : (c.modHg f).otpc = c.otpc := rfl
@[simp] theorem modHg_keyProg (c : Core) (f : Hedge → Hedge) : (c.modHg f).keyProg = c.keyProg := rfl
@[simp] theorem modHg_nvm (c : Core) (f : Hedge → Hedge) : (c.modHg f).nvm = c.nvm := rfl
@[simp] theorem modHg_host (c : Core) (f : Hedge → Hedge) : (c.modHg f).host = c.host := rfl
@[simp] theorem modHg_prof (c : Core) (f : Hedge → Hedge) : (c.modHg f).prof = c.prof := rfl
@[simp] theorem modHg_slot (c : Core) (f : Hedge → Hedge) : (c.modHg f).slot = c.slot := rfl
@[simp] theorem modHg_gen (c : Core) (f : Hedge → Hedge) : (c.modHg f).gen = c.gen := rfl
@[simp] theorem modHg_image (c : Core) (f : Hedge → Hedge) : (c.modHg f).image = c.image := rfl
@[simp] theorem modHg_newProf (c : Core) (f : Hedge → Hedge) : (c.modHg f).newProf = c.newProf := rfl
@[simp] theorem modHg_sar (c : Core) (f : Hedge → Hedge) : (c.modHg f).sar = c.sar := rfl
@[simp] theorem modHg_keys (c : Core) (f : Hedge → Hedge) : (c.modHg f).keys = c.keys := rfl
@[simp] theorem modHg_lnk (c : Core) (f : Hedge → Hedge) : (c.modHg f).lnk = c.lnk := rfl
@[simp] theorem modHg_hp (c : Core) (f : Hedge → Hedge) : (c.modHg f).hp = c.hp := rfl
@[simp] theorem modHg_hg (c : Core) (f : Hedge → Hedge) : (c.modHg f).hg = f c.hg := rfl
@[simp] theorem modHg_acq (c : Core) (f : Hedge → Hedge) : (c.modHg f).acq = c.acq := rfl
@[simp] theorem modHg_node (c : Core) (f : Hedge → Hedge) : (c.modHg f).node = c.node := rfl
@[simp] theorem modHg_trk (c : Core) (f : Hedge → Hedge) : (c.modHg f).trk = c.trk := rfl
@[simp] theorem modHg_ten (c : Core) (f : Hedge → Hedge) : (c.modHg f).ten = c.ten := rfl
@[simp] theorem modHg_qs (c : Core) (f : Hedge → Hedge) : (c.modHg f).qs = c.qs := rfl
@[simp] theorem modHg_pk (c : Core) (f : Hedge → Hedge) : (c.modHg f).pk = c.pk := rfl
@[simp] theorem modHg_rep (c : Core) (f : Hedge → Hedge) : (c.modHg f).rep = c.rep := rfl
@[simp] theorem modHg_free (c : Core) (f : Hedge → Hedge) : (c.modHg f).free = c.free := rfl

@[simp] theorem modHost_pw (c : Core) (f : HostPort → HostPort) : (c.modHost f).pw = c.pw := rfl
@[simp] theorem modHost_ret (c : Core) (f : HostPort → HostPort) : (c.modHost f).ret = c.ret := rfl
@[simp] theorem modHost_otpc (c : Core) (f : HostPort → HostPort) : (c.modHost f).otpc = c.otpc := rfl
@[simp] theorem modHost_keyProg (c : Core) (f : HostPort → HostPort) : (c.modHost f).keyProg = c.keyProg := rfl
@[simp] theorem modHost_nvm (c : Core) (f : HostPort → HostPort) : (c.modHost f).nvm = c.nvm := rfl
@[simp] theorem modHost_host (c : Core) (f : HostPort → HostPort) : (c.modHost f).host = f c.host := rfl
@[simp] theorem modHost_prof (c : Core) (f : HostPort → HostPort) : (c.modHost f).prof = c.prof := rfl
@[simp] theorem modHost_slot (c : Core) (f : HostPort → HostPort) : (c.modHost f).slot = c.slot := rfl
@[simp] theorem modHost_gen (c : Core) (f : HostPort → HostPort) : (c.modHost f).gen = c.gen := rfl
@[simp] theorem modHost_image (c : Core) (f : HostPort → HostPort) : (c.modHost f).image = c.image := rfl
@[simp] theorem modHost_newProf (c : Core) (f : HostPort → HostPort) : (c.modHost f).newProf = c.newProf := rfl
@[simp] theorem modHost_sar (c : Core) (f : HostPort → HostPort) : (c.modHost f).sar = c.sar := rfl
@[simp] theorem modHost_keys (c : Core) (f : HostPort → HostPort) : (c.modHost f).keys = c.keys := rfl
@[simp] theorem modHost_lnk (c : Core) (f : HostPort → HostPort) : (c.modHost f).lnk = c.lnk := rfl
@[simp] theorem modHost_hp (c : Core) (f : HostPort → HostPort) : (c.modHost f).hp = c.hp := rfl
@[simp] theorem modHost_hg (c : Core) (f : HostPort → HostPort) : (c.modHost f).hg = c.hg := rfl
@[simp] theorem modHost_acq (c : Core) (f : HostPort → HostPort) : (c.modHost f).acq = c.acq := rfl
@[simp] theorem modHost_node (c : Core) (f : HostPort → HostPort) : (c.modHost f).node = c.node := rfl
@[simp] theorem modHost_trk (c : Core) (f : HostPort → HostPort) : (c.modHost f).trk = c.trk := rfl
@[simp] theorem modHost_ten (c : Core) (f : HostPort → HostPort) : (c.modHost f).ten = c.ten := rfl
@[simp] theorem modHost_qs (c : Core) (f : HostPort → HostPort) : (c.modHost f).qs = c.qs := rfl
@[simp] theorem modHost_pk (c : Core) (f : HostPort → HostPort) : (c.modHost f).pk = c.pk := rfl
@[simp] theorem modHost_rep (c : Core) (f : HostPort → HostPort) : (c.modHost f).rep = c.rep := rfl
@[simp] theorem modHost_free (c : Core) (f : HostPort → HostPort) : (c.modHost f).free = c.free := rfl

@[simp] theorem modTxn_pw (c : Core) (f : Txn → Txn) : (c.modTxn f).pw = c.pw := rfl
@[simp] theorem modTxn_ret (c : Core) (f : Txn → Txn) : (c.modTxn f).ret = c.ret := rfl
@[simp] theorem modTxn_otpc (c : Core) (f : Txn → Txn) : (c.modTxn f).otpc = c.otpc := rfl
@[simp] theorem modTxn_keyProg (c : Core) (f : Txn → Txn) : (c.modTxn f).keyProg = c.keyProg := rfl
@[simp] theorem modTxn_nvm (c : Core) (f : Txn → Txn) : (c.modTxn f).nvm = c.nvm := rfl
@[simp] theorem modTxn_host (c : Core) (f : Txn → Txn) : (c.modTxn f).host = { c.host with txn := c.host.txn.map f } := rfl
@[simp] theorem modTxn_prof (c : Core) (f : Txn → Txn) : (c.modTxn f).prof = c.prof := rfl
@[simp] theorem modTxn_slot (c : Core) (f : Txn → Txn) : (c.modTxn f).slot = c.slot := rfl
@[simp] theorem modTxn_gen (c : Core) (f : Txn → Txn) : (c.modTxn f).gen = c.gen := rfl
@[simp] theorem modTxn_image (c : Core) (f : Txn → Txn) : (c.modTxn f).image = c.image := rfl
@[simp] theorem modTxn_newProf (c : Core) (f : Txn → Txn) : (c.modTxn f).newProf = c.newProf := rfl
@[simp] theorem modTxn_sar (c : Core) (f : Txn → Txn) : (c.modTxn f).sar = c.sar := rfl
@[simp] theorem modTxn_keys (c : Core) (f : Txn → Txn) : (c.modTxn f).keys = c.keys := rfl
@[simp] theorem modTxn_lnk (c : Core) (f : Txn → Txn) : (c.modTxn f).lnk = c.lnk := rfl
@[simp] theorem modTxn_hp (c : Core) (f : Txn → Txn) : (c.modTxn f).hp = c.hp := rfl
@[simp] theorem modTxn_hg (c : Core) (f : Txn → Txn) : (c.modTxn f).hg = c.hg := rfl
@[simp] theorem modTxn_acq (c : Core) (f : Txn → Txn) : (c.modTxn f).acq = c.acq := rfl
@[simp] theorem modTxn_node (c : Core) (f : Txn → Txn) : (c.modTxn f).node = c.node := rfl
@[simp] theorem modTxn_trk (c : Core) (f : Txn → Txn) : (c.modTxn f).trk = c.trk := rfl
@[simp] theorem modTxn_ten (c : Core) (f : Txn → Txn) : (c.modTxn f).ten = c.ten := rfl
@[simp] theorem modTxn_qs (c : Core) (f : Txn → Txn) : (c.modTxn f).qs = c.qs := rfl
@[simp] theorem modTxn_pk (c : Core) (f : Txn → Txn) : (c.modTxn f).pk = c.pk := rfl
@[simp] theorem modTxn_rep (c : Core) (f : Txn → Txn) : (c.modTxn f).rep = c.rep := rfl
@[simp] theorem modTxn_free (c : Core) (f : Txn → Txn) : (c.modTxn f).free = c.free := rfl

@[simp] theorem modNode_pw (c : Core) (f : Node → Node) : (c.modNode f).pw = c.pw := rfl
@[simp] theorem modNode_ret (c : Core) (f : Node → Node) : (c.modNode f).ret = c.ret := rfl
@[simp] theorem modNode_otpc (c : Core) (f : Node → Node) : (c.modNode f).otpc = c.otpc := rfl
@[simp] theorem modNode_keyProg (c : Core) (f : Node → Node) : (c.modNode f).keyProg = c.keyProg := rfl
@[simp] theorem modNode_nvm (c : Core) (f : Node → Node) : (c.modNode f).nvm = c.nvm := rfl
@[simp] theorem modNode_host (c : Core) (f : Node → Node) : (c.modNode f).host = c.host := rfl
@[simp] theorem modNode_prof (c : Core) (f : Node → Node) : (c.modNode f).prof = c.prof := rfl
@[simp] theorem modNode_slot (c : Core) (f : Node → Node) : (c.modNode f).slot = c.slot := rfl
@[simp] theorem modNode_gen (c : Core) (f : Node → Node) : (c.modNode f).gen = c.gen := rfl
@[simp] theorem modNode_image (c : Core) (f : Node → Node) : (c.modNode f).image = c.image := rfl
@[simp] theorem modNode_newProf (c : Core) (f : Node → Node) : (c.modNode f).newProf = c.newProf := rfl
@[simp] theorem modNode_sar (c : Core) (f : Node → Node) : (c.modNode f).sar = c.sar := rfl
@[simp] theorem modNode_keys (c : Core) (f : Node → Node) : (c.modNode f).keys = c.keys := rfl
@[simp] theorem modNode_lnk (c : Core) (f : Node → Node) : (c.modNode f).lnk = c.lnk := rfl
@[simp] theorem modNode_hp (c : Core) (f : Node → Node) : (c.modNode f).hp = c.hp := rfl
@[simp] theorem modNode_hg (c : Core) (f : Node → Node) : (c.modNode f).hg = c.hg := rfl
@[simp] theorem modNode_acq (c : Core) (f : Node → Node) : (c.modNode f).acq = c.acq := rfl
@[simp] theorem modNode_node (c : Core) (f : Node → Node) : (c.modNode f).node = f c.node := rfl
@[simp] theorem modNode_trk (c : Core) (f : Node → Node) : (c.modNode f).trk = c.trk := rfl
@[simp] theorem modNode_ten (c : Core) (f : Node → Node) : (c.modNode f).ten = c.ten := rfl
@[simp] theorem modNode_qs (c : Core) (f : Node → Node) : (c.modNode f).qs = c.qs := rfl
@[simp] theorem modNode_pk (c : Core) (f : Node → Node) : (c.modNode f).pk = c.pk := rfl
@[simp] theorem modNode_rep (c : Core) (f : Node → Node) : (c.modNode f).rep = c.rep := rfl
@[simp] theorem modNode_free (c : Core) (f : Node → Node) : (c.modNode f).free = c.free := rfl

@[simp] theorem modAcq_pw (c : Core) (f : Acq → Acq) : (c.modAcq f).pw = c.pw := rfl
@[simp] theorem modAcq_ret (c : Core) (f : Acq → Acq) : (c.modAcq f).ret = c.ret := rfl
@[simp] theorem modAcq_otpc (c : Core) (f : Acq → Acq) : (c.modAcq f).otpc = c.otpc := rfl
@[simp] theorem modAcq_keyProg (c : Core) (f : Acq → Acq) : (c.modAcq f).keyProg = c.keyProg := rfl
@[simp] theorem modAcq_nvm (c : Core) (f : Acq → Acq) : (c.modAcq f).nvm = c.nvm := rfl
@[simp] theorem modAcq_host (c : Core) (f : Acq → Acq) : (c.modAcq f).host = c.host := rfl
@[simp] theorem modAcq_prof (c : Core) (f : Acq → Acq) : (c.modAcq f).prof = c.prof := rfl
@[simp] theorem modAcq_slot (c : Core) (f : Acq → Acq) : (c.modAcq f).slot = c.slot := rfl
@[simp] theorem modAcq_gen (c : Core) (f : Acq → Acq) : (c.modAcq f).gen = c.gen := rfl
@[simp] theorem modAcq_image (c : Core) (f : Acq → Acq) : (c.modAcq f).image = c.image := rfl
@[simp] theorem modAcq_newProf (c : Core) (f : Acq → Acq) : (c.modAcq f).newProf = c.newProf := rfl
@[simp] theorem modAcq_sar (c : Core) (f : Acq → Acq) : (c.modAcq f).sar = c.sar := rfl
@[simp] theorem modAcq_keys (c : Core) (f : Acq → Acq) : (c.modAcq f).keys = c.keys := rfl
@[simp] theorem modAcq_lnk (c : Core) (f : Acq → Acq) : (c.modAcq f).lnk = c.lnk := rfl
@[simp] theorem modAcq_hp (c : Core) (f : Acq → Acq) : (c.modAcq f).hp = c.hp := rfl
@[simp] theorem modAcq_hg (c : Core) (f : Acq → Acq) : (c.modAcq f).hg = c.hg := rfl
@[simp] theorem modAcq_acq (c : Core) (f : Acq → Acq) : (c.modAcq f).acq = f c.acq := rfl
@[simp] theorem modAcq_node (c : Core) (f : Acq → Acq) : (c.modAcq f).node = c.node := rfl
@[simp] theorem modAcq_trk (c : Core) (f : Acq → Acq) : (c.modAcq f).trk = c.trk := rfl
@[simp] theorem modAcq_ten (c : Core) (f : Acq → Acq) : (c.modAcq f).ten = c.ten := rfl
@[simp] theorem modAcq_qs (c : Core) (f : Acq → Acq) : (c.modAcq f).qs = c.qs := rfl
@[simp] theorem modAcq_pk (c : Core) (f : Acq → Acq) : (c.modAcq f).pk = c.pk := rfl
@[simp] theorem modAcq_rep (c : Core) (f : Acq → Acq) : (c.modAcq f).rep = c.rep := rfl
@[simp] theorem modAcq_free (c : Core) (f : Acq → Acq) : (c.modAcq f).free = c.free := rfl

@[simp] theorem modTrk_pw (c : Core) (f : Track → Track) : (c.modTrk f).pw = c.pw := rfl
@[simp] theorem modTrk_ret (c : Core) (f : Track → Track) : (c.modTrk f).ret = c.ret := rfl
@[simp] theorem modTrk_otpc (c : Core) (f : Track → Track) : (c.modTrk f).otpc = c.otpc := rfl
@[simp] theorem modTrk_keyProg (c : Core) (f : Track → Track) : (c.modTrk f).keyProg = c.keyProg := rfl
@[simp] theorem modTrk_nvm (c : Core) (f : Track → Track) : (c.modTrk f).nvm = c.nvm := rfl
@[simp] theorem modTrk_host (c : Core) (f : Track → Track) : (c.modTrk f).host = c.host := rfl
@[simp] theorem modTrk_prof (c : Core) (f : Track → Track) : (c.modTrk f).prof = c.prof := rfl
@[simp] theorem modTrk_slot (c : Core) (f : Track → Track) : (c.modTrk f).slot = c.slot := rfl
@[simp] theorem modTrk_gen (c : Core) (f : Track → Track) : (c.modTrk f).gen = c.gen := rfl
@[simp] theorem modTrk_image (c : Core) (f : Track → Track) : (c.modTrk f).image = c.image := rfl
@[simp] theorem modTrk_newProf (c : Core) (f : Track → Track) : (c.modTrk f).newProf = c.newProf := rfl
@[simp] theorem modTrk_sar (c : Core) (f : Track → Track) : (c.modTrk f).sar = c.sar := rfl
@[simp] theorem modTrk_keys (c : Core) (f : Track → Track) : (c.modTrk f).keys = c.keys := rfl
@[simp] theorem modTrk_lnk (c : Core) (f : Track → Track) : (c.modTrk f).lnk = c.lnk := rfl
@[simp] theorem modTrk_hp (c : Core) (f : Track → Track) : (c.modTrk f).hp = c.hp := rfl
@[simp] theorem modTrk_hg (c : Core) (f : Track → Track) : (c.modTrk f).hg = c.hg := rfl
@[simp] theorem modTrk_acq (c : Core) (f : Track → Track) : (c.modTrk f).acq = c.acq := rfl
@[simp] theorem modTrk_node (c : Core) (f : Track → Track) : (c.modTrk f).node = c.node := rfl
@[simp] theorem modTrk_trk (c : Core) (f : Track → Track) : (c.modTrk f).trk = f c.trk := rfl
@[simp] theorem modTrk_ten (c : Core) (f : Track → Track) : (c.modTrk f).ten = c.ten := rfl
@[simp] theorem modTrk_qs (c : Core) (f : Track → Track) : (c.modTrk f).qs = c.qs := rfl
@[simp] theorem modTrk_pk (c : Core) (f : Track → Track) : (c.modTrk f).pk = c.pk := rfl
@[simp] theorem modTrk_rep (c : Core) (f : Track → Track) : (c.modTrk f).rep = c.rep := rfl
@[simp] theorem modTrk_free (c : Core) (f : Track → Track) : (c.modTrk f).free = c.free := rfl

@[simp] theorem modRep_pw (c : Core) (f : Repair → Repair) : (c.modRep f).pw = c.pw := rfl
@[simp] theorem modRep_ret (c : Core) (f : Repair → Repair) : (c.modRep f).ret = c.ret := rfl
@[simp] theorem modRep_otpc (c : Core) (f : Repair → Repair) : (c.modRep f).otpc = c.otpc := rfl
@[simp] theorem modRep_keyProg (c : Core) (f : Repair → Repair) : (c.modRep f).keyProg = c.keyProg := rfl
@[simp] theorem modRep_nvm (c : Core) (f : Repair → Repair) : (c.modRep f).nvm = c.nvm := rfl
@[simp] theorem modRep_host (c : Core) (f : Repair → Repair) : (c.modRep f).host = c.host := rfl
@[simp] theorem modRep_prof (c : Core) (f : Repair → Repair) : (c.modRep f).prof = c.prof := rfl
@[simp] theorem modRep_slot (c : Core) (f : Repair → Repair) : (c.modRep f).slot = c.slot := rfl
@[simp] theorem modRep_gen (c : Core) (f : Repair → Repair) : (c.modRep f).gen = c.gen := rfl
@[simp] theorem modRep_image (c : Core) (f : Repair → Repair) : (c.modRep f).image = c.image := rfl
@[simp] theorem modRep_newProf (c : Core) (f : Repair → Repair) : (c.modRep f).newProf = c.newProf := rfl
@[simp] theorem modRep_sar (c : Core) (f : Repair → Repair) : (c.modRep f).sar = c.sar := rfl
@[simp] theorem modRep_keys (c : Core) (f : Repair → Repair) : (c.modRep f).keys = c.keys := rfl
@[simp] theorem modRep_lnk (c : Core) (f : Repair → Repair) : (c.modRep f).lnk = c.lnk := rfl
@[simp] theorem modRep_hp (c : Core) (f : Repair → Repair) : (c.modRep f).hp = c.hp := rfl
@[simp] theorem modRep_hg (c : Core) (f : Repair → Repair) : (c.modRep f).hg = c.hg := rfl
@[simp] theorem modRep_acq (c : Core) (f : Repair → Repair) : (c.modRep f).acq = c.acq := rfl
@[simp] theorem modRep_node (c : Core) (f : Repair → Repair) : (c.modRep f).node = c.node := rfl
@[simp] theorem modRep_trk (c : Core) (f : Repair → Repair) : (c.modRep f).trk = c.trk := rfl
@[simp] theorem modRep_ten (c : Core) (f : Repair → Repair) : (c.modRep f).ten = c.ten := rfl
@[simp] theorem modRep_qs (c : Core) (f : Repair → Repair) : (c.modRep f).qs = c.qs := rfl
@[simp] theorem modRep_pk (c : Core) (f : Repair → Repair) : (c.modRep f).pk = c.pk := rfl
@[simp] theorem modRep_rep (c : Core) (f : Repair → Repair) : (c.modRep f).rep = f c.rep := rfl
@[simp] theorem modRep_free (c : Core) (f : Repair → Repair) : (c.modRep f).free = c.free := rfl

@[simp] theorem modTele_pw (c : Core) (f : Tele → Tele) : (c.modTele f).pw = c.pw := rfl
@[simp] theorem modTele_ret (c : Core) (f : Tele → Tele) : (c.modTele f).ret = c.ret := rfl
@[simp] theorem modTele_otpc (c : Core) (f : Tele → Tele) : (c.modTele f).otpc = c.otpc := rfl
@[simp] theorem modTele_keyProg (c : Core) (f : Tele → Tele) : (c.modTele f).keyProg = c.keyProg := rfl
@[simp] theorem modTele_nvm (c : Core) (f : Tele → Tele) : (c.modTele f).nvm = c.nvm := rfl
@[simp] theorem modTele_host (c : Core) (f : Tele → Tele) : (c.modTele f).host = c.host := rfl
@[simp] theorem modTele_prof (c : Core) (f : Tele → Tele) : (c.modTele f).prof = c.prof := rfl
@[simp] theorem modTele_slot (c : Core) (f : Tele → Tele) : (c.modTele f).slot = c.slot := rfl
@[simp] theorem modTele_gen (c : Core) (f : Tele → Tele) : (c.modTele f).gen = c.gen := rfl
@[simp] theorem modTele_image (c : Core) (f : Tele → Tele) : (c.modTele f).image = c.image := rfl
@[simp] theorem modTele_newProf (c : Core) (f : Tele → Tele) : (c.modTele f).newProf = c.newProf := rfl
@[simp] theorem modTele_sar (c : Core) (f : Tele → Tele) : (c.modTele f).sar = c.sar := rfl
@[simp] theorem modTele_keys (c : Core) (f : Tele → Tele) : (c.modTele f).keys = c.keys := rfl
@[simp] theorem modTele_lnk (c : Core) (f : Tele → Tele) : (c.modTele f).lnk = c.lnk := rfl
@[simp] theorem modTele_hp (c : Core) (f : Tele → Tele) : (c.modTele f).hp = c.hp := rfl
@[simp] theorem modTele_hg (c : Core) (f : Tele → Tele) : (c.modTele f).hg = c.hg := rfl
@[simp] theorem modTele_acq (c : Core) (f : Tele → Tele) : (c.modTele f).acq = c.acq := rfl
@[simp] theorem modTele_node (c : Core) (f : Tele → Tele) : (c.modTele f).node = c.node := rfl
@[simp] theorem modTele_trk (c : Core) (f : Tele → Tele) : (c.modTele f).trk = c.trk := rfl
@[simp] theorem modTele_ten (c : Core) (f : Tele → Tele) : (c.modTele f).ten = c.ten := rfl
@[simp] theorem modTele_qs (c : Core) (f : Tele → Tele) : (c.modTele f).qs = c.qs := rfl
@[simp] theorem modTele_pk (c : Core) (f : Tele → Tele) : (c.modTele f).pk = c.pk := rfl
@[simp] theorem modTele_rep (c : Core) (f : Tele → Tele) : (c.modTele f).rep = { c.rep with tele := f c.rep.tele } := rfl
@[simp] theorem modTele_free (c : Core) (f : Tele → Tele) : (c.modTele f).free = c.free := rfl

@[simp] theorem modPort_pw (c : Core) (p : Port) (f : LinkPort → LinkPort) : (c.modPort p f).pw = c.pw := rfl
@[simp] theorem modPort_ret (c : Core) (p : Port) (f : LinkPort → LinkPort) : (c.modPort p f).ret = c.ret := rfl
@[simp] theorem modPort_otpc (c : Core) (p : Port) (f : LinkPort → LinkPort) : (c.modPort p f).otpc = c.otpc := rfl
@[simp] theorem modPort_keyProg (c : Core) (p : Port) (f : LinkPort → LinkPort) : (c.modPort p f).keyProg = c.keyProg := rfl
@[simp] theorem modPort_nvm (c : Core) (p : Port) (f : LinkPort → LinkPort) : (c.modPort p f).nvm = c.nvm := rfl
@[simp] theorem modPort_host (c : Core) (p : Port) (f : LinkPort → LinkPort) : (c.modPort p f).host = c.host := rfl
@[simp] theorem modPort_prof (c : Core) (p : Port) (f : LinkPort → LinkPort) : (c.modPort p f).prof = c.prof := rfl
@[simp] theorem modPort_slot (c : Core) (p : Port) (f : LinkPort → LinkPort) : (c.modPort p f).slot = c.slot := rfl
@[simp] theorem modPort_gen (c : Core) (p : Port) (f : LinkPort → LinkPort) : (c.modPort p f).gen = c.gen := rfl
@[simp] theorem modPort_image (c : Core) (p : Port) (f : LinkPort → LinkPort) : (c.modPort p f).image = c.image := rfl
@[simp] theorem modPort_newProf (c : Core) (p : Port) (f : LinkPort → LinkPort) : (c.modPort p f).newProf = c.newProf := rfl
@[simp] theorem modPort_sar (c : Core) (p : Port) (f : LinkPort → LinkPort) : (c.modPort p f).sar = c.sar := rfl
@[simp] theorem modPort_keys (c : Core) (p : Port) (f : LinkPort → LinkPort) : (c.modPort p f).keys = c.keys := rfl
@[simp] theorem modPort_lnk (c : Core) (p : Port) (f : LinkPort → LinkPort) : (c.modPort p f).lnk = modifyAt c.lnk p.val f := rfl
@[simp] theorem modPort_hp (c : Core) (p : Port) (f : LinkPort → LinkPort) : (c.modPort p f).hp = c.hp := rfl
@[simp] theorem modPort_hg (c : Core) (p : Port) (f : LinkPort → LinkPort) : (c.modPort p f).hg = c.hg := rfl
@[simp] theorem modPort_acq (c : Core) (p : Port) (f : LinkPort → LinkPort) : (c.modPort p f).acq = c.acq := rfl
@[simp] theorem modPort_node (c : Core) (p : Port) (f : LinkPort → LinkPort) : (c.modPort p f).node = c.node := rfl
@[simp] theorem modPort_trk (c : Core) (p : Port) (f : LinkPort → LinkPort) : (c.modPort p f).trk = c.trk := rfl
@[simp] theorem modPort_ten (c : Core) (p : Port) (f : LinkPort → LinkPort) : (c.modPort p f).ten = c.ten := rfl
@[simp] theorem modPort_qs (c : Core) (p : Port) (f : LinkPort → LinkPort) : (c.modPort p f).qs = c.qs := rfl
@[simp] theorem modPort_pk (c : Core) (p : Port) (f : LinkPort → LinkPort) : (c.modPort p f).pk = c.pk := rfl
@[simp] theorem modPort_rep (c : Core) (p : Port) (f : LinkPort → LinkPort) : (c.modPort p f).rep = c.rep := rfl
@[simp] theorem modPort_free (c : Core) (p : Port) (f : LinkPort → LinkPort) : (c.modPort p f).free = c.free := rfl

@[simp] theorem modHp_pw (c : Core) (p : Port) (f : HedgePort → HedgePort) : (c.modHp p f).pw = c.pw := rfl
@[simp] theorem modHp_ret (c : Core) (p : Port) (f : HedgePort → HedgePort) : (c.modHp p f).ret = c.ret := rfl
@[simp] theorem modHp_otpc (c : Core) (p : Port) (f : HedgePort → HedgePort) : (c.modHp p f).otpc = c.otpc := rfl
@[simp] theorem modHp_keyProg (c : Core) (p : Port) (f : HedgePort → HedgePort) : (c.modHp p f).keyProg = c.keyProg := rfl
@[simp] theorem modHp_nvm (c : Core) (p : Port) (f : HedgePort → HedgePort) : (c.modHp p f).nvm = c.nvm := rfl
@[simp] theorem modHp_host (c : Core) (p : Port) (f : HedgePort → HedgePort) : (c.modHp p f).host = c.host := rfl
@[simp] theorem modHp_prof (c : Core) (p : Port) (f : HedgePort → HedgePort) : (c.modHp p f).prof = c.prof := rfl
@[simp] theorem modHp_slot (c : Core) (p : Port) (f : HedgePort → HedgePort) : (c.modHp p f).slot = c.slot := rfl
@[simp] theorem modHp_gen (c : Core) (p : Port) (f : HedgePort → HedgePort) : (c.modHp p f).gen = c.gen := rfl
@[simp] theorem modHp_image (c : Core) (p : Port) (f : HedgePort → HedgePort) : (c.modHp p f).image = c.image := rfl
@[simp] theorem modHp_newProf (c : Core) (p : Port) (f : HedgePort → HedgePort) : (c.modHp p f).newProf = c.newProf := rfl
@[simp] theorem modHp_sar (c : Core) (p : Port) (f : HedgePort → HedgePort) : (c.modHp p f).sar = c.sar := rfl
@[simp] theorem modHp_keys (c : Core) (p : Port) (f : HedgePort → HedgePort) : (c.modHp p f).keys = c.keys := rfl
@[simp] theorem modHp_lnk (c : Core) (p : Port) (f : HedgePort → HedgePort) : (c.modHp p f).lnk = c.lnk := rfl
@[simp] theorem modHp_hp (c : Core) (p : Port) (f : HedgePort → HedgePort) : (c.modHp p f).hp = modifyAt c.hp p.val f := rfl
@[simp] theorem modHp_hg (c : Core) (p : Port) (f : HedgePort → HedgePort) : (c.modHp p f).hg = c.hg := rfl
@[simp] theorem modHp_acq (c : Core) (p : Port) (f : HedgePort → HedgePort) : (c.modHp p f).acq = c.acq := rfl
@[simp] theorem modHp_node (c : Core) (p : Port) (f : HedgePort → HedgePort) : (c.modHp p f).node = c.node := rfl
@[simp] theorem modHp_trk (c : Core) (p : Port) (f : HedgePort → HedgePort) : (c.modHp p f).trk = c.trk := rfl
@[simp] theorem modHp_ten (c : Core) (p : Port) (f : HedgePort → HedgePort) : (c.modHp p f).ten = c.ten := rfl
@[simp] theorem modHp_qs (c : Core) (p : Port) (f : HedgePort → HedgePort) : (c.modHp p f).qs = c.qs := rfl
@[simp] theorem modHp_pk (c : Core) (p : Port) (f : HedgePort → HedgePort) : (c.modHp p f).pk = c.pk := rfl
@[simp] theorem modHp_rep (c : Core) (p : Port) (f : HedgePort → HedgePort) : (c.modHp p f).rep = c.rep := rfl
@[simp] theorem modHp_free (c : Core) (p : Port) (f : HedgePort → HedgePort) : (c.modHp p f).free = c.free := rfl

@[simp] theorem modQueue_pw (c : Core) (t : Tenant) (f : Queue → Queue) : (c.modQueue t f).pw = c.pw := rfl
@[simp] theorem modQueue_ret (c : Core) (t : Tenant) (f : Queue → Queue) : (c.modQueue t f).ret = c.ret := rfl
@[simp] theorem modQueue_otpc (c : Core) (t : Tenant) (f : Queue → Queue) : (c.modQueue t f).otpc = c.otpc := rfl
@[simp] theorem modQueue_keyProg (c : Core) (t : Tenant) (f : Queue → Queue) : (c.modQueue t f).keyProg = c.keyProg := rfl
@[simp] theorem modQueue_nvm (c : Core) (t : Tenant) (f : Queue → Queue) : (c.modQueue t f).nvm = c.nvm := rfl
@[simp] theorem modQueue_host (c : Core) (t : Tenant) (f : Queue → Queue) : (c.modQueue t f).host = c.host := rfl
@[simp] theorem modQueue_prof (c : Core) (t : Tenant) (f : Queue → Queue) : (c.modQueue t f).prof = c.prof := rfl
@[simp] theorem modQueue_slot (c : Core) (t : Tenant) (f : Queue → Queue) : (c.modQueue t f).slot = c.slot := rfl
@[simp] theorem modQueue_gen (c : Core) (t : Tenant) (f : Queue → Queue) : (c.modQueue t f).gen = c.gen := rfl
@[simp] theorem modQueue_image (c : Core) (t : Tenant) (f : Queue → Queue) : (c.modQueue t f).image = c.image := rfl
@[simp] theorem modQueue_newProf (c : Core) (t : Tenant) (f : Queue → Queue) : (c.modQueue t f).newProf = c.newProf := rfl
@[simp] theorem modQueue_sar (c : Core) (t : Tenant) (f : Queue → Queue) : (c.modQueue t f).sar = c.sar := rfl
@[simp] theorem modQueue_keys (c : Core) (t : Tenant) (f : Queue → Queue) : (c.modQueue t f).keys = c.keys := rfl
@[simp] theorem modQueue_lnk (c : Core) (t : Tenant) (f : Queue → Queue) : (c.modQueue t f).lnk = c.lnk := rfl
@[simp] theorem modQueue_hp (c : Core) (t : Tenant) (f : Queue → Queue) : (c.modQueue t f).hp = c.hp := rfl
@[simp] theorem modQueue_hg (c : Core) (t : Tenant) (f : Queue → Queue) : (c.modQueue t f).hg = c.hg := rfl
@[simp] theorem modQueue_acq (c : Core) (t : Tenant) (f : Queue → Queue) : (c.modQueue t f).acq = c.acq := rfl
@[simp] theorem modQueue_node (c : Core) (t : Tenant) (f : Queue → Queue) : (c.modQueue t f).node = c.node := rfl
@[simp] theorem modQueue_trk (c : Core) (t : Tenant) (f : Queue → Queue) : (c.modQueue t f).trk = c.trk := rfl
@[simp] theorem modQueue_ten (c : Core) (t : Tenant) (f : Queue → Queue) : (c.modQueue t f).ten = c.ten := rfl
@[simp] theorem modQueue_qs (c : Core) (t : Tenant) (f : Queue → Queue) : (c.modQueue t f).qs = modifyAt c.qs t.val f := rfl
@[simp] theorem modQueue_pk (c : Core) (t : Tenant) (f : Queue → Queue) : (c.modQueue t f).pk = c.pk := rfl
@[simp] theorem modQueue_rep (c : Core) (t : Tenant) (f : Queue → Queue) : (c.modQueue t f).rep = c.rep := rfl
@[simp] theorem modQueue_free (c : Core) (t : Tenant) (f : Queue → Queue) : (c.modQueue t f).free = c.free := rfl

@[simp] theorem modTenantSt_pw (c : Core) (t : Tenant) (f : TenantSt → TenantSt) : (c.modTenantSt t f).pw = c.pw := rfl
@[simp] theorem modTenantSt_ret (c : Core) (t : Tenant) (f : TenantSt → TenantSt) : (c.modTenantSt t f).ret = c.ret := rfl
@[simp] theorem modTenantSt_otpc (c : Core) (t : Tenant) (f : TenantSt → TenantSt) : (c.modTenantSt t f).otpc = c.otpc := rfl
@[simp] theorem modTenantSt_keyProg (c : Core) (t : Tenant) (f : TenantSt → TenantSt) : (c.modTenantSt t f).keyProg = c.keyProg := rfl
@[simp] theorem modTenantSt_nvm (c : Core) (t : Tenant) (f : TenantSt → TenantSt) : (c.modTenantSt t f).nvm = c.nvm := rfl
@[simp] theorem modTenantSt_host (c : Core) (t : Tenant) (f : TenantSt → TenantSt) : (c.modTenantSt t f).host = c.host := rfl
@[simp] theorem modTenantSt_prof (c : Core) (t : Tenant) (f : TenantSt → TenantSt) : (c.modTenantSt t f).prof = c.prof := rfl
@[simp] theorem modTenantSt_slot (c : Core) (t : Tenant) (f : TenantSt → TenantSt) : (c.modTenantSt t f).slot = c.slot := rfl
@[simp] theorem modTenantSt_gen (c : Core) (t : Tenant) (f : TenantSt → TenantSt) : (c.modTenantSt t f).gen = c.gen := rfl
@[simp] theorem modTenantSt_image (c : Core) (t : Tenant) (f : TenantSt → TenantSt) : (c.modTenantSt t f).image = c.image := rfl
@[simp] theorem modTenantSt_newProf (c : Core) (t : Tenant) (f : TenantSt → TenantSt) : (c.modTenantSt t f).newProf = c.newProf := rfl
@[simp] theorem modTenantSt_sar (c : Core) (t : Tenant) (f : TenantSt → TenantSt) : (c.modTenantSt t f).sar = c.sar := rfl
@[simp] theorem modTenantSt_keys (c : Core) (t : Tenant) (f : TenantSt → TenantSt) : (c.modTenantSt t f).keys = c.keys := rfl
@[simp] theorem modTenantSt_lnk (c : Core) (t : Tenant) (f : TenantSt → TenantSt) : (c.modTenantSt t f).lnk = c.lnk := rfl
@[simp] theorem modTenantSt_hp (c : Core) (t : Tenant) (f : TenantSt → TenantSt) : (c.modTenantSt t f).hp = c.hp := rfl
@[simp] theorem modTenantSt_hg (c : Core) (t : Tenant) (f : TenantSt → TenantSt) : (c.modTenantSt t f).hg = c.hg := rfl
@[simp] theorem modTenantSt_acq (c : Core) (t : Tenant) (f : TenantSt → TenantSt) : (c.modTenantSt t f).acq = c.acq := rfl
@[simp] theorem modTenantSt_node (c : Core) (t : Tenant) (f : TenantSt → TenantSt) : (c.modTenantSt t f).node = c.node := rfl
@[simp] theorem modTenantSt_trk (c : Core) (t : Tenant) (f : TenantSt → TenantSt) : (c.modTenantSt t f).trk = c.trk := rfl
@[simp] theorem modTenantSt_ten (c : Core) (t : Tenant) (f : TenantSt → TenantSt) : (c.modTenantSt t f).ten = modifyAt c.ten t.val f := rfl
@[simp] theorem modTenantSt_qs (c : Core) (t : Tenant) (f : TenantSt → TenantSt) : (c.modTenantSt t f).qs = c.qs := rfl
@[simp] theorem modTenantSt_pk (c : Core) (t : Tenant) (f : TenantSt → TenantSt) : (c.modTenantSt t f).pk = c.pk := rfl
@[simp] theorem modTenantSt_rep (c : Core) (t : Tenant) (f : TenantSt → TenantSt) : (c.modTenantSt t f).rep = c.rep := rfl
@[simp] theorem modTenantSt_free (c : Core) (t : Tenant) (f : TenantSt → TenantSt) : (c.modTenantSt t f).free = c.free := rfl

@[simp] theorem modTenantRec_pw (c : Core) (t : Tenant) (f : TenantRec → TenantRec) : (c.modTenantRec t f).pw = c.pw := rfl
@[simp] theorem modTenantRec_ret (c : Core) (t : Tenant) (f : TenantRec → TenantRec) : (c.modTenantRec t f).ret = c.ret := rfl
@[simp] theorem modTenantRec_otpc (c : Core) (t : Tenant) (f : TenantRec → TenantRec) : (c.modTenantRec t f).otpc = c.otpc := rfl
@[simp] theorem modTenantRec_keyProg (c : Core) (t : Tenant) (f : TenantRec → TenantRec) : (c.modTenantRec t f).keyProg = c.keyProg := rfl
@[simp] theorem modTenantRec_nvm (c : Core) (t : Tenant) (f : TenantRec → TenantRec) : (c.modTenantRec t f).nvm = { c.nvm with tenants := modifyAt c.nvm.tenants t.val f } := rfl
@[simp] theorem modTenantRec_host (c : Core) (t : Tenant) (f : TenantRec → TenantRec) : (c.modTenantRec t f).host = c.host := rfl
@[simp] theorem modTenantRec_prof (c : Core) (t : Tenant) (f : TenantRec → TenantRec) : (c.modTenantRec t f).prof = c.prof := rfl
@[simp] theorem modTenantRec_slot (c : Core) (t : Tenant) (f : TenantRec → TenantRec) : (c.modTenantRec t f).slot = c.slot := rfl
@[simp] theorem modTenantRec_gen (c : Core) (t : Tenant) (f : TenantRec → TenantRec) : (c.modTenantRec t f).gen = c.gen := rfl
@[simp] theorem modTenantRec_image (c : Core) (t : Tenant) (f : TenantRec → TenantRec) : (c.modTenantRec t f).image = c.image := rfl
@[simp] theorem modTenantRec_newProf (c : Core) (t : Tenant) (f : TenantRec → TenantRec) : (c.modTenantRec t f).newProf = c.newProf := rfl
@[simp] theorem modTenantRec_sar (c : Core) (t : Tenant) (f : TenantRec → TenantRec) : (c.modTenantRec t f).sar = c.sar := rfl
@[simp] theorem modTenantRec_keys (c : Core) (t : Tenant) (f : TenantRec → TenantRec) : (c.modTenantRec t f).keys = c.keys := rfl
@[simp] theorem modTenantRec_lnk (c : Core) (t : Tenant) (f : TenantRec → TenantRec) : (c.modTenantRec t f).lnk = c.lnk := rfl
@[simp] theorem modTenantRec_hp (c : Core) (t : Tenant) (f : TenantRec → TenantRec) : (c.modTenantRec t f).hp = c.hp := rfl
@[simp] theorem modTenantRec_hg (c : Core) (t : Tenant) (f : TenantRec → TenantRec) : (c.modTenantRec t f).hg = c.hg := rfl
@[simp] theorem modTenantRec_acq (c : Core) (t : Tenant) (f : TenantRec → TenantRec) : (c.modTenantRec t f).acq = c.acq := rfl
@[simp] theorem modTenantRec_node (c : Core) (t : Tenant) (f : TenantRec → TenantRec) : (c.modTenantRec t f).node = c.node := rfl
@[simp] theorem modTenantRec_trk (c : Core) (t : Tenant) (f : TenantRec → TenantRec) : (c.modTenantRec t f).trk = c.trk := rfl
@[simp] theorem modTenantRec_ten (c : Core) (t : Tenant) (f : TenantRec → TenantRec) : (c.modTenantRec t f).ten = c.ten := rfl
@[simp] theorem modTenantRec_qs (c : Core) (t : Tenant) (f : TenantRec → TenantRec) : (c.modTenantRec t f).qs = c.qs := rfl
@[simp] theorem modTenantRec_pk (c : Core) (t : Tenant) (f : TenantRec → TenantRec) : (c.modTenantRec t f).pk = c.pk := rfl
@[simp] theorem modTenantRec_rep (c : Core) (t : Tenant) (f : TenantRec → TenantRec) : (c.modTenantRec t f).rep = c.rep := rfl
@[simp] theorem modTenantRec_free (c : Core) (t : Tenant) (f : TenantRec → TenantRec) : (c.modTenantRec t f).free = c.free := rfl

@[simp] theorem modLadder_pw (c : Core) (l : Ladder) (f : LadderSt → LadderSt) : (c.modLadder l f).pw = c.pw := rfl
@[simp] theorem modLadder_ret (c : Core) (l : Ladder) (f : LadderSt → LadderSt) : (c.modLadder l f).ret = c.ret := rfl
@[simp] theorem modLadder_otpc (c : Core) (l : Ladder) (f : LadderSt → LadderSt) : (c.modLadder l f).otpc = c.otpc := rfl
@[simp] theorem modLadder_keyProg (c : Core) (l : Ladder) (f : LadderSt → LadderSt) : (c.modLadder l f).keyProg = c.keyProg := rfl
@[simp] theorem modLadder_nvm (c : Core) (l : Ladder) (f : LadderSt → LadderSt) : (c.modLadder l f).nvm = c.nvm := rfl
@[simp] theorem modLadder_host (c : Core) (l : Ladder) (f : LadderSt → LadderSt) : (c.modLadder l f).host = c.host := rfl
@[simp] theorem modLadder_prof (c : Core) (l : Ladder) (f : LadderSt → LadderSt) : (c.modLadder l f).prof = c.prof := rfl
@[simp] theorem modLadder_slot (c : Core) (l : Ladder) (f : LadderSt → LadderSt) : (c.modLadder l f).slot = c.slot := rfl
@[simp] theorem modLadder_gen (c : Core) (l : Ladder) (f : LadderSt → LadderSt) : (c.modLadder l f).gen = c.gen := rfl
@[simp] theorem modLadder_image (c : Core) (l : Ladder) (f : LadderSt → LadderSt) : (c.modLadder l f).image = c.image := rfl
@[simp] theorem modLadder_newProf (c : Core) (l : Ladder) (f : LadderSt → LadderSt) : (c.modLadder l f).newProf = c.newProf := rfl
@[simp] theorem modLadder_sar (c : Core) (l : Ladder) (f : LadderSt → LadderSt) : (c.modLadder l f).sar = c.sar := rfl
@[simp] theorem modLadder_keys (c : Core) (l : Ladder) (f : LadderSt → LadderSt) : (c.modLadder l f).keys = { c.keys with ladders := modifyAt c.keys.ladders l.val f } := rfl
@[simp] theorem modLadder_lnk (c : Core) (l : Ladder) (f : LadderSt → LadderSt) : (c.modLadder l f).lnk = c.lnk := rfl
@[simp] theorem modLadder_hp (c : Core) (l : Ladder) (f : LadderSt → LadderSt) : (c.modLadder l f).hp = c.hp := rfl
@[simp] theorem modLadder_hg (c : Core) (l : Ladder) (f : LadderSt → LadderSt) : (c.modLadder l f).hg = c.hg := rfl
@[simp] theorem modLadder_acq (c : Core) (l : Ladder) (f : LadderSt → LadderSt) : (c.modLadder l f).acq = c.acq := rfl
@[simp] theorem modLadder_node (c : Core) (l : Ladder) (f : LadderSt → LadderSt) : (c.modLadder l f).node = c.node := rfl
@[simp] theorem modLadder_trk (c : Core) (l : Ladder) (f : LadderSt → LadderSt) : (c.modLadder l f).trk = c.trk := rfl
@[simp] theorem modLadder_ten (c : Core) (l : Ladder) (f : LadderSt → LadderSt) : (c.modLadder l f).ten = c.ten := rfl
@[simp] theorem modLadder_qs (c : Core) (l : Ladder) (f : LadderSt → LadderSt) : (c.modLadder l f).qs = c.qs := rfl
@[simp] theorem modLadder_pk (c : Core) (l : Ladder) (f : LadderSt → LadderSt) : (c.modLadder l f).pk = c.pk := rfl
@[simp] theorem modLadder_rep (c : Core) (l : Ladder) (f : LadderSt → LadderSt) : (c.modLadder l f).rep = c.rep := rfl
@[simp] theorem modLadder_free (c : Core) (l : Ladder) (f : LadderSt → LadderSt) : (c.modLadder l f).free = c.free := rfl

@[simp] theorem modEnc_pw (c : Core) (e : Fin 2) (f : Encoder → Encoder) : (c.modEnc e f).pw = c.pw := rfl
@[simp] theorem modEnc_ret (c : Core) (e : Fin 2) (f : Encoder → Encoder) : (c.modEnc e f).ret = c.ret := rfl
@[simp] theorem modEnc_otpc (c : Core) (e : Fin 2) (f : Encoder → Encoder) : (c.modEnc e f).otpc = c.otpc := rfl
@[simp] theorem modEnc_keyProg (c : Core) (e : Fin 2) (f : Encoder → Encoder) : (c.modEnc e f).keyProg = c.keyProg := rfl
@[simp] theorem modEnc_nvm (c : Core) (e : Fin 2) (f : Encoder → Encoder) : (c.modEnc e f).nvm = c.nvm := rfl
@[simp] theorem modEnc_host (c : Core) (e : Fin 2) (f : Encoder → Encoder) : (c.modEnc e f).host = c.host := rfl
@[simp] theorem modEnc_prof (c : Core) (e : Fin 2) (f : Encoder → Encoder) : (c.modEnc e f).prof = c.prof := rfl
@[simp] theorem modEnc_slot (c : Core) (e : Fin 2) (f : Encoder → Encoder) : (c.modEnc e f).slot = c.slot := rfl
@[simp] theorem modEnc_gen (c : Core) (e : Fin 2) (f : Encoder → Encoder) : (c.modEnc e f).gen = c.gen := rfl
@[simp] theorem modEnc_image (c : Core) (e : Fin 2) (f : Encoder → Encoder) : (c.modEnc e f).image = c.image := rfl
@[simp] theorem modEnc_newProf (c : Core) (e : Fin 2) (f : Encoder → Encoder) : (c.modEnc e f).newProf = c.newProf := rfl
@[simp] theorem modEnc_sar (c : Core) (e : Fin 2) (f : Encoder → Encoder) : (c.modEnc e f).sar = c.sar := rfl
@[simp] theorem modEnc_keys (c : Core) (e : Fin 2) (f : Encoder → Encoder) : (c.modEnc e f).keys = { c.keys with encs := modifyAt c.keys.encs e.val f } := rfl
@[simp] theorem modEnc_lnk (c : Core) (e : Fin 2) (f : Encoder → Encoder) : (c.modEnc e f).lnk = c.lnk := rfl
@[simp] theorem modEnc_hp (c : Core) (e : Fin 2) (f : Encoder → Encoder) : (c.modEnc e f).hp = c.hp := rfl
@[simp] theorem modEnc_hg (c : Core) (e : Fin 2) (f : Encoder → Encoder) : (c.modEnc e f).hg = c.hg := rfl
@[simp] theorem modEnc_acq (c : Core) (e : Fin 2) (f : Encoder → Encoder) : (c.modEnc e f).acq = c.acq := rfl
@[simp] theorem modEnc_node (c : Core) (e : Fin 2) (f : Encoder → Encoder) : (c.modEnc e f).node = c.node := rfl
@[simp] theorem modEnc_trk (c : Core) (e : Fin 2) (f : Encoder → Encoder) : (c.modEnc e f).trk = c.trk := rfl
@[simp] theorem modEnc_ten (c : Core) (e : Fin 2) (f : Encoder → Encoder) : (c.modEnc e f).ten = c.ten := rfl
@[simp] theorem modEnc_qs (c : Core) (e : Fin 2) (f : Encoder → Encoder) : (c.modEnc e f).qs = c.qs := rfl
@[simp] theorem modEnc_pk (c : Core) (e : Fin 2) (f : Encoder → Encoder) : (c.modEnc e f).pk = c.pk := rfl
@[simp] theorem modEnc_rep (c : Core) (e : Fin 2) (f : Encoder → Encoder) : (c.modEnc e f).rep = c.rep := rfl
@[simp] theorem modEnc_free (c : Core) (e : Fin 2) (f : Encoder → Encoder) : (c.modEnc e f).free = c.free := rfl

@[simp] theorem attn_pw (c : Core) (n : Nat) : (c.attn n).pw = c.pw := by unfold attn; split <;> rfl
@[simp] theorem attn_ret (c : Core) (n : Nat) : (c.attn n).ret = c.ret := by unfold attn; split <;> rfl
@[simp] theorem attn_otpc (c : Core) (n : Nat) : (c.attn n).otpc = c.otpc := by unfold attn; split <;> rfl
@[simp] theorem attn_keyProg (c : Core) (n : Nat) : (c.attn n).keyProg = c.keyProg := by unfold attn; split <;> rfl
@[simp] theorem attn_nvm (c : Core) (n : Nat) : (c.attn n).nvm = c.nvm := by unfold attn; split <;> rfl
@[simp] theorem attn_prof (c : Core) (n : Nat) : (c.attn n).prof = c.prof := by unfold attn; split <;> rfl
@[simp] theorem attn_slot (c : Core) (n : Nat) : (c.attn n).slot = c.slot := by unfold attn; split <;> rfl
@[simp] theorem attn_gen (c : Core) (n : Nat) : (c.attn n).gen = c.gen := by unfold attn; split <;> rfl
@[simp] theorem attn_image (c : Core) (n : Nat) : (c.attn n).image = c.image := by unfold attn; split <;> rfl
@[simp] theorem attn_newProf (c : Core) (n : Nat) : (c.attn n).newProf = c.newProf := by unfold attn; split <;> rfl
@[simp] theorem attn_sar (c : Core) (n : Nat) : (c.attn n).sar = c.sar := by unfold attn; split <;> rfl
@[simp] theorem attn_keys (c : Core) (n : Nat) : (c.attn n).keys = c.keys := by unfold attn; split <;> rfl
@[simp] theorem attn_lnk (c : Core) (n : Nat) : (c.attn n).lnk = c.lnk := by unfold attn; split <;> rfl
@[simp] theorem attn_hp (c : Core) (n : Nat) : (c.attn n).hp = c.hp := by unfold attn; split <;> rfl
@[simp] theorem attn_hg (c : Core) (n : Nat) : (c.attn n).hg = c.hg := by unfold attn; split <;> rfl
@[simp] theorem attn_acq (c : Core) (n : Nat) : (c.attn n).acq = c.acq := by unfold attn; split <;> rfl
@[simp] theorem attn_node (c : Core) (n : Nat) : (c.attn n).node = c.node := by unfold attn; split <;> rfl
@[simp] theorem attn_trk (c : Core) (n : Nat) : (c.attn n).trk = c.trk := by unfold attn; split <;> rfl
@[simp] theorem attn_ten (c : Core) (n : Nat) : (c.attn n).ten = c.ten := by unfold attn; split <;> rfl
@[simp] theorem attn_qs (c : Core) (n : Nat) : (c.attn n).qs = c.qs := by unfold attn; split <;> rfl
@[simp] theorem attn_pk (c : Core) (n : Nat) : (c.attn n).pk = c.pk := by unfold attn; split <;> rfl
@[simp] theorem attn_rep (c : Core) (n : Nat) : (c.attn n).rep = c.rep := by unfold attn; split <;> rfl
@[simp] theorem attn_free (c : Core) (n : Nat) : (c.attn n).free = c.free := by unfold attn; split <;> rfl
@[simp] theorem attn_host_flags (c : Core) (n : Nat) : (c.attn n).host.flags = c.host.flags := by unfold attn; split <;> rfl
@[simp] theorem attn_host_attnen (c : Core) (n : Nat) : (c.attn n).host.attnen = c.host.attnen := by unfold attn; split <;> rfl
@[simp] theorem attn_host_firstWrite (c : Core) (n : Nat) : (c.attn n).host.firstWrite = c.host.firstWrite := by unfold attn; split <;> rfl
@[simp] theorem attn_host_txn (c : Core) (n : Nat) : (c.attn n).host.txn = c.host.txn := by unfold attn; split <;> rfl
@[simp] theorem attn_host_miso (c : Core) (n : Nat) : (c.attn n).host.miso = c.host.miso := by unfold attn; split <;> rfl
@[simp] theorem attn_host_csHeld (c : Core) (n : Nat) : (c.attn n).host.csHeld = c.host.csHeld := by unfold attn; split <;> rfl
@[simp] theorem attn_host_pktin (c : Core) (n : Nat) : (c.attn n).host.pktin = c.host.pktin := by unfold attn; split <;> rfl
@[simp] theorem attn_host_outHead (c : Core) (n : Nat) : (c.attn n).host.outHead = c.host.outHead := by unfold attn; split <;> rfl
@[simp] theorem attn_host_outRsp (c : Core) (n : Nat) : (c.attn n).host.outRsp = c.host.outRsp := by unfold attn; split <;> rfl
@[simp] theorem attn_host_evtPtr (c : Core) (n : Nat) : (c.attn n).host.evtPtr = c.host.evtPtr := by unfold attn; split <;> rfl
@[simp] theorem attn_host_rptPtr (c : Core) (n : Nat) : (c.attn n).host.rptPtr = c.host.rptPtr := by unfold attn; split <;> rfl
@[simp] theorem attn_host_snapHt (c : Core) (n : Nat) : (c.attn n).host.snapHt = c.host.snapHt := by unfold attn; split <;> rfl
@[simp] theorem attn_host_snapSar (c : Core) (n : Nat) : (c.attn n).host.snapSar = c.host.snapSar := by unfold attn; split <;> rfl
@[simp] theorem attn_host_snapRtc (c : Core) (n : Nat) : (c.attn n).host.snapRtc = c.host.snapRtc := by unfold attn; split <;> rfl
@[simp] theorem attn_host_snapLink (c : Core) (n : Nat) : (c.attn n).host.snapLink = c.host.snapLink := by unfold attn; split <;> rfl
@[simp] theorem attn_host_clrArm (c : Core) (n : Nat) : (c.attn n).host.clrArm = c.host.clrArm := by unfold attn; split <;> rfl
@[simp] theorem attn_host_linksel (c : Core) (n : Nat) : (c.attn n).host.linksel = c.host.linksel := by unfold attn; split <;> rfl
@[simp] theorem attn_host_sarvsel (c : Core) (n : Nat) : (c.attn n).host.sarvsel = c.host.sarvsel := by unfold attn; split <;> rfl
@[simp] theorem attn_host_scratch0 (c : Core) (n : Nat) : (c.attn n).host.scratch0 = c.host.scratch0 := by unfold attn; split <;> rfl
@[simp] theorem attn_host_scratch1 (c : Core) (n : Nat) : (c.attn n).host.scratch1 = c.host.scratch1 := by unfold attn; split <;> rfl

@[simp] theorem attnIf_pw (c : Core) (b : Bool) (n : Nat) : (c.attnIf b n).pw = c.pw := by cases b <;> simp [attnIf]
@[simp] theorem attnIf_ret (c : Core) (b : Bool) (n : Nat) : (c.attnIf b n).ret = c.ret := by cases b <;> simp [attnIf]
@[simp] theorem attnIf_otpc (c : Core) (b : Bool) (n : Nat) : (c.attnIf b n).otpc = c.otpc := by cases b <;> simp [attnIf]
@[simp] theorem attnIf_keyProg (c : Core) (b : Bool) (n : Nat) : (c.attnIf b n).keyProg = c.keyProg := by cases b <;> simp [attnIf]
@[simp] theorem attnIf_nvm (c : Core) (b : Bool) (n : Nat) : (c.attnIf b n).nvm = c.nvm := by cases b <;> simp [attnIf]
@[simp] theorem attnIf_prof (c : Core) (b : Bool) (n : Nat) : (c.attnIf b n).prof = c.prof := by cases b <;> simp [attnIf]
@[simp] theorem attnIf_slot (c : Core) (b : Bool) (n : Nat) : (c.attnIf b n).slot = c.slot := by cases b <;> simp [attnIf]
@[simp] theorem attnIf_gen (c : Core) (b : Bool) (n : Nat) : (c.attnIf b n).gen = c.gen := by cases b <;> simp [attnIf]
@[simp] theorem attnIf_image (c : Core) (b : Bool) (n : Nat) : (c.attnIf b n).image = c.image := by cases b <;> simp [attnIf]
@[simp] theorem attnIf_newProf (c : Core) (b : Bool) (n : Nat) : (c.attnIf b n).newProf = c.newProf := by cases b <;> simp [attnIf]
@[simp] theorem attnIf_sar (c : Core) (b : Bool) (n : Nat) : (c.attnIf b n).sar = c.sar := by cases b <;> simp [attnIf]
@[simp] theorem attnIf_keys (c : Core) (b : Bool) (n : Nat) : (c.attnIf b n).keys = c.keys := by cases b <;> simp [attnIf]
@[simp] theorem attnIf_lnk (c : Core) (b : Bool) (n : Nat) : (c.attnIf b n).lnk = c.lnk := by cases b <;> simp [attnIf]
@[simp] theorem attnIf_hp (c : Core) (b : Bool) (n : Nat) : (c.attnIf b n).hp = c.hp := by cases b <;> simp [attnIf]
@[simp] theorem attnIf_hg (c : Core) (b : Bool) (n : Nat) : (c.attnIf b n).hg = c.hg := by cases b <;> simp [attnIf]
@[simp] theorem attnIf_acq (c : Core) (b : Bool) (n : Nat) : (c.attnIf b n).acq = c.acq := by cases b <;> simp [attnIf]
@[simp] theorem attnIf_node (c : Core) (b : Bool) (n : Nat) : (c.attnIf b n).node = c.node := by cases b <;> simp [attnIf]
@[simp] theorem attnIf_trk (c : Core) (b : Bool) (n : Nat) : (c.attnIf b n).trk = c.trk := by cases b <;> simp [attnIf]
@[simp] theorem attnIf_ten (c : Core) (b : Bool) (n : Nat) : (c.attnIf b n).ten = c.ten := by cases b <;> simp [attnIf]
@[simp] theorem attnIf_qs (c : Core) (b : Bool) (n : Nat) : (c.attnIf b n).qs = c.qs := by cases b <;> simp [attnIf]
@[simp] theorem attnIf_pk (c : Core) (b : Bool) (n : Nat) : (c.attnIf b n).pk = c.pk := by cases b <;> simp [attnIf]
@[simp] theorem attnIf_rep (c : Core) (b : Bool) (n : Nat) : (c.attnIf b n).rep = c.rep := by cases b <;> simp [attnIf]
@[simp] theorem attnIf_free (c : Core) (b : Bool) (n : Nat) : (c.attnIf b n).free = c.free := by cases b <;> simp [attnIf]
@[simp] theorem attnIf_host_flags (c : Core) (b : Bool) (n : Nat) : (c.attnIf b n).host.flags = c.host.flags := by cases b <;> simp [attnIf]
@[simp] theorem attnIf_host_attnen (c : Core) (b : Bool) (n : Nat) : (c.attnIf b n).host.attnen = c.host.attnen := by cases b <;> simp [attnIf]
@[simp] theorem attnIf_host_firstWrite (c : Core) (b : Bool) (n : Nat) : (c.attnIf b n).host.firstWrite = c.host.firstWrite := by cases b <;> simp [attnIf]
@[simp] theorem attnIf_host_txn (c : Core) (b : Bool) (n : Nat) : (c.attnIf b n).host.txn = c.host.txn := by cases b <;> simp [attnIf]
@[simp] theorem attnIf_host_miso (c : Core) (b : Bool) (n : Nat) : (c.attnIf b n).host.miso = c.host.miso := by cases b <;> simp [attnIf]
@[simp] theorem attnIf_host_csHeld (c : Core) (b : Bool) (n : Nat) : (c.attnIf b n).host.csHeld = c.host.csHeld := by cases b <;> simp [attnIf]
@[simp] theorem attnIf_host_pktin (c : Core) (b : Bool) (n : Nat) : (c.attnIf b n).host.pktin = c.host.pktin := by cases b <;> simp [attnIf]
@[simp] theorem attnIf_host_outHead (c : Core) (b : Bool) (n : Nat) : (c.attnIf b n).host.outHead = c.host.outHead := by cases b <;> simp [attnIf]
@[simp] theorem attnIf_host_outRsp (c : Core) (b : Bool) (n : Nat) : (c.attnIf b n).host.outRsp = c.host.outRsp := by cases b <;> simp [attnIf]
@[simp] theorem attnIf_host_evtPtr (c : Core) (b : Bool) (n : Nat) : (c.attnIf b n).host.evtPtr = c.host.evtPtr := by cases b <;> simp [attnIf]
@[simp] theorem attnIf_host_rptPtr (c : Core) (b : Bool) (n : Nat) : (c.attnIf b n).host.rptPtr = c.host.rptPtr := by cases b <;> simp [attnIf]
@[simp] theorem attnIf_host_snapHt (c : Core) (b : Bool) (n : Nat) : (c.attnIf b n).host.snapHt = c.host.snapHt := by cases b <;> simp [attnIf]
@[simp] theorem attnIf_host_snapSar (c : Core) (b : Bool) (n : Nat) : (c.attnIf b n).host.snapSar = c.host.snapSar := by cases b <;> simp [attnIf]
@[simp] theorem attnIf_host_snapRtc (c : Core) (b : Bool) (n : Nat) : (c.attnIf b n).host.snapRtc = c.host.snapRtc := by cases b <;> simp [attnIf]
@[simp] theorem attnIf_host_snapLink (c : Core) (b : Bool) (n : Nat) : (c.attnIf b n).host.snapLink = c.host.snapLink := by cases b <;> simp [attnIf]
@[simp] theorem attnIf_host_clrArm (c : Core) (b : Bool) (n : Nat) : (c.attnIf b n).host.clrArm = c.host.clrArm := by cases b <;> simp [attnIf]
@[simp] theorem attnIf_host_linksel (c : Core) (b : Bool) (n : Nat) : (c.attnIf b n).host.linksel = c.host.linksel := by cases b <;> simp [attnIf]
@[simp] theorem attnIf_host_sarvsel (c : Core) (b : Bool) (n : Nat) : (c.attnIf b n).host.sarvsel = c.host.sarvsel := by cases b <;> simp [attnIf]
@[simp] theorem attnIf_host_scratch0 (c : Core) (b : Bool) (n : Nat) : (c.attnIf b n).host.scratch0 = c.host.scratch0 := by cases b <;> simp [attnIf]
@[simp] theorem attnIf_host_scratch1 (c : Core) (b : Bool) (n : Nat) : (c.attnIf b n).host.scratch1 = c.host.scratch1 := by cases b <;> simp [attnIf]

@[simp] theorem latch_pw (c : Core) : (c.latch).pw = c.pw := by simp [latch]
@[simp] theorem latch_ret (c : Core) : (c.latch).ret = c.ret := by simp [latch]
@[simp] theorem latch_otpc (c : Core) : (c.latch).otpc = c.otpc := by simp [latch]
@[simp] theorem latch_keyProg (c : Core) : (c.latch).keyProg = c.keyProg := by simp [latch]
@[simp] theorem latch_nvm (c : Core) : (c.latch).nvm = c.nvm := by simp [latch]
@[simp] theorem latch_prof (c : Core) : (c.latch).prof = c.prof := by simp [latch]
@[simp] theorem latch_slot (c : Core) : (c.latch).slot = c.slot := by simp [latch]
@[simp] theorem latch_gen (c : Core) : (c.latch).gen = c.gen := by simp [latch]
@[simp] theorem latch_image (c : Core) : (c.latch).image = c.image := by simp [latch]
@[simp] theorem latch_newProf (c : Core) : (c.latch).newProf = c.newProf := by simp [latch]
@[simp] theorem latch_sar (c : Core) : (c.latch).sar = c.sar := by simp [latch]
@[simp] theorem latch_keys (c : Core) : (c.latch).keys = c.keys := by simp [latch]
@[simp] theorem latch_lnk (c : Core) : (c.latch).lnk = c.lnk := by simp [latch]
@[simp] theorem latch_hp (c : Core) : (c.latch).hp = c.hp := by simp [latch]
@[simp] theorem latch_hg (c : Core) : (c.latch).hg = c.hg := by simp [latch]
@[simp] theorem latch_acq (c : Core) : (c.latch).acq = c.acq := by simp [latch]
@[simp] theorem latch_node (c : Core) : (c.latch).node = c.node := by simp [latch]
@[simp] theorem latch_trk (c : Core) : (c.latch).trk = c.trk := by simp [latch]
@[simp] theorem latch_ten (c : Core) : (c.latch).ten = c.ten := by simp [latch]
@[simp] theorem latch_qs (c : Core) : (c.latch).qs = c.qs := by simp [latch]
@[simp] theorem latch_pk (c : Core) : (c.latch).pk = c.pk := by simp [latch]
@[simp] theorem latch_rep (c : Core) : (c.latch).rep = c.rep := by simp [latch]
@[simp] theorem latch_free (c : Core) : (c.latch).free = c.free := by simp [latch]
@[simp] theorem latch_host_flags (c : Core) : (c.latch).host.flags = c.host.flags := by simp [latch]
@[simp] theorem latch_host_attnen (c : Core) : (c.latch).host.attnen = c.host.attnen := by simp [latch]
@[simp] theorem latch_host_firstWrite (c : Core) : (c.latch).host.firstWrite = c.host.firstWrite := by simp [latch]
@[simp] theorem latch_host_txn (c : Core) : (c.latch).host.txn = c.host.txn := by simp [latch]
@[simp] theorem latch_host_miso (c : Core) : (c.latch).host.miso = c.host.miso := by simp [latch]
@[simp] theorem latch_host_csHeld (c : Core) : (c.latch).host.csHeld = c.host.csHeld := by simp [latch]
@[simp] theorem latch_host_pktin (c : Core) : (c.latch).host.pktin = c.host.pktin := by simp [latch]
@[simp] theorem latch_host_outHead (c : Core) : (c.latch).host.outHead = c.host.outHead := by simp [latch]
@[simp] theorem latch_host_outRsp (c : Core) : (c.latch).host.outRsp = c.host.outRsp := by simp [latch]
@[simp] theorem latch_host_evtPtr (c : Core) : (c.latch).host.evtPtr = c.host.evtPtr := by simp [latch]
@[simp] theorem latch_host_rptPtr (c : Core) : (c.latch).host.rptPtr = c.host.rptPtr := by simp [latch]
@[simp] theorem latch_host_snapHt (c : Core) : (c.latch).host.snapHt = c.host.snapHt := by simp [latch]
@[simp] theorem latch_host_snapSar (c : Core) : (c.latch).host.snapSar = c.host.snapSar := by simp [latch]
@[simp] theorem latch_host_snapRtc (c : Core) : (c.latch).host.snapRtc = c.host.snapRtc := by simp [latch]
@[simp] theorem latch_host_snapLink (c : Core) : (c.latch).host.snapLink = c.host.snapLink := by simp [latch]
@[simp] theorem latch_host_clrArm (c : Core) : (c.latch).host.clrArm = c.host.clrArm := by simp [latch]
@[simp] theorem latch_host_linksel (c : Core) : (c.latch).host.linksel = c.host.linksel := by simp [latch]
@[simp] theorem latch_host_sarvsel (c : Core) : (c.latch).host.sarvsel = c.host.sarvsel := by simp [latch]
@[simp] theorem latch_host_scratch0 (c : Core) : (c.latch).host.scratch0 = c.host.scratch0 := by simp [latch]
@[simp] theorem latch_host_scratch1 (c : Core) : (c.latch).host.scratch1 = c.host.scratch1 := by simp [latch]

end Sys2Proof.Machine.Core
end

