-- ==== Sys2Proof/Laws/Ops.lean ====
section
/-!
SUPPORT. What the shared operations can do, said once for each: records and events touch the tenants' queues, ATTNSRC and the
telemetry counts and nothing else; every meaning keeps the queue and the OTP.
-/
namespace Sys2Proof.Machine

namespace OnlyRecords

theorem refl (c : Core) : OnlyRecords c c := rfl

theorem trans {a b c : Core} (h : OnlyRecords a b) (k : OnlyRecords b c) : OnlyRecords a c := by
  unfold OnlyRecords at *
  rw [k, h]

theorem pw {a b : Core} (h : OnlyRecords a b) : b.pw = a.pw := by rw [h]
theorem ret {a b : Core} (h : OnlyRecords a b) : b.ret = a.ret := by rw [h]
theorem otpc {a b : Core} (h : OnlyRecords a b) : b.otpc = a.otpc := by rw [h]
theorem keyProg {a b : Core} (h : OnlyRecords a b) : b.keyProg = a.keyProg := by rw [h]
theorem nvm {a b : Core} (h : OnlyRecords a b) : b.nvm = a.nvm := by rw [h]
theorem prof {a b : Core} (h : OnlyRecords a b) : b.prof = a.prof := by rw [h]
theorem slot {a b : Core} (h : OnlyRecords a b) : b.slot = a.slot := by rw [h]
theorem gen {a b : Core} (h : OnlyRecords a b) : b.gen = a.gen := by rw [h]
theorem image {a b : Core} (h : OnlyRecords a b) : b.image = a.image := by rw [h]
theorem newProf {a b : Core} (h : OnlyRecords a b) : b.newProf = a.newProf := by rw [h]
theorem sar {a b : Core} (h : OnlyRecords a b) : b.sar = a.sar := by rw [h]
theorem keys {a b : Core} (h : OnlyRecords a b) : b.keys = a.keys := by rw [h]
theorem lnk {a b : Core} (h : OnlyRecords a b) : b.lnk = a.lnk := by rw [h]
theorem hp {a b : Core} (h : OnlyRecords a b) : b.hp = a.hp := by rw [h]
theorem hg {a b : Core} (h : OnlyRecords a b) : b.hg = a.hg := by rw [h]
theorem acq {a b : Core} (h : OnlyRecords a b) : b.acq = a.acq := by rw [h]
theorem node {a b : Core} (h : OnlyRecords a b) : b.node = a.node := by rw [h]
theorem trk {a b : Core} (h : OnlyRecords a b) : b.trk = a.trk := by rw [h]
theorem ten {a b : Core} (h : OnlyRecords a b) : b.ten = a.ten := by rw [h]
theorem pk {a b : Core} (h : OnlyRecords a b) : b.pk = a.pk := by rw [h]
theorem free {a b : Core} (h : OnlyRecords a b) : b.free = a.free := by rw [h]
theorem host_flags {a b : Core} (h : OnlyRecords a b) : b.host.flags = a.host.flags := by rw [h]
theorem host_attnen {a b : Core} (h : OnlyRecords a b) : b.host.attnen = a.host.attnen := by rw [h]
theorem host_firstWrite {a b : Core} (h : OnlyRecords a b) : b.host.firstWrite = a.host.firstWrite := by rw [h]
theorem host_txn {a b : Core} (h : OnlyRecords a b) : b.host.txn = a.host.txn := by rw [h]
theorem host_miso {a b : Core} (h : OnlyRecords a b) : b.host.miso = a.host.miso := by rw [h]
theorem host_csHeld {a b : Core} (h : OnlyRecords a b) : b.host.csHeld = a.host.csHeld := by rw [h]
theorem host_pktin {a b : Core} (h : OnlyRecords a b) : b.host.pktin = a.host.pktin := by rw [h]
theorem host_outHead {a b : Core} (h : OnlyRecords a b) : b.host.outHead = a.host.outHead := by rw [h]
theorem host_outRsp {a b : Core} (h : OnlyRecords a b) : b.host.outRsp = a.host.outRsp := by rw [h]
theorem host_evtPtr {a b : Core} (h : OnlyRecords a b) : b.host.evtPtr = a.host.evtPtr := by rw [h]
theorem host_rptPtr {a b : Core} (h : OnlyRecords a b) : b.host.rptPtr = a.host.rptPtr := by rw [h]
theorem host_snapHt {a b : Core} (h : OnlyRecords a b) : b.host.snapHt = a.host.snapHt := by rw [h]
theorem host_snapSar {a b : Core} (h : OnlyRecords a b) : b.host.snapSar = a.host.snapSar := by rw [h]
theorem host_snapRtc {a b : Core} (h : OnlyRecords a b) : b.host.snapRtc = a.host.snapRtc := by rw [h]
theorem host_snapLink {a b : Core} (h : OnlyRecords a b) : b.host.snapLink = a.host.snapLink := by rw [h]
theorem host_clrArm {a b : Core} (h : OnlyRecords a b) : b.host.clrArm = a.host.clrArm := by rw [h]
theorem host_linksel {a b : Core} (h : OnlyRecords a b) : b.host.linksel = a.host.linksel := by rw [h]
theorem host_sarvsel {a b : Core} (h : OnlyRecords a b) : b.host.sarvsel = a.host.sarvsel := by rw [h]
theorem host_scratch0 {a b : Core} (h : OnlyRecords a b) : b.host.scratch0 = a.host.scratch0 := by rw [h]
theorem host_scratch1 {a b : Core} (h : OnlyRecords a b) : b.host.scratch1 = a.host.scratch1 := by rw [h]
theorem rep_factory {a b : Core} (h : OnlyRecords a b) : b.rep.factory = a.rep.factory := by rw [h]
theorem rep_extra {a b : Core} (h : OnlyRecords a b) : b.rep.extra = a.rep.extra := by rw [h]
theorem rep_grade {a b : Core} (h : OnlyRecords a b) : b.rep.grade = a.rep.grade := by rw [h]
theorem rep_bistf {a b : Core} (h : OnlyRecords a b) : b.rep.bistf = a.rep.bistf := by rw [h]
theorem rep_complim {a b : Core} (h : OnlyRecords a b) : b.rep.complim = a.rep.complim := by rw [h]
theorem rep_slices {a b : Core} (h : OnlyRecords a b) : b.rep.slices = a.rep.slices := by rw [h]
theorem rep_selftest {a b : Core} (h : OnlyRecords a b) : b.rep.selftest = a.rep.selftest := by rw [h]
theorem rep_testDue {a b : Core} (h : OnlyRecords a b) : b.rep.testDue = a.rep.testDue := by rw [h]
theorem rep_testCtx {a b : Core} (h : OnlyRecords a b) : b.rep.testCtx = a.rep.testCtx := by rw [h]
theorem rep_suspRun {a b : Core} (h : OnlyRecords a b) : b.rep.suspRun = a.rep.suspRun := by rw [h]
theorem rep_suspects {a b : Core} (h : OnlyRecords a b) : b.rep.suspects = a.rep.suspects := by rw [h]
theorem rep_finger {a b : Core} (h : OnlyRecords a b) : b.rep.finger = a.rep.finger := by rw [h]
theorem rep_fingerWait {a b : Core} (h : OnlyRecords a b) : b.rep.fingerWait = a.rep.fingerWait := by rw [h]
theorem rep_noFpRaised {a b : Core} (h : OnlyRecords a b) : b.rep.noFpRaised = a.rep.noFpRaised := by rw [h]
theorem rep_cleanRuns {a b : Core} (h : OnlyRecords a b) : b.rep.cleanRuns = a.rep.cleanRuns := by rw [h]
theorem rep_task {a b : Core} (h : OnlyRecords a b) : b.rep.task = a.rep.task := by rw [h]
theorem rep_bgdefer {a b : Core} (h : OnlyRecords a b) : b.rep.bgdefer = a.rep.bgdefer := by rw [h]
theorem rep_regs {a b : Core} (h : OnlyRecords a b) : b.rep.regs = a.rep.regs := by rw [h]
theorem rep_bgDue {a b : Core} (h : OnlyRecords a b) : b.rep.bgDue = a.rep.bgDue := by rw [h]
theorem rep_watchFault {a b : Core} (h : OnlyRecords a b) : b.rep.watchFault = a.rep.watchFault := by rw [h]
theorem rep_sparesOut {a b : Core} (h : OnlyRecords a b) : b.rep.sparesOut = a.rep.sparesOut := by rw [h]
theorem rep_flushes {a b : Core} (h : OnlyRecords a b) : b.rep.flushes = a.rep.flushes := by rw [h]
theorem rep_wearAcc {a b : Core} (h : OnlyRecords a b) : b.rep.wearAcc = a.rep.wearAcc := by rw [h]
theorem rep_lifeT {a b : Core} (h : OnlyRecords a b) : b.rep.lifeT = a.rep.lifeT := by rw [h]
theorem rep_doneAt {a b : Core} (h : OnlyRecords a b) : b.rep.doneAt = a.rep.doneAt := by rw [h]

end OnlyRecords

namespace OnlyNvm

theorem refl (c : Core) : OnlyNvm c c := rfl

theorem trans {a b c : Core} (h : OnlyNvm a b) (k : OnlyNvm b c) : OnlyNvm a c := by
  unfold OnlyNvm at *
  rw [k, h]

/-- Records placed after such a change. -/
theorem of_records {a b c : Core} (h : OnlyNvm a b) (k : OnlyRecords b c) : OnlyNvm a c := by
  unfold OnlyNvm OnlyRecords at *
  rw [k, h]

end OnlyNvm

namespace Core

theorem attn_only (c : Core) (n : Nat) : OnlyRecords c (c.attn n) := by unfold attn; split <;> rfl

theorem attnIf_only (c : Core) (b : Bool) (n : Nat) : OnlyRecords c (c.attnIf b n) := by
  cases b
  · rfl
  · exact c.attn_only n

theorem latch_only (c : Core) : OnlyRecords c c.latch := (attnIf_only c _ 1).trans (attnIf_only _ _ 2)

theorem modQueue_only (c : Core) (t : Tenant) (f : Queue → Queue) : OnlyRecords c (c.modQueue t f) := rfl

theorem modTele_only (c : Core) (f : Tele → Tele) : OnlyRecords c (c.modTele f) := rfl

theorem takePlaced_only (c : Core) (t : Tenant) (r : Placed) : OnlyRecords c (c.takePlaced t r) := by
  unfold takePlaced
  have h := (c.modQueue_only t (fun _ => r.q)).trans (attnIf_only _ r.qfull 13)
  dsimp only
  split
  · exact h.trans (modTele_only _ _)
  · exact h

theorem placeRec_only (c : Core) (t : Tenant) (b : List Byte) (fc : BitVec 32) (o : Addr) :
    OnlyRecords c (c.placeRec t b fc o) := by
  unfold placeRec
  split
  · exact c.takePlaced_only _ _
  · rfl

theorem placeOwn_only (c : Core) (t : Tenant) (b : List Byte) : OnlyRecords c (c.placeOwn t b) := c.placeRec_only ..

theorem placeEncoder_only (c : Core) (t : Tenant) (b : List Byte) (fc : BitVec 32) : OnlyRecords c (c.placeEncoder t b fc) := by
  unfold placeEncoder
  split
  · exact c.takePlaced_only _ _
  · rfl

/-- A fold of operations that keep a relation keeps it. -/
theorem foldl_keeps {α : Type} (R : Core → Core → Prop) (hr : ∀ c, R c c) (ht : ∀ a b c, R a b → R b c → R a c)
    (f : Core → α → Core) (hf : ∀ c a, R c (f c a)) (l : List α) (c : Core) : R c (l.foldl f c) := by
  induction l generalizing c with
  | nil => exact hr c
  | cons a l ih => exact ht _ _ _ (hf c a) (ih _)

/-- A fold of operations that only place records only places records. -/
theorem foldl_only {α : Type} (f : Core → α → Core) (hf : ∀ c a, OnlyRecords c (f c a)) (l : List α) (c : Core) :
    OnlyRecords c (l.foldl f c) :=
  foldl_keeps OnlyRecords OnlyRecords.refl (fun _ _ _ => OnlyRecords.trans) f hf l c

theorem placeAll_only (c : Core) (ts : List Tenant) (b : List Byte) : OnlyRecords c (c.placeAll ts b) :=
  foldl_only _ (fun c t => c.placeOwn_only t b) ts c

theorem placeOut_only (c : Core) (l : List OutRec) : OnlyRecords c (c.placeOut l) :=
  foldl_only _ (fun c (r : OutRec) => c.placeOwn_only r.tenant r.bytes) l c

theorem eventTo_only (c : Core) (ts : List Tenant) (n : Nat) (d : List Byte) : OnlyRecords c (c.eventTo ts n d) :=
  (c.placeAll_only _ _).trans (modTele_only _ _)

theorem eventCustodian_only (c : Core) (n : Nat) (d : List Byte) : OnlyRecords c (c.eventCustodian n d) := c.eventTo_only ..

theorem eventAll_only (c : Core) (n : Nat) (d : List Byte) : OnlyRecords c (c.eventAll n d) := c.eventTo_only ..

theorem repairEvent_only (c : Core) (n : Nat) (d : List Byte) : OnlyRecords c (c.repairEvent n d) := c.eventTo_only ..

theorem placePair_only (c : Core) (t : Tenant) (a b : List Byte) (fc : BitVec 32) (o : Addr) : OnlyRecords c (c.placePair t a b fc o) := by
  unfold placePair
  split
  · rfl
  · split
    · exact (c.placeRec_only t a fc o).trans (placeRec_only _ t b fc o)
    · exact ((c.modQueue_only t _).trans (attnIf_only _ _ 13)).trans (modTele_only _ _)

theorem tileReset_only (c : Core) (l : List Byte) : OnlyRecords c (c.tileReset l) :=
  (foldl_only _ (fun c t => c.placeOwn_only t _) _ c).trans (modTele_only _ _)

theorem when_keeps (R : Core → Core → Prop) (hr : ∀ c, R c c) (c : Core) (b : Bool) (f : Core → Core) (hf : R c (f c)) :
    R c (c.when b f) := by
  cases b
  · exact hr c
  · exact hf

@[simp] theorem when_true (c : Core) (f : Core → Core) : c.when true f = f c := rfl

@[simp] theorem when_false (c : Core) (f : Core → Core) : c.when false f = c := rfl

end Core

namespace OnlyTxq

theorem refl (c : Core) : OnlyTxq c c := ⟨rfl, fun _ => rfl⟩

theorem trans {a b c : Core} (h : OnlyTxq a b) (k : OnlyTxq b c) : OnlyTxq a c :=
  ⟨by rw [k.1, h.1], fun p => by rw [k.2, h.2]⟩

end OnlyTxq

namespace Core

/-- A place of a list after one place of it was changed. -/
theorem modifyAt_getD {α : Type} (l : List α) (i j : Nat) (f : α → α) (d : α) :
    (modifyAt l i f).getD j d = if i = j ∧ j < l.length then f (l.getD j d) else l.getD j d := by
  unfold modifyAt
  simp only [List.getD_eq_getElem?_getD]
  by_cases hi : i < l.length
  · rw [List.getElem?_eq_getElem hi]
    simp only [List.getElem?_set]
    by_cases e : i = j
    · subst e
      simp [hi]
    · simp [e]
  · have hn : l[i]? = none := List.getElem?_eq_none (by omega)
    have : ¬(i = j ∧ j < l.length) := by omega
    simp [hn, this]

/-- A port after a change of a port. -/
theorem modPort_port (c : Core) (p q : Port) (f : LinkPort → LinkPort) :
    (c.modPort p f).port q = if p = q ∧ q.val < c.lnk.length then f (c.port q) else c.port q := by
  simp only [port, modPort, modifyAt_getD, Fin.ext_iff]

theorem sendFrame_only (c : Core) (p : Port) (b : LinkBody) : OnlyTxq c (c.sendFrame p b) := by
  refine ⟨rfl, fun q => ?_⟩
  unfold sendFrame
  rw [modPort_port]
  split <;> rfl

theorem sendPacketOn_only (c : Core) (p : Port) (b : List Byte) (k : Option (Tenant × Nat × Bool × Bool)) (a : Bool) :
    OnlyTxq c (c.sendPacketOn p b k a) := by
  refine ⟨rfl, fun q => ?_⟩
  unfold sendPacketOn
  rw [modPort_port]
  split <;> rfl

/-- A fold of operations that only let frames wait. -/
theorem foldl_onlyTxq {α : Type} (f : Core → α → Core) (hf : ∀ c a, OnlyTxq c (f c a)) (l : List α) (c : Core) :
    OnlyTxq c (l.foldl f c) :=
  foldl_keeps OnlyTxq OnlyTxq.refl (fun _ _ _ => OnlyTxq.trans) f hf l c

theorem sendHello_only (c : Core) (p : Port) : OnlyTxq c (c.sendHello p) :=
  when_keeps OnlyTxq OnlyTxq.refl _ _ _ (c.sendFrame_only _ _)

theorem helloAll_only (c : Core) : OnlyTxq c c.helloAll := foldl_onlyTxq _ sendHello_only _ c

/-- HELLO for a changed body only lets frames wait. -/
theorem told_only (c d : Core) : OnlyTxq d (c.told d) := by
  unfold told
  split
  · exact d.helloAll_only
  · exact OnlyTxq.refl d

/-- Nothing is sent where the body of HELLO has not changed. -/
theorem told_same (c d : Core) (h : d.helloBody 0 = c.helloBody 0) : c.told d = d := by simp [told, h]

/-- Nothing is sent outside BARE, Quiet and Run. -/
theorem told_slow (c d : Core) (h : d.fast = false) : c.told d = d := by simp [told, h]

@[simp] theorem told_pw (c d : Core) : (c.told d).pw = d.pw := by rw [(told_only c d).1]
@[simp] theorem told_ret (c d : Core) : (c.told d).ret = d.ret := by rw [(told_only c d).1]
@[simp] theorem told_otpc (c d : Core) : (c.told d).otpc = d.otpc := by rw [(told_only c d).1]
@[simp] theorem told_keyProg (c d : Core) : (c.told d).keyProg = d.keyProg := by rw [(told_only c d).1]
@[simp] theorem told_nvm (c d : Core) : (c.told d).nvm = d.nvm := by rw [(told_only c d).1]
@[simp] theorem told_host (c d : Core) : (c.told d).host = d.host := by rw [(told_only c d).1]
@[simp] theorem told_prof (c d : Core) : (c.told d).prof = d.prof := by rw [(told_only c d).1]
@[simp] theorem told_slot (c d : Core) : (c.told d).slot = d.slot := by rw [(told_only c d).1]
@[simp] theorem told_gen (c d : Core) : (c.told d).gen = d.gen := by rw [(told_only c d).1]
@[simp] theorem told_image (c d : Core) : (c.told d).image = d.image := by rw [(told_only c d).1]
@[simp] theorem told_newProf (c d : Core) : (c.told d).newProf = d.newProf := by rw [(told_only c d).1]
@[simp] theorem told_sar (c d : Core) : (c.told d).sar = d.sar := by rw [(told_only c d).1]
@[simp] theorem told_keys (c d : Core) : (c.told d).keys = d.keys := by rw [(told_only c d).1]
@[simp] theorem told_hp (c d : Core) : (c.told d).hp = d.hp := by rw [(told_only c d).1]
@[simp] theorem told_hg (c d : Core) : (c.told d).hg = d.hg := by rw [(told_only c d).1]
@[simp] theorem told_acq (c d : Core) : (c.told d).acq = d.acq := by rw [(told_only c d).1]
@[simp] theorem told_node (c d : Core) : (c.told d).node = d.node := by rw [(told_only c d).1]
@[simp] theorem told_trk (c d : Core) : (c.told d).trk = d.trk := by rw [(told_only c d).1]
@[simp] theorem told_ten (c d : Core) : (c.told d).ten = d.ten := by rw [(told_only c d).1]
@[simp] theorem told_qs (c d : Core) : (c.told d).qs = d.qs := by rw [(told_only c d).1]
@[simp] theorem told_pk (c d : Core) : (c.told d).pk = d.pk := by rw [(told_only c d).1]
@[simp] theorem told_rep (c d : Core) : (c.told d).rep = d.rep := by rw [(told_only c d).1]
@[simp] theorem told_free (c d : Core) : (c.told d).free = d.free := by rw [(told_only c d).1]

@[simp] theorem after_pw (c d : Core) : (c.after d).pw = d.pw := by simp [after]
@[simp] theorem after_ret (c d : Core) : (c.after d).ret = d.ret := by simp [after]
@[simp] theorem after_otpc (c d : Core) : (c.after d).otpc = d.otpc := by simp [after]
@[simp] theorem after_keyProg (c d : Core) : (c.after d).keyProg = d.keyProg := by simp [after]
@[simp] theorem after_nvm (c d : Core) : (c.after d).nvm = d.nvm := by simp [after]
@[simp] theorem after_prof (c d : Core) : (c.after d).prof = d.prof := by simp [after]
@[simp] theorem after_slot (c d : Core) : (c.after d).slot = d.slot := by simp [after]
@[simp] theorem after_gen (c d : Core) : (c.after d).gen = d.gen := by simp [after]
@[simp] theorem after_image (c d : Core) : (c.after d).image = d.image := by simp [after]
@[simp] theorem after_newProf (c d : Core) : (c.after d).newProf = d.newProf := by simp [after]
@[simp] theorem after_sar (c d : Core) : (c.after d).sar = d.sar := by simp [after]
@[simp] theorem after_keys (c d : Core) : (c.after d).keys = d.keys := by simp [after]
@[simp] theorem after_hp (c d : Core) : (c.after d).hp = d.hp := by simp [after]
@[simp] theorem after_hg (c d : Core) : (c.after d).hg = d.hg := by simp [after]
@[simp] theorem after_acq (c d : Core) : (c.after d).acq = d.acq := by simp [after]
@[simp] theorem after_node (c d : Core) : (c.after d).node = d.node := by simp [after]
@[simp] theorem after_trk (c d : Core) : (c.after d).trk = d.trk := by simp [after]
@[simp] theorem after_ten (c d : Core) : (c.after d).ten = d.ten := by simp [after]
@[simp] theorem after_qs (c d : Core) : (c.after d).qs = d.qs := by simp [after]
@[simp] theorem after_pk (c d : Core) : (c.after d).pk = d.pk := by simp [after]
@[simp] theorem after_rep (c d : Core) : (c.after d).rep = d.rep := by simp [after]
@[simp] theorem after_free (c d : Core) : (c.after d).free = d.free := by simp [after]

/-! ### Writes of two-copy records -/

theorem sparesOut_only (c : Core) (k : Byte) : OnlyNvm c (c.sparesOut k) := by
  unfold sparesOut
  split
  · rfl
  · exact OnlyNvm.of_records (by rfl) (repairEvent_only _ _ _)

theorem regrade_only (c : Core) : OnlyNvm c c.regrade := by
  unfold regrade regradeNow
  split
  · rfl
  · dsimp only
    split
    · rfl
    · exact OnlyNvm.of_records (by rfl) ((repairEvent_only _ _ _).trans (attn_only _ _))

theorem noteErase_only (c : Core) (row : Nat) : OnlyNvm c (c.noteErase row) := rfl

theorem verifies_only (c : Core) : OnlyNvm c c.verifies.1 := rfl

theorem noteRepair_only (c : Core) (r : RepairEntry) : OnlyNvm c (c.noteRepair r) := by
  unfold noteRepair
  split
  · exact OnlyNvm.of_records (by rfl) (repairEvent_only _ _ _)
  · rfl

theorem retire_only (c : Core) (row : Nat) : OnlyNvm c (c.retire row).1 := by
  unfold retire
  split
  · exact c.sparesOut_only _
  · dsimp only
    refine OnlyNvm.trans ?_ (regrade_only _)
    refine OnlyNvm.trans ?_ (OnlyNvm.of_records (OnlyNvm.refl _) (repairEvent_only _ _ _))
    exact OnlyNvm.trans (by rfl) (noteRepair_only _ _)

theorem programFrom_only (n : Nat) (c : Core) (row : Nat) : OnlyNvm c (programFrom n c row).1 := by
  induction n generalizing c with
  | zero => rfl
  | succ n ih =>
    unfold programFrom
    have v := (c.noteErase_only row).trans (verifies_only _)
    dsimp only
    split
    · exact v
    · split
      · exact (v.trans (retire_only _ row)).trans (ih _)
      · exact v.trans (retire_only _ row)

theorem programRows_only (c : Core) (rows : List Nat) : OnlyNvm c (c.programRows rows).1 := by
  unfold programRows
  generalize true = b
  induction rows generalizing c b with
  | nil => rfl
  | cons r rows ih => exact (programFrom_only 17 c r).trans (ih _ _)

theorem writeCopy_only (c : Core) (r : RecId) : OnlyNvm c (c.writeCopy r).1 := by
  unfold writeCopy
  split
  · rfl
  · have h := c.programRows_only (r.rows (c.pair r).targetsB)
    dsimp only
    split
    · exact h.trans (by rfl)
    · exact (h.trans (by rfl)).trans (regrade_only _)

theorem saveMap_only (c : Core) : OnlyNvm c c.saveMap := by
  unfold saveMap
  split
  · rfl
  · dsimp only
    split
    · exact (c.writeCopy_only .repair).trans (by rfl)
    · exact c.writeCopy_only .repair

/-- A write that fails leaves the contents of the records as they were. -/
theorem write_failed (c : Core) (r : RecId) (f : Core → Core) (h : (c.write r f).2 = false) : OnlyNvm c (c.write r f).1 := by
  unfold write at *
  simp only at h ⊢
  simp only [h, if_false, Bool.false_eq_true]
  split
  · exact c.writeCopy_only r
  · exact (c.writeCopy_only r).trans (saveMap_only _)

/-- Nothing is written while NVM writes are inhibited (R80). -/
theorem writeCopy_inhibited (c : Core) (r : RecId) (h : c.nvmOk = false) : c.writeCopy r = (c, false) := by simp [writeCopy, h]

theorem saveMap_inhibited (c : Core) (h : c.nvmOk = false) : c.saveMap = c := by simp [saveMap, writeCopy, h]

theorem write_inhibited (c : Core) (r : RecId) (f : Core → Core) (h : c.nvmOk = false) : c.write r f = (c, false) := by
  simp [write, writeCopy_inhibited c r h, saveMap_inhibited c h]

end Core

/-- What `onCore` answers. -/
@[simp] theorem onCore_eq (f : Core → Core) (s : State) : onCore f s = .next { s with core := s.core.after (f s.core) } := rfl

end Sys2Proof.Machine
end

