-- ==== Sys2Proof/WellFormed.lean ====
section
/-!
DEFINITION. When a command's operands have a shape the manual gives them: what its types do not say already. The lists of a
slot's measurements also have to fit the frame that runs, which the commands check themselves (log 7).
-/
namespace Sys2Proof

/-- The windows of a NOISE slot: two for each surveyed set, 26 channels in each (R107). -/
def windowsOk (w : List (List Samples)) : Bool :=
  w.length % 2 == 0 && decide (w.length ≤ 6) && w.all (fun x => x.length == 26)

/-- Crossing times of one line, in ticks of the SELF slot, do not fall. -/
def rising : List Nat → Bool
  | a :: b :: l => decide (a ≤ b) && rising (b :: l)
  | _ => true

/-- The bits of a character: 10 or 11, each with one sample in TILE mode or three in WIRE mode (R226, R231, R232). -/
def charOk (bits : List (List Bool)) : Bool :=
  (bits.length == 10 || bits.length == 11) && (bits.all (fun b => b.length == 1) || bits.all (fun b => b.length == 3))

/-- A command is well formed. -/
def wellFormed : Instr → Bool
  | .powerOn => true
  | .brownOut => true
  | .brownOutRecovery => true
  | .nvmInhibit => true
  | .nvmInhibitClear => true
  | .resetPin => true
  | .testenHold _ => true
  | .vioAbsent => true
  | .vioPresent => true
  | .refloss => true
  | .referenceQualified => true
  | .resetRelease => true
  | .pllLock bist => bist.all (fun f => decide (1 ≤ f.cls.toNat) && decide (f.cls.toNat ≤ 5))
  | .linkQuietEnd => true
  | .refrdy => true
  | .csWake => true
  | .linkStartEdgeWake _ => true
  | .ladderWake _ => true
  | .encoderEdgeWake _ => true
  | .rtcAlarm => true
  | .dozeEntrySwitchover _ => true
  | .dozeEntryAbandon => true
  | .dozeEntryRetry => true
  | .runIdleElapsed => true
  | .quietIdleElapsed => true
  | .bareIdleElapsed => true
  | .frameBoundary => true
  | .noiseSlot windows gains => windowsOk windows && (gains.isEmpty || gains.length == 26)
  | .mutualSlot scan _ =>
    (scan.pre.isEmpty && scan.steps.isEmpty && scan.tail.isEmpty) ||
    (scan.pre.length == 26 && scan.steps.length == 32 && scan.steps.all (fun x => x.length == 26) && scan.tail.length == 26)
  | .selfSlot crossings => (crossings.isEmpty || crossings.length == 56) && crossings.all rising
  | .seamSlot legs => legs.isEmpty || legs.length == 32
  | .computeSlot => true
  | .seamDDeadline _ => true
  | .seamXDeadline _ => true
  | .reportSlot => true
  | .keeperEvaluation => true
  | .watchBurst counts => decide (counts.length ≤ 4) && counts.all (fun v => v.all (fun n => decide (1 ≤ n)))
  | .sarConversionDone _ => true
  | .batteryLowRepeat => true
  | .systemSequenceRun => true
  | .userSequenceRun => true
  | .keyLong _ _ => true
  | .keyStuck _ _ => true
  | .ladderFault _ => true
  | .ladderArm _ => true
  | .ladderWakeSpurious _ => true
  | .ladderMaskEnd _ => true
  | .encoderTransition _ _ _ => true
  | .encoderReport _ => true
  | .combinationA => true
  | .combinationB => true
  | .provisioningHold => true
  | .presenceEnd => true
  | .provPin => true
  | .linkCharacter _ _ bits => charOk bits
  | .linkFrameEnd _ => true
  | .linkTransmit _ _ => true
  | .linkConfigApply _ => true
  | .linkHuntStart _ => true
  | .lineLive _ => true
  | .lineBreak _ => true
  | .lineBreakClear _ => true
  | .severed _ => true
  | .echoCharacter _ => true
  | .echoTimeout _ => true
  | .linkWakeSpurious _ => true
  | .linkWakeMaskEnd _ => true
  | .data _ _ packet => decide (packet.length ≤ 1048)
  | .ack _ _ => true
  | .nak _ _ _ => true
  | .ackTimeout _ => true
  | .nakBusyRepeat _ => true
  | .hello _ _ _ => true
  | .helloPeriodic => true
  | .join _ _ _ _ => true
  | .admission _ _ _ => true
  | .sync _ _ body => decide (body.grants.length ≤ 8)
  | .syncSend => true
  | .syncLost => true
  | .timekeeperClaim => true
  | .xtrimAdjust => true
  | .seamH _ _ _ => true
  | .seamD _ _ body => decide (body.nodes.length ≤ 400)
  | .seamX _ _ body => decide (body.matched.length ≤ 127) && body.blocks.all (fun b => decide (b.syms.length ≤ 8))
  | .ka _ _ => true
  | .keepaliveSend _ => true
  | .keepaliveLoss _ => true
  | .doze _ _ _ => true
  | .echoReq _ _ => true
  | .wake _ _ _ _ _ => true
  | .quickset _ => true
  | .ready _ => true
  | .delayProbe _ _ => true
  | .wakeThroughTimeout _ => true
  | .delayMeasure _ => true
  | .panelRootElection => true
  | .hedgeRootElection => true
  | .joinReq _ _ _ sponsorPort => decide (sponsorPort.toNat < 6)
  | .joinGrant _ => true
  | .joinRefuse _ _ => true
  | .joinRetry => true
  | .hedgeRoster r => decide (r.tiles.length ≤ 85)
  | .tileReport _ r => decide (r.surveys.length ≤ 3) && decide (r.idsReq.toNat ≤ 10)
  | .frameTimingStop => true
  | .loss _ r => decide (r.port.toNat < 6)
  | .lossDecision => true
  | .contactIdFree _ => true
  | .panelAdvert a => decide (a.blocks.length ≤ 128) && decide (a.singles.length < 256)
  | .panelAdvertPeriodic => true
  | .panelGrant g => decide (g.blocks.length ≤ 128) && decide (g.singles.length < 256)
  | .panelRequestRetry => true
  | .hedgeRoutes entries => decide (entries.length ≤ 64)
  | .rootHandover => true
  | .relayWaitExpiry _ => true
  | .rptPacket packet => decide (packet.length ≤ 1048)
  | .rptSend _ => true
  | .transactionStart _ _ => true
  | .transactionEnd _ => true
  | .registerWrite _ _ => true
  | .hoststatWrite _ => true
  | .attnsrcWrite _ => true
  | .req _ => true
  | .floor _ => true
  | .hostctlReset _ => true
  | .pktinWrite _ => true
  | .pktoutRead _ => true
  | .pktoutlvlRead _ => true
  | .wakesrcRead _ => true
  | .encstatRead _ => true
  | .htfc0Read _ => true
  | .sarminRead _ => true
  | .rtc0Read _ => true
  | .linkstatRead _ => true
  | .linkdataRead _ => true
  | .linkdataWrite _ => true
  | .linkselWrite _ => true
  | .op _ => true
  | .txbrk _ => true
  | .flush _ => true
  | .start _ => true
  | .close _ => true
  | .useqSettingsWrite addr _ => decide (0x1E ≤ addr.toNat) && decide (addr.toNat ≤ 0x23)
  | .sarurg _ => true
  | .getInfo _ payload => decide (payload.length ≤ 1024)
  | .getState _ payload => decide (payload.length ≤ 1024)
  | .setState _ payload => decide (payload.length ≤ 1024)
  | .reset _ payload => decide (payload.length ≤ 1024)
  | .resetCommandExecute => true
  | .getFresh _ payload => decide (payload.length ≤ 1024)
  | .profileRead _ payload => decide (payload.length ≤ 1024)
  | .profileWrite _ payload => decide (payload.length ≤ 1024)
  | .transferAbandon => true
  | .profileCommit _ payload => decide (payload.length ≤ 1024)
  | .nvmOperationDone _ => true
  | .profileGen _ payload => decide (payload.length ≤ 1024)
  | .provKey _ payload => decide (payload.length ≤ 1024)
  | .tenantDefine _ payload => decide (payload.length ≤ 1024)
  | .tenantRemove _ payload => decide (payload.length ≤ 1024)
  | .tenantGet _ payload => decide (payload.length ≤ 1024)
  | .hedgeKey _ payload => decide (payload.length ≤ 1024)
  | .zones _ payload => decide (payload.length ≤ 1024)
  | .templates _ payload => decide (payload.length ≤ 1024)
  | .gestureFields _ payload => decide (payload.length ≤ 1024)
  | .wakeConfig _ payload => decide (payload.length ≤ 1024)
  | .framePlan _ payload => decide (payload.length ≤ 1024)
  | .senseLines _ payload => decide (payload.length ≤ 1024)
  | .compCodes _ payload => decide (payload.length ≤ 1024)
  | .compSeek _ payload => decide (payload.length ≤ 1024)
  | .seekStart => true
  | .seekTimeout => true
  | .baselineCapture _ payload => decide (payload.length ≤ 1024)
  | .nodeFields _ payload => decide (payload.length ≤ 1024)
  | .trackFields _ payload => decide (payload.length ≤ 1024)
  | .swing _ payload => decide (payload.length ≤ 1024)
  | .selfFields _ payload => decide (payload.length ≤ 1024)
  | .nodeMap _ payload => decide (payload.length ≤ 1024)
  | .noise _ payload => decide (payload.length ≤ 1024)
  | .sampleView _ payload => decide (payload.length ≤ 1024)
  | .selfTest _ payload => decide (payload.length ≤ 1024)
  | .telemetry _ payload => decide (payload.length ≤ 1024)
  | .wearMap _ payload => decide (payload.length ≤ 1024)
  | .linkCounts _ payload => decide (payload.length ≤ 1024)
  | .faults _ payload => decide (payload.length ≤ 1024)
  | .ladders _ payload => decide (payload.length ≤ 1024)
  | .encoders _ payload => decide (payload.length ≤ 1024)
  | .keyStatus _ payload => decide (payload.length ≤ 1024)
  | .comboRead _ payload => decide (payload.length ≤ 1024)
  | .routes _ payload => decide (payload.length ≤ 1024)
  | .linkConfig _ payload => decide (payload.length ≤ 1024)
  | .rawLink _ payload => decide (payload.length ≤ 1024)
  | .discover _ payload => decide (payload.length ≤ 1024)
  | .roster _ payload => decide (payload.length ≤ 1024)
  | .renumber _ payload => decide (payload.length ≤ 1024)
  | .repairStatus _ payload => decide (payload.length ≤ 1024)
  | .coppiceSet _ payload => decide (payload.length ≤ 1024)
  | .coppiceClear _ payload => decide (payload.length ≤ 1024)
  | .fingerprint _ payload => decide (payload.length ≤ 1024)
  | .bgTask _ payload => decide (payload.length ≤ 1024)
  | .deferredCommandApply => true
  | .sliceCalibrationDone _ _ _ => true
  | .sliceHandoverForced _ => true
  | .slicecalDue _ => true
  | .dailySelftestDue => true
  | .selftestForced => true
  | .selftestConfirm => true
  | .suspectSelftest => true
  | .deferForced _ => true
  | .nvmScrub row _ => decide (row < 272)
  | .nvmRefresh row _ => decide (row < 272)
  | .telemetryFlush => true
  | .nvmFragile => true
  | .falseStart _ => true
  | .linkFrameSent _ => true
  | .fingerprintTimeout => true
  | .selfTestTimeout => true
  | .otpProgramDone _ => true
  | .provRelease => true
  | .retentionRecordLost => true
  | .overclk => true

end Sys2Proof
end

