-- ==== Sys2Proof/Tests/Slice0.lean ====
section
/-!
SUPPORT. Tests of the model: ill-formed operands refused, worked examples of the manual and hand calculations from it, and for every
statement a state and operands that meet its hypotheses.
-/
namespace Sys2Proof.Tests
open Sys2Proof Sys2Proof.Machine

/-- A tile in a phase, READY, its reference and its crystal running, with its core changed. -/
def tile (ph : Phase) (f : Core → Core) : State :=
  { State.reset with core := f { State.reset.core with pw := { State.reset.core.pw with
    phase := ph, ready := true, refbuf := true, refrdy := true, xtal := .running } } }

/-- Port 0 in a link state. -/
def linked (f : LinkPort → LinkPort) (c : Core) : Core :=
  { c with lnk := modifyAt c.lnk 0 (fun l => f { l with mon := .live, cfg := { l.cfg with mode := 1#2 } }) }

/-- A tenant's identity and sequence in a CMD of this tile's host. -/
def host0 : CmdCtx := { tenant := 0, auth := true, urg := false, frag := false, last := false, src := 0#10, seq := 1#16 }

/-- A HELLO of a tile with this UID. -/
def hello (uid : Uid) : Hello := { Hello.ofBytes [] with uid := uid, port := 3#3, posValid := true, u := 1#8 }

/-- A frame that waits with a body. -/
def frameOf (b : LinkBody) : TxFrame := { body := b, lseq := none, tries := 0, carries := none, again := false }

theorem wit_SupplyCommandsComplete :
    (tile .unpowered id).core.pw.phase = .unpowered ∧ isPowered (tile .run id).core ∧
    ((tile .off id).core.pw.phase = .off ∧ (tile .off id).core.pw.holdPin = false) ∧
    (isPowered (tile .quiet id).core ∧ (tile .quiet id).core.hg.relay = [] ∧ (tile .quiet id).core.keys.caretaker.held = none ∧
      (tile .quiet id).core.nvm.allocPending = none ∧ (tile .quiet id).core.nvm.mapPending = [] ∧
      (tile .quiet id).core.nvm.faultsSaved = none) ∧
    (tile .quiet (fun c => { c with nvm := { c.nvm with mapPending := [⟨4#8, 3#8, 0#8, 2#8⟩] } })).core.nvm.mapPending ≠ [] := by
  unfold isPowered; decide

theorem wit_ResetAndHoldCommandsComplete :
    (isPowered (tile .bare id).core ∧ (tile .bare id).core.pw.holdVio = false) ∧
    (let s := tile .reset (fun c => { c with pw := { c.pw with holdTesten := true, holdVio := true, xtal := .starting } })
     s.core.pw.phase = .reset ∧ s.core.pw.holdTesten = true ∧ s.core.pw.holdVio = true ∧ s.core.pw.xtal ≠ .running) ∧
    (tile .off id).core.pw.phase = .off ∧ (isPowered (tile .doze id).core ∧ (tile .doze id).core.pw.xtal = .running) := by
  unfold isPowered; decide

theorem wit_LockAndReferenceComplete :
    (let s := tile .boot id
     s.core.pw.phase = .boot ∧ s.core.nvm.slotA.marker = none ∧ s.core.nvm.slotB.marker = none) ∧
    (let s := tile .watch (fun c => { c with slot := some .a, pw := { c.pw with waking := true, wakeTarget := .quiet, floor := 2#4 } })
     (s.core.pw.phase = .doze ∨ s.core.pw.phase = .watch) ∧ s.core.pw.waking = true ∧ s.core.pw.wakeTarget = .quiet ∧
     s.core.pw.floor = 2#4 ∧ s.core.slot.isSome = true ∧ s.core.rep.bistf = false ∧ s.core.pw.csWoke = false ∧ s.core.hg.relay = []) ∧
    (let s := tile .bare (fun c => { c with pw := { c.pw with refrdy := false } })
     s.core.pw.refbuf = true ∧ s.core.pw.refrdy = false) := by decide

/-- Asleep with port 5 LIVE in WIRE mode, ladder 7 armed, encoder 1 enabled and the alarm set. -/
def sleeper : State := tile .doze (fun c => { c with
  lnk := modifyAt c.lnk 5 (fun l => { l with mon := .live, cfg := { l.cfg with mode := 2#2 } })
  keys := { c.keys with ladders := modifyAt c.keys.ladders 7 (fun l => { l with armed := true }) }
  prof := { c.prof with enc := c.prof.enc.set 1 1, keys := c.prof.keys.set 12 1 }
  pw := { c.pw with alarmSet := true } })

theorem wit_WakeSourcesComplete :
    (sleeper.core.pw.phase = .doze ∨ sleeper.core.pw.phase = .watch) ∧
    ((sleeper.core.port 5).mon = .live ∧ (sleeper.core.port 5).cfg.mode ≠ 0#2 ∧ (sleeper.core.port 5).sevMask = false ∧
      (sleeper.core.port 5).noiseMask = false) ∧
    (sleeper.core.ladderInUse 7 = true ∧ (sleeper.core.ladder 7).armed = true ∧ (sleeper.core.ladder 7).masked = false) ∧
    sleeper.core.prof.encEn 1 = true ∧ sleeper.core.pw.alarmSet = true := by decide +kernel

/-- A tile with a Doze entry under way, or one to retry. -/
def entering (ph : Phase) (entry retry : Option DozeEntry) : State :=
  tile ph (fun c => { c with pw := { c.pw with entry := entry, retry := retry } })

theorem wit_DozeEntryCompletes :
    (let s := entering .quiet (some { target := .watch, byReq := true }) none
     s.core.pw.entry = some { target := .watch, byReq := true } ∧ s.core.pw.phase.isAwake = true ∧ s.core.quiesced = true) ∧
    (let s := entering .run none (some { target := .quiet, byReq := true })
     s.core.pw.retry = some { target := .quiet, byReq := true } ∧ s.core.pw.entry = none ∧ s.core.pw.phase = .run) ∧
    (let s : State := { entering .run none (some { target := .watch, byReq := false }) with core := { (entering .run none
        (some { target := .watch, byReq := false })).core with pw := { (entering .run none (some { target := .watch, byReq := false })).core.pw with
        floor := 5#4 } } }
     s.core.pw.retry = some { target := .watch, byReq := false } ∧ s.core.pw.entry = none ∧ s.core.keptBelowFloor .watch = true) ∧
    (entering .quiet none (some { target := .watch, byReq := false })).core.keptBelowFloor .doze = false ∧
    (let s := entering .bare none (some { target := .doze, byReq := false })
     s.core.pw.retry = some { target := .doze, byReq := false } ∧ s.core.pw.entry = none ∧
       (s.core.pw.phase = .quiet ∨ s.core.pw.phase = .bare)) := by decide +kernel

theorem wit_IdleTimesComplete :
    (let s := tile .run id
     s.core.pw.phase = .run ∧ s.core.pw.entry = none ∧ s.core.trk.contacts = [] ∧ s.core.trk.hover = none ∧
     s.core.heldByCommand = false ∧ s.core.idleTarget ≠ .run) ∧
    (let s := tile .quiet id
     s.core.pw.phase = .quiet ∧ s.core.pw.entry = none ∧ s.core.idleTarget.isAsleep = true ∧ s.core.panelRuns = false ∧
     ∀ l : Ladder, s.core.ladderHolds l = false) ∧
    ((tile .bare id).core.pw.phase = .bare ∧ (tile .bare id).core.pw.entry = none ∧ (tile .bare id).core.panelRuns = false) := by decide +kernel

/-- In Run, the given slot just past, of a frame of the given kind. -/
def inFrame (slot : SlotName) (m : Option Maint) (f : Core → Core) : State :=
  tile .run (fun c => f { c with acq := { c.acq with running := true, slot := some slot, maint := m } })

/-- The shape of a NOISE slot's windows and of a scan on hop set 0. -/
def windows (n : Nat) (hops : List Nat) : List (List Samples) := hops.flatMap (fun h => List.replicate n (List.replicate 26 (List.replicate (hopM h) 0#12)))

/-- The samples of a MUTUAL slot before the steps or after them, `n` a channel. -/
def around (n : Nat → Nat) : List Samples := (List.range 26).map (fun ch => List.replicate (n ch) 0#12)

theorem wit_SlotMeasurementsComplete :
    (let s := tile .run id
     s.core.pw.phase = .run ∧ s.core.pw.entry = none ∧ s.core.pw.req = 0#4 ∧ s.core.pw.idleDue = false ∧
     s.core.gradeNow < 6 ∧ (∀ r ∈ s.core.rep.slices, r.failDue = none) ∧ s.core.hg.joinRefused = false ∧ s.core.rep.selftest = none ∧ s.core.rep.testDue = false ∧ s.core.rep.finger = none ∧
     s.core.rep.fingerWait = none ∧ s.core.acq.maintDue = [] ∧ s.core.node.seek = none ∧ s.core.newProf = none ∧
     s.core.pk.deferred = [] ∧ s.core.acq.swingAnn = none) ∧
    (let s := inFrame .sync none id
     s.core.atSlot .sync = true ∧ s.core.acq.maint = none ∧ s.core.acq.noiseGiven = false ∧
     s.core.noiseShape (windows 2 s.core.surveySets) [] = true) ∧
    (let s := inFrame .noise none id
     s.core.atSlot .noise = true ∧ s.core.acq.maint = none ∧
     s.core.mutualShape
       { pre := around (fun _ => hopM s.core.acq.hop.toNat / 16), steps := windows 32 [s.core.acq.hop.toNat]
         tail := around (Core.tailCount (s.core.prof.mutualT - mutualNeed s.core.acq.hop.toNat)) } = true ∧
     s.core.acq.sagRun < 2) ∧
    (let s := inFrame .scan none id
     s.core.atSlot .scan = true ∧ 0 < s.core.prof.selfT ∧ s.core.acq.maint = none ∧ s.core.acq.noiseGiven = false ∧
     (List.replicate 56 ([] : List Nat)).length = 56) := by decide +kernel

/-- Ports each owe a SEAM_D: a scanning partner, no digest mismatch, in the tile's panel. -/
def waiting (ps : List Nat) : State := inFrame .compute none (fun c => { c with
  hg := { c.hg with panelRoot := true }
  lnk := ps.foldl (fun l p => modifyAt l p (fun x => { x with mon := .live, cfg := { x.cfg with mode := 1#2 } })) c.lnk
  hp := ps.foldl (fun l p => modifyAt l p (fun x => { x with partner := some { hello 7#48 with state := 5#4 }, edge := false })) c.hp
  trk := { c.trk with phase := .waitD } })

theorem wit_SeamComputeReportComplete :
    (let s := inFrame .self none id
     s.core.beforeSeam = true ∧ s.core.acq.maint = none) ∧
    (let s := inFrame .seam (some (.slicecal 1)) id
     s.core.atSlot .seam = true ∧ s.core.acq.maint = some (.slicecal 1)) ∧
    (let s := inFrame .seam none id
     s.core.atSlot .seam = true ∧ s.core.acq.maint = none ∧ s.core.acq.noiseGiven = false ∧ s.core.node.valid = false ∧
     s.core.hp = List.replicate 6 HedgePort.reset) ∧
    (let s := inFrame .seam none (fun c => { c with node := { c.node with valid := true } })
     s.core.atSlot .seam = true ∧ s.core.acq.maint = none ∧ s.core.acq.noiseGiven = false ∧ s.core.node.valid = true ∧
     s.core.hp = List.replicate 6 HedgePort.reset) ∧
    (let s := waiting [0, 3]
     s.core.trk.phase = .waitD ∧ s.core.awaitsD 0 = true ∧ s.core.awaitsD 3 = true ∧ (0 : Port) ≠ 3) ∧
    (let s := waiting [3]
     s.core.trk.phase = .waitD ∧ s.core.awaitsD 3 = true ∧ ∀ q : Port, q ≠ 3 → s.core.awaitsD q = false) ∧
    (let s := waiting [0, 3]
     let t := { s with core := { s.core with
       trk := { s.core.trk with phase := .waitX }
       hp := [0, 3].foldl (fun l p => modifyAt l p (fun x => { x with
         inH := some (s.core.seamHead 0), outX := some { fc := s.core.hg.fc, more := false, matched := [], blocks := [] }, xOver := p == 0 })) s.core.hp } }
     t.core.trk.phase = .waitX ∧ t.core.mapped = [0, 3] ∧ (t.core.hport 0).xOver = true ∧ (t.core.hport 3).xOver = false) ∧
    (let s := inFrame .compute none (fun c => { c with trk := { c.trk with phase := .done } })
     s.core.atSlot .compute = true ∧ s.core.acq.maint = none ∧ s.core.trk.phase = .done ∧ s.core.hg.confirmed = false ∧
     s.core.hg.panelRoot = false) ∧
    (let s := inFrame .compute (some .selftest) id
     s.core.atSlot .compute = true ∧ s.core.acq.maint = some .selftest) := by decide +kernel

/-- The keeper at work: the node of drive line 3 and sense line 5 lies 400 below B_SET where L is 300. -/
def keeping : State := inFrame .sync none (fun c => { c with
  node := { c.node with valid := true, lsbF := List.replicate 24 300
                        nodes := modifyAt (c.node.nodes.map (fun n => { n with valid := true, inc := true, b := c.prof.bSet }))
                          (nodeAt c.colour 3 5) (fun n => { n with b := n.b - 400 }) } })

theorem wit_KeeperRequestsOneCode :
    keeping.core.pw.phase = .run ∧ keeping.core.acq.running = true ∧ keeping.core.prof.keepInt ≠ 0 ∧ keeping.core.node.valid = true ∧
    keeping.core.acq.maint = none ∧ keeping.core.node.pend.length = 24 ∧ keeping.core.prof.nSns ≤ 24 ∧ 5 < keeping.core.prof.nSns ∧
    keeping.core.lineExcluded 5 = false ∧ keeping.core.node.coarse.getD 5 false = false ∧ keeping.core.worstNode 5 = some 3 ∧
    keeping.core.deviation 3 5 < 0 ∧ 3 * keeping.core.lineL 5 < 4 * ((keeping.core.deviation 3 5).natAbs : Int) ∧
    (keeping.core.lineCodes 5).getD 3 0 < 63 := by decide +kernel

/-- In Watch with W_CONFIRM 1 and APPROACH in WAKE_ON; group 0 has its baseline at 1 000. -/
def watching (wakeOn : Int) : State := tile .watch (fun c => { c with
  prof := { c.prof with wake := c.prof.wake.set 0 wakeOn }
  acq := { c.acq with watch := modifyAt c.acq.watch 0 (fun g => { g with seeded := true, base := 16000, run := 15 }) } })

theorem wit_WatchBurstCompletes :
    (let s := watching 0
     let v := List.replicate s.core.prof.wGroups (some s.core.prof.ctMax)
     s.core.pw.phase = .watch ∧ s.core.burstShape v = true ∧ s.core.prof.wakeOn = 0 ∧ s.core.rep.watchFault = false ∧
     s.core.gradeNow = s.core.rep.grade.toNat ∧ ∀ n, some n ∈ v → s.core.prof.ctMin ≤ n) ∧
    (let s := watching 1
     let n := s.core.prof.ctMin
     let v := List.replicate s.core.prof.wGroups (some n)
     s.core.pw.phase = .watch ∧ s.core.burstShape v = true ∧ s.core.prof.wakeOn.testBit 0 = true ∧
     (s.core.acq.watch[0]?.map (fun g => g.seeded && decide ((16 * n : Int) < g.base - 16 * s.core.prof.wDelta) &&
       decide (s.core.prof.wConfirm ≤ g.run + 1))) = some true ∧ v[0]? = some (some n)) ∧
    (let s := watching 0
     let v := List.replicate s.core.prof.wGroups (some (s.core.prof.ctMin - 1))
     s.core.burstShape v = true ∧ s.core.prof.ctMin - 1 < s.core.prof.ctMin ∧ v[0]? = some (some (s.core.prof.ctMin - 1)) ∧
     s.core.acq.watch[0]?.map (fun g => g.seeded) = some true) := by
  refine ⟨⟨by decide +kernel, by decide +kernel, by decide +kernel, by decide +kernel, by decide +kernel, ?_⟩, by decide +kernel,
    by decide +kernel⟩
  intro n hx
  have hn := List.eq_of_mem_replicate hx
  injection hn with hn
  rw [hn]
  decide +kernel

/-! ### Keys, conversions and links -/

/-- The converter with one conversion under way. -/
def converting (ph : Phase) (v : Conv) (f : Sar → Sar) : State := tile ph (fun c => { c with sar := f { c.sar with cur := some v } })

/-- A host request with some conversions left. -/
def request (n : Nat) : UrgReq := { who := .host, chan := 13, count := 16, left := n, win := Tracker.code, tag := 0 }

theorem wit_ConverterCommandsComplete :
    (let s := converting .run .urgent (fun x => { x with urgent := [request 2] })
     s.core.pw.phase.isAwake = true ∧ s.core.pw.refrdy = true ∧ s.core.sar.cur = some .urgent ∧ s.core.sar.urgent = request 2 :: [] ∧
     2 ≤ (request 2).left) ∧
    (let s := converting .bare .urgent (fun x => { x with urgent := [request 1] })
     s.core.pw.phase.isAwake = true ∧ s.core.pw.ready = true ∧ s.core.sar.cur = some .urgent ∧ s.core.sar.urgent = request 1 :: [] ∧
     (request 1).left = 1 ∧ (request 1).who = .host) ∧
    (let s := converting .quiet (.user 15 true) (fun x => { x with useq := { x.useq with len := 16 } })
     s.core.pw.phase.isAwake = true ∧ s.core.sar.cur = some (.user 15 true) ∧ s.core.sar.useq.len ≤ 15 + 1 ∧
     ((s.core.sar.usr.getD 0 Tracker.code).add 4095).count < 2 ^ s.core.sar.useq.accLog) ∧
    (let s := converting .quiet (.user 0 true) (fun x => { x with useq := { x.useq with len := 1, accLog := 0 } })
     2 ^ s.core.sar.useq.accLog ≤ ((s.core.sar.usr.getD 0 Tracker.code).add 0).count) ∧
    (tile .run (fun c => { c with pw := { c.pw with batLow := true } })).core.pw.batLow = true ∧
    (let s := converting .run (.user 0 true) (fun x => { x with useq := { x.useq with len := 1, period := 1 }, userNext := none })
     s.core.pw.phase.isAwake = true ∧ s.core.pw.refrdy = true ∧ s.core.sar.useq.period ≠ 0 ∧ s.core.sar.useq.len ≠ 0 ∧
     s.core.sar.cur = some (.user 0 true) ∧ s.core.sar.userNext = none) ∧
    (converting .run (.user 0 true) (fun x => { x with userNext := some 0 })).core.sar.userNext ≠ none := by decide +kernel

/-- Ladder 0 changed. -/
def ladder0 (ph : Phase) (f : LadderSt → LadderSt) : State :=
  tile ph (fun c => { c with prof := { c.prof with keys := c.prof.keys.set 5 1 }
                             keys := { c.keys with ladders := modifyAt c.keys.ladders 0 f } })

theorem wit_LadderCommandsComplete :
    (let s := ladder0 .run (fun l => { l with keys := modifyAt l.keys 2 (fun k => { k with st := .pressed }) })
     s.core.keyDown 0 2 = true ∧ s.core.prof.longMs ≠ 0 ∧ s.core.pw.phase = .run ∧
     ((s.core.ladder 0).keys.getD 2 KeySt.rest).long = false ∧ ((s.core.ladder 0).keys.getD 2 KeySt.rest).stuck = false) ∧
    (let s := ladder0 .quiet (fun l => { l with invalid := true })
     (s.core.ladder 0).invalid = true ∧ (s.core.ladder 0).lfault = false ∧ s.core.pw.phase.isAwake = true) ∧
    (tile .watch id).core.pw.phase.isAsleep = true ∧
    (let s := ladder0 .quiet (fun l => { l with latch := true, spurious := List.replicate 14 0#32 })
     s.core.pw.phase.isAwake = true ∧ (s.core.ladder 0).latch = true ∧ (s.core.ladder 0).seen = false ∧
     ((s.core.ladder 0).spurious.filter (fun t => decide ((s.core.pw.rtc - t).toNat ≤ 117964800))).length < 15) ∧
    (let s := ladder0 .quiet (fun l => { l with latch := true, spurious := List.replicate 15 0#32 })
     15 ≤ ((s.core.ladder 0).spurious.filter (fun t => decide ((s.core.pw.rtc - t).toNat ≤ 117964800))).length) := by decide +kernel

/-- A combination in a state. -/
def combo (f : ComboSt → ComboSt) : State :=
  tile .quiet (fun c => { c with keys := { c.keys with caretaker := f c.keys.caretaker, provision := f c.keys.provision } })

/-- Encoder 0 enabled, with net detents. -/
def encoder0 (n : Int) : State := tile .quiet (fun c => { c with
  prof := { c.prof with enc := c.prof.enc.set 0 1 }, keys := { c.keys with encs := modifyAt c.keys.encs 0 (fun e => { e with net := n }) } })

theorem wit_EncodersAndCombinationsComplete :
    (let s := encoder0 (-3)
     (s.core.pw.phase ≠ .unpowered ∧ s.core.pw.phase ≠ .off ∧ s.core.pw.phase ≠ .reset) ∧ s.core.pw.entry = none ∧ s.core.prof.encEn 0 = true ∧
     s.core.pw.phase = .quiet ∧ (s.core.enc 0).net ≠ 0) ∧
    ((encoder0 0).core.enc 0).net = 0 ∧
    (let s := combo (fun k => { k with done := some 19999 })
     s.core.pw.phase.isAwake = true ∧ s.core.keys.caretaker.done = some 19999) ∧
    (let s := combo (fun k => { k with held := some 20000 })
     s.core.pw.phase.isAwake = true ∧ s.core.keys.caretaker.held = some 20000 ∧ s.core.pw.nvmInhibit = false ∧
     20000 < 20000 + s.core.prof.keyPeriod ∧ s.core.keys.provision.held = some 20000 ∧
     1000 * s.core.otpc.combo.pvHold < 20000 + s.core.prof.keyPeriod) ∧
    ((tile .doze id).core.pw.phase.isAsleep = true ∧ (tile .quiet id).core.pw.phase.isAsleep = false) := by decide +kernel

/-- Port `p` LIVE in a mode, changed on its line and its hedge side, in Quiet. -/
def onPort (p : Port) (mode : BitVec 2) (f : LinkPort → LinkPort) (g : HedgePort → HedgePort) : State := tile .quiet (fun c => { c with
  lnk := modifyAt c.lnk p.val (fun l => f { l with mon := .live, cfg := { l.cfg with mode := mode } }), hp := modifyAt c.hp p.val g })

/-- The bits of a character without parity, `n` samples a bit. -/
def charBits (n : Nat) (start : Bool) : List (List Bool) :=
  (start :: (List.replicate 8 true ++ [true])).map (fun b => List.replicate n b)

theorem wit_LinkReceptionCompletes :
    (let s := onPort 0 1#2 id id
     s.core.fast = true ∧ (s.core.port 0).listens = true ∧ s.core.charShape 0 (charBits 1 false) = true ∧ s.core.pw.entry = none ∧
     (s.core.port 0).cfg.mode ≠ 2#2) ∧
    (let s := onPort 5 2#2 id id
     s.core.fast = true ∧ (s.core.port 5).listens = true ∧ s.core.charShape 5 (charBits 3 true) = true ∧
     (s.core.port 5).cfg.mode = 2#2 ∧ ((charBits 3 true).map majority).headD false = true ∧
     s.core.charShape 5 (charBits 3 false) = true ∧ ((charBits 3 false).map majority).headD false = false) ∧
    ((tile .quiet id).core.port 0).listens = false ∧
    (let s := onPort 0 1#2 (fun l => { l with inFrame := true }) id
     s.core.fast = true ∧ (s.core.port 0).inFrame = true ∧ (s.core.port 0).op = 0#2 ∧ (s.core.port 0).echo = none) := by
  decide +kernel

/-- An ECHO operation under way. -/
def echoing (w : List RxChar) (started : Bool) : EchoSt := { waiting := w, started := started, ended := false }

theorem wit_LinkTransmissionCompletes :
    (let s := onPort 1 1#2 (fun l => { l with op := 2#2, txFifo := [0x41#8] }) id
     s.core.canSend 1 = true ∧ ((s.core.port 1).op = 1#2 ∨ (s.core.port 1).op = 2#2) ∧ (s.core.port 1).txFifo = 0x41#8 :: []) ∧
    (let s := onPort 1 1#2 (fun l => { l with op := 1#2, rawOnLine := true, txFifo := [0x42#8] }) id
     s.core.fast = true ∧ (s.core.port 1).rawOnLine = true ∧ (s.core.port 1).op = 1#2 ∧ (s.core.port 1).txFifo = 0x42#8 :: [] ∧
     (s.core.port 1).txbrk = false) ∧
    (let f := frameOf (.ka 4#8)
     let s := onPort 1 2#2 (fun l => { l with txq := [f] }) id
     s.core.canSend 1 = true ∧ (s.core.port 1).op = 0#2 ∧ (s.core.port 1).pendCfg = none ∧ (s.core.port 1).pendOp = none ∧
     (s.core.hport 1).asleep = false ∧ (s.core.port 1).txq = f :: [] ∧ f.body ≠ .probe ∧ f.body.acked = false) ∧
    (let f := frameOf .echoReq
     let s := onPort 1 1#2 (fun l => { l with txq := [f] }) (fun h => { h with outstanding := List.replicate 3 (frameOf .echoReq) })
     s.core.canSend 1 = true ∧ (s.core.port 1).op = 0#2 ∧ (s.core.port 1).pendCfg = none ∧ (s.core.port 1).pendOp = none ∧
     (s.core.hport 1).asleep = false ∧ (s.core.port 1).txq = f :: [] ∧ f.body ≠ .probe ∧ f.body.acked = true ∧ f.lseq = none ∧
     unacked (s.core.port 1) (s.core.hport 1) < 4) ∧
    (let s := onPort 1 1#2 (fun l => { l with onLine := some (frameOf .echoReq) }) id
     s.core.fast = true ∧ (s.core.port 1).rawOnLine = false ∧ (s.core.port 1).echoOut = false ∧
     (s.core.port 1).onLine = some (frameOf .echoReq) ∧
     (frameOf .echoReq).body ≠ .ready) ∧
    (let g : LinkCfg := { LinkCfg.factory with mode := 2#2 }
     let s := onPort 1 1#2 (fun l => { l with pendCfg := some g }) id
     s.core.fast = true ∧ (s.core.port 1).inFrame = false ∧ (s.core.port 1).onLine = none ∧ (s.core.port 1).rawOnLine = false ∧
     (s.core.port 1).echoOut = false ∧ (s.core.port 1).pendCfg = some g ∧ (s.core.port 1).pendOp = none ∧ (s.core.port 1).cfg.mode ≠ 0#2 ∧ g.mode ≠ 0#2) ∧
    (let s := onPort 1 1#2 (fun l => { l with pendOp := some 3#2 }) id
     s.core.fast = true ∧ (s.core.port 1).inFrame = false ∧ (s.core.port 1).onLine = none ∧ (s.core.port 1).rawOnLine = false ∧
     (s.core.port 1).echoOut = false ∧ (s.core.port 1).pendCfg = none ∧ (s.core.port 1).pendOp = some 3#2 ∧ (s.core.port 1).txq = []) := by decide +kernel

theorem wit_LineMonitorCompletes :
    (let s := onPort 2 1#2 (fun l => { l with noHunt := true }) id
     s.core.fast = true ∧ (s.core.port 2).noHunt = true ∧ (s.core.port 2).mon = .live) ∧
    (let s := onPort 2 1#2 (fun l => { l with mon := .severed }) id
     isPowered s.core ∧ s.core.pw.ready = true ∧ (s.core.port 2).cfg.mode ≠ 0#2 ∧
     ((s.core.port 2).mon = .absent ∨ (s.core.port 2).mon = .severed)) ∧
    (let s := onPort 2 1#2 id id
     s.core.fast = true ∧ s.core.pw.ready = true ∧ (s.core.port 2).mon = .live ∧ (s.core.port 2).suppressed = false) ∧
    (let s := onPort 2 1#2 (fun l => { l with mon := .brk }) id
     s.core.fast = true ∧ (s.core.port 2).mon = .brk ∧ (s.core.port 2).suppressed = false ∧ (2 : Port).val < s.core.hp.length) ∧
    (let x : RxChar := { data := 0x41#8, fe := false, pe := false, frameStart := true }
     let s := onPort 2 1#2 (fun l => { l with op := 3#2, echo := some (echoing [x] true) }) id
     s.core.linkDrives 2 = true ∧ (s.core.port 2).echo = some (echoing [x] true) ∧ (echoing [x] true).waiting = x :: [] ∧
     (echoing [x] true).ended = false) ∧
    (let s := onPort 2 1#2 (fun l => { l with echo := some (echoing [] false) }) id
     (s.core.port 2).echo = some (echoing [] false) ∧ (echoing [] false).started = false) ∧
    (let s := onPort 2 1#2 (fun l => { l with woke := true, spurious := List.replicate 14 0#32 }) id
     s.core.fast = true ∧ (s.core.port 2).woke = true ∧
     ((s.core.port 2).spurious.filter (fun t => decide ((s.core.pw.rtc - t).toNat ≤ 117964800))).length < 15) ∧
    (let s := onPort 2 1#2 (fun l => { l with woke := true, spurious := List.replicate 15 0#32 }) id
     s.core.fast = true ∧ (s.core.port 2).woke = true ∧
     15 ≤ ((s.core.port 2).spurious.filter (fun t => decide ((s.core.pw.rtc - t).toNat ≤ 117964800))).length) := by
  unfold isPowered; decide +kernel

/-- An RSP packet for this tile. -/
def rspPacket : List Byte := buildPacket { kind := 2, tenant := 0, urg := false, frag := false, last := false, dst := 0#10, ttl := 15,
                                           src := 9#10, seq := 1#16, opcode := 0#8, status := 0#8 } [0x55#8] none

/-- A frame that waits for its ACK. -/
def sent (n : BitVec 4) (tries : Nat) : TxFrame := { frameOf (.hello (hello 9#48)) with lseq := some n, tries := tries }

theorem wit_AcknowledgementCompletes :
    (let s := onPort 3 1#2 id id
     s.core.hears 3 = true ∧ 0#4 = (s.core.hport 3).lseqRx ∧ s.core.relayRoom rspPacket.length = true ∧
     (s.core.hport 3).miswired = false ∧ pkIntact rspPacket = true ∧ pkKind rspPacket = 2 ∧ pkDst rspPacket = s.core.hg.addr ∧
     s.core.hg.addr ≠ 0x3FF#10) ∧
    (let s := onPort 3 1#2 id id
     let full : List RelayItem := List.replicate 31 { bytes := List.replicate 1048 0#8, held := none, came := 0#32, notVia := none }
     let t : State := { s with core := { s.core with hg := { s.core.hg with relay := full } } }
     t.core.hears 3 = true ∧ 0#4 = (t.core.hport 3).lseqRx ∧ t.core.relayRoom 1048 = false) ∧
    (let s := onPort 3 1#2 id (fun h => { h with outstanding := [sent 15#4 3] })
     s.core.hears 3 = true ∧ (s.core.hport 3).outstanding = [sent 15#4 3] ∧ (s.core.port 3).txq = [] ∧ (sent 15#4 3).lseq = some 15#4 ∧
     (sent 15#4 3).carries = none ∧ (sent 15#4 3).body = .hello (hello 9#48) ∧ 3 ≤ (sent 15#4 3).tries ∧ s.core.fast = true) ∧
    (let s := onPort 3 1#2 id (fun h => { h with outstanding := [sent 0#4 2], nakWait := true })
     s.core.fast = true ∧ (s.core.hport 3).outstanding = sent 0#4 2 :: [] ∧ (sent 0#4 2).tries < 3 ∧ (s.core.hport 3).nakWait = true) := by
  decide +kernel

/-- The hedge's state changed. -/
def inHedge (f : Hedge → Hedge) (s : State) : State := { s with core := { s.core with hg := f s.core.hg } }

theorem wit_HelloAndAdmissionComplete :
    (let s := inHedge (fun h => { h with confirmed := true }) (onPort 0 1#2 id id)
     s.core.hears 0 = true ∧ s.core.hg.confirmed = true ∧ s.core.hg.relay = [] ∧ s.core.hg.wireJoined = false ∧ (0 : Port).val < s.core.hp.length ∧
     (s.core.hport 0).miswired = false ∧ s.core.hg.panelRoot = false ∧ s.core.fast = true ∧ s.core.helloPort 0 = true ∧
     (0 : Port).val < s.core.lnk.length) ∧
    (let s := onPort 0 1#2 id id
     s.core.hears 0 = true ∧ (s.core.hport 0).miswired = false ∧ (s.core.port 0).cfg.mode ≠ 2#2 ∧ s.core.hg.confirmed = false ∧
     s.core.hg.panelRoot = false ∧ s.core.hg.posConflict = false) := by
  decide +kernel

theorem wit_PartnerFramesComplete :
    (let s := onPort 4 2#2 (fun l => { l with cfg := { l.cfg with lead := 12#8, tail := 12#8 } })
       (fun h => { h with partner := some (hello 9#48), present := true, wakeTry := some 1 })
     s.core.hears 4 = true ∧ (s.core.port 4).cfg.mode = 2#2 ∧ (s.core.hport 4).partner = some (hello 9#48) ∧ s.core.fast = true ∧
     s.core.linkUp 4 = true ∧ (s.core.hport 4).asleep = false ∧ (4 : Port).val < s.core.lnk.length ∧ (s.core.hport 4).present = true ∧
     (4 : Port).val < s.core.hp.length ∧ (s.core.port 4).cfg.lead.toNat ≤ 12 ∧ (s.core.port 4).cfg.tail.toNat ≤ 12 ∧
     (s.core.hport 4).wakeTry = some 1 ∧ 1 < 2) ∧
    (let s := onPort 4 2#2 (fun l => { l with cfg := { l.cfg with lead := 13#8 } })
       (fun h => { h with wakeTry := some 2, delayRun := some { left := 0, sum := 1, got := 15, launch := some 8 } })
     s.core.hears 4 = true ∧ 12 < (s.core.port 4).cfg.lead.toNat ∧ (s.core.hport 4).wakeTry = some 2 ∧ 2 ≤ 2 ∧
     (s.core.hport 4).delayRun = some { left := 0, sum := 1, got := 15, launch := some 8 }) := by decide +kernel

/-! ### The hedge -/

/-- A SYNC of the timekeeper 0x100 of depth 13, with a hop change announced. -/
def syncOf (epoch : Byte) : SyncBody :=
  { fc := 7#32, tkAddr := 0x100#10, depth := 13#4, epoch := epoch, hopCur := 0#3, hopNext := 1#3, changeIn := 3#8, digest := 0#16, grants := [] }

/-- A live tile of a roster. -/
def rosterTile (uid : Uid) (a : Addr) (u : BitVec 8) : RosterTile :=
  { uid := uid, addr := a, u := u, v := 0#8, mask := 1#6, state := 5#4, lost := false }

theorem wit_SyncCompletes :
    (let s := onPort 0 1#2 id id
     s.core.hears 0 = true ∧ s.core.scanning = false ∧ s.core.isTile 0 = true ∧ s.core.linkUp 0 = true ∧ s.core.hg.panelRoot = false ∧
     (syncOf 0#8).depth.toNat < 14 ∧ (0 : Port).val < s.core.hp.length ∧ ∀ q : Port, q ≠ 0 → (s.core.hport q).syncD = none) ∧
    (let s := inHedge (fun h => { h with epoch := 2#8 }) (onPort 0 1#2 id id)
     let t : State := { s with core := s.core.modHp 5 (fun h => { h with syncD := some 3#4 }) }
     t.core.hears 0 = true ∧ (syncOf 1#8).epoch.toNat < t.core.hg.epoch.toNat ∧ (5 : Port) ≠ 0 ∧ (t.core.hport 5).syncD ≠ none) ∧
    (let s := inHedge (fun h => { h with syncBody := some (syncOf 1#8), depth := 1#4, syncThis := true }) (onPort 0 1#2 id id)
     s.core.fast = true ∧ s.core.hg.syncBody = some (syncOf 1#8) ∧ s.core.hg.panelRoot = false ∧ s.core.hg.depth ≠ 15#4 ∧
     s.core.hg.syncThis = true ∧ (0 : Port).val < s.core.lnk.length ∧ s.core.isTile 0 = true ∧ s.core.linkUp 0 = true) ∧
    (let s := inHedge (fun h => { h with syncBody := some (syncOf 1#8), panelRoot := true }) (inFrame .sync none id)
     s.core.fast = true ∧ s.core.hg.panelRoot = true ∧ s.core.acq.running = true) := by decide +kernel

theorem wit_SuccessionAndTrimComplete :
    (let s := inHedge (fun h => { h with framesNoSync := 3, roster := { version := 1#16, tiles := [rosterTile h.uid 9#10 0#8] } })
       (inFrame .sync none id)
     s.core.scanning = true ∧ s.core.hg.panelRoot = false ∧ 3 ≤ s.core.hg.framesNoSync ∧
     (∃ t ∈ s.core.hg.roster.live, t.uid = s.core.hg.uid) ∧ 3 + 4 * s.core.succession ≤ s.core.hg.framesNoSync) ∧
    (let s := inHedge (fun h => { h with handoverDue := true, corrFrames := 64, corrSum := -1 }) (tile .run id)
     s.core.fast = true ∧ s.core.hg.handoverDue = true ∧ s.core.hg.panelRoot = false ∧ 64 ≤ s.core.hg.corrFrames ∧
     s.core.hg.corrSum ≠ 0) ∧
    (inHedge (fun h => { h with corrFrames := 64 }) (tile .run id)).core.hg.corrSum = 0 := by decide +kernel

theorem wit_SeamFramesAndWakeComplete :
    (let s := onPort 5 1#2 id id
     s.core.hears 5 = true ∧ (s.core.hport 5).miswired = false ∧ s.core.isTile 5 = true ∧ s.core.trk.phase ≠ .waitD ∧
     s.core.trk.phase ≠ .waitX ∧ s.core.trk.phase ≠ .done ∧ (5 : Port).val < s.core.hp.length ∧ s.core.pw.phase = .quiet ∧
     s.core.mayRun = true) ∧
    (let s := onPort 5 1#2 id id
     let t : State := { s with core := { s.core with slot := some .a } }
     t.core.isBare = false) ∧
    (let s := inHedge (fun h => { h with wakesSeen := [7#16] }) (onPort 5 1#2 id id)
     s.core.hears 5 = true ∧ 7#16 ∈ s.core.hg.wakesSeen) := by decide +kernel

/-- A panel root with a block, and the given tiles in its roster. -/
def rootOf (tiles : List RosterTile) (f : Hedge → Hedge) : State :=
  inHedge (fun h => f { h with panelRoot := true, addr := 0x008#10, blocks := [0x008#10], roster := { version := 1#16, tiles := tiles } }) (tile .run id)

theorem wit_ElectionsComplete :
    (let s := tile .quiet id
     s.core.fast = true ∧ s.core.hg.panelRoot = false ∧ s.core.hg.hasRoster = false ∧ s.core.lowestKnown = s.core.hg.uid ∧
     s.core.alloc.ownBlocks = [] ∧ s.core.alloc.ownSingles = [] ∧ s.core.alloc.byAddr = [] ∧ s.core.alloc.singles = [] ∧
     s.core.hg.adverts = [] ∧ s.core.hg.roster.tiles = [] ∧ s.core.hg.relay = []) ∧
    (let s := rootOf [] id
     s.core.fast = true ∧ s.core.hg.panelRoot = true ∧ s.core.hg.hedgeRoot = false ∧ s.core.hg.adverts = [] ∧
     s.core.hg.panelNumbers = []) := by decide +kernel

/-- 64 live tiles in a row of the lattice. -/
def sixtyFour : List RosterTile := (List.range 64).map (fun i => rosterTile (BitVec.ofNat 48 (i + 100)) (BitVec.ofNat 10 (i + 8)) (BitVec.ofNat 8 (i + 2)))

theorem wit_AdmissionAtRootCompletes :
    (let s := rootOf (sixtyFour.take 1) id
     s.core.fast = true ∧ s.core.hg.panelRoot = true ∧ 0x00F#10 ∈ s.core.hg.blocks.flatMap blockAddrs ∧
     s.core.addrFree (hello 7#48).uid 0x00F#10 = true ∧ s.core.hg.roster.byUid (hello 7#48).uid = none ∧ (hello 7#48).posValid = true ∧
     (∀ t ∈ s.core.hg.roster.live, ¬ (t.u = (hello 7#48).u ∧ t.v = (hello 7#48).v)) ∧ s.core.hg.roster.live.length < 64 ∧
     s.core.hedgeTiles < 1021) ∧
    (let s := rootOf sixtyFour id
     s.core.hg.roster.byUid (hello 7#48).uid = none ∧ (∀ t ∈ s.core.hg.roster.live, ¬ (t.u = (hello 7#48).u ∧ t.v = (hello 7#48).v)) ∧
     64 ≤ s.core.hg.roster.live.length) ∧
    (let s := inHedge (fun h => { h with joinWait := [(3, 7#48)], joinRefused := true })
       (onPort 3 2#2 id (fun h => { h with partner := some { hello 9#48 with panelRoot := true, addr := 0x010#10 } }))
     s.core.fast = true ∧ s.core.hg.joinWait = [(3, 7#48)] ∧ (3 : Port).val < s.core.lnk.length ∧ s.core.hg.joinRefused = true ∧
     s.core.hg.confirmed = false ∧ s.core.hg.panelRoot = false ∧ s.core.sponsor = some 3 ∧ s.core.isTile 3 = false) ∧
    (let s := rootOf [] id
     let t := rosterTile s.core.hg.uid 0x008#10 s.core.hg.u
     let r : Roster := { version := 2#16, tiles := [t] }
     s.core.fast = true ∧ s.core.hg.panelRoot = true ∧ r.byUid s.core.hg.uid = some t ∧ t.lost = false ∧ t.addr = s.core.hg.addr ∧
     t.u = s.core.hg.u ∧ t.v = s.core.hg.v ∧ s.core.hg.relay = []) ∧
    (let s := rootOf [] id
     let r : Roster := { version := 2#16, tiles := [] }
     s.core.fast = true ∧ s.core.hg.panelRoot = true ∧ r.byUid s.core.hg.uid = none ∧ s.core.hg.relay = []) ∧
    (let s := inHedge (fun h => { h with confirmed := true }) (tile .quiet id)
     let t := rosterTile s.core.hg.uid 0x020#10 9#8
     let r : Roster := { version := 2#16, tiles := [t] }
     s.core.fast = true ∧ s.core.hg.confirmed = true ∧ r.byUid s.core.hg.uid = some t ∧ t.lost = false ∧
     ¬ (t.addr = s.core.hg.addr ∧ t.u = s.core.hg.u ∧ t.v = s.core.hg.v)) := by decide +kernel

theorem wit_AdmissionAtRootCompletes_implied :
    (let s := inHedge (fun h => { h with joinRefused := true })
       (onPort 3 1#2 id (fun h => { h with present := true, partner := some { hello 9#48 with addr := 0x010#10 } }))
     s.core.fast = true ∧ s.core.hg.joinRefused = true ∧ s.core.hg.confirmed = false ∧ s.core.hg.panelRoot = false ∧
     s.core.sponsor = some 3 ∧ s.core.implied 3 ≠ none ∧ (∀ q ∈ Core.ports, q ≠ 3 → s.core.implied q = none) ∧
     (3 : Port).val < s.core.lnk.length) := by decide +kernel

/-- A LOSS of port 5. -/
def lossOf : LossReport := { port := 5#3, partner := 0#10, uid := 7#48, cause := .severed }

theorem wit_RootBookkeepingCompletes :
    (let s := rootOf (sixtyFour.take 1) (fun h => { h with
       tk := { h.tk with timing := true, framesQuiet := 3 }, lossReports := [{ lossOf with uid := 100#48 }] })
     s.core.fast = true ∧ s.core.hg.panelRoot = true ∧ s.core.pw.phase = .run ∧
     (∀ t ∈ s.core.hg.roster.tiles, t.addr = 0x008#10 → t.lost = false) ∧ s.core.hg.tk.timing = true ∧ 3 ≤ s.core.hg.tk.framesQuiet ∧
     lossOf.port.toNat < 6 ∧ s.core.hg.lossReports.head?.map (fun r => r.uid) = some 100#48 ∧ (s.core.hg.roster.byUid 100#48).isSome = true ∧
     ∀ t ∈ s.core.hg.roster.tiles, t.lost = false → t.addr ∈ s.core.reachable ∨ t.addr = s.core.hg.addr) ∧
    (let t := rosterTile 101#48 0x009#10 3#8
     let s := rootOf (sixtyFour.take 1 ++ [{ t with mask := 0#6 }]) (fun h => { h with lossReports := [{ lossOf with uid := 101#48 }] })
     s.core.fast = true ∧ s.core.hg.panelRoot = true ∧ s.core.hg.lossReports.head?.map (fun r => r.uid) = some t.uid ∧
     { t with mask := 0#6 } ∈ s.core.hg.roster.tiles ∧ t.addr ∉ s.core.reachable ∧ t.addr ≠ s.core.hg.addr ∧ t.lost = false) ∧
    (tile .run id).core.hg.lossReports = [] := by decide +kernel

/-- A PANEL_ADVERT of a root. -/
def advertOf (uid : Uid) : PanelAdvert :=
  { rootUid := uid, rootAddr := 0x100#10, panel := 1#5, tileCount := 1#8, blocks := [0x100#10], singles := [], provisional := false, wires := [] }

theorem wit_PanelsComplete :
    (let s := rootOf [] (fun h => { h with uid := 5#48, hedgeRoot := true, panelRefused := true })
     s.core.fast = true ∧ s.core.hg.panelRoot = true ∧ (advertOf 4#48).rootUid ≠ s.core.hg.uid ∧
     (advertOf 4#48).rootUid.toNat < s.core.hg.uid.toNat ∧ s.core.hg.panelRefused = true) ∧
    ((rootOf [] id).core.hg.hedgeRoot = false ∧ (advertOf 4#48).rootUid ≠ (rootOf [] id).core.hg.uid) ∧
    (advertOf 5#48).rootUid = (rootOf [] (fun h => { h with uid := 5#48 })).core.hg.uid ∧
    (let s := inHedge (fun h => { h with confirmed := true, lowestRoot := 4#48 }) (tile .quiet id)
     s.core.fast = true ∧ s.core.hg.panelRoot = false ∧ s.core.hg.confirmed = true ∧ (advertOf 4#48).rootUid = s.core.hg.lowestRoot) ∧
    (let g : PanelGrant := { panel := 3#5, blocks := [0x008#10], singles := [], refused := false }
     let s := rootOf [rosterTile 0#48 0x008#10 0#8] id
     s.core.fast = true ∧ s.core.hg.panelRoot = true ∧ g.refused = false ∧
     (∀ t ∈ s.core.hg.roster.tiles, t.addr ∈ g.blocks.flatMap blockAddrs ++ g.singles) ∧
     (∀ t ∈ s.core.hg.roster.tiles, t.uid = s.core.hg.uid → t.addr = s.core.hg.addr)) ∧
    ((tile .quiet id).core.fast = true ∧ (tile .quiet id).core.hg.panelRoot = false ∧ (tile .quiet id).core.hg.relay = []) := by
  decide +kernel

theorem wit_PanelsComplete_adverts :
    let s := rootOf [] (fun h => { h with advertAt := [(4#48, 0#32)], adverts := [advertOf 4#48] })
    s.core.fast = true ∧ s.core.hg.panelRoot = true ∧ ∀ x ∈ s.core.hg.advertAt, (s.core.pw.rtc - x.2).toNat < 983040 := by
  refine ⟨by decide, by decide, fun x hx => ?_⟩
  rw [List.mem_singleton.1 hx]
  exact (show (0 : Nat) < 983040 by omega)

/-- A packet of tenant 2 that carries one MOVE record of tile 0x100. -/
def rptOf (kind : Nat) : List Byte := buildPacket
  { kind := kind, tenant := 2, urg := false, frag := false, last := false, dst := 0#10, ttl := 15, src := 0x100#10, seq := 1#16
    opcode := 0#8, status := 0#8 } (le 2 0x100 ++ le 4 9 ++ [1#8, 0#8] ++ 0x11#8 :: List.replicate 15 0#8) none

/-- Tenant 2 defined, without a key, at home on tile 0x123; port 1 in WIRE mode leads there. -/
def relaying (relay : List RelayItem) (recs : List QEnt) : State :=
  inHedge (fun h => { h with relay := relay, routes := [{ lo := 0x120#10, hi := 0x127#10, gw := 0#10, port := 1#3, metric := 1#4, isStatic := true }] })
    (let s := onPort 1 2#2 id id
     { s with core := { s.core with
        nvm := { s.core.nvm with tenants := modifyAt s.core.nvm.tenants 2 (fun t => { t with isDefined := true, home := 0x123#10 }) }
        qs := modifyAt s.core.qs 2 (fun q => { q with recs := recs }) } })

theorem wit_ReportsOnTheirWayComplete :
    (let x : RelayItem := { bytes := rptOf 3, held := none, came := 0#32, notVia := none }
     let s := relaying [x] []
     s.core.fast = true ∧ s.core.hg.relay[0]? = some x ∧ x.held = none ∧ pkKind x.bytes = 3 ∧ pkTenant x.bytes = 2 ∧
     s.core.isDefined 2 = true ∧ (s.core.queue 2).recs.length < 64 ∧ (2 : Tenant).val < s.core.qs.length) ∧
    (let x : RelayItem := { bytes := rptOf 4, held := none, came := 0#32, notVia := none }
     let s := relaying [x] []
     s.core.hg.relay[0]? = some x ∧ pkKind x.bytes ≠ 1 ∧ pkKind x.bytes ≠ 3) ∧
    (let s := relaying [] (List.replicate 63 { bytes := [], fc := 0#32, origin := 0#10, fixed := false })
     let b := rptOf 3
     s.core.fast = true ∧ pkIntact b = true ∧ (pkKind b = 3 ∨ pkKind b = 4) ∧ byteAt (pkPayload b) 6 = 1#8 ∧
     chunks 16 ((pkPayload b).drop 8) = [0x11#8 :: List.replicate 15 0#8] ∧ s.core.isDefined (pkTenant b) = true ∧
     (s.core.queue (pkTenant b)).recs.length < 64 ∧ (pkTenant b).val < s.core.qs.length) ∧
    (let s := relaying [] [{ bytes := 0x11#8 :: List.replicate 15 0#8, fc := 0#32, origin := 0#10, fixed := false }]
     s.core.fast = true ∧ s.core.isDefined 2 = true ∧ s.core.isHome 2 = false ∧
     leadRun s.core.hg.addr (s.core.queue 2).items ≠ [] ∧
     (∀ i ∈ leadRun s.core.hg.addr (s.core.queue 2).items, i.isFixed = false) ∧
     s.core.nextHop (s.core.tenantRec 2).home = some 1 ∧ s.core.tenantKey 2 = none ∧ (1 : Port).val < s.core.lnk.length ∧
     (2 : Tenant).val < s.core.qs.length ∧ (2 : Tenant).val < s.core.ten.length) := by decide +kernel

/-! ### The host port and the packet engine -/

/-- READY, with an open transaction of this header after this many words. -/
def open_ (ph : Phase) (header : Word) (words : Nat) (f : Core → Core) : State := tile ph (fun c => f { c with host := { c.host with
  txn := some { captured := 0#16, header := header, words := words, served := true, ready := true, inSkip := false, outDone := false } } })

/-- A write of a register, one word. -/
def writing (ph : Phase) (addr : Nat) (f : Core → Core) : State := open_ ph (BitVec.ofNat 16 (256 * addr)) 0 f

/-- A read of a register, one word. -/
def reading (ph : Phase) (addr : Nat) (f : Core → Core) : State := open_ ph (BitVec.ofNat 16 (32768 + 256 * addr)) 0 f

theorem writing_writesAt (ph : Phase) (addr : Nat) (f : Core → Core) (h : addr < 64) (hf : ∀ c, (f c).host.txn = c.host.txn) :
    writesAt (writing ph addr f).core addr := by
  refine ⟨_, hf _, rfl, rfl, ?_, ?_, ?_⟩ <;> interval_cases addr <;> decide

theorem reading_readsAt (ph : Phase) (addr : Nat) (f : Core → Core) (h : addr < 64) (hf : ∀ c, (f c).host.txn = c.host.txn) :
    readsAt (reading ph addr f).core addr 0 := by
  refine ⟨_, hf _, rfl, rfl, ?_, ?_⟩ <;> interval_cases addr <;> decide

/-- The last of two words of an incrementing write reaches the register after the one addressed. -/
theorem wit_writesAt_second : writesAt (open_ .run 0x7E01#16 1 id).core 0x3F := ⟨_, rfl, rfl, rfl, by decide, by decide, by decide⟩

/-- The 256th word of a read is its last. -/
theorem wit_readsAt_last : readsAt (open_ .run 0x8AFF#16 255 id).core 0x0A 255 := ⟨_, rfl, rfl, rfl, by decide, by decide +kernel⟩

theorem wit_TransactionsComplete :
    (let s := tile .bare id
     s.core.pw.phase.isAwake = true ∧ s.core.host.txn = none ∧ s.core.host.csHeld = false ∧ s.core.pw.entry = none ∧
     s.core.pw.ready = true ∧ 40 ≤ 40 ∧ 39 < 40) ∧
    (let t : Txn := { captured := 0#16, header := 0x7E01#16, words := 2, served := true, ready := true, inSkip := false, outDone := false }
     let s := open_ .run 0x7E01#16 2 id
     s.core.host.txn = some t ∧ t.served = true ∧ t.ready = true ∧ s.core.pw.ready = true ∧ hdrCount t.header ≤ t.words) ∧
    hdrRead 0x8A00#16 = true := by decide

theorem wit_RegisterWritesComplete :
    writesAt (writing .bare 0x04 id).core 0x04 ∧ writesAt (writing .run 0x04 id).core 0x04 ∧ writesAt (writing .run 0x07 id).core 0x07 ∧
    (0x3D ∉ [0x01, 0x02, 0x03, 0x04, 0x07, 0x08, 0x16, 0x17, 0x19, 0x1D, 0x1E, 0x1F, 0x20, 0x21, 0x22, 0x23, 0x24, 0x25, 0x3E, 0x3F] ∧
      writesAt (writing .run 0x3D id).core 0x3D) ∧
    (0x0020#16).toNat % 16 = 0 ∧ (0x0024#16).toNat % 16 = 4 ∧ (0x0056#16).toNat % 16 > 5 ∧ (0x0015#16).toNat / 16 % 16 < 2 ∧
    (tile .run id).core.host.txn = none := by
  refine ⟨writing_writesAt _ _ _ (by decide) (fun _ => rfl), writing_writesAt _ _ _ (by decide) (fun _ => rfl),
    writing_writesAt _ _ _ (by decide) (fun _ => rfl), ⟨by decide, writing_writesAt _ _ _ (by decide) (fun _ => rfl)⟩, ?_⟩
  decide

/-- A packet of a tenant presented in PKTOUT at a place. -/
def heading (src : OutSource) (pos : Nat) : OutHead := { source := src, bytes := rptOf 2, pos := pos }

theorem wit_PacketPortCompletes :
    (writesAt (writing .run 0x08 id).core 0x08 ∧ ((writing .run 0x08 id).core.host.txn.any (fun t => t.inSkip)) = false) ∧
    (readsAt (reading .run 0x0A (fun c => { c with host := { c.host with outHead := some (heading (.records 2 false 1 false) 0) } })).core
      0x0A 0) ∧
    ((rptOf 2).length ≤ 2 * (19 + 1) ∧ 2 * (18 + 1) < (rptOf 2).length ∧ (heading .rsp 19).source = .rsp) ∧
    ((reading .run 0x0A id).core.host.outHead = none ∧ (reading .run 0x0A id).core.headPick = none ∧
      readsAt (reading .run 0x0A id).core 0x0A 0) ∧
    (let s := reading .run 0x0B (fun c => { c with host := { c.host with outRsp := [.foreign false (rptOf 2)] } })
     readsAt s.core 0x0B 0 ∧ s.core.pw.ready = true ∧ s.core.host.outHead = none ∧ s.core.headPick = some (.rsp 0) ∧
     s.core.host.outRsp[0]? = some (.foreign false (rptOf 2))) := by
  refine ⟨⟨writing_writesAt _ _ _ (by decide) (fun _ => rfl), by decide⟩, reading_readsAt _ _ _ (by decide) (fun _ => rfl),
    by decide +kernel, ⟨by decide, by decide +kernel, reading_readsAt _ _ _ (by decide) (fun _ => rfl)⟩,
    reading_readsAt _ _ _ (by decide) (fun _ => rfl), by decide, by decide, by decide +kernel, rfl⟩

theorem wit_ReadsWithEffectsComplete : ∀ a ∈ [0x06, 0x12, 0x18, 0x19, 0x26, 0x36, 0x3C],
    readsAt (reading .quiet a id).core a 0 ∧ (reading .quiet a id).core.pw.ready = true ∧
    (reading .quiet a id).core.keys.encs.length = 2 := by
  intro a ha
  refine ⟨reading_readsAt _ _ _ ?_ (fun _ => rfl), rfl, rfl⟩
  revert a ha
  decide

theorem wit_LinkAndConverterWritesComplete :
    (∀ a ∈ [0x16, 0x17, 0x19, 0x1E, 0x1F, 0x20, 0x21, 0x22, 0x23, 0x24], writesAt (writing .quiet a id).core a) ∧
    (let s := writing .quiet 0x19 (fun c => { c with lnk := modifyAt c.lnk 0 (fun l => { l with op := 1#2, txFifo := List.replicate 15 0#8 }) })
     (s.core.port s.core.host.linksel).isRaw = true ∧ (s.core.port s.core.host.linksel).txFifo.length < 16 ∧
     s.core.host.linksel.val < s.core.lnk.length) ∧
    (let s := writing .quiet 0x24 id
     (s.core.port s.core.host.linksel).isRaw = false ∧ s.core.sar.userNext = none ∧ s.core.sar.userBegun = false ∧
     s.core.sar.useqReg.period = 0 ∧ s.core.sar.cur = none ∧ s.core.sar.urgent = [] ∧ s.core.sar.sysQ = [] ∧ s.core.pw.refrdy = true) ∧
    ((∀ e ∈ nibbles 0xDDDD#16, e ≤ 13) ∧ (∃ e ∈ nibbles 0xE000#16, 13 < e) ∧
      (writing .quiet 0x20 (fun c => { c with sar := { c.sar with userBegun := true } })).core.sar.userBegun = true) ∧
    ((0x0250#16).toNat % 32 = 16 ∧ (0x0250#16).getLsbD 6 = true ∧ (0x0250#16).getLsbD 11 = false ∧ (0x0800#16).getLsbD 11 = true ∧
      (0x0800#16).getLsbD 6 = false) ∧
    4 ≤ (writing .quiet 0x24 (fun c => { c with sar := { c.sar with urgent := List.replicate 4 (request 1) } })).core.sar.urgent.length := by
  refine ⟨?_, by decide⟩
  intro a ha
  refine writing_writesAt _ _ _ ?_ (fun _ => rfl)
  revert a ha
  decide

/-- `Passes` as a computation. -/
def passes (c : Core) (op : Byte) (x : CmdCtx) (p : List Byte) (later : Bool) : Bool :=
  c.fast && !x.frag && x.src == c.hg.addr && !c.isBusy op.toNat x p && (c.rangeOf op.toNat x p).isNone &&
  (match opInfo op.toNat with
   | none => false
   | some i => (lenOk op.toNat c.prof.nSns p || (i.rw && p.isEmpty)) && c.mayDo i op.toNat x p && i.legal c.pw.phase != .no &&
      (later == (i.legal c.pw.phase == .defer && !(i.rw && p.isEmpty))) && (!later || decide (c.pk.deferred.length < 16)) &&
      (!i.rootOnly || c.hg.panelRoot))

theorem passes_sound {c : Core} {op : Byte} {x : CmdCtx} {p : List Byte} {later : Bool} (h : passes c op x p later = true) :
    Passes c op x p later := by
  unfold passes at h
  cases hi : opInfo op.toNat with
  | none => simp [hi] at h
  | some i =>
    simp [hi] at h
    obtain ⟨⟨⟨⟨⟨h1, h2⟩, h3⟩, h4⟩, h5⟩, ⟨⟨⟨⟨h6, h7⟩, h8⟩, h9⟩, h10⟩, h11⟩ := h
    refine ⟨h1, h2, h3, h4, h5, i, hi, h6, h7, h8, ?_, ?_, ?_⟩
    · rw [h9]; cases i.rw <;> simp
    · intro hl; rcases h10 with h | h
      · rw [hl] at h; cases h
      · exact h
    · intro hr; rcases h11 with h | h
      · rw [hr] at h; cases h
      · exact h

/-- The key and the wrapped key of RFC 3394, 4.1. -/
def key0 : List Byte := (List.range 16).map (BitVec.ofNat 8)
def blob0 : List Byte := (leInt 24 0xE5CFD27123863E9D827B5AFBD84BF3AE47B412810A8BA61F)

/-- A provisioned tile, panel root, with tenant 2 defined and both slots in use. -/
def engine (ph : Phase) : State := tile ph (fun c => { c with
  otpc := { c.otpc with custodian := some key0 }
  hg := { c.hg with panelRoot := true, roster := { version := 1#16, tiles := [rosterTile 7#48 0#10 1#8, rosterTile 8#48 1#10 2#8] } }
  nvm := { c.nvm with
    slotA := { c.nvm.slotA with header := some { gen := 0#32, len := 0, crc := 0#32 } }
    slotB := { c.nvm.slotB with header := some { gen := 0#32, len := 0, crc := 0#32 } }
    tenants := modifyAt c.nvm.tenants 2 (fun t => { t with isDefined := true, enabled := true, rights := 0xFE#8 }) } })

/-- The payload that a field-set opcode reads is one that it takes. -/
def asRead (op rec : Nat) : List Byte :=
  packFields (fieldSpec op Profile.factory.nSns) (fieldsOut op Profile.factory.nSns (Profile.factory.record rec))

/-- Every listed command passes its checks, at once or later. -/
def allPass (ph : Phase) (later : Bool) (l : List (Byte × List Byte)) : Bool := l.all (fun e => passes (engine ph).core e.1 host0 e.2 later)

theorem wit_EngineReadsComplete : allPass .bare false
    [(0x00#8, []), (0x01#8, []), (0x04#8, []), (0x10#8, [0#8]), (0x10#8, [1#8]), (0x10#8, [2#8]), (0x10#8, [3#8]), (0x13#8, []),
     (0x23#8, [15#8]), (0x54#8, [0#8, 0#8, 1#8, 4#8]), (0x55#8, []), (0x56#8, [5#8]), (0x57#8, [])] = true := by decide +kernel

theorem wit_TileReadsComplete : allPass .quiet false
    [(0x62#8, []), (0x63#8, []), (0x73#8, []), (0x74#8, []), (0x80#8, []), (0x70#8, []), (0x71#8, []), (0x60#8, []), (0x61#8, [])] = true := by
  decide +kernel

/-- Example 4.1 of RFC 3394: the wrapped key is unwrapped. -/
theorem test_unwrap : (engine .bare).core.unwrap blob0 = some [0x00#8, 0x11#8, 0x22#8, 0x33#8, 0x44#8, 0x55#8, 0x66#8, 0x77#8, 0x88#8,
    0x99#8, 0xAA#8, 0xBB#8, 0xCC#8, 0xDD#8, 0xEE#8, 0xFF#8] := by decide +kernel

theorem wit_EngineWritesComplete :
    allPass .bare false [(0x02#8, [0#8, 0xFF#8]), (0x02#8, [0#8, 5#8]), (0x03#8, []), (0x11#8, List.replicate 12 0#8),
      (0x21#8, [15#8, 0xFE#8, 0xFD#8, 3#8, 1#8]), (0x22#8, [2#8])] = true ∧ (engine .bare).core.nvmOk = true ∧
    passes (tile .bare (fun c => { c with otpc := { c.otpc with provOpen := true }, pw := { c.pw with provPin := true } })).core 0x20#8
      host0 key0 false = true ∧
    (let c := (engine .bare).core
     let d := { c with pw := { c.pw with nvmInhibit := true } }
     passes d 0x22#8 host0 [2#8] false = true ∧ d.nvmOk = false) := by
  decide +kernel

/-- A wrapped key that is unwrapped passes the range check of KEY_REPLACE. -/
theorem replace_range (c : Core) (blob k : List Byte) (h : c.unwrap blob = some k) : c.rangeOf (0x24#8).toNat host0 blob = none := by
  show need (c.unwrap blob).isSome _ = none
  rw [h]
  rfl

/-- A wrapped key that is unwrapped passes the range check of TENANT_DEFINE. -/
theorem define_range (c : Core) (blob k : List Byte) (h : c.unwrap blob = some k) :
    c.rangeOf (0x21#8).toNat host0 ([1#8, 0#8, 0#8, 0#8, 0#8] ++ blob) = none := by
  show need (_ && _ && _ && _ && (_ || (c.unwrap blob).isSome)) _ = none
  rw [h]
  simp [need, byteAt, leAt, ofLe]

theorem wit_EngineWritesComplete_keys : Passes (engine .bare).core 0x24#8 host0 blob0 false ∧
    Passes (engine .bare).core 0x21#8 host0 ([1#8, 0#8, 0#8, 0#8, 0#8] ++ blob0) false :=
  ⟨⟨by decide, by decide, by decide, by decide, replace_range _ _ _ test_unwrap, _, rfl, .inl (by decide), by decide, by decide, by decide,
      by decide, by decide⟩,
    ⟨by decide, by decide, by decide, by decide, define_range _ _ _ test_unwrap, _, rfl, .inl (by decide), by decide, by decide, by decide,
      by decide, by decide⟩⟩

/-- The mandatory records of the factory profile. -/
def smallRecords : List (Nat × List Byte) :=
  (recordSpecs.filter (fun r => r.2.2)).map (fun r => (r.1, packFields r.2.1 (Profile.factory.record r.1)))

/-- An image of those records alone, before its CRC-32. -/
def smallBody : List Byte :=
  le 2 0x4C50 ++ le 3 (12 + (smallRecords.flatMap recordBytes).length) ++ [1#8, BitVec.ofNat 8 smallRecords.length, 0#8] ++ smallRecords.flatMap recordBytes

/-- A tile with an image staged. -/
def staging (image : List Byte) : State := { engine .bare with core := { (engine .bare).core with pk := { (engine .bare).core.pk with
  staged := some image } } }

/-- The profile those records decide. -/
def smallProfile : Profile := (recordSpecs.filter (fun r => r.2.2)).foldl (fun p r => p.withRecord r.1 (Profile.factory.record r.1)) Profile.factory

theorem smallProfile_ok : smallProfile.ok (engine .bare).core.checkCtx = true := by decide +kernel

theorem smallRecords_hold : ∀ r ∈ recordSpecs.filter (fun r => r.2.2), r.1 < 256 ∧ recordHolds r.2.1 (Profile.factory.record r.1) = true ∧
    specLength r.2.1 < 65536 ∧ recordSpecs.find? (fun s => s.1 == r.1) = some r ∧
    recordKept r.1 (Profile.factory.record r.1) = Profile.factory.record r.1 := by decide +kernel

theorem small_length : (smallRecords.flatMap recordBytes).length = 1696 := by decide +kernel

theorem smallBody_read : readBody smallBody = some smallProfile := by
  have hs : splitRecords (byteAt smallBody 6).toNat (smallBody.drop 8) = some smallRecords := by
    have e : (byteAt smallBody 6).toNat = smallRecords.length := by decide
    have d : smallBody.drop 8 = smallRecords.flatMap recordBytes := by unfold smallBody; exact List.drop_left' (by simp)
    rw [e, d]
    refine splitRecords_flatMap _ fun r hr => ?_
    obtain ⟨x, hx, rfl⟩ := List.mem_map.1 hr
    have h := smallRecords_hold x hx
    exact ⟨h.1, by rw [packFields_length _ _ h.2.1]; exact h.2.2.1⟩
  have hf : smallRecords.foldl (fun p r => match recordSpecs.find? (fun s => s.1 == r.1) with
      | some s => p.withRecord r.1 (recordKept r.1 (readFields s.2.1 r.2))
      | none => p) Profile.factory = smallProfile := by
    unfold smallRecords smallProfile
    rw [List.foldl_map]
    refine List.foldl_ext _ _ _ fun p r hr => ?_
    have h := smallRecords_hold r hr
    simp only [h.2.2.2.1, readFields_packFields _ _ h.2.1, h.2.2.2.2]
  unfold readBody
  simp only [hs]
  have hk : (smallRecords.all (fun r => recordSpecs.any (fun s => s.1 == r.1 && specLength s.2.1 == r.2.length)) &&
    recordSpecs.all (fun s => !s.2.2 || (smallRecords.map (fun r => r.1)).contains s.1) && noRepeats (smallRecords.map (fun r => r.1))) = true := by
    decide +kernel
  rw [if_pos hk]
  exact congrArg some hf

theorem staging_passes (image : List Byte) (h : (imageProfile image (engine .bare).core.checkCtx).isSome = true) :
    Passes (staging image).core 0x12#8 host0 (0#8 :: le 4 1) false ∧ (staging image).core.commitImage 0#8 = some image := by
  refine ⟨⟨rfl, rfl, rfl, ?_, ?_, { OpInfo.always (some 7) with run := .defer }, rfl, .inl rfl, ?_, ?_, ?_, fun h => ?_, fun h => ?_⟩, rfl⟩
  · show ((engine .bare).core.nvmBusy || (engine .bare).core.nvmForced) = false
    decide
  · show need ((leAt (0#8 :: le 4 1) 1 4 == ((engine .bare).core.gen + 1#32).toNat) &&
      Option.any (fun i => (imageProfile i (engine .bare).core.checkCtx).isSome) (some image)) _ = none
    have g : (leAt (0#8 :: le 4 1) 1 4 == ((engine .bare).core.gen + 1#32).toNat) = true := by decide
    rw [g]
    simp [need, h]
  · show (engine .bare).core.mayDo { OpInfo.always (some 7) with run := .defer } 0x12 host0 (0#8 :: le 4 1) = true
    decide
  · show Legal.act ≠ Legal.no
    decide
  · show false = true ↔ Legal.act = Legal.defer ∧ ¬ (false = true ∧ (0#8 :: le 4 1) = [])
    decide
  · exact absurd h (by decide)
  · exact absurd h (by decide)

theorem smallBody_length : smallBody.length = 1704 := by
  have := small_length
  simp only [smallBody, List.length_append, le_length, List.length_cons, List.length_nil, this]

theorem smallImage_read : readImage (smallBody ++ le 4 (crc32 smallBody).toNat) = some smallProfile := by
  have n := smallBody_length
  rw [readImage_crc smallBody (by omega) (by decide) (by rw [n]; decide +kernel) (by decide), smallBody_read]

theorem wit_EngineWritesComplete_commit : ∃ image,
    Passes (staging image).core 0x12#8 host0 (0#8 :: le 4 1) false ∧ (staging image).core.commitImage 0#8 = some image := by
  refine ⟨smallBody ++ le 4 (crc32 smallBody).toNat, staging_passes _ ?_⟩
  unfold imageProfile
  rw [smallImage_read, List.length_append, smallBody_length, le_length, if_pos (by decide)]
  simp [smallProfile_ok]

/-- A tile in Quiet at grade 6 for a second failed slice of one converter, with a profile, its core changed. -/
def graded (f : Core → Core) : State :=
  let s := engine .quiet
  { s with core := f { s.core with slot := some .a, rep := { s.core.rep with grade := 6#3, slices := modifyAt s.core.rep.slices 0 (fun r =>
    { r with failed := [10, 11] }) } } }

theorem wit_TileWritesComplete :
    allPass .quiet false [(0x70#8, [0x20#8, 1#8, 0x27#8, 1#8, 0#8, 0#8, 1#8, 0#8]), (0x71#8, (List.replicate 6 LinkCfg.factory.bytes).flatten),
      (0x72#8, [5#8, 1#8, 1#8, 0#8]), (0x75#8, [1#8, 0#8, 3#8, 0#8]), (0x75#8, [0#8, 0#8, 3#8, 0#8]), (0x84#8, [5#8]),
      (0x60#8, asRead 0x60 8), (0x61#8, asRead 0x61 9)] = true ∧
    (engine .quiet).core.hg.relay = [] ∧ (engine .quiet).core.nvmOk = true ∧ (engine .quiet).core.rep.grade ≠ 6#3 ∧
    (let s := graded (fun c => { c with pw := { c.pw with nvmInhibit := true } })
     passes s.core 0x71#8 host0 (List.replicate 6 LinkCfg.factory.bytes).flatten false = true ∧ s.core.nvmOk = false) ∧
    (let s := graded id
     passes s.core 0x84#8 host0 [2#8] false = true ∧ s.core.rep.grade = 6#3 ∧ s.core.pw.phase = .quiet ∧ s.core.pw.entry = none ∧
     s.core.slot.isSome = true ∧ s.core.rep.bistf = false ∧ s.core.hg.joinRefused = false) ∧
    BitVec.ofNat 10 (leAt [0#8, 0#8] 0 2) = (engine .quiet).core.hg.addr := by
  decide +kernel

theorem wit_DeferredSettingsComplete :
    allPass .quiet true [(0x32#8, asRead 0x32 6), (0x33#8, asRead 0x33 7), (0x46#8, asRead 0x46 3), (0x48#8, asRead 0x48 12),
      (0x45#8, asRead 0x45 2), (0x40#8, asRead 0x40 1), (0x30#8, [63#8, 1#8] ++ List.replicate 16 0#8),
      (0x31#8, [7#8, 1#8] ++ List.replicate 5 0#8), (0x41#8, [0#8, 1#8, 0#8] ++ List.replicate 29 0#8),
      (0x42#8, [23#8, 0#8] ++ List.replicate 32 63#8), (0x47#8, [1#8, 0#8])] = true ∧
    (let s := engine .quiet
     s.core.node.pend = List.replicate 24 none ∧ s.core.node.codes.length = 24 ∧ (s.core.lineCodes 23).length = 32 ∧ s.core.pk.deferred = []) := by
  decide +kernel

theorem wit_DeferredRequestsComplete :
    allPass .run true [(0x43#8, []), (0x44#8, List.replicate 7 0xFF#8 ++ [7#8]), (0x50#8, [1#8, 0#8]), (0x51#8, []),
      (0x52#8, [0#8, 0#8, 0#8, 0#8]), (0x53#8, [0#8]), (0x53#8, [2#8]), (0x83#8, []), (0x81#8, [1#8, 23#8]), (0x81#8, [2#8, 31#8]),
      (0x81#8, [3#8, 0x9F#8]), (0x82#8, [1#8, 0#8]), (0x82#8, [2#8, 0#8]), (0x53#8, [1#8]), (0x53#8, [3#8]), (0x81#8, [0#8, 25#8]),
      (0x82#8, [0#8, 0#8]), (0x82#8, [3#8, 0x82#8])] = true ∧
    (engine .run).core.nvmOk = true ∧
    (let c := (engine .run).core
     let d := { c with pw := { c.pw with nvmInhibit := true } }
     passes d 0x83#8 host0 [] true = true ∧ d.nvmOk = false) ∧
    (let mine : RepairEntry := { kind := 3#8, index := 2#8, detail := 1#8, origin := 1#8 }
     let s := graded (fun c => { c with nvm := { c.nvm with fieldMap := [mine] } })
     passes s.core 0x82#8 host0 [3#8, 0x82#8] true = true ∧ mine ∈ s.core.repairs ∧ s.core.rep.grade = 6#3 ∧ s.core.gradeNow = 6 ∧
     s.core.pw.phase = .quiet ∧ s.core.pw.entry = none ∧ s.core.slot.isSome = true ∧ s.core.rep.bistf = false ∧
     s.core.hg.joinRefused = false) := by
  decide +kernel

/-! ### Events of the packet engine, NVM and the repair manager -/

/-- A seek that waits for its boundary. -/
def seeking : SeekSt := { ctx := host0, frame := none, coarse := [], codes := [], xAtC := [], clipped := [] }

theorem wit_EngineEventsComplete :
    (let s := tile .run (fun c => { c with pw := { c.pw with resetDue := true } })
     s.core.pw.resetDue = true ∧ s.core.pw.phase = .run) ∧
    (let s := tile .quiet (fun c => { c with pk := { c.pk with deferred := [{ opcode := 0x44#8, ctx := host0, payload := [] }] } })
     s.core.pw.phase = .quiet ∧ s.core.pk.deferred = [{ opcode := 0x44#8, ctx := host0, payload := [] }]) ∧
    (let s := inFrame .sync none (fun c => { c with node := { c.node with seek := some seeking } })
     s.core.node.seek = some seeking ∧ seeking.frame = none ∧ s.core.pw.phase = .run ∧ s.core.acq.running = true ∧
     s.core.acq.slot = some .sync ∧ s.core.acq.maint = none ∧ s.core.acq.noiseGiven = false ∧ s.core.trk.contacts = [] ∧
     s.core.rep.bgdefer.getLsbD 0 = false ∧ seeking.ctx.src = s.core.hg.addr) ∧
    (let s := tile .run (fun c => { c with rep := { c.rep with fingerWait := some host0, testCtx := some host0 } })
     s.core.rep.fingerWait = some host0 ∧ s.core.rep.testCtx = some host0 ∧ host0.src = s.core.hg.addr ∧ s.core.rep.suspects = []) ∧
    (tile .off id).core.pw.phase = .off := by decide

/-- A commit under way at a step. -/
def committing (ph : Phase) (j : CommitJob) : State := tile ph (fun c => { c with nvm := { c.nvm with job := some j } })

/-- A commit of 600 bytes into a slot, or of the small image. -/
def job (slot : SlotId) (st : CommitStage) (image : List Byte) : CommitJob :=
  { slot := slot, image := image, gen := 7#32, stage := st, reply := some host0 }

/-- A tile that programs its custodian key, with these areas. -/
def programming (areas : List KeyArea) : State :=
  let s := tile .bare (fun c => { c with keyProg := some { key := key0, ctx := { host0 with auth := false } } })
  { s with otp := { s.otp with areas := areas } }

theorem wit_CommitAndKeyStepsComplete :
    (let j := job .b (.erase 30) []
     (committing .run j).core.nvm.job = some j ∧ j.stage = .erase 30 ∧ 30 + 1 < 32 ∧ (committing .run j).core.nvmOk = true) ∧
    (let j := job .a (.body 2) (List.replicate 600 0#8)
     (committing .bare j).core.nvm.job = some j ∧ j.stage = .body 2 ∧ j.slot = .a ∧ (committing .bare j).core.nvmOk = true) ∧
    (let j := job .b .header []
     (committing .bare j).core.nvm.job = some j ∧ j.stage = .header ∧ j.slot = .b ∧ (committing .bare j).core.nvmOk = true) ∧
    (let s := { committing .bare (job .a .header []) with core := { (committing .bare (job .a .header [])).core with
        nvm := { (committing .bare (job .a .header [])).core.nvm with sparesUsed := 16 } } }
     s.core.nvm.job = some (job .a .header []) ∧ host0.src = s.core.hg.addr ∧ s.core.nvmOk = true ∧ 16 ≤ s.core.nvm.sparesUsed ∧
     s.core.nvm.mapPending = [] ∧ s.core.nvm.faultsSaved = none) ∧
    (committing .bare (job .a (.body 2) (List.replicate 600 0#8))).core.nvm.sparesUsed < 16 ∧
    (let s := committing .bare (job .a .header [])
     let c := { s.core with pw := { s.core.pw with nvmInhibit := true } }
     c.nvm.job = some (job .a .header []) ∧ host0.src = c.hg.addr ∧ c.nvmOk = false) ∧
    (let s := programming [.spoiled, .blank, .blank, .spoiled]
     s.core.keyProg = some { key := key0, ctx := { host0 with auth := false } } ∧ host0.src = s.core.hg.addr ∧
     s.otp.areas = [.spoiled] ++ .blank :: [.blank, .spoiled]) := by decide +kernel

/-- While writes are inhibited the same image can be asked for. -/
theorem wit_EngineWritesComplete_inhibited : ∃ (c : Core) (image : List Byte), Passes c 0x12#8 host0 (0#8 :: le 4 1) false ∧ c.nvmOk = false ∧
    c.commitImage 0#8 = some image := by
  obtain ⟨image, h, hi⟩ := wit_EngineWritesComplete_commit
  refine ⟨{ (staging image).core with pw := { (staging image).core.pw with nvmInhibit := true } }, image, ?_, rfl, hi⟩
  exact h

/-- The marker of an image that can be read is the last step of its commit. -/
theorem wit_CommitAndKeyStepsComplete_marker : ∃ (s : State) (j : CommitJob) (x : CmdCtx) (q : Profile), s.core.nvm.job = some j ∧
    j.stage = .marker ∧ j.slot = .a ∧ j.reply = some x ∧ x.src = s.core.hg.addr ∧ s.core.pw.phase = .run ∧ readImage j.image = some q := by
  refine ⟨committing .run (job .a .marker (smallBody ++ le 4 (crc32 smallBody).toNat)), _, host0, _, rfl, rfl, rfl, rfl, rfl, rfl,
    smallImage_read⟩

/-- A tile in Run whose first converter's slice rotation is changed. -/
def rotating (f : SliceRot → SliceRot) : State := tile .run (fun c => { c with rep := { c.rep with
  slices := modifyAt c.rep.slices 0 f, testDue := true } })

theorem wit_SliceAndSelftestCommandsComplete :
    (let s := rotating id
     s.core.pw.phase = .run ∧ (s.core.sliceOf 0).failed = [] ∧ (s.core.sliceOf 0).doneCal = false ∧ (s.core.sliceOf 0).failDue = none ∧ (-300 : Int).natAbs ≤ 300 ∧
     (32 : Int).natAbs ≤ 32 ∧ 0 < s.core.rep.slices.length ∧ (300 < (-301 : Int).natAbs ∨ 32 < (0 : Int).natAbs) ∧
     (300 < (0 : Int).natAbs ∨ 32 < (33 : Int).natAbs) ∧ (s.core.sliceOf 0).out ∉ (s.core.sliceOf 0).bad ∧
     .slicecal 1 ∉ s.core.acq.maintDue ∧ s.core.rep.bgdefer.getLsbD 0 = false ∧ s.core.lives = true ∧ s.core.rep.testDue = true ∧
     s.core.rep.selftest = none ∧ s.core.rep.bgdefer.getLsbD 1 = false) ∧
    (let s := rotating (fun r => { r with bad := [r.out] })
     (s.core.sliceOf 0).failed = [] ∧ (s.core.sliceOf 0).doneCal = false ∧ (s.core.sliceOf 0).failDue = none ∧ (s.core.sliceOf 0).out ∈ (s.core.sliceOf 0).bad) ∧
    ((rotating (fun r => { r with doneCal := true })).core.sliceOf 0).doneCal = true ∧
    ((rotating (fun r => { r with failed := [10] })).core.sliceOf 0).failed ≠ [] ∧
    (let r : SelfTestRun := { frames := 1, first := [{ code := 0, index := 3 }], second := [], drift := 0, forced := false, ctx := none }
     let s := tile .run (fun c => { c with rep := { c.rep with selftest := some r } })
     s.core.rep.selftest = some r ∧ r.frames = 1 ∧ r.first ≠ [] ∧ .selftest ∉ s.core.acq.maintDue) ∧
    (let s := tile .run (fun c => { c with rep := { c.rep with suspects := [3] } })
     s.core.rep.suspects ≠ [] ∧ s.core.rep.selftest = none ∧ .selftest ∉ s.core.acq.maintDue) ∧
    (let s := tile .run (fun c => { c with
       rep := { c.rep with slices := modifyAt c.rep.slices 0 (fun r => { r with doneCal := true }), testDue := true, refresh := [(9, 0)] } })
     s.core.lives = true ∧ ∀ k : Fin 5, s.core.hasWork k = true ∧ s.core.rep.bgdefer.getLsbD k.val = false) ∧
    (let s := graded id
     s.core.lives = true ∧ s.core.rep.grade = 6#3 ∧ s.core.pw.phase = .quiet ∧ s.core.pw.entry = none ∧ s.core.slot.isSome = true ∧
     s.core.rep.bistf = false ∧ s.core.hg.joinRefused = false) ∧ (engine .quiet).core.rep.grade ≠ 6#3 := by decide +kernel

theorem wit_EnduranceCommandsComplete :
    (let s := tile .quiet (fun c => { c with rep := { c.rep with refresh := [(247, 0)] } })
     s.core.nvmTurn 2 = true ∧ s.core.nvmTurn 3 = true ∧ (∃ x ∈ s.core.rep.refresh, x.1 = 247) ∧ s.core.nvm.sparesUsed < 16 ∧
     (s.core.rowUsed 0 = true ∧ s.core.ringRow 0 = false ∧ 0 ≠ s.core.lastRow) ∧
     (s.core.rowUsed 87 = true ∧ s.core.ringRow 87 = false ∧ 87 ≠ s.core.lastRow) ∧
     (s.core.rowUsed 247 = true ∧ s.core.ringRow 247 = true ∧ 247 = s.core.lastRow) ∧
     (s.core.rowUsed 64 = true ∧ RecId.ofRow (s.core.rowHolds 64) = some .link ∧ 64 ≠ s.core.lastRow) ∧
     (s.core.rowUsed 85 = true ∧ RecId.ofRow (s.core.rowHolds 85) = some .life ∧ 85 ≠ s.core.lastRow) ∧
     s.core.physical (s.core.rowHolds 247) < s.core.nvm.rows.length) ∧
    (let s := committing .run (job .a .header [])
     s.core.nvmTurn 2 = false ∧ s.core.nvmTurn 3 = false ∧ s.core.nvmTurn 4 = false) ∧
    (let s := tile .run (fun c => { c with rep := { c.rep with tele := { c.rep.tele with
       vbatLow := some 3200, tdLow := some (-64), tdHigh := some 640 } } })
     s.core.nvmTurn 4 = true ∧ s.core.rep.tele.vbatLow = some 3200 ∧ s.core.rep.tele.tdLow = some (-64) ∧
     s.core.rep.tele.tdHigh = some 640 ∧ (s.core.nvm.ringSeq.toNat % 5120 + 1) % 5120 % 32 ≠ 28 ∧ s.core.rep.flushes ≠ 23) ∧
    (let s := tile .run (fun c => { c with nvm := { c.nvm with sparesUsed := 16 } })
     s.core.lives = true ∧ 16 ≤ s.core.nvm.sparesUsed) := by decide +kernel

/-! ### Rules of the whole tile -/

theorem wit_NothingHappensBeforeReady :
    (let s := tile .boot (fun c => { c with pw := { c.pw with ready := false } })
     s.core.pw.ready = false ∧ s.core.pw.phase = .boot ∧ s.core.host.txn = none ∧ s.core.host.csHeld = false ∧
     s.core.pw.entry = none ∧ 40 ≤ 40) ∧
    (let t : Txn := { captured := 0#16, header := 0x0800#16, words := 0, served := true, ready := false, inSkip := false, outDone := false }
     let s := tile .bare (fun c => { c with host := { c.host with txn := some t } })
     s.core.host.txn = some t ∧ t.ready = false ∧ hostWrite (.pktinWrite 5#16) = some (0x08, 5#16) ∧
     hostRead (.wakesrcRead true) = some (0x06, true)) := by decide

theorem wit_HostctlResetsOnItsKeyOnly : writesAt (writing .run 0x07 id).core 0x07 := writing_writesAt _ _ _ (by decide) (fun _ => rfl)

theorem wit_OutOfRangeWritesAreDiscarded :
    (∀ a ∈ [0x01, 0x02, 0x03, 0x04, 0x06, 0x16, 0x1D, 0x1E, 0x1F, 0x20, 0x23, 0x24, 0x25, 0x36, 0x3E, 0x3F], writesAt (writing .run a id).core a) ∧
    (outOfRange 0x04 0x0021#16 = true ∧ outOfRange 0x04 0x0016#16 = true ∧ outOfRange 0x04 0x0062#16 = true ∧ outOfRange 0x16 6#16 = true ∧
      outOfRange 0x1E 17#16 = true ∧ outOfRange 0x20 0xE000#16 = true ∧ outOfRange 0x23 0x00E0#16 = true ∧ outOfRange 0x24 14#16 = true ∧
      outOfRange 0x25 0x0030#16 = true ∧ outOfRange 0x25 0x000E#16 = true ∧ outOfRange 0x25 0x0017#16 = true ∧ outOfRange 0x25 0x001D#16 = true) ∧
    (outOfRange 0x04 0x0025#16 = false ∧ outOfRange 0x16 5#16 = false ∧ outOfRange 0x1E 16#16 = false ∧ outOfRange 0x20 0xDDDD#16 = false ∧
      outOfRange 0x24 13#16 = false ∧ outOfRange 0x25 0x0018#16 = false ∧ outOfRange 0x25 0x002F#16 = false) ∧
    (hostWrite (.useqSettingsWrite 0x1E#6 0#16) = some (0x1E, 0#16) ∧ hostWrite (.useqSettingsWrite 0x23#6 0#16) = some (0x23, 0#16) ∧
      hostWrite (.registerWrite 0x3F#6 1#16) = some (0x3F, 1#16) ∧ hostWrite (.useqSettingsWrite 0x24#6 0#16) = none) := by
  refine ⟨?_, by decide⟩
  intro a ha
  refine writing_writesAt _ _ _ ?_ (fun _ => rfl)
  revert a ha
  decide

theorem wit_FirstWriteReleasesAttention :
    (let s := tile .run id
     s.core.pw.ready = true ∧ s.core.host.firstWrite = false ∧ State.reset.core.pw.ready = false) ∧
    (tile .run (fun c => { c with host := { c.host with firstWrite := true } })).core.host.firstWrite = true ∧
    (writesAt (writing .run 0x07 id).core 0x07 ∧ ¬ ((0x07 : Nat) = 0x07 ∧ 0xC3A4#16 = 0xC3A5#16)) ∧
    writesAt (writing .run 0x08 id).core 0x08 ∧ (writesAt (writing .run 0x02 id).core 0x02 ∧ (0x0001#16).getLsbD 0 = true) := by
  refine ⟨by decide, rfl, ⟨writing_writesAt _ _ _ (by decide) (fun _ => rfl), by decide⟩, writing_writesAt _ _ _ (by decide) (fun _ => rfl),
    writing_writesAt _ _ _ (by decide) (fun _ => rfl), by decide⟩

/-- Tenant 2's counters. -/
def counting (h marks s : BitVec 32) (inhibit : Bool) : State := tile .run (fun c => { c with
  pw := { c.pw with nvmInhibit := inhibit }
  ten := modifyAt c.ten 2 (fun t => { t with h := h, marks := marks })
  nvm := { c.nvm with tenants := modifyAt c.nvm.tenants 2 (fun t => { t with s := s }) } })

theorem wit_ReplayWindow :
    (let c := (counting 100#32 0x7FFFFFFE#32 4000#32 false).core
     (c.tenantSt 2).isFresh 101#32 = true ∧ (c.tenantSt 2).isFresh 99#32 = true ∧ (c.tenantSt 2).isFresh 98#32 = false ∧
     (c.tenantSt 2).isFresh 100#32 = false ∧ (c.tenantSt 2).isFresh 68#32 = false ∧
     ({ (c.tenantSt 2) with marks := 0#32 } : TenantSt).isFresh 69#32 = true ∧
     ({ (c.tenantSt 2) with marks := 0#32 } : TenantSt).isFresh 68#32 = false ∧
     (101#32).toNat + 256 < (c.tenantRec 2).s.toNat) ∧
    (((counting 100#32 0#32 4000#32 false).core.tenantSt 2).isFresh 3743#32 = true ∧ (3743#32).toNat + 256 < 4000) := by decide +kernel

theorem wit_ReservationGoesFirst :
    (let c := (counting 100#32 0#32 4000#32 true).core
     (c.tenantSt 2).isFresh 3744#32 = true ∧ (c.tenantRec 2).s.toNat ≤ (3744#32).toNat + 256 ∧ c.pw.nvmInhibit = true) ∧
    (let c := (counting 100#32 0#32 4000#32 false).core
     (c.tenantSt 2).isFresh 3744#32 = true ∧ (c.tenantRec 2).s.toNat ≤ (3744#32).toNat + 256 ∧ c.pw.nvmInhibit = false ∧
     c.nvm.tenants.length = 16) := by decide +kernel

theorem wit_ReservationGoesFirst_reset : writesAt (writing .run 0x07 id).core 0x07 ∧ (writing .run 0x07 id).core.nvm.tenants.length = 16 :=
  ⟨writing_writesAt _ _ _ (by decide) (fun _ => rfl), by decide⟩

theorem wit_TrackersKeepExtremes : (-32768 : Int) ≤ 32767 ∧ ∀ x ∈ (-32768 : Int) :: [0, 32767], -32768 ≤ x ∧ x ≤ 32767 := by decide

/-- A node of a tile that evaluates, below its baseline. -/
def evaluating (fc : BitVec 32) (frozen : List Nat) : State := tile .run (fun c => { c with
  hg := { c.hg with fc := fc }
  node := { c.node with valid := true, settling := false, frozen := frozen } })

def nodeAt (neg : Nat) (delta : Int) : NodeSt := { NodeSt.fresh with inc := true, recap := false, valid := true, f := -300, b := 0, delta := delta, neg := neg }

theorem wit_FilterAndBaselineLoseNothing :
    (let n := nodeAt 2 (-41)
     let c := (evaluating 0x100#32 []).core
     n.inc = true ∧ n.recap = false ∧ c.node.settling = false ∧ c.node.valid = true ∧ n.valid = true ∧
     n.delta < -(c.prof.negThresh : Int) ∧ c.prof.negFrames ≤ n.neg + 1 ∧ c.hg.fc.toNat % 2 ^ (c.prof.blK - 8) = 0 ∧ c.isFrozen 0 = false) ∧
    (let c := (evaluating 0x101#32 [5]).core
     ¬ ((nodeAt 1 (-41)).delta < -(c.prof.negThresh : Int) ∧ c.prof.negFrames ≤ 1 + 1) ∧
     ¬ ((nodeAt 2 (-40)).delta < -(c.prof.negThresh : Int)) ∧ c.isFrozen 5 = true ∧ ¬ (c.hg.fc.toNat % 2 ^ (c.prof.blK - 8) = 0)) := by
  decide +kernel

/-- A full queue of one contact's MOVEs, and a record of another kind. -/
def fullQueue (fixed : Bool) : Queue :=
  { recs := List.replicate 64 { bytes := 0x11#8 :: List.replicate 15 0#8, fc := 0#32, origin := 0#10, fixed := fixed }, full := none, late := none }

theorem wit_FullQueueKeepsWhatCounts :
    (fullQueue false).recs.length = 64 ∧ (fullQueue true).recs.length = 64 ∧
    (let e : QEnt := { bytes := 0x01#8 :: List.replicate 15 0#8, fc := 0#32, origin := 0#10, fixed := false }
     isMoving e.bytes = false ∧ recType e.bytes ≠ 4 ∧ ((fullQueue false).place e).lost = false ∧ ((fullQueue true).place e).lost = true ∧
     ({ fullQueue false with recs := List.replicate 63 e } : Queue).recs.length < 64) := by decide +kernel

theorem wit_CustodianKeyIsPermanent :
    (let o := { State.reset.otp with areas := [.spoiled, .programmed key0, .blank, .blank] }
     Core.custodianKey o = some key0 ∧ o.areas[1]? = some (.programmed key0) ∧ KeyArea.programmed key0 ≠ .blank ∧ o.areas.length = 4 ∧
     (o.areas.filter (fun a => match a with
       | .programmed _ => true
       | .blank | .spoiled => false)).length ≤ 1) ∧
    (∃ t, step { programming [.blank, .blank, .blank, .blank] with pending := [.otpProgramDone true] } = .next t ∧
      t.otp.areas = [.programmed key0, .blank, .blank, .blank]) := by
  exact ⟨by decide, _, rfl, by decide⟩

theorem wit_OnlyIllFormedOperandsStop :
    wellShaped (.selfSlot []) (tile .run id).core = true ∧
    wellShaped (.selfSlot []) (inFrame .scan none id).core = false ∧
    wellShaped (.selfSlot (List.replicate 56 [])) (inFrame .scan none id).core = true := by decide +kernel

theorem wit_LevelBitsStandAfterEveryStep : ∃ t, step (tile .quiet (fun c => { c with host := { c.host with outRsp := [.foreign false (rptOf 2)] } }))
    = .next t ∧ t.core.pw.ready = true ∧ t.core.outWaits = true ∧ t.core.pktinUsed ≤ 524 := by
  refine ⟨_, rfl, ?_⟩
  decide +kernel

/-! ### Codes -/

theorem wit_CharactersAndFramesReadAsSent : (0#2 ≠ 3#2 ∧ 1#2 ≠ 3#2 ∧ 2#2 ≠ 3#2) ∧ (LinkBody.hello (hello 9#48)).typeCode.isSome = true := by decide

theorem wit_HedgePayloadsRoundTrip :
    ([(1#8, 1#32), (2#8, 2#32), (3#8, 3#32)] : List (Byte × BitVec 32)).length ≤ 3 ∧ (List.replicate 255 (0#10 : Addr)).length < 256 := by decide +kernel

theorem wit_PacketsRoundTrip : 15 < 16 ∧ (List.replicate 1024 (0#8 : Byte)).length ≤ 1024 ∧ key0.length = 16 := by decide +kernel


/-! ### Ill-formed terms, one for each check -/

theorem smoke_wellFormed : ([
    .pllLock [{ cls := 6#8, bank := 0, column := 0 }], .pllLock [{ cls := 0#8, bank := 0, column := 0 }],
    .noiseSlot [[]] [], .noiseSlot (List.replicate 8 (List.replicate 26 [])) [], .noiseSlot [[], []] [],
    .noiseSlot [] (List.replicate 25 0#16),
    .mutualSlot { pre := [], steps := [[]], tail := [] } false,
    .mutualSlot { pre := List.replicate 26 [], steps := List.replicate 32 [], tail := List.replicate 26 [] } false,
    .mutualSlot { pre := [], steps := List.replicate 32 (List.replicate 26 []), tail := [] } false, .selfSlot [[]], .selfSlot (List.replicate 56 [5, 4]), .seamSlot [{ leg0 := none, leg1 := none }],
    .watchBurst [some 0], .watchBurst (List.replicate 5 (some 1)),
    .linkCharacter 0 0 (List.replicate 9 [true]), .linkCharacter 0 0 (List.replicate 10 [true, true]),
    .data 0 0#4 (List.replicate 1049 0#8), .sync 0 0 { syncOf 1#8 with grants := List.replicate 9 { tile := 0#10, id := 0#6 } },
    .seamD 0 0#4 { fc := 0#32, part := 0#4, parts := 1#4, first := 0#16, selfs := [], nodes := List.replicate 401 { delta := 0#16, ranging := false, coppiced := false } },
    .seamX 0 0#4 { fc := 0#32, more := false, matched := List.replicate 128 { x := 0#24, y := 0#24, id := 0xFF#8 }, blocks := [] },
    .joinReq 0#10 (hello 1#48) 0#10 6#3, .hedgeRoster { version := 0#16, tiles := List.replicate 86 (rosterTile 1#48 0#10 0#8) },
    .loss 0#10 { lossOf with port := 6#3 }, .panelAdvert { advertOf 1#48 with blocks := List.replicate 129 0#10 },
    .panelAdvert { advertOf 1#48 with singles := List.replicate 256 0#10 },
    .panelGrant { panel := 0#5, blocks := List.replicate 129 0#10, singles := [], refused := false },
    .panelGrant { panel := 0#5, blocks := [], singles := List.replicate 256 0#10, refused := false },
    .hedgeRoutes (List.replicate 65 { lo := 0#10, hi := 0#10, gw := 0#10, port := 0#3, metric := 0#4, isStatic := false }),
    .rptPacket (List.replicate 1049 0#8), .useqSettingsWrite 0x1D#6 0#16, .useqSettingsWrite 0x24#6 0#16,
    .profileWrite host0 (List.replicate 1025 0#8), .nvmScrub 272 { corrected := false, marginDiffers := false, uncorrectable := false },
    .nvmRefresh 272 true] : List Instr).all (fun i => !wellFormed i) = true := by decide +kernel

/-- A report of a tile with more surveys, or more ids wanted, than its payload holds. -/
def reportOf (n : Nat) (ids : BitVec 4) : TileReport :=
  { fc := 0#32, state := 5#4, sagged := false, idsReq := ids, inUse := 0#64, returned := 0#64, digest := 0#16, frameTicks := 0#32
    surveys := List.replicate n (0#8, 0#32) }

theorem smoke_wellFormed_report : wellFormed (.tileReport 0#10 (reportOf 4 0#4)) = false ∧ wellFormed (.tileReport 0#10 (reportOf 3 11#4)) = false ∧
    wellFormed (.tileReport 0#10 (reportOf 3 10#4)) = true := by decide

/-- A state block with more stroke symbols than it holds. -/
def blockOf (n : Nat) : StateBlock :=
  let o : PosBits := { x := 0#24, y := 0#24 }
  { id := 0#6, hasId := true, candidate := false, handover := false, confirm := 0#3, last := o, prev := o, down := o, anchor := o, runSym := 0#3
    runCnt := 0#8, syms := List.replicate n 0#3, overlong := false, life := 0#16, longDone := false, downSettling := false, sawEdge := false
    sawRanging := false, still := true, masked := false, downCop := false, engaged := 0#16, flags := 0#6, reported := [] }

theorem smoke_wellFormed_block : wellFormed (.seamX 0 0#4 { fc := 0#32, more := false, matched := [], blocks := [blockOf 9] }) = false ∧
    wellFormed (.seamX 0 0#4 { fc := 0#32, more := false, matched := [], blocks := [blockOf 8] }) = true := by decide

/-! ### Worked examples of the manual -/

/-- Worked example of "Scope and conventions": round half up, and saturation. -/
theorem test_rounding : rhu 20 3 = 3 ∧ rhu (-19) 3 = -2 ∧ rhu (-20) 3 = -2 ∧ rhu (-21) 3 = -3 ∧ sat16 40000 = 32767 ∧ sat16 (-40000) = -32767 := by
  decide

/-- R338: the CRC-32 of "123456789". -/
theorem test_crc32 : crc32 [0x31#8, 0x32#8, 0x33#8, 0x34#8, 0x35#8, 0x36#8, 0x37#8, 0x38#8, 0x39#8] = 0xCBF43926#32 := by decide +kernel

/-- NIST SP 800-38B, AES-128, example 2 of the CMAC: the first 4 bytes. -/
theorem test_cmac : tag4 (leInt 16 0x3C4FCF098815F7ABA6D2AE2816157E2B) (leInt 16 0x2A179373117E3DE9969F402EE2BEC16B) = [0x07#8, 0x0A#8, 0x16#8, 0xB4#8] := by
  decide +kernel

/-- A profile with the pitches of the examples. -/
def pitched (px py ex ey : Int) : Profile := { Profile.factory with track := ((((Profile.factory.track.set 17 px).set 18 py).set 0 ex).set 1 ey) }

/-- Worked example of "The tile and the hedge": colour, origin and the origin of the north-east neighbour. -/
theorem test_lattice : colourOf 3 (-2) = 2 ∧ (pitched 4000 3000 95 105).origin 3 (-2) = { x := 8000, y := -6000 } ∧
    (pitched 4000 3000 95 105).origin (3 + (portOffset 1).1) (-2 + (portOffset 1).2) = { x := 10000, y := -3000 } ∧
    (Core.ports.map (fun p => colourOf (3 + (portOffset p).1) (-2 + (portOffset p).2))) = [0, 1, 0, 1, 0, 1] := by decide

/-- Worked example of "Acquisition": the compensation of a line with a knot at 5 and a gap at 20. -/
theorem test_compensation : [0, 1, 4, 5, 16, 17, 20].map (fun s => ((List.range 32).map (fun d =>
    hadamard s d * (if d == 5 then 44 else if d == 20 then 36 else 40))).sum) = [1280, -8, 0, 8, 8, 0, -8] := by decide

/-- Worked example of "Acquisition": theta of sample 100 on lane 1 of set 3, its entry of SINTAB, and the product. -/
theorem test_reference : theta 16 29952 5204 (256 * 12) = 54184 ∧ reference 16 29952 5204 (256 * 12) = -7271 ∧ (-312 : Int) * -7271 = 2268552 := by
  decide

/-- Worked example of "Node arithmetic": three drive lines leave a residual. -/
theorem test_decode :
    let s := (List.range 32).map (fun s => hadamard s 0 * -2000000 + hadamard s 5 * -74000000 + hadamard s 20 * 30000000)
    nodeSum s 5 = -2368000000 ∧ nodeSum s 20 = 960000000 ∧ nodeSum s 0 = -64000000 ∧ nodeSum s 1 = 0 ∧
    nodeValue (nodeSum s 5) 3 false 1 = -1004 ∧ nodeValue (nodeSum s 20) 3 false 1 = 407 ∧ nodeValue (nodeSum s 0) 3 false 1 = -27 := by
  decide +kernel

/-- Table NUM-4: the steps of the baseline in frames 43, 171, 426 and 427. -/
theorem test_baseline :
    let n := fun (b rho : Int) => ({ NodeSt.fresh with f := 1203, b := b, rho := rho } : NodeSt).update
    ((n 1200 126).b = 1201 ∧ (n 1200 126).rho = -127) ∧ ((n 1201 127).b = 1202 ∧ (n 1201 127).rho = -127) ∧
    ((n 1202 127).b = 1203 ∧ (n 1202 127).rho = -128) ∧ ((n 1203 (-128)).b = 1203 ∧ (n 1203 (-128)).rho = -128) := by decide

/-- Table NUM-5 and the text after it: a change of range lands in F + 2, and the next frame filters. -/
theorem test_range_change :
    let n := ({ NodeSt.fresh with win := [-1001, -1006, -1004], ref := some (-1004), f := -1005, b := -1010, rho := 37 } : NodeSt).landed (-71)
    n.win = [-68, -73, -71] ∧ n.f = -72 ∧ n.b = -77 ∧ n.rho = 37 ∧
    ((n.filtered 3 1 (-70)).win = [-73, -71, -70] ∧ (n.filtered 3 1 (-70)).f = -71 ∧ (n.filtered 3 1 (-70)).phi = -1) := by decide

/-- Worked example of self capacitance: N = 64, crossings 4 and 68. -/
theorem test_self : selfCount 64 200000 (List.replicate 4 100 ++ 5000 :: List.replicate 63 6000 ++ [82016]) = some 77016 ∧
    scnOf 2 77016 = 308064 ∧ sat16 (rhu (308064 - 307210) 0) = 854 := by decide +kernel

/-- Nodes of the worked example of "Contacts": nine deltas round (10, 7), three more in the extent that sum to 610. -/
def fingertip : List MapNode :=
  let p := pitched 4000 3000 95 105
  let o : Pos := { x := 8000, y := -6000 }
  let n := fun (d k : Nat) (v : Int) =>
    ({ pos := { x := p.nodeX o k, y := p.nodeY o d }, delta := v, flags := 0#6, isSeam := false, selfs := some [400, 400], cell := none } : MapNode)
  [n 11 6 120, n 11 7 340, n 11 8 210, n 10 6 260, n 10 7 910, n 10 8 480, n 9 6 90, n 9 7 300, n 9 8 150, n 12 7 120, n 10 9 110,
    n 10 5 110, n 8 7 100, n 12 8 90, n 12 6 80]

/-- Worked example of "Contacts": position, size, signal sum and the record. -/
theorem test_contact :
    let p := pitched 4000 3000 95 105
    let k := measurePeak p fingertip (fingertip.getD 4 (fingertip.headD { pos := { x := 0, y := 0 }, delta := 0, flags := 0#6, isSeam := false, selfs := none, cell := none }))
    k.pos = { x := 8728, y := -4891 } ∧ k.size = 9 ∧ k.sum = 217 ∧ k.isWater = false ∧ k.isPalm = false ∧
    contactBytes 0 12 false false k.pos k.size k.sum 0x047#10 k.flags 5 false 0xA2F4 =
      [0x01#8, 0x0C#8, 0x18#8, 0x22#8, 0x00#8, 0xE5#8, 0xEC#8, 0xFF#8, 0x09#8, 0xD9#8, 0x00#8, 0x47#8, 0x00#8, 0x05#8, 0xF4#8, 0xA2#8] := by
  decide +kernel

/-- Worked example of "The hedge": the band map's nine values give one centroid, in B's area. -/
theorem test_seam :
    let p := pitched 2400 3200 100 100
    let n := fun (x y v : Int) => ({ pos := { x := x, y := y }, delta := v, flags := 1#6, isSeam := false, selfs := none, cell := none } : MapNode)
    let l := [n 1450 3350 80, n 1550 3350 119, n 1650 3350 80, n 1450 3250 300, n 1550 3250 1060, n 1650 3250 305, n 1450 3150 658,
      n 1550 3150 680, n 1650 3150 658]
    (((peakNodes p l).filter (fun n => !(peakNodes p l).any (fun m => beats p m n))).map (fun n => (measurePeak p l n).pos)) =
      [{ x := 1550, y := 3200 }] ∧
    p.inArea { x := 1200, y := 3200 } { x := 1550, y := 3200 } = true ∧ p.inArea { x := 0, y := 0 } { x := 1550, y := 3200 } = false := by
  decide +kernel

/-- Worked example of "Legacy controls": the windows of 0x534 and 0x4C9 on a COMBO ladder, and the first bytes of key 1's record. -/
theorem test_ladder : decodeKeys 2 [] 0x534 = some 8 ∧ decodeKeys 2 [] 0x4C9 = some 10 ∧
    (keyBytes 0 2 1 false 10 0 0x047#10 0).take 5 = [0x03#8, 0x0A#8, 0x0A#8, 0x00#8, 0x00#8] ∧
    byteAt (keyBytes 0 2 3 false 8 0 0x047#10 0) 1 = 0x1A#8 := by decide

/-- Worked example of the link ports: ECHO_D at DIV 2 without parity, and a round trip of 88 ticks. -/
theorem test_echo : ({ LinkCfg.factory with div := 2#14, par := 0#2 } : LinkCfg).echoD = 66 ∧ (200088 : Int) - 200000 - 66 - 4 = 18 := by decide

/-- Worked example of "The host port": HOSTSTAT of a woken tile that lost a transaction, and what its write leaves. -/
theorem test_hoststat :
    let s := tile .run (fun c => { c with host := { c.host with flags := 0x0080#16, attnsrc := c.host.attnsrc ||| 5#16, attnen := 1#16 } })
    s.core.hoststat = 0x508B#16 ∧
    (let w := { s with core := { s.core with host := { s.core.host with txn := (writing .run 0x01 id).core.host.txn } } }
     (match exec (.hoststatWrite 0x0080#16) w with
      | .next t => t.core.hoststat == 0x500B#16
      | .fault _ | .refused _ => false) = true) := by decide +kernel

/-- Worked example of "The host port": the three headers. -/
theorem test_headers : (hdrRead 0xC001#16 = true ∧ hdrCount 0xC001#16 = 2 ∧ hdrAddr 0xC001#16 1 = 1) ∧
    (hdrRead 0x0100#16 = false ∧ hdrAddr 0x0100#16 0 = 1 ∧ hdrCount 0x0100#16 = 1) ∧
    (hdrAddr 0x0809#16 9 = 8 ∧ hdrCount 0x0809#16 = 10) ∧ hdrAddr 0xE604#16 4 = 0x2A := by decide

/-- Worked example of the register map: the five words of the urgent view, and VBAT. -/
theorem test_urgent_view :
    let t : Tracker := { mn := 1279, mx := 1282, count := 16, sum := 20485, isEmpty := false }
    let c := (tile .quiet (fun c => { c with sar := { c.sar with urgView := c.sar.urgView.set 1 t }, host := { c.host with sarvsel := 0x0020#16 } })).core
    [0x26, 0x27, 0x28, 0x29, 0x2A].map c.readReg = [0x04FF#16, 0x0502#16, 0x0010#16, 0x5005#16, 0x0000#16] ∧ rhu (20485 * 75) 9 = 3001 := by
  decide +kernel

/-- Table PKT-8: the command header of the worked example. -/
def zonesPacket (fresh : BitVec 32) : List Byte :=
  let h : PktHead := { kind := 1, tenant := 3, urg := false, frag := false, last := false, dst := 0#10, ttl := 1, src := 0#10, seq := 0x0102#16
                       opcode := 0x30#8, status := 0#8 }
  buildPacket h (5#8 :: 1#8 :: [0x98#8, 0x21#8, 0x00#8, 0x78#8, 0xEC#8, 0xFF#8, 0x28#8, 0x23#8, 0x00#8, 0xA4#8,
    0xED#8, 0xFF#8, 0x01#8, 0x03#8, 0x09#8, 0x00#8]) (some (fresh, key0))

theorem test_packet : (zonesPacket 4300#32).take 16 = [0x11#8, 0x13#8, 0x00#8, 0x10#8, 0x00#8, 0x00#8, 0x02#8, 0x01#8, 0x30#8, 0x00#8,
    0x12#8, 0x00#8, 0xCC#8, 0x10#8, 0x00#8, 0x00#8] ∧ (zonesPacket 4300#32).length = 42 := by decide +kernel

/-- Table PKT-9: four commands. -/
theorem test_freshness :
    let t : TenantSt := { h := 4296#32, marks := 0#32, txCtr := 0#32, rptSeq := 0#16, evtSeq := 0#16 }
    let u := t.consume 4300#32
    t.isFresh 4300#32 = true ∧ ¬ ((4300#32).toNat + 256 < 4500) ∧ 4300#32 + 4096#32 = 8396#32 ∧ u.h = 4300#32 ∧ u.isFresh 4300#32 = false ∧
    u.isFresh 4290#32 = true ∧ (u.consume 4290#32).h = 4300#32 ∧ (u.consume 4290#32).isFresh 4296#32 = false := by decide

/-- Worked example of repair: node (17, 9) of a coppiced drive line. -/
theorem test_coppiced_node : between (some (-1203)) (some (-1188)) = .value (-1195) := by decide

/-- Tables BALLS-1 and BALLS-2: 14 rows of 14 balls, and the counts of the supplies. -/
theorem test_balls : ballMap.map List.length = List.replicate 14 14 ∧
    [Ball.gnd, .vcore, .vana, .vdrv, .vbat, .vio, .lx, .pgnd, .vrefc].map (fun b => ballMap.flatten.count b) = [58, 15, 5, 3, 3, 4, 2, 3, 1] ∧
    (ballMap[5]?.getD []).take 3 = [.lTx 0, .lRx 0, .lDe 0] ∧ ((ballMap[12]?.getD [])[4]?) = some (.key 1) := by decide +kernel

/-- Table BALLS-5: a dozing tile drives LnTX of a TILE port high and leaves that of a port with MODE OFF at high impedance; R100: drive
line 1 changes its polarity with step 1, and line 0 does not. -/
theorem test_pins :
    (let s := tile .doze (fun c => { c with lnk := modifyAt c.lnk 1 (fun l => { l with cfg := { l.cfg with mode := 0#2 } }) })
     s.core.pinTx 0 = .high ∧ s.core.pinTx 1 = .hiZ ∧ s.core.pinDe 0 = .low ∧ s.core.misoWord = 0xFFFF#16) ∧
    (let s := tile .run id
     s.core.driveHigh 0 1 = true ∧ s.core.driveHigh 19968 0 = true ∧ s.core.driveHigh 19968 1 = false ∧
     s.core.guardLine 0 = 12 ∧ s.core.pinDrv .scan 0 3 = .carrier ∧ s.core.pinSns .self 0 2 = .oscillating ∧
     s.core.pinSns .self 0 3 = .follow 12 ∧ s.core.pinGuard .self 0 0 = .follow 12 ∧ s.core.pinGuard .scan 0 0 = .low) := by decide +kernel
end Sys2Proof.Tests
end

/-!
PROOFS. Trackers and accumulators (chapter 03, R122): what a reset holds, what one sample does, and what a window of samples leaves.
-/
namespace Sys2Proof.Machine

namespace Tracker

/-! The fields of a tracker at reset, in R122's words. -/

@[simp] theorem reset_mn (lo hi : Int) : (reset lo hi).mn = hi := rfl
@[simp] theorem reset_mx (lo hi : Int) : (reset lo hi).mx = lo := rfl
@[simp] theorem reset_count (lo hi : Int) : (reset lo hi).count = 0 := rfl
@[simp] theorem reset_sum (lo hi : Int) : (reset lo hi).sum = 0 := rfl
@[simp] theorem reset_isEmpty (lo hi : Int) : (reset lo hi).isEmpty = true := rfl

/-! The fields of a tracker after one sample. -/

@[simp] theorem add_mn (t : Tracker) (v : Int) : (t.add v).mn = min t.mn v := rfl
@[simp] theorem add_mx (t : Tracker) (v : Int) : (t.add v).mx = max t.mx v := rfl
@[simp] theorem add_count (t : Tracker) (v : Int) : (t.add v).count = min (t.count + 1) 65535 := rfl
@[simp] theorem add_sum (t : Tracker) (v : Int) : (t.add v).sum = t.sum + v := rfl
@[simp] theorem add_isEmpty (t : Tracker) (v : Int) : (t.add v).isEmpty = false := rfl

/-- R122 moves MIN only to a sample strictly below it. -/
theorem add_mn_eq_ite (t : Tracker) (v : Int) : (t.add v).mn = if v < t.mn then v else t.mn := by
  rw [add_mn, min_comm, min_def_lt]

/-- R122 moves MAX only to a sample strictly above it. -/
theorem add_mx_eq_ite (t : Tracker) (v : Int) : (t.add v).mx = if t.mx < v then v else t.mx := by
  rw [add_mx, max_def_lt]

/-- What a tracker shows of the samples `l` of a window that is not empty. -/
structure Shows (t : Tracker) (l : List Int) : Prop where
  mn_mem : t.mn ∈ l
  mx_mem : t.mx ∈ l
  bounds : ∀ x ∈ l, t.mn ≤ x ∧ x ≤ t.mx
  count_eq : t.count = min l.length 65535
  sum_eq : t.sum = l.sum
  isEmpty_eq : t.isEmpty = false

/-- The first sample of a window replaces both extremes of the reset, since it lies in the input's range. -/
theorem shows_reset_add {lo hi v : Int} (hlo : lo ≤ v) (hhi : v ≤ hi) : ((reset lo hi).add v).Shows [v] where
  mn_mem := by simp [hhi]
  mx_mem := by simp [hlo]
  bounds := by simp
  count_eq := by simp
  sum_eq := by simp
  isEmpty_eq := add_isEmpty _ v

theorem Shows.add {t : Tracker} {l : List Int} (h : t.Shows l) (v : Int) : (t.add v).Shows (l ++ [v]) where
  mn_mem := by
    rw [add_mn_eq_ite]
    split
    · simp
    · exact List.mem_append_left _ h.mn_mem
  mx_mem := by
    rw [add_mx_eq_ite]
    split
    · simp
    · exact List.mem_append_left _ h.mx_mem
  bounds := by
    intro x hx
    rcases List.mem_append.mp hx with old | new
    · obtain ⟨hmn, hmx⟩ := h.bounds x old
      exact ⟨min_le_of_left_le hmn, le_max_of_le_left hmx⟩
    · simp [List.mem_singleton.mp new]
  count_eq := by
    have hc := h.count_eq
    simp only [add_count, List.length_append, List.length_singleton]
    omega
  sum_eq := by simp [h.sum_eq]
  isEmpty_eq := add_isEmpty t v

theorem Shows.foldl_add {t : Tracker} {l : List Int} (h : t.Shows l) (m : List Int) : (m.foldl Tracker.add t).Shows (l ++ m) := by
  induction m generalizing t l with
  | nil => simpa using h
  | cons v m ih => simpa using ih (h.add v)

end Tracker

/-- Settles O51: the window's first sample replaces the reset's extremes, and every later one keeps what the tracker shows. -/
theorem trackersKeepExtremes : Obligations.TrackersKeepExtremes := by
  refine ⟨fun lo hi => by simp, fun t v => ?_, fun lo hi v l _ hrange => ?_⟩
  · exact ⟨t.add_mn_eq_ite v, t.add_mx_eq_ite v, t.add_count v, t.add_sum v, t.add_isEmpty v⟩
  · obtain ⟨hlo, hhi⟩ := hrange v List.mem_cons_self
    have h := (Tracker.shows_reset_add hlo hhi).foldl_add l
    exact ⟨⟨h.mn_mem, h.mx_mem, h.bounds⟩, h.count_eq, by simpa using h.sum_eq, h.isEmpty_eq⟩

end Sys2Proof.Machine

/-!
PROOFS. Node arithmetic (chapter 04): the rounding error that the delta filter (R134) and the baseline (R138) keep, and what fast
re-calibration (R140) makes of a node.
-/
namespace Sys2Proof.Machine

/-- What round-half-up division leaves over, half a step at most (R6). -/
theorem two_mul_sub_rhu (t : Int) (k : Nat) : -(2 ^ k) ≤ 2 * (t - rhu t k * 2 ^ k) ∧ 2 * (t - rhu t k * 2 ^ k) < 2 ^ k := by
  cases k with
  | zero => simp [rhu]
  | succ m =>
    have hrhu : rhu t (m + 1) = (t + 2 ^ m) / 2 ^ (m + 1) := rfl
    have hdiv := Int.ediv_mul_add_emod (t + 2 ^ m) (2 ^ (m + 1))
    have hpos : (0 : Int) < 2 ^ (m + 1) := by positivity
    have hge := Int.emod_nonneg (t + 2 ^ m) hpos.ne'
    have hlt := Int.emod_lt_of_pos (t + 2 ^ m) hpos
    have hstep : (2 : Int) ^ (m + 1) = 2 * 2 ^ m := pow_succ' 2 m
    rw [← hrhu] at hdiv
    constructor <;> linarith

/-- No division, no remainder. -/
@[simp] theorem rhu_zero (t : Int) : rhu t 0 = t := rfl

namespace NodeSt

/-! The delta filter (R133, R134). -/

theorem filtered_f (n : NodeSt) (w k : Nat) (x : Int) :
    (n.filtered w k x).f = n.f + rhu (median (n.filtered w k x).win - n.f + n.phi) k := rfl

theorem filtered_phi (n : NodeSt) (w k : Nat) (x : Int) : (n.filtered w k x).phi =
    median (n.filtered w k x).win - n.f + n.phi - rhu (median (n.filtered w k x).win - n.f + n.phi) k * 2 ^ k := rfl

/-- F and the remainder kept together take up the whole distance to the median. -/
theorem filtered_conserves (n : NodeSt) (w k : Nat) (x : Int) : (n.filtered w k x).f * 2 ^ k + (n.filtered w k x).phi =
    n.f * 2 ^ k + (median (n.filtered w k x).win - n.f + n.phi) := by
  rw [filtered_f, filtered_phi]
  ring

theorem filtered_phi_bounds (n : NodeSt) (w k : Nat) (x : Int) :
    -(2 ^ k) ≤ 2 * (n.filtered w k x).phi ∧ 2 * (n.filtered w k x).phi < 2 ^ k :=
  two_mul_sub_rhu _ k

theorem filtered_zero (n : NodeSt) (w : Nat) (x : Int) :
    (n.filtered w 0 x).phi = 0 ∧ (n.filtered w 0 x).f = median (n.filtered w 0 x).win + n.phi := by
  constructor
  · simp [filtered_phi]
  · rw [filtered_f, rhu_zero]
    ring

/-! The baseline update (R138). -/

theorem update_b (n : NodeSt) : n.update.b = n.b + rhu (n.f - n.b + n.rho) 8 := rfl

/-- B and the remainder kept together take up the whole distance to F. -/
theorem update_conserves (n : NodeSt) : 256 * n.update.b + n.update.rho = 256 * n.b + (n.f - n.b + n.rho) := by
  simp only [update]
  ring

theorem update_rho_bounds (n : NodeSt) : -128 ≤ n.update.rho ∧ n.update.rho ≤ 127 := by
  obtain ⟨hlo, hhi⟩ := two_mul_sub_rhu (n.f - n.b + n.rho) 8
  simp only [update]
  omega

/-! Fast re-calibration (R140). -/

/-- The frame completes a run of `frames` frames with a delta below `-thresh`. -/
def recalDue (n : NodeSt) (thresh : Int) (frames : Nat) : Prop := n.delta < -thresh ∧ frames ≤ n.neg + 1

/-- A baseline update moves neither the delta nor the count of low frames. -/
theorem recalDue_update (n : NodeSt) (thresh : Int) (frames : Nat) : n.update.recalDue thresh frames ↔ n.recalDue thresh frames := Iff.rfl

theorem recal_of_due {n : NodeSt} {thresh : Int} {frames : Nat} (h : n.recalDue thresh frames) :
    n.recal thresh frames = { n with b := n.f, rho := 0, neg := 0 } := by
  obtain ⟨hlow, hfull⟩ := h
  rw [recal, if_pos hlow, if_pos hfull]

theorem recal_of_not_due {n : NodeSt} {thresh : Int} {frames : Nat} (h : ¬ n.recalDue thresh frames) :
    n.recal thresh frames = { n with neg := if n.delta < -thresh then n.neg + 1 else 0 } := by
  unfold recal
  split
  case isTrue hlow => rw [if_neg fun hfull => h ⟨hlow, hfull⟩]
  case isFalse => rfl

end NodeSt

namespace Core

/-- An included frame moves the baseline of node `i` (R138, R139). -/
def updateDue (c : Core) (i : Nat) : Prop := c.hg.fc.toNat % 2 ^ (c.prof.blK - 8) = 0 ∧ c.isFrozen i = false

section Included

variable {c : Core} {n : NodeSt} (take : Bool) {i : Nat} (hinc : n.inc = true) (hrecap : n.recap = false)
  (hset : c.node.settling = false) (hval : c.node.valid = true) (hn : n.valid = true)

include hinc hrecap hset hval hn

theorem nodeEnd_of_updateDue (h : c.updateDue i) : c.nodeEnd take n i = n.update.recal c.prof.negThresh c.prof.negFrames := by
  obtain ⟨hcount, hfree⟩ := h
  simp [nodeEnd, hinc, hrecap, hset, hval, hn, hcount, hfree]

theorem nodeEnd_of_not_updateDue (h : ¬ c.updateDue i) : c.nodeEnd take n i = n.recal c.prof.negThresh c.prof.negFrames := by
  have hskip : ¬ ((c.hg.fc.toNat % 2 ^ (c.prof.blK - 8) == 0 && !c.isFrozen i) = true) := by simpa [updateDue] using h
  simp [nodeEnd, hinc, hrecap, hset, hval, hn, hskip]

/-- A re-calibration leaves the same node whether the frame moved its baseline before or not. -/
theorem nodeEnd_of_recalDue (h : n.recalDue c.prof.negThresh c.prof.negFrames) :
    c.nodeEnd take n i = { n with b := n.f, rho := 0, neg := 0 } := by
  by_cases hdue : c.updateDue i
  · rw [nodeEnd_of_updateDue take hinc hrecap hset hval hn hdue, NodeSt.recal_of_due ((n.recalDue_update _ _).mpr h)]
    rfl
  · rw [nodeEnd_of_not_updateDue take hinc hrecap hset hval hn hdue, NodeSt.recal_of_due h]

theorem nodeEnd_of_updateDue_of_not_recalDue (hdue : c.updateDue i) (h : ¬ n.recalDue c.prof.negThresh c.prof.negFrames) :
    c.nodeEnd take n i = { n.update with neg := if n.delta < -(c.prof.negThresh : Int) then n.neg + 1 else 0 } := by
  rw [nodeEnd_of_updateDue take hinc hrecap hset hval hn hdue, NodeSt.recal_of_not_due (mt (n.recalDue_update _ _).mp h)]
  rfl

theorem nodeEnd_of_not_updateDue_of_not_recalDue (hdue : ¬ c.updateDue i) (h : ¬ n.recalDue c.prof.negThresh c.prof.negFrames) :
    c.nodeEnd take n i = { n with neg := if n.delta < -(c.prof.negThresh : Int) then n.neg + 1 else 0 } := by
  rw [nodeEnd_of_not_updateDue take hinc hrecap hset hval hn hdue, NodeSt.recal_of_not_due h]

end Included

end Core

/-- Settles O52: what the filter and the baseline do not add they keep, within half a step; a re-calibration sets the baseline to F in
either case, and in any other frame only the count of low frames and, where it is due, the baseline move. -/
theorem filterAndBaselineLoseNothing : Obligations.FilterAndBaselineLoseNothing := by
  refine ⟨fun n w k x => ?_, fun c take n i hinc hrecap hset hval hn => ⟨fun hlow hfull => ?_, fun hnot => ?_⟩⟩
  · obtain ⟨hlo, hhi⟩ := n.filtered_phi_bounds w k x
    exact ⟨rfl, n.filtered_f w k x, n.filtered_conserves w k x, hlo, hhi, by rintro rfl; exact n.filtered_zero w x⟩
  · exact Core.nodeEnd_of_recalDue take hinc hrecap hset hval hn ⟨hlow, hfull⟩
  · by_cases hdue : c.updateDue i
    · rw [Core.nodeEnd_of_updateDue_of_not_recalDue take hinc hrecap hset hval hn hdue hnot]
      exact ⟨rfl, fun h => if_pos h, fun h => if_neg h, fun _ => ⟨n.update_b, n.update_conserves, n.update_rho_bounds⟩,
        fun h => absurd hdue h⟩
    · rw [Core.nodeEnd_of_not_updateDue_of_not_recalDue take hinc hrecap hset hval hn hdue hnot]
      exact ⟨rfl, fun h => if_pos h, fun h => if_neg h, fun h => absurd h hdue, fun _ => ⟨rfl, rfl⟩⟩

end Sys2Proof.Machine

/-!
PROOFS. The host port before READY (chapter 09, R318, R322): what follows a command on a tile in BOOT, and what OVERCLK makes of a
transaction begun before READY.
-/
namespace Sys2Proof.Machine

namespace Core

/-! Nothing follows a command while CLK is slow and READY = 0: no HELLO (R256), no level of ATTNSRC (R328). -/

@[simp] theorem attnIf_of_not_ready {c : Core} (hready : c.pw.ready = false) (b : Bool) (n : Nat) : c.attnIf b n = c := by
  simp [attnIf, attn, hready]

@[simp] theorem latch_of_not_ready {c : Core} (hready : c.pw.ready = false) : c.latch = c := by
  simp [latch, hready]

@[simp] theorem told_of_not_fast (c : Core) {d : Core} (hfast : d.fast = false) : c.told d = d := by
  simp [told, hfast]

theorem after_of_not_fast_of_not_ready (c : Core) {d : Core} (hfast : d.fast = false) (hready : d.pw.ready = false) : c.after d = d := by
  simp [after, hfast, hready]

/-- OVERCLK sets no flag in a transaction begun before READY (R322), but its words are over, and MISO reads 0 for the extra bits
(Table HOST-7). -/
theorem txnOver_of_begun_before_ready {c : Core} {t : Txn} (htxn : c.host.txn = some t) (hready : t.ready = false)
    (hserved : t.served = true) (hover : hdrRead t.header = true ∨ hdrCount t.header ≤ t.words) :
    c.txnOver = { c with host := { c.host with txn := some { t with words := hdrCount t.header }, miso := 0#16 } } := by
  have hacts : (t.served && (hdrRead t.header || decide (hdrCount t.header ≤ t.words))) = true := by simpa [hserved] using hover
  simp [txnOver, htxn, when, hacts, hready, modTxn, modHost]

end Core

/-- A tile in BOOT, READY not yet set. -/
def booting : State :=
  { State.reset with core := { State.reset.core with pw := { State.reset.core.pw with phase := .boot } } }

/-- A read of ID begun in BOOT, its data word not yet over. -/
def earlyRead : Txn :=
  { captured := 0x0000#16, header := 0x8000#16, words := 0, served := true, ready := false, inSkip := false, outDone := false }

/-- The tile of `booting` with that read under way. -/
def bootingRead : State :=
  { booting with core := { booting.core with host := { booting.core.host with txn := some earlyRead } } }

/-- The counterexample below is one command away from `booting`. -/
theorem transactionStart_gives_bootingRead : Gives (.transactionStart 40 0x8000#16) booting bootingRead.core := rfl

theorem overclk_gives_words_over_of_bootingRead : Gives .overclk bootingRead
    { bootingRead.core with host := { bootingRead.core.host with txn := some { earlyRead with words := 1 }, miso := 0x0000#16 } } := by
  have hover : bootingRead.core.txnOver = _ := Core.txnOver_of_begun_before_ready (t := earlyRead) rfl rfl rfl (.inl rfl)
  show onCore Core.txnOver bootingRead = _
  rw [onCore, hover]
  rfl

/-- Refutes O45: its last clause has OVERCLK leave the whole tile as it was. In a read of one word begun in BOOT the first extra edge
sets no flag (R322), yet it moves the transaction's words completed from 0 to 1 (Table HOST-7, log 23). -/
theorem not_nothingHappensBeforeReady : ¬ Obligations.NothingHappensBeforeReady := by
  rintro ⟨-, -, -, -, hend⟩
  obtain ⟨-, hstays⟩ := hend bootingRead earlyRead 0 rfl rfl
  have hsame := overclk_gives_words_over_of_bootingRead.symm.trans hstays
  rw [Core.after_of_not_fast_of_not_ready _ rfl rfl, Core.after_of_not_fast_of_not_ready _ rfl rfl] at hsame
  have hwords : some 1 = some 0 := congrArg (fun s : State => s.core.host.txn.map Txn.words) (Host.Outcome.next.inj hsame)
  cases hwords

end Sys2Proof.Machine

/-!
PROOFS. The register map (chapter 10, R325, R330): what a row that writes a host register does, the values that a field table does not
allow, the registers whose writes are never out of range, and the key of HOSTCTL.
-/
namespace Sys2Proof.Machine

namespace Core

/-! What a committed write does to the registers that judge its word (Table REGS-1). -/

section

variable (c : Core) (w : Word)

theorem writeReg_pwrctl : c.writeReg 0x04 w =
    if (w.toNat % 16 == 0 || (decide (2 ≤ w.toNat % 16) && decide (w.toNat % 16 ≤ 5))) && decide (2 ≤ w.toNat / 16 % 16) &&
      decide (w.toNat / 16 % 16 ≤ 5) then c.writePwrctl (BitVec.ofNat 4 (w.toNat % 16)) (BitVec.ofNat 4 (w.toNat / 16 % 16))
    else c.attn 11 := rfl

theorem writeReg_hostctl : c.writeReg 0x07 w = if w = 0xC3A5#16 then c.enterReset 6#3 0#8 c.pw.xtal else c := by
  simp only [writeReg, beq_iff_eq]

theorem writeReg_linksel : c.writeReg 0x16 w =
    if w.toNat % 8 ≤ 5 then c.modHost (fun h => { h with linksel := Fin.ofNat 6 (w.toNat % 8), clrArm := none, snapLink := none })
    else c.attn 11 := rfl

theorem writeReg_useqctl : c.writeReg 0x1E w = c.writeUseqctl w := rfl

theorem writeReg_useq (k : Fin 4) : c.writeReg (0x20 + k.val) w =
    if (nibbles w).all (fun e => decide (e ≤ 13)) then
      c.setUseq { c.sar.useqReg with
        entries := c.sar.useqReg.entries.take (4 * k.val) ++ nibbles w ++ c.sar.useqReg.entries.drop (4 * k.val + 4) }
    else c.attn 11 := by
  fin_cases k <;> rfl

theorem writeReg_sarurg : c.writeReg 0x24 w =
    if w.toNat % 16 ≤ 13 then c.urgent .host (w.toNat % 16) (w.toNat / 16 % 16 + 1) else c.attn 11 := rfl

theorem writeReg_sarvsel : c.writeReg 0x25 w =
    if vselOk w then c.modHost (fun h => { h with sarvsel := w &&& 0x003F#16 }) else c.attn 11 := rfl

end

/-- A write data word that the open transaction takes commits, and then its register acts (R305, R317). -/
theorem commitWrite_of_writesAt {c : Core} {a : Nat} (h : writesAt c a) (w : Word) : c.commitWrite a w = (wrote c).writeReg a w := by
  obtain ⟨t, htxn, hserved, hready, hwrite, hleft, haddr⟩ := h
  have htakes : (t.served && !hdrRead t.header && decide (t.words < hdrCount t.header) && hdrAddr t.header t.words == a) = true := by
    simp [hserved, hwrite, hleft, haddr]
  unfold commitWrite
  simp only [htxn, htakes, hready, if_true]
  rfl

end Core

/-- Every row that writes a host register commits its word. -/
theorem exec_of_hostWrite {i : Instr} {a : Nat} {w : Word} (h : hostWrite i = some (a, w)) (s : State) :
    exec i s = onCore (fun c => c.commitWrite a w) s := by
  unfold hostWrite at h
  split at h
  case h_15 _ b v =>
    split at h
    case isTrue hsettings =>
      cases h
      show execUseqSettingsWrite b w s = _
      simp [execUseqSettingsWrite, hsettings]
    case isFalse => cases h
  case h_17 => cases h
  all_goals
    cases h
    rfl

theorem gives_writeReg {i : Instr} {a : Nat} {w : Word} {s : State} (hi : hostWrite i = some (a, w)) (ha : writesAt s.core a) :
    Gives i s ((wrote s.core).writeReg a w) := by
  unfold Gives
  rw [exec_of_hostWrite hi, onCore_eq, Core.commitWrite_of_writesAt ha]

/-! Values out of range (R325). -/

/-- The four ENTRY fields of a word fill it (Table REGS-6). -/
theorem nibbles_eq (w : Word) : nibbles w = [w.toNat % 16, w.toNat / 16 % 16, w.toNat / 256 % 16, w.toNat / 4096] := by
  have hlast : w.toNat / 4096 % 16 = w.toNat / 4096 := by omega
  simp [nibbles, List.range_succ, hlast]

/-- USEQ0 to USEQ3 take a word where each of its four entries is a channel of the converter. -/
theorem nibbles_all_le_eq_not_outOfRange (w : Word) : (nibbles w).all (fun e => decide (e ≤ 13)) = !outOfRange 0x20 w := by
  rw [Bool.eq_iff_iff]
  simp [nibbles_eq, outOfRange, and_assoc]

/-- SARVSEL judges CH by KIND (R333). -/
theorem vselOk_eq_not_outOfRange (w : Word) : Core.vselOk w = !outOfRange 0x25 w := by
  rw [Bool.eq_iff_iff]
  unfold Core.vselOk
  split
  case h_1 hkind => simp [outOfRange, hkind]
  case h_2 hkind => simp [outOfRange, hkind]
  case h_3 hkind => simp [outOfRange, hkind]
  case h_4 _ h0 h1 h2 =>
    simp only [imp_false] at h0 h1 h2
    have hkind : w.toNat / 16 % 4 = 3 := by omega
    simp [outOfRange, hkind]

namespace Core

theorem writeReg_useq_of_outOfRange (c : Core) (k : Fin 4) {w : Word} (h : outOfRange 0x20 w = true) :
    c.writeReg (0x20 + k.val) w = c.attn 11 := by
  rw [writeReg_useq, nibbles_all_le_eq_not_outOfRange, h]
  rfl

/-- A word that a field table does not allow leaves its register, and sets REGERR. -/
theorem writeReg_of_outOfRange (c : Core) {a : Nat} {w : Word} (h : outOfRange a w = true) : c.writeReg a w = c.attn 11 := by
  have hout := h
  unfold outOfRange at hout
  split at hout
  case h_1 =>
    rw [writeReg_pwrctl, if_neg]
    simp only [Bool.or_eq_true, Bool.and_eq_true, decide_eq_true_eq, beq_iff_eq] at hout ⊢
    omega
  case h_2 => rw [writeReg_linksel, if_neg (by simpa using hout)]
  case h_3 => rw [writeReg_useqctl, writeUseqctl, if_pos hout]
  case h_4 => exact c.writeReg_useq_of_outOfRange 0 h
  case h_5 => exact c.writeReg_useq_of_outOfRange 1 h
  case h_6 => exact c.writeReg_useq_of_outOfRange 2 h
  case h_7 => exact c.writeReg_useq_of_outOfRange 3 h
  case h_8 => rw [writeReg_sarurg, if_neg (by simpa using hout)]
  case h_9 => rw [writeReg_sarvsel, vselOk_eq_not_outOfRange, h]; rfl
  case h_10 => cases hout

/-- A write of a W1C or RC register, or of one that takes every value, changes the host port's and the converter's registers only; of
ATTNSRC it clears what a write of ATTNSRC names, and it sets nothing. -/
theorem writeReg_of_every_value_allowed (c : Core) {a : Nat} (w : Word) (ha : a ∈ [0x01, 0x02, 0x03, 0x06, 0x1D, 0x1F, 0x36, 0x3E, 0x3F]) :
    c.writeReg a w = { c with host := (c.writeReg a w).host, sar := (c.writeReg a w).sar } ∧
      (c.writeReg a w).host.attnsrc = c.host.attnsrc &&& ~~~(if a = 0x02 then w else 0x0000#16) := by
  have hkeep : c.host.attnsrc = c.host.attnsrc &&& ~~~0x0000#16 := BitVec.and_allOnes.symm
  simp only [List.mem_cons, List.not_mem_nil, or_false] at ha
  rcases ha with rfl | rfl | rfl | rfl | rfl | rfl | rfl | rfl | rfl
  case inr.inl => exact ⟨rfl, rfl⟩
  all_goals exact ⟨rfl, hkeep⟩

end Core

/-- Settles O47: a word out of range only sets REGERR, whichever row writes it; a word for one of the other registers sets no bit of
ATTNSRC. -/
theorem outOfRangeWritesAreDiscarded : Obligations.OutOfRangeWritesAreDiscarded := by
  refine ⟨fun s i a w hi ha hout => ?_, fun s i a w hi ha hall => ?_⟩
  · rw [← Core.writeReg_of_outOfRange _ hout]
    exact gives_writeReg hi ha
  · obtain ⟨hrest, hattn⟩ := (wrote s.core).writeReg_of_every_value_allowed w hall
    exact ⟨_, gives_writeReg hi ha, hrest, hattn⟩

/-! The key of HOSTCTL (R330). -/

/-- What a reset leaves, where its cause has a link-quiet time (R65, Table POWER-5). -/
theorem Core.enterReset_eq_resetLeft (c : Core) {cause : BitVec 3} (hsupply : cause ≠ 0#3) (hbrown : cause ≠ 2#3) (xtal : Xtal) :
    c.enterReset cause 0#8 xtal = resetLeft c (resetPower c cause xtal) (retainedNow c cause) := by
  have hquiet : (cause != 0#3 && cause != 2#3) = true := by simp [hsupply, hbrown]
  unfold enterReset
  rw [hquiet]
  rfl

/-- Settles O46: both rows commit the word to HOSTCTL, whose reset leaves nothing of the transaction that wrote it. -/
theorem hostctlResetsOnItsKeyOnly : Obligations.HostctlResetsOnItsKeyOnly := by
  intro s w ha
  have hword : (wrote s.core).writeReg 0x07 w =
      if w = 0xC3A5#16 then resetLeft s.core (resetPower s.core 6#3 s.core.pw.xtal) (retainedNow s.core 6#3) else wrote s.core := by
    rw [Core.writeReg_hostctl]
    exact if_congr Iff.rfl (Core.enterReset_eq_resetLeft _ (by decide) (by decide) _) rfl
  dsimp only
  rw [← hword]
  exact ⟨gives_writeReg rfl ha, gives_writeReg rfl ha⟩

end Sys2Proof.Machine

/-!
PROOFS. Freshness of authenticated commands (chapter 11, R343): what the window says of a value, what consuming a value does to the
mark of each, and what check 4 does with a command.
-/
namespace Sys2Proof.Machine

namespace TenantSt

/-- The mark of a value below H is set: bit i stands for H - 1 - i. -/
def isMarked (t : TenantSt) (g : BitVec 32) : Bool := t.marks.getLsbD (t.h.toNat - 1 - g.toNat)

theorem isFresh_iff (t : TenantSt) (f : BitVec 32) : t.isFresh f = true ↔ t.h.toNat < f.toNat ∨
    (f.toNat < t.h.toNat ∧ t.h.toNat < f.toNat + 32 ∧ t.isMarked f = false) := by
  simp only [isFresh, isMarked, Bool.or_eq_true, Bool.and_eq_true, decide_eq_true_eq, Bool.not_eq_true', and_assoc]

/-! Consuming a value above H moves H to it and the marks along; one below H only sets its mark. -/

section Above
variable {t : TenantSt} {f : BitVec 32} (hf : t.h.toNat < f.toNat)
include hf

theorem consume_of_above : t.consume f =
    { t with h := f, marks := (t.marks <<< (f.toNat - t.h.toNat)) ||| (1#32 <<< (f.toNat - t.h.toNat - 1)) } := if_pos hf

theorem consume_h_of_above : (t.consume f).h = f := by rw [consume_of_above hf]

/-- Of the values the new window reaches, the old H is marked, those between it and the new one are not, and the older ones keep their
marks. -/
theorem isMarked_consume_of_above {g : BitVec 32} (hg : g.toNat < f.toNat) (hwin : f.toNat < g.toNat + 32) :
    (t.consume f).isMarked g = (decide (g.toNat = t.h.toNat) || (decide (g.toNat < t.h.toNat) && t.isMarked g)) := by
  simp only [consume_of_above hf, isMarked, ← BitVec.twoPow_eq, BitVec.getLsbD_or, BitVec.getLsbD_shiftLeft, BitVec.getLsbD_twoPow]
  rcases lt_trichotomy g.toNat t.h.toNat with hold | hat | hnew
  · have hmoved : f.toNat - 1 - g.toNat - (f.toNat - t.h.toNat) = t.h.toNat - 1 - g.toNat := by omega
    grind
  · have hset : f.toNat - t.h.toNat - 1 = f.toNat - 1 - g.toNat := by omega
    grind
  · have hset : f.toNat - t.h.toNat - 1 ≠ f.toNat - 1 - g.toNat := by omega
    grind

end Above

section Below
variable {t : TenantSt} {f : BitVec 32} (hf : f.toNat < t.h.toNat)
include hf

theorem consume_of_below : t.consume f = { t with marks := t.marks ||| (1#32 <<< (t.h.toNat - 1 - f.toNat)) } := if_neg (by omega)

theorem consume_h_of_below : (t.consume f).h = t.h := by rw [consume_of_below hf]

theorem isMarked_consume_of_below (hwin : t.h.toNat < f.toNat + 32) {g : BitVec 32} (hg : g.toNat < t.h.toNat) :
    (t.consume f).isMarked g = (t.isMarked g || decide (g.toNat = f.toNat)) := by
  have hbit : t.h.toNat - 1 - f.toNat = t.h.toNat - 1 - g.toNat ↔ g.toNat = f.toNat := by omega
  have hlt : t.h.toNat - 1 - f.toNat < 32 := by omega
  simp [consume_of_below hf, isMarked, ← BitVec.twoPow_eq, BitVec.getLsbD_twoPow, hbit, hlt]

end Below

theorem consume_h_toNat {t : TenantSt} {f : BitVec 32} (h : t.isFresh f = true) : (t.consume f).h.toNat = max t.h.toNat f.toNat := by
  rcases (t.isFresh_iff f).mp h with habove | ⟨hbelow, -, -⟩
  · rw [consume_h_of_above habove, max_eq_right habove.le]
  · rw [consume_h_of_below hbelow, max_eq_left hbelow.le]

/-- Consuming touches H and the marks alone. -/
theorem consume_frame (t : TenantSt) (f : BitVec 32) : t.consume f = { t with h := (t.consume f).h, marks := (t.consume f).marks } := by
  unfold consume
  split <;> rfl

/-- After a value is consumed the fresh values are those that were, without it and without those that leave the window under it. -/
theorem isFresh_consume_iff {t : TenantSt} {f : BitVec 32} (h : t.isFresh f = true) (g : BitVec 32) :
    (t.consume f).isFresh g = true ↔ t.isFresh g = true ∧ g ≠ f ∧ f.toNat < g.toNat + 32 := by
  rw [isFresh_iff, isFresh_iff, BitVec.toNat_ne]
  rcases (t.isFresh_iff f).mp h with habove | ⟨hbelow, hwin, -⟩
  · rw [consume_h_of_above habove]
    by_cases hg : g.toNat < f.toNat ∧ f.toNat < g.toNat + 32
    · rw [isMarked_consume_of_above habove hg.1 hg.2]
      grind
    · grind
  · rw [consume_h_of_below hbelow]
    by_cases hg : g.toNat < t.h.toNat
    · rw [isMarked_consume_of_below hbelow hwin hg]
      grind
    · grind

end TenantSt

namespace Core

/-! Check 4 of Table PKT-3 (R343, R344). -/

section
variable (c : Core) {x : CmdCtx} (op : Byte) {f : BitVec 32} (p : List Byte)

theorem freshThen_of_not_isFresh (h : (c.tenantSt x.tenant).isFresh f = false) :
    c.freshThen x op f p = (c.modTele (fun k => { k with authFail := k.authFail + 1 })).answer x op stReplay [] := by
  rw [freshThen, h]
  rfl

/-- A fresh value more than 256 below the reserved bound is consumed with nothing written to NVM. -/
theorem freshThen_of_isFresh_of_reserved (h : (c.tenantSt x.tenant).isFresh f = true)
    (hs : f.toNat + 256 < (c.tenantRec x.tenant).s.toNat) :
    c.freshThen x op f p = (c.modTenantSt x.tenant (fun s => s.consume f)).command op x p := by
  rw [freshThen, h, decide_eq_false hs.not_ge]
  rfl

end

end Core

/-- Settles O49: the window's marks move with H, so that only the value consumed and those 32 or more below it change their answer. -/
theorem replayWindow : Obligations.ReplayWindow :=
  ⟨TenantSt.isFresh_iff, fun t f h => ⟨TenantSt.consume_h_toNat h, t.consume_frame f⟩, fun _ _ g h => TenantSt.isFresh_consume_iff h g,
    fun c _ op _ p h => c.freshThen_of_not_isFresh op p h, fun c _ op _ p h hs => c.freshThen_of_isFresh_of_reserved op p h hs⟩

end Sys2Proof.Machine

/-!
PROOFS. One step: which commands run an effect on the core alone, what an empty queue does, which operands stop the model, and what
every step keeps of the OTP and of the level bits of ATTNSRC (R46, R328, R331, R365, R402, R445).
-/
namespace Sys2Proof.Machine

/-! What a command answers. -/

/-- Every command but the two that touch the OTP runs an effect on the core, where its operand has the shape the tile asks for. -/
theorem exec_cases (i : Instr) (s : State) :
    (∃ f, exec i s = onCoreIf (wellShaped i s.core) f s) ∨ (∃ bist, i = .pllLock bist) ∨ ∃ verified, i = .otpProgramDone verified := by
  cases i with
  | pllLock bist => exact .inr (.inl ⟨bist, rfl⟩)
  | otpProgramDone verified => exact .inr (.inr ⟨verified, rfl⟩)
  | _ => exact .inl ⟨_, rfl⟩

@[simp] theorem onCoreIf_true (f : Core → Core) (s : State) : onCoreIf true f s = onCore f s := rfl

@[simp] theorem onCoreIf_false (f : Core → Core) (s : State) : onCoreIf false f s = .fault .illFormedOperand := rfl

theorem gives_of_onCore {i : Instr} {s : State} {f : Core → Core} {c : Core} (hi : exec i s = onCore f s) (h : f s.core = c) :
    Gives i s c := by
  rw [Gives, hi, onCore_eq, h]

theorem Gives.leaves {i : Instr} {s : State} {c : Core} {P : Core → Prop} (h : Gives i s c) (hP : P c) : Leaves i s P := ⟨c, h, hP⟩

theorem Leaves.mono {i : Instr} {s : State} {P Q : Core → Prop} (h : Leaves i s P) (hPQ : ∀ c, P c → Q c) : Leaves i s Q :=
  h.imp fun c hc => ⟨hc.1, hPQ c hc.2⟩

theorem pllLock_pending (bist : List BistFault) (s : State) : (pllLock bist s).pending = s.pending := by
  unfold pllLock
  split <;> rfl

theorem otpDone_pending (verified : Bool) (s : State) : (otpDone verified s).pending = s.pending := by
  unfold otpDone
  split <;> rfl

/-- Settles O56: the six commands with a shape check stop on its failure and on nothing else; the two that touch the OTP always answer. -/
theorem onlyIllFormedOperandsStop : Obligations.OnlyIllFormedOperandsStop := by
  intro i s
  rcases exec_cases i s with ⟨f, hf⟩ | ⟨bist, rfl⟩ | ⟨verified, rfl⟩
  · constructor
    · intro hok
      rw [hf, hok]
      exact ⟨_, rfl, rfl⟩
    · intro hbad
      rw [hf, hbad]
      rfl
  · exact ⟨fun _ => ⟨_, rfl, pllLock_pending bist s⟩, fun h => absurd h (by simp [wellShaped])⟩
  · exact ⟨fun _ => ⟨_, rfl, otpDone_pending verified s⟩, fun h => absurd h (by simp [wellShaped])⟩

/-! One step. -/

theorem step_cons {s : State} {i : Instr} {rest : List Instr} (h : s.pending = i :: rest) :
    step s = exec i { s with pending := rest } := by
  rw [step, h]

theorem step_nil {s : State} (h : s.pending = []) : step s = .next { s with core := s.core.after s.core.tick } := by
  obtain ⟨pending, otp, core⟩ := s
  cases h
  rfl

/-- Settles O43. -/
theorem stepRunsFront : Obligations.StepRunsFront := fun _ _ _ => step_cons rfl

namespace Core

/-- A reference period changes nothing that HELLO says. -/
theorem helloBody_tick (c : Core) (p : Port) : c.tick.helloBody p = c.helloBody p := by
  have hsub (h : Hedge) (b : Bool) : (if b then subTick h else h) = { h with sub := (if b then subTick h else h).sub
                                                                             subPhase := (if b then subTick h else h).subPhase } := by
    cases b <;> rfl
  unfold tick
  split
  case h_4 =>
    dsimp only
    rw [hsub]
    rfl
  all_goals rfl

theorem after_tick (c : Core) : c.after c.tick = c.tick.latch := by rw [after, told_same _ _ (c.helloBody_tick 0)]

theorem tick_of_stopped {c : Core} (h : c.pw.phase = .unpowered ∨ c.pw.phase = .off ∨ c.pw.phase = .reset) : c.tick = c := by
  rcases h with h | h | h <;> rw [tick, h]

theorem tick_of_counting {c : Core} (h1 : c.pw.phase ≠ .unpowered) (h2 : c.pw.phase ≠ .off) (h3 : c.pw.phase ≠ .reset) :
    c.tick = { c with
      pw := { c.pw with rtc := c.pw.rtc + 1#32 }
      hg := if c.fast && c.hg.ranBoundary then subTick c.hg else c.hg
      rep := { c.rep with lifeT := c.rep.lifeT + 1, rtcLong := c.rep.rtcLong + 1, tele := teleTick c.pw.phase c.rep.tele } } := by
  unfold tick
  split
  case h_1 h => exact absurd h h1
  case h_2 h => exact absurd h h2
  case h_3 h => exact absurd h h3
  case h_4 => rfl

theorem subTick_sub (h : Hedge) : (subTick h).sub.toNat = min (h.sub.toNat + 24414 + (h.subPhase.toNat + 1) / 16) 0xFFFFFF := by
  simp only [subTick, BitVec.toNat_ofNat]
  omega

theorem teleTick_run (t : Tele) : 32768 * (teleTick .run t).runS + (teleTick .run t).runT = 32768 * t.runS + t.runT + 1 ∧
    teleTick .run t = { t with runS := (teleTick .run t).runS, runT := (teleTick .run t).runT } := by
  simp only [teleTick]
  split
  · exact ⟨by dsimp only; omega, rfl⟩
  · exact ⟨by dsimp only; omega, rfl⟩

theorem teleTick_quiet (t : Tele) :
    32768 * (teleTick .quiet t).quietS + (teleTick .quiet t).quietT = 32768 * t.quietS + t.quietT + 1 ∧
    teleTick .quiet t = { t with quietS := (teleTick .quiet t).quietS, quietT := (teleTick .quiet t).quietT } := by
  simp only [teleTick]
  split
  · exact ⟨by dsimp only; omega, rfl⟩
  · exact ⟨by dsimp only; omega, rfl⟩

theorem teleTick_other {ph : Phase} (hrun : ph ≠ .run) (hquiet : ph ≠ .quiet) (t : Tele) : teleTick ph t = t := by
  cases ph with
  | run => exact absurd rfl hrun
  | quiet => exact absurd rfl hquiet
  | _ => rfl

end Core

/-- Settles O44: the period changes nothing that HELLO says, so only the levels of ATTNSRC follow it. -/
theorem idleStepIsOnePeriod : Obligations.IdleStepIsOnePeriod := by
  constructor
  · intro s hempty hstop
    rw [step_nil hempty, Core.after_tick, Core.tick_of_stopped hstop]
  · intro s hempty h1 h2 h3
    refine ⟨s.core.tick, by rw [step_nil hempty, Core.after_tick], ?_⟩
    rw [Core.tick_of_counting h1 h2 h3]
    refine ⟨?_, fun hran hawake => ?_, fun hnot => ?_, fun hrun => ?_, fun hquiet => ?_,
      fun hrun hquiet => Core.teleTick_other hrun hquiet _⟩
    · cases s.core.fast && s.core.hg.ranBoundary <;> rfl
    · have hcounts : (s.core.fast && s.core.hg.ranBoundary) = true := by simp [Core.fast, hran, hawake]
      simp only [hcounts, if_true]
      exact ⟨Core.subTick_sub _, rfl⟩
    · have hstays : (s.core.fast && s.core.hg.ranBoundary) = false := by
        rcases hnot with h | h <;> simp [Core.fast, h]
      simp only [hstays]
      rfl
    · dsimp only
      rw [hrun]
      exact Core.teleTick_run _
    · dsimp only
      rw [hquiet]
      exact Core.teleTick_quiet _

/-! The level bits of ATTNSRC (R328). -/

/-- After a step the core is what the command left with its levels latched. -/
theorem step_latches {s t : State} (h : step s = .next t) : ∃ c : Core, t.core = c.latch := by
  cases hp : s.pending with
  | nil =>
    rw [step_nil hp] at h
    cases h
    exact ⟨_, rfl⟩
  | cons i rest =>
    rw [step_cons hp] at h
    rcases exec_cases i { s with pending := rest } with ⟨f, hf⟩ | ⟨bist, rfl⟩ | ⟨verified, rfl⟩
    · rw [hf] at h
      cases hok : wellShaped i s.core <;> simp only [hok, onCoreIf_true, onCoreIf_false, onCore_eq] at h
      · cases h
      · cases h
        exact ⟨_, rfl⟩
    · cases h
      unfold pllLock
      split <;> exact ⟨_, rfl⟩
    · cases h
      unfold otpDone
      split <;> exact ⟨_, rfl⟩

namespace Core

theorem outWaits_latch (c : Core) : c.latch.outWaits = c.outWaits := by
  simp [outWaits, isHome, queue, tenantRec]

theorem pktinUsed_latch (c : Core) : c.latch.pktinUsed = c.pktinUsed := by simp [pktinUsed]

theorem attn_attnsrc (c : Core) (n : Nat) (h : c.pw.ready = true) : (c.attn n).host.attnsrc = c.host.attnsrc ||| bitMask n := by
  simp [attn, h]

theorem latch_attnsrc (c : Core) (h : c.pw.ready = true) : c.latch.host.attnsrc =
    c.host.attnsrc ||| (if c.outWaits then 0x0002#16 else 0#16) ||| (if c.inRoom then 0x0004#16 else 0#16) := by
  cases hout : c.outWaits <;> cases hin : c.inRoom <;> simp [latch, attnIf, hout, hin, attn_attnsrc, h, bitMask]

end Core

/-- Settles O57. -/
theorem levelBitsStandAfterEveryStep : Obligations.LevelBitsStandAfterEveryStep := by
  intro s t hstep hready
  obtain ⟨c, hc⟩ := step_latches hstep
  rw [hc, Core.latch_pw] at hready
  rw [hc, Core.outWaits_latch, Core.pktinUsed_latch, Core.latch_attnsrc c hready]
  refine ⟨fun hout => ?_, fun hused => ?_⟩
  · simp [hout]
  · have hin : c.inRoom = true := by simp only [Core.inRoom, decide_eq_true_eq]; omega
    simp [hin]

/-! The OTP (R365, R445). -/

namespace KeyArea

/-- The key an area holds. -/
def key : KeyArea → Option (List Byte)
  | .programmed k => some k
  | .blank | .spoiled => none

@[simp] theorem key_blank : key .blank = none := rfl
@[simp] theorem key_spoiled : key .spoiled = none := rfl
@[simp] theorem key_programmed (k : List Byte) : key (.programmed k) = some k := rfl

end KeyArea

theorem Core.custodianKey_eq (o : Otp) : Core.custodianKey o = o.areas.findSome? KeyArea.key := rfl

theorem Otp.whole_iff (o : Otp) : o.whole ↔ o.areas.length = 4 ∧ o.areas.countP (fun a => a.key.isSome) ≤ 1 := by
  have hkey : (fun a : KeyArea => match a with
      | .programmed _ => true
      | .blank | .spoiled => false) = fun a => a.key.isSome := by
    funext a
    cases a <;> rfl
  unfold Otp.whole
  rw [List.countP_eq_length_filter, ← hkey] <;> rfl

/-- Settles O55. -/
theorem resetOtpIsWhole : Obligations.ResetOtpIsWhole :=
  ⟨(Otp.whole_iff _).mpr ⟨rfl, Nat.zero_le 1⟩, rfl, rfl⟩

namespace Core

/-- The first blank area is the one that changes. -/
theorem firstBlank_of_split {o : Otp} {pre post : List KeyArea} (h : o.areas = pre ++ .blank :: post) (hpre : .blank ∉ pre)
    (a : KeyArea) : firstBlank o a = { o with areas := pre ++ a :: post } := by
  have hfind : (List.range o.areas.length).find? (fun i => o.areas[i]? == some .blank) = some pre.length := by
    rw [List.find?_range_eq_some]
    refine ⟨by simp [h], by simp [h], fun j hj => ?_⟩
    have hmem : pre[j] ∈ pre := List.getElem_mem hj
    simp only [h, List.getElem?_append_left hj, List.getElem?_eq_getElem hj, Bool.not_eq_true', beq_eq_false_iff_ne, ne_eq,
      Option.some.injEq]
    exact fun hblank => hpre (hblank ▸ hmem)
  rw [firstBlank, hfind]
  simp [h]

/-- Without a blank area nothing changes. -/
theorem firstBlank_of_full {o : Otp} (h : .blank ∉ o.areas) (a : KeyArea) : firstBlank o a = o := by
  have hfind : (List.range o.areas.length).find? (fun i => o.areas[i]? == some .blank) = none := by
    rw [List.find?_eq_none]
    intro i _
    simp only [beq_iff_eq]
    exact fun hi => h (List.mem_of_getElem? hi)
  rw [firstBlank, hfind]

end Core

/-- What may become of the OTP: no programmed key, no area that is not blank and nothing beside the areas changes, and it stays whole. -/
structure Otp.Keeps (o p : Otp) : Prop where
  key : ∀ k, Core.custodianKey o = some k → Core.custodianKey p = some k
  frame : p = { o with areas := p.areas }
  length : p.areas.length = o.areas.length
  areas : ∀ (i : Nat) (a : KeyArea), o.areas[i]? = some a → a ≠ .blank → p.areas[i]? = some a
  whole : o.whole → p.whole

namespace Otp.Keeps

theorem refl (o : Otp) : o.Keeps o := ⟨fun _ h => h, rfl, rfl, fun _ _ h _ => h, id⟩

/-- An area that was blank takes another content, a key only where none is programmed. -/
theorem firstBlank (o : Otp) {a : KeyArea} (ha : a.key = none ∨ Core.custodianKey o = none) : o.Keeps (Core.firstBlank o a) := by
  by_cases hblank : .blank ∈ o.areas
  · obtain ⟨pre, post, hsplit, hpre⟩ := List.eq_append_cons_of_mem hblank
    rw [Core.firstBlank_of_split hsplit hpre]
    refine ⟨fun k hk => ?_, rfl, by simp [hsplit], fun i b hb hne => ?_, fun hwhole => ?_⟩
    · rcases ha with ha | hnone
      · simpa [Core.custodianKey_eq, hsplit, List.findSome?_append, List.findSome?_cons, ha] using hk
      · rw [hnone] at hk
        cases hk
    · rw [hsplit] at hb
      rcases Nat.lt_trichotomy i pre.length with hlt | rfl | hgt
      · simpa [List.getElem?_append_left hlt] using hb
      · simp only [List.getElem?_append_right (Nat.le_refl _), Nat.sub_self, List.getElem?_cons_zero, Option.some.injEq] at hb
        exact absurd hb.symm hne
      · obtain ⟨j, rfl⟩ := Nat.exists_eq_add_of_lt hgt
        have hj : pre.length + j + 1 - pre.length = j + 1 := by omega
        simpa [List.getElem?_append_right, Nat.add_assoc, hj] using hb
    · obtain ⟨hfour, hone⟩ := (Otp.whole_iff o).mp hwhole
      refine (Otp.whole_iff _).mpr ⟨by simpa [hsplit] using hfour, ?_⟩
      rcases ha with ha | hnone
      · simpa [hsplit, List.countP_cons, ha] using hone
      · have hno : ∀ b ∈ o.areas, b.key = none := List.findSome?_eq_none_iff.mp (by rw [← Core.custodianKey_eq]; exact hnone)
        have hzero : o.areas.countP (fun b => b.key.isSome) = 0 := by
          rw [List.countP_eq_zero]
          intro b hb
          simp [hno b hb]
        simp only [hsplit, List.countP_append, List.countP_cons] at hzero ⊢
        split <;> omega
  · rw [Core.firstBlank_of_full hblank]
    exact refl o

theorem spoilOtp (o : Otp) (k : Option KeyProg) : o.Keeps (Core.spoilOtp o k) := by
  unfold Core.spoilOtp
  split
  · exact firstBlank o (.inl rfl)
  · exact refl o

theorem programKey (o : Otp) (k : List Byte) : o.Keeps (Machine.programKey o k) := by
  unfold Machine.programKey
  split
  case isTrue => exact refl o
  case isFalse h => exact firstBlank o (.inr (by simpa using h))

theorem pllLock (bist : List BistFault) (s : State) : s.otp.Keeps (Machine.pllLock bist s).otp := by
  unfold Machine.pllLock
  split
  case h_1 => exact spoilOtp _ _
  all_goals exact refl _

theorem otpDone (verified : Bool) (s : State) : s.otp.Keeps (Machine.otpDone verified s).otp := by
  unfold Machine.otpDone
  split
  case h_1 => exact refl _
  case h_2 k _ =>
    cases verified
    · exact firstBlank _ (.inl rfl)
    · exact programKey _ _

theorem exec {i : Instr} {s t : State} (h : Machine.exec i s = .next t) : s.otp.Keeps t.otp := by
  rcases exec_cases i s with ⟨f, hf⟩ | ⟨bist, rfl⟩ | ⟨verified, rfl⟩
  · rw [hf] at h
    cases hok : wellShaped i s.core <;> simp only [hok, onCoreIf_true, onCoreIf_false, onCore_eq] at h
    · cases h
    · cases h
      exact refl _
  · cases h
    exact pllLock bist s
  · cases h
    exact otpDone verified s

theorem step {s t : State} (h : Machine.step s = .next t) : s.otp.Keeps t.otp := by
  cases hp : s.pending with
  | nil =>
    rw [step_nil hp] at h
    cases h
    exact refl _
  | cons i rest =>
    rw [step_cons hp] at h
    exact exec (s := { s with pending := rest }) h

end Otp.Keeps

/-- Settles O54: only PLL_LOCK and OTP_PROGRAM_DONE touch the OTP, and both only write its first blank area, with a key only where none
is programmed. -/
theorem custodianKeyIsPermanent : Obligations.CustodianKeyIsPermanent :=
  ⟨fun _ _ h => ⟨(Otp.Keeps.step h).key, (Otp.Keeps.step h).frame, (Otp.Keeps.step h).length, (Otp.Keeps.step h).areas⟩,
    fun _ _ hwhole h => (Otp.Keeps.step h).whole hwhole⟩

end Sys2Proof.Machine

/-!
PROOFS. Bytes of frames and payloads (chapters 07 and 08): where the fields of joined bytes are read, the characters of a link, its
frames, and the payloads of Tables HEDGE-1 to HEDGE-6 read back.
-/
namespace Sys2Proof.Machine

/-! Reading joined bytes. -/

theorem byteAt_append_right (a b : List Byte) (i : Nat) (h : a.length ≤ i) : byteAt (a ++ b) i = byteAt b (i - a.length) := by
  simp [byteAt, List.getElem?_append_right h]

@[simp] theorem byteAt_cons_zero (x : Byte) (l : List Byte) : byteAt (x :: l) 0 = x := rfl

@[simp] theorem byteAt_cons_succ (x : Byte) (l : List Byte) (i : Nat) : byteAt (x :: l) (i + 1) = byteAt l i := rfl

@[simp] theorem byteAt_le_one (x : Nat) : byteAt (le 1 x) 0 = BitVec.ofNat 8 x := by simp [le, byteAt]

@[simp] theorem bvLe_length {w : Nat} (n : Nat) (x : BitVec w) : (bvLe n x).length = n := le_length n x.toNat

@[simp] theorem byteAt_bvLe_one {w : Nat} (x : BitVec w) : byteAt (bvLe 1 x) 0 = BitVec.ofNat 8 x.toNat := byteAt_le_one _

/-- A packed field is read from its own bytes. -/
theorem leAt_bvLe {w : Nat} (n : Nat) (x : BitVec w) (h : w ≤ 8 * n) : leAt (bvLe n x) 0 n = x.toNat := by
  have hpow : 2 ^ w ≤ 256 ^ n := by
    calc 2 ^ w ≤ 2 ^ (8 * n) := Nat.pow_le_pow_right (by omega) h
      _ = 256 ^ n := by rw [pow_mul]; norm_num
  rw [bvLe, leAt_le, Nat.mod_eq_of_lt (x.isLt.trans_le hpow)]

/-- Bytes read behind a prefix of known length. -/
theorem leAt_drop (b : List Byte) (i j n : Nat) : leAt (b.drop i) j n = leAt b (i + j) n := by simp [leAt]

theorem byteAt_drop (b : List Byte) (i j : Nat) : byteAt (b.drop i) j = byteAt b (i + j) := by simp [byteAt, List.getElem?_drop]

/-- A bit of a number as arithmetic reads it. -/
theorem getLsbD_ofNat_eq_decide {w i : Nat} (x : Nat) (h : i < w) : (BitVec.ofNat w x).getLsbD i = decide (x / 2 ^ i % 2 = 1) := by
  rw [BitVec.getLsbD_ofNat, Nat.testBit_eq_decide_div_mod_eq]
  simp [h]

@[simp] theorem bit_true : bit true = 1 := rfl
@[simp] theorem bit_false : bit false = 0 := rfl

theorem bit_le_one (b : Bool) : bit b ≤ 1 := by cases b <;> simp

theorem decide_bit_eq_one (b : Bool) : decide (bit b = 1) = b := by cases b <;> rfl

/-- A flag bit of a byte, once arithmetic has found it. -/
theorem getElem_ofNat_of_div {w i x : Nat} {b : Bool} {h : i < w} (hx : x / 2 ^ i % 2 = bit b) : (BitVec.ofNat w x)[i] = b := by
  rw [← BitVec.getLsbD_eq_getElem, getLsbD_ofNat_eq_decide x h, hx, decide_bit_eq_one]

@[simp] theorem ofNat_toNat_same {w : Nat} (x : BitVec w) : BitVec.ofNat w x.toNat = x := BitVec.eq_of_toNat_eq (by simp)

/-- A number that has another's low bits reads as it. -/
theorem ofNat_eq_of_mod {w : Nat} {x : Nat} {y : BitVec w} (h : x % 2 ^ w = y.toNat) : BitVec.ofNat w x = y :=
  BitVec.eq_of_toNat_eq (by rw [BitVec.toNat_ofNat, h])

@[simp] theorem leAt_cons_succ (x : Byte) (l : List Byte) (i n : Nat) : leAt (x :: l) (i + 1) n = leAt l i n := rfl

theorem bit_decide (n : Nat) : bit (decide (n % 2 = 1)) = n % 2 := by
  rcases Nat.mod_two_eq_zero_or_one n with h | h <;> simp [h]

/-- Joined pieces of equal length, from a piece's place on. -/
theorem drop_flatMap {α : Type} {n : Nat} {f : α → List Byte} (hf : ∀ a, (f a).length = n) (l : List α) (i : Nat) :
    (l.flatMap f).drop (n * i) = (l.drop i).flatMap f := by
  induction l generalizing i with
  | nil => simp
  | cons a l ih =>
    cases i with
    | zero => rfl
    | succ i =>
      rw [List.drop_succ_cons, ← ih, List.flatMap_cons, Nat.mul_succ, Nat.add_comm, ← List.drop_drop, List.drop_left' (hf a)]

theorem length_flatMap_of_length {α : Type} {n : Nat} {f : α → List Byte} (hf : ∀ a, (f a).length = n) (l : List α) :
    (l.flatMap f).length = n * l.length := by
  simp [List.length_flatMap, hf, Nat.mul_comm]

/-- What is read at each place of joined pieces of equal length is read of each piece. -/
theorem range_map_flatMap {α β : Type} {n : Nat} {f : α → List Byte} (hf : ∀ a, (f a).length = n) (g : List Byte → β) (g' : α → β)
    (hg : ∀ a x, g (f a ++ x) = g' a) (l : List α) (rest : List Byte) :
    (List.range l.length).map (fun i => g ((l.flatMap f ++ rest).drop (n * i))) = l.map g' := by
  refine List.ext_getElem (by simp) fun i hi hi' => ?_
  have hlt : i < l.length := by simpa using hi
  have hle : n * i ≤ (l.flatMap f).length := by
    rw [length_flatMap_of_length hf]
    exact Nat.mul_le_mul_left n hlt.le
  rw [List.getElem_map, List.getElem_range, List.getElem_map, List.drop_append_of_le_length hle, drop_flatMap hf,
    List.drop_eq_getElem_cons hlt, List.flatMap_cons, List.append_assoc, hg]

/-- Joined pieces of equal length are cut apart again. -/
theorem take_chunks_flatMap {α : Type} {n : Nat} (hn : 0 < n) {f : α → List Byte} (hf : ∀ a, (f a).length = n) (l : List α)
    (rest : List Byte) : (chunks n (l.flatMap f ++ rest)).take l.length = l.map f := by
  have hcount : l.length ≤ (l.flatMap f ++ rest).length / n := by
    rw [Nat.le_div_iff_mul_le hn, List.length_append, length_flatMap_of_length hf, Nat.mul_comm]
    omega
  rw [chunks, ← List.map_take, List.take_range, Nat.min_eq_left hcount]
  exact range_map_flatMap hf (List.take n) f (fun a x => List.take_left' (hf a)) l rest

theorem chunks_flatMap {α : Type} {n : Nat} (hn : 0 < n) {f : α → List Byte} (hf : ∀ a, (f a).length = n) (l : List α) :
    chunks n (l.flatMap f) = l.map f := by
  have hlen : (chunks n (l.flatMap f)).length = l.length := by
    simp [chunks, length_flatMap_of_length hf, Nat.mul_div_cancel_left _ hn]
  have h := take_chunks_flatMap hn hf l []
  rwa [List.append_nil, ← hlen, List.take_length] at h

/-- Addresses in two bytes each, read at their places. -/
theorem range_map_addrs (l : List Addr) (pre rest : List Byte) :
    (List.range l.length).map (fun i => (BitVec.ofNat 10 (leAt (pre ++ (l.flatMap (bvLe 2) ++ rest)) (pre.length + 2 * i) 2) : Addr)) = l := by
  have h := range_map_flatMap (n := 2) (f := fun a : Addr => bvLe 2 a) (fun a => bvLe_length 2 a)
    (fun b => (BitVec.ofNat 10 (leAt b 0 2) : Addr)) id (fun a x => ?_) l rest
  · rw [List.map_id] at h
    refine Eq.trans (List.map_congr_left fun i _ => ?_) h
    rw [leAt_append_right _ _ _ _ (Nat.le_add_right _ _), Nat.add_sub_cancel_left, leAt_drop, Nat.add_zero]
  · rw [leAt_append_left _ _ _ _ (by simp), leAt_bvLe 2 a (by decide)]
    exact BitVec.eq_of_toNat_eq (by simp)

/-! Characters (R226, R233). -/

/-- The bits of a character's byte on the line, data least significant bit first. -/
def charBits (b : Byte) : List Bool :=
  [b.getLsbD 0, b.getLsbD 1, b.getLsbD 2, b.getLsbD 3, b.getLsbD 4, b.getLsbD 5, b.getLsbD 6, b.getLsbD 7]

theorem charBits_value (b : Byte) : BitVec.ofNat 8 (((charBits b).zipIdx.map (fun x => bit x.1 * 2 ^ x.2)).sum) = b := by
  have hbit (i : Nat) : bit (b.getLsbD i) = b.toNat / 2 ^ i % 2 := by
    rw [← bit_decide, BitVec.getLsbD, Nat.testBit_eq_decide_div_mod_eq]
  apply ofNat_eq_of_mod
  have hlt := b.isLt
  simp only [charBits, List.zipIdx_cons, List.zipIdx_nil, List.map_cons, List.map_nil, List.sum_cons, List.sum_nil, hbit]
  omega

theorem readChar_data (par : BitVec 2) (b : Byte) (rest : List Bool) (first : Bool) :
    (readChar par (false :: (charBits b ++ rest)) first).data = b := by
  refine Eq.trans ?_ (charBits_value b)
  simp [readChar, charBits]

theorem readChar_fe (par : BitVec 2) (l : List Bool) (stop first : Bool) : (readChar par (l ++ [stop]) first).fe = !stop := by
  simp [readChar]

theorem readChar_pe_none (bits : List Bool) (first : Bool) : (readChar 0#2 bits first).pe = false := by
  simp [readChar]

theorem readChar_pe {par : BitVec 2} (hpar : par = 1#2 ∨ par = 2#2) (b : Byte) (p : Bool) (rest : List Bool) (first : Bool) :
    let ones := ((charBits b).filter (fun x => x)).length + bit p
    (readChar par (false :: (charBits b ++ p :: rest)) first).pe =
      (decide (par = 1#2) && decide (ones % 2 = 1) || decide (par = 2#2) && decide (ones % 2 = 0)) := by
  intro ones
  have hones : ((((false :: (charBits b ++ p :: rest)).drop 1).take 8).filter (fun x => x)).length +
      bit ((false :: (charBits b ++ p :: rest)).getD 9 false) = ones := by
    simp [charBits, ones]
  simp only [readChar, hones]
  rcases hpar with rfl | rfl <;> rcases Nat.mod_two_eq_zero_or_one ones with h | h <;> simp [h]

/-! Frames (R251, R252, Table HEDGE-1). -/

namespace LinkBody

/-- The number that the LSEQ field of a frame's type byte holds. -/
def lseqOf (b : LinkBody) (n : BitVec 4) : BitVec 4 :=
  match b with
  | .ack m => m
  | .nak m _ => m
  | _ => n

theorem frame_of_char {b : LinkBody} (h : b.typeCode = none) (n : BitVec 4) : b.frame n = b.bodyBytes := by
  unfold frame
  rw [h]

theorem frame_of_type {b : LinkBody} {t : Nat} (h : b.typeCode = some t) (n : BitVec 4) :
    b.frame n = le 1 (t + 16 * (b.lseqOf n).toNat) ++ b.bodyBytes ++
      bvLe 2 (crc16 (le 1 (t + 16 * (b.lseqOf n).toNat) ++ b.bodyBytes)) := by
  unfold frame
  rw [h]
  cases b <;> rfl

theorem typeCode_bounds {b : LinkBody} {t : Nat} (h : b.typeCode = some t) : 1 ≤ t ∧ t ≤ 14 := by
  cases b <;> cases h <;> decide

theorem byteAt_frame_zero {b : LinkBody} {t : Nat} (h : b.typeCode = some t) (n : BitVec 4) :
    (byteAt (b.frame n) 0).toNat = t + 16 * (b.lseqOf n).toNat := by
  have hlt := (b.lseqOf n).isLt
  have ht := (typeCode_bounds h).2
  rw [frame_of_type h, List.append_assoc, byteAt_append_left _ _ _ (by simp), byteAt_le_one, BitVec.toNat_ofNat]
  omega

theorem frame_length {b : LinkBody} {t : Nat} (h : b.typeCode = some t) (n : BitVec 4) :
    (b.frame n).length = b.bodyBytes.length + 3 := by
  rw [frame_of_type h]
  simp
  omega

theorem frameOk_frame (b : LinkBody) (n : BitVec 4) : frameOk (b.frame n) = true := by
  cases h : b.typeCode with
  | none =>
    rw [frame_of_char h]
    cases b <;> cases h <;> decide
  | some t =>
    obtain ⟨hlo, hhi⟩ := typeCode_bounds h
    have hlen := frame_length h n
    have htype : (byteAt (b.frame n) 0).toNat % 16 = t := by rw [byteAt_frame_zero h]; omega
    have hne : ((b.frame n).length == 1) = false := by simp [hlen]
    have hcut : (b.frame n).length - 2 = (le 1 (t + 16 * (b.lseqOf n).toNat) ++ b.bodyBytes).length := by simp [hlen]; omega
    simp only [frameOk, hne, htype, hcut]
    rw [frame_of_type h, List.take_left' rfl, leAt_append_right _ _ _ _ (Nat.le_refl _), Nat.sub_self, leAt_bvLe 2 _ (by decide)]
    simp [hlo, hhi]
    omega

theorem frame_body {b : LinkBody} {t : Nat} (h : b.typeCode = some t) (n : BitVec 4) :
    ((b.frame n).drop 1).take ((b.frame n).length - 3) = b.bodyBytes := by
  rw [frame_length h, Nat.add_sub_cancel, frame_of_type h, List.append_assoc, List.drop_left' (by simp), List.take_left' rfl]

end LinkBody

/-- Settles O58. -/
theorem charactersAndFramesReadAsSent : Obligations.CharactersAndFramesReadAsSent := by
  refine ⟨fun par b first p stop hpar => ?_, LinkBody.frameOk_frame, fun b n t h => ⟨?_, LinkBody.frame_body h n⟩⟩
  · refine ⟨?_, ?_, rfl, ?_⟩
    · rw [List.append_assoc, List.append_assoc]
      exact readChar_data par b _ first
    · exact readChar_fe par _ stop first
    · by_cases hnone : par = 0#2
      · subst hnone
        exact readChar_pe_none _ first
      · rw [if_neg hnone, List.append_assoc, List.append_assoc]
        exact readChar_pe (by have := par.isLt; simp [BitVec.toNat_eq] at hnone hpar ⊢; omega) b p [stop] first
  · have ht := (LinkBody.typeCode_bounds h).2
    rw [LinkBody.byteAt_frame_zero h]
    omega

end Sys2Proof.Machine

/-!
PROOFS. Payloads of the hedge layer (chapter 08, Tables HEDGE-1 to HEDGE-6): each read back from its bytes.
-/
namespace Sys2Proof
open Machine

theorem Hello.bytes_length (h : Hello) : h.bytes.length = 21 := by simp [bytes]

theorem Hello.ofBytes_bytes (h : Hello) : Hello.ofBytes h.bytes = h := by
  obtain ⟨uid, addr, panel, u, v, port, posValid, panelRoot, hedgeRoot, state, depth, lowestRoot, rosterVer, epoch⟩ := h
  have hpos := bit_le_one posValid
  have hpanel := bit_le_one panelRoot
  have hhedge := bit_le_one hedgeRoot
  simp [ofBytes, bytes, leAt_append_left, leAt_append_right, byteAt_append_left, byteAt_append_right, leAt_le, leAt_bvLe,
    -BitVec.ofNat_toNat]
  refine ⟨ofNat_eq_of_mod ?_, ofNat_eq_of_mod ?_, ofNat_eq_of_mod ?_, getElem_ofNat_of_div ?_, getElem_ofNat_of_div ?_,
    getElem_ofNat_of_div ?_, ofNat_eq_of_mod ?_, ofNat_eq_of_mod ?_⟩ <;> omega

theorem JoinGrant.ofBytes_bytes (g : JoinGrant) : JoinGrant.ofBytes g.bytes = g := by
  obtain ⟨uid, addr, u, v, panel, epoch, rosterVer⟩ := g
  simp [ofBytes, bytes, leAt_append_left, leAt_append_right, byteAt_append_left, byteAt_append_right, leAt_bvLe, -BitVec.ofNat_toNat]
  exact ofNat_eq_of_mod (by omega)

theorem LossCause.ofCode_code (c : LossCause) : LossCause.ofCode c.code = c := by cases c <;> rfl

theorem LossReport.ofBytes_bytes (l : LossReport) : LossReport.ofBytes l.bytes = l := by
  obtain ⟨port, partner, uid, cause⟩ := l
  simp [ofBytes, bytes, leAt_append_left, leAt_append_right, byteAt_append_left, byteAt_append_right, leAt_bvLe, LossCause.ofCode_code,
    -BitVec.ofNat_toNat]
  exact ofNat_eq_of_mod (by omega)

/-! ROSTER (Table HEDGE-3). -/

/-- A roster tile's bytes (Table HEDGE-3). -/
def RosterTile.bytes (t : RosterTile) : List Byte :=
  bvLe 6 t.uid ++ bvLe 2 t.addr ++ [t.u, t.v] ++ bvLe 1 t.mask ++ le 1 (t.state.toNat + 128 * bit t.lost)

theorem RosterTile.bytes_length (t : RosterTile) : t.bytes.length = 12 := by simp [bytes]

theorem RosterTile.ofBytes_bytes (t : RosterTile) : RosterTile.ofBytes t.bytes = t := by
  obtain ⟨uid, addr, u, v, mask, state, lost⟩ := t
  have hlost := bit_le_one lost
  simp [ofBytes, bytes, leAt_append_left, leAt_append_right, byteAt_append_left, byteAt_append_right, leAt_bvLe, -BitVec.ofNat_toNat]
  refine ⟨ofNat_eq_of_mod ?_, ofNat_eq_of_mod ?_, getElem_ofNat_of_div ?_⟩ <;> omega

theorem Roster.bytes_eq (r : Roster) : r.bytes = bvLe 2 r.version ++ r.tiles.flatMap RosterTile.bytes := rfl

theorem Roster.bytes_length (r : Roster) : r.bytes.length = 2 + 12 * r.tiles.length := by
  rw [bytes_eq, List.length_append, bvLe_length, length_flatMap_of_length RosterTile.bytes_length]

theorem Roster.ofBytes_bytes (r : Roster) : Roster.ofBytes r.bytes = r := by
  obtain ⟨version, tiles⟩ := r
  rw [bytes_eq, ofBytes, List.drop_left' (bvLe_length 2 version), chunks_flatMap (by decide) RosterTile.bytes_length,
    leAt_append_left _ _ _ _ (by simp), leAt_bvLe 2 version (by decide), ofNat_toNat_same]
  simp [Function.comp_def, RosterTile.ofBytes_bytes]

/-! TILE_REPORT (Table HEDGE-6). -/

/-- A survey entry's bytes (Table HEDGE-6). -/
def surveyBytes (x : Byte × BitVec 32) : List Byte := [x.1] ++ bvLe 4 x.2

theorem surveyBytes_length (x : Byte × BitVec 32) : (surveyBytes x).length = 5 := by simp [surveyBytes]

theorem survey_surveyBytes (x : Byte × BitVec 32) : (byteAt (surveyBytes x) 0, (BitVec.ofNat 32 (leAt (surveyBytes x) 1 4) : BitVec 32)) = x := by
  simp [surveyBytes, leAt_bvLe, -BitVec.ofNat_toNat]

/-- A tile report's bytes before its surveys (Table HEDGE-6). -/
def TileReport.head (r : TileReport) : List Byte :=
  bvLe 4 r.fc ++ le 1 (r.state.toNat + 16 * bit r.sagged) ++ bvLe 1 r.idsReq ++ bvLe 8 r.inUse ++ bvLe 8 r.returned ++
  bvLe 2 r.digest ++ bvLe 4 r.frameTicks ++ le 1 r.surveys.length

theorem TileReport.head_length (r : TileReport) : r.head.length = 29 := by simp [head]

/-- Up to three surveys stand in their fifteen bytes, the rest of them 0. -/
theorem TileReport.bytes_of_le {r : TileReport} (h : r.surveys.length ≤ 3) :
    r.bytes = r.head ++ (r.surveys.flatMap surveyBytes ++ List.replicate (15 - 5 * r.surveys.length) 0#8) := by
  have hlen := length_flatMap_of_length surveyBytes_length r.surveys
  have hcut : (r.surveys.flatMap surveyBytes ++ List.replicate 15 0#8).take 15 =
      r.surveys.flatMap surveyBytes ++ List.replicate (15 - 5 * r.surveys.length) 0#8 := by
    rw [List.take_append, List.take_of_length_le (by omega), List.take_replicate, hlen]
    congr 2
    omega
  rw [← hcut, bytes, List.take_of_length_le h]
  rfl

theorem TileReport.bytes_length {r : TileReport} (h : r.surveys.length ≤ 3) : r.bytes.length = 44 := by
  rw [bytes_of_le h, List.length_append, List.length_append, head_length, length_flatMap_of_length surveyBytes_length,
    List.length_replicate]
  omega

theorem TileReport.ofBytes_bytes {r : TileReport} (h : r.surveys.length ≤ 3) : TileReport.ofBytes r.bytes = r := by
  have hcount : (byteAt r.bytes 28).toNat = r.surveys.length := by
    rw [bytes_of_le h, byteAt_append_left _ _ _ (by simp [head_length]), head, byteAt_append_right _ _ _ (by simp)]
    simp
    omega
  have hsurveys : (r.bytes.drop 29).take 15 =
      r.surveys.flatMap surveyBytes ++ List.replicate (15 - 5 * r.surveys.length) 0#8 := by
    rw [bytes_of_le h, List.drop_left' (head_length r)]
    refine List.take_of_length_le ?_
    rw [List.length_append, length_flatMap_of_length surveyBytes_length, List.length_replicate]
    omega
  have hread : ((chunks 5 ((r.bytes.drop 29).take 15)).take (byteAt r.bytes 28).toNat).map (fun s =>
      (byteAt s 0, (BitVec.ofNat 32 (leAt s 1 4) : BitVec 32))) = r.surveys := by
    rw [hcount, hsurveys, take_chunks_flatMap (by decide) surveyBytes_length]
    simp [Function.comp_def, survey_surveyBytes]
  rw [ofBytes, hread, bytes_of_le h]
  generalize r.surveys.flatMap surveyBytes ++ _ = rest
  obtain ⟨fc, state, sagged, idsReq, inUse, returned, digest, frameTicks, surveys⟩ := r
  have hsagged := bit_le_one sagged
  simp [head, leAt_append_left, leAt_append_right, byteAt_append_left, byteAt_append_right, leAt_bvLe, -BitVec.ofNat_toNat]
  refine ⟨ofNat_eq_of_mod ?_, getElem_ofNat_of_div ?_, ofNat_eq_of_mod ?_⟩ <;> omega

/-! PANEL_ADVERT and PANEL_GRANT (Table HEDGE-3). -/

/-- A wire link's bytes (Table HEDGE-3). -/
def WireLink.bytes (w : WireLink) : List Byte := bvLe 2 w.gw ++ bvLe 1 w.port ++ bvLe 1 w.far

theorem WireLink.bytes_length (w : WireLink) : w.bytes.length = 4 := by simp [bytes]

/-- A wire link as the bytes at the head of a list give it. -/
def WireLink.ofBytes (b : List Byte) : WireLink where
  gw := BitVec.ofNat 10 (leAt b 0 2)
  port := BitVec.ofNat 3 (byteAt b 2).toNat
  far := BitVec.ofNat 5 (byteAt b 3).toNat

theorem WireLink.ofBytes_bytes_append (w : WireLink) (rest : List Byte) : WireLink.ofBytes (w.bytes ++ rest) = w := by
  obtain ⟨gw, port, far⟩ := w
  simp [ofBytes, bytes, leAt_append_left, byteAt_append_left, byteAt_append_right, leAt_bvLe, -BitVec.ofNat_toNat]
  refine ⟨ofNat_eq_of_mod ?_, ofNat_eq_of_mod ?_⟩ <;> omega

/-- A panel advert's bytes before its blocks. -/
def PanelAdvert.head (a : PanelAdvert) : List Byte :=
  bvLe 6 a.rootUid ++ bvLe 2 a.rootAddr ++ bvLe 1 a.panel ++ [a.tileCount] ++ le 1 a.blocks.length

theorem PanelAdvert.head_length (a : PanelAdvert) : a.head.length = 11 := by simp [head]

/-- A panel advert's bytes behind its single addresses. -/
def PanelAdvert.tail (a : PanelAdvert) : List Byte :=
  le 1 (bit a.provisional) ++ (le 1 a.wires.length ++ a.wires.flatMap WireLink.bytes)

theorem PanelAdvert.bytes_eq (a : PanelAdvert) : a.bytes = a.head ++ (a.blocks.flatMap (bvLe 2) ++
    (le 1 a.singles.length ++ (a.singles.flatMap (bvLe 2) ++ a.tail))) := by
  simp only [bytes, head, tail, List.append_assoc]
  rfl

/-- The wires stand two bytes behind the single addresses. -/
theorem PanelAdvert.wires_of_tail (a : PanelAdvert) : (List.range a.wires.length).map (fun i =>
    ({ gw := BitVec.ofNat 10 (leAt a.tail (2 + 4 * i) 2), port := BitVec.ofNat 3 (byteAt a.tail (4 + 4 * i)).toNat
       far := BitVec.ofNat 5 (byteAt a.tail (5 + 4 * i)).toNat } : WireLink)) = a.wires := by
  have h := range_map_flatMap WireLink.bytes_length WireLink.ofBytes id WireLink.ofBytes_bytes_append a.wires []
  rw [List.map_id, List.append_nil] at h
  refine Eq.trans (List.map_congr_left fun i _ => ?_) h
  have hle (j : Nat) : leAt a.tail (2 + 4 * i + j) 2 = leAt ((a.wires.flatMap WireLink.bytes).drop (4 * i)) j 2 := by
    rw [tail, leAt_append_right _ _ _ _ (by simp; omega), leAt_append_right _ _ _ _ (by simp; omega), leAt_drop]
    congr 1
    simp
    omega
  have hbyte (j : Nat) : byteAt a.tail (2 + 4 * i + j) = byteAt ((a.wires.flatMap WireLink.bytes).drop (4 * i)) j := by
    rw [tail, byteAt_append_right _ _ _ (by simp; omega), byteAt_append_right _ _ _ (by simp; omega), byteAt_drop]
    congr 1
    simp
    omega
  have hport : 4 + 4 * i = 2 + 4 * i + 2 := by omega
  have hfar : 5 + 4 * i = 2 + 4 * i + 3 := by omega
  rw [WireLink.ofBytes, ← hle 0, ← hbyte 2, ← hbyte 3, hport, hfar]
  rfl

theorem PanelAdvert.ofBytes_bytes {a : PanelAdvert} (hblocks : a.blocks.length < 256) (hsingles : a.singles.length < 256)
    (hwires : a.wires.length < 256) : PanelAdvert.ofBytes a.bytes = a := by
  have hn : (byteAt a.bytes 10).toNat = a.blocks.length := by
    rw [bytes_eq, byteAt_append_left _ _ _ (by simp [head_length]), head, byteAt_append_right _ _ _ (by simp)]
    simp
    omega
  have hs : a.bytes.drop (11 + 2 * a.blocks.length) = le 1 a.singles.length ++ (a.singles.flatMap (bvLe 2) ++ a.tail) := by
    rw [bytes_eq, ← List.append_assoc]
    refine List.drop_left' ?_
    rw [List.length_append, head_length, length_flatMap_of_length (bvLe_length 2)]
  have hk : (byteAt (le 1 a.singles.length ++ (a.singles.flatMap (bvLe 2) ++ a.tail)) 0).toNat = a.singles.length := by
    rw [byteAt_append_left _ _ _ (by simp)]
    simp
    omega
  have hw : (le 1 a.singles.length ++ (a.singles.flatMap (bvLe 2) ++ a.tail)).drop (1 + 2 * a.singles.length) = a.tail := by
    rw [← List.append_assoc]
    refine List.drop_left' ?_
    rw [List.length_append, le_length, length_flatMap_of_length (bvLe_length 2)]
  have hm : (byteAt a.tail 1).toNat = a.wires.length := by
    rw [tail, byteAt_append_right _ _ _ (by simp), byteAt_append_left _ _ _ (by simp)]
    simp
    omega
  have hprov : (byteAt a.tail 0).getLsbD 0 = a.provisional := by
    rw [tail, byteAt_append_left _ _ _ (by simp), byteAt_le_one]
    cases a.provisional <;> rfl
  have hblockList := range_map_addrs a.blocks a.head (le 1 a.singles.length ++ (a.singles.flatMap (bvLe 2) ++ a.tail))
  rw [← bytes_eq, head_length] at hblockList
  have hsingleList := range_map_addrs a.singles (le 1 a.singles.length) a.tail
  rw [le_length] at hsingleList
  simp only [ofBytes, hn, hs, hk, hw, hm, hprov, hblockList, hsingleList, wires_of_tail]
  rw [bytes_eq]
  generalize a.blocks.flatMap (bvLe 2) ++ _ = rest
  obtain ⟨rootUid, rootAddr, panel, tileCount, blocks, singles, provisional, wires⟩ := a
  simp [head, leAt_append_left, leAt_append_right, byteAt_append_left, byteAt_append_right, leAt_bvLe, -BitVec.ofNat_toNat]
  exact ofNat_eq_of_mod (by omega)

/-- A panel grant's bytes before its blocks. -/
def PanelGrant.head (g : PanelGrant) : List Byte := bvLe 1 g.panel ++ le 1 (bit g.refused) ++ le 1 g.blocks.length

theorem PanelGrant.head_length (g : PanelGrant) : g.head.length = 3 := by simp [head]

/-- The bytes of a panel grant before its single addresses. -/
def PanelGrant.front (g : PanelGrant) : List Byte := g.head ++ g.blocks.flatMap (bvLe 2) ++ le 1 g.singles.length

theorem PanelGrant.front_length (g : PanelGrant) : g.front.length = 4 + 2 * g.blocks.length := by
  rw [front, List.length_append, List.length_append, head_length, length_flatMap_of_length (bvLe_length 2), le_length]
  omega

theorem PanelGrant.bytes_eq (g : PanelGrant) : g.bytes = g.front ++ (g.singles.flatMap (bvLe 2) ++ []) := by
  simp only [bytes, front, head, List.append_assoc, List.append_nil]

theorem PanelGrant.bytes_eq_head (g : PanelGrant) :
    g.bytes = g.head ++ (g.blocks.flatMap (bvLe 2) ++ (le 1 g.singles.length ++ g.singles.flatMap (bvLe 2))) := by
  simp only [bytes, head, List.append_assoc]

theorem PanelGrant.ofBytes_bytes {g : PanelGrant} (hblocks : g.blocks.length < 256) (hsingles : g.singles.length < 256) :
    PanelGrant.ofBytes g.bytes = g := by
  have hn : (byteAt g.bytes 2).toNat = g.blocks.length := by
    rw [bytes_eq_head, byteAt_append_left _ _ _ (by simp [head_length]), head, byteAt_append_right _ _ _ (by simp)]
    simp
    omega
  have hk : (byteAt g.bytes (3 + 2 * g.blocks.length)).toNat = g.singles.length := by
    have hplace : (g.head ++ g.blocks.flatMap (bvLe 2)).length = 3 + 2 * g.blocks.length := by
      rw [List.length_append, head_length, length_flatMap_of_length (bvLe_length 2)]
    rw [bytes_eq, front, byteAt_append_left _ _ _ (by simp only [List.length_append, le_length] at hplace ⊢; omega),
      byteAt_append_right _ _ _ hplace.le, hplace, Nat.sub_self]
    simp
    omega
  have hrefused : (byteAt g.bytes 1).getLsbD 0 = g.refused := by
    rw [bytes_eq_head, byteAt_append_left _ _ _ (by simp [head_length]), head, byteAt_append_left _ _ _ (by simp),
      byteAt_append_right _ _ _ (by simp), bvLe_length, byteAt_le_one]
    cases g.refused <;> rfl
  have hpanel : BitVec.ofNat 5 (byteAt g.bytes 0).toNat = g.panel := by
    rw [bytes_eq_head, byteAt_append_left _ _ _ (by simp [head_length]), head, byteAt_append_left _ _ _ (by simp),
      byteAt_append_left _ _ _ (by simp), byteAt_bvLe_one, BitVec.toNat_ofNat]
    exact ofNat_eq_of_mod (by omega)
  have hblockList := range_map_addrs g.blocks g.head (le 1 g.singles.length ++ g.singles.flatMap (bvLe 2))
  rw [← bytes_eq_head, head_length] at hblockList
  have hsingleList := range_map_addrs g.singles g.front []
  rw [← bytes_eq, front_length] at hsingleList
  simp only [ofBytes, hn, hk, hrefused, hpanel, hblockList, hsingleList]

/-! Route tables (Table HEDGE-4). -/

theorem RouteEntry.bytes_length (r : RouteEntry) : r.bytes.length = 8 := by simp [bytes]

theorem RouteEntry.ofBytes_bytes (r : RouteEntry) : RouteEntry.ofBytes r.bytes = r := by
  obtain ⟨lo, hi, gw, port, metric, isStatic⟩ := r
  have hstatic := bit_le_one isStatic
  simp [ofBytes, bytes, leAt_append_left, leAt_append_right, byteAt_append_left, byteAt_append_right, leAt_bvLe, -BitVec.ofNat_toNat]
  refine ⟨ofNat_eq_of_mod ?_, ofNat_eq_of_mod ?_, getElem_ofNat_of_div ?_⟩ <;> omega

theorem routesOf_bytes (l : List RouteEntry) : routesOf (l.flatMap RouteEntry.bytes) = l := by
  rw [routesOf, chunks_flatMap (by decide) RouteEntry.bytes_length]
  simp [Function.comp_def, RouteEntry.ofBytes_bytes]

/-- Settles O59. -/
theorem hedgePayloadsRoundTrip : Obligations.HedgePayloadsRoundTrip :=
  ⟨fun h => ⟨h.ofBytes_bytes, h.bytes_length⟩, JoinGrant.ofBytes_bytes, LossReport.ofBytes_bytes,
    fun r => ⟨r.ofBytes_bytes, r.bytes_length⟩, fun _ h => ⟨TileReport.ofBytes_bytes h, TileReport.bytes_length h⟩,
    fun _ hb hs hw => PanelAdvert.ofBytes_bytes hb hs hw, fun _ hb hs => PanelGrant.ofBytes_bytes hb hs, routesOf_bytes⟩

end Sys2Proof

/-!
PROOFS. Packets (chapter 11, R337 to R341, Table PKT-1): the lengths of AES-128 and its CMAC, a packet read as it was built, and a packet
forwarded with another TTL or SRC.
-/
namespace Sys2Proof.Machine

/-! AES-128 keeps to blocks of 16 bytes. -/

theorem xorBytes_length (a b : List Byte) : (xorBytes a b).length = min a.length b.length := by simp [xorBytes]

theorem nextKey_length {k : Block} (h : k.length = 16) (rc : Byte) : (nextKey k rc).length = 16 := by
  simp [nextKey, xorBytes_length, h]

theorem expandKey_ne_nil (k : Block) : expandKey k ≠ [] := by simp [expandKey, rcons]

theorem length_of_mem_expandKey {k : Block} (h : k.length = 16) : ∀ x ∈ expandKey k, x.length = 16 := by
  have hstep (rcs : List Byte) (ks : List Block) (hks : ∀ x ∈ ks, x.length = 16) :
      ∀ x ∈ rcs.foldl (fun ks rc => ks ++ [nextKey (ks.getLastD k) rc]) ks, x.length = 16 := by
    induction rcs generalizing ks with
    | nil => exact hks
    | cons rc rcs ih =>
      refine ih _ fun x hx => ?_
      rcases List.mem_append.mp hx with hold | hnew
      · exact hks x hold
      · rw [List.mem_singleton.mp hnew]
        refine nextKey_length ?_ rc
        cases ks using List.reverseRecOn with
        | nil => exact h
        | append_singleton ks last => simpa using hks last (by simp)
  exact hstep rcons [k] (by simpa using h)

theorem shiftRows_length (s : Block) : (shiftRows s).length = 16 := by simp [shiftRows]

theorem aesEncrypt_length {key : Block} (h : key.length = 16) (blk : Block) : (aesEncrypt key blk).length = 16 := by
  have hkeys := length_of_mem_expandKey h
  unfold aesEncrypt
  split
  case h_1 hnil => exact absurd hnil (expandKey_ne_nil key)
  case h_2 k0 ks hcons =>
    rw [hcons] at hkeys
    have hlast : (ks.getLastD k0).length = 16 := by
      cases ks using List.reverseRecOn with
      | nil => exact hkeys k0 (by simp)
      | append_singleton ks last => simpa using hkeys last (by simp)
    rw [xorBytes_length, shiftRows_length, hlast, Nat.min_self]

theorem cmacChain_length {key : Block} (h : key.length = 16) (k1 k2 : Block) (fuel : Nat) (x : Block) (m : List Byte) (hx : x.length = 16) :
    (cmacChain key k1 k2 fuel x m).length = 16 := by
  induction fuel generalizing x m with
  | zero => exact hx
  | succ fuel ih =>
    unfold cmacChain
    split
    · exact aesEncrypt_length h _
    · split
      · exact aesEncrypt_length h _
      · exact ih _ _ (aesEncrypt_length h _)

theorem tag4_length {key : Block} (h : key.length = 16) (m : List Byte) : (tag4 key m).length = 4 := by
  simp [tag4, cmac, cmacChain_length h]

/-! A packet's parts. -/

theorem le_two (x : Nat) : le 2 x = [BitVec.ofNat 8 x, BitVec.ofNat 8 (x / 256)] := by simp [le, List.range_succ]

/-- The byte of TENANT and the four flags (Table PKT-1). -/
def PktHead.flagByte (h : PktHead) (auth : Bool) : Nat :=
  h.tenant.val + 16 * bit auth + 32 * bit h.urg + 64 * bit h.frag + 128 * bit h.last

/-- The twelve bytes before FRESH and the payload (Table PKT-1). -/
def PktHead.bytes (h : PktHead) (auth : Bool) (len : Nat) : List Byte :=
  [BitVec.ofNat 8 (h.kind + 16), BitVec.ofNat 8 (h.flagByte auth), BitVec.ofNat 8 h.dst.toNat,
    BitVec.ofNat 8 ((h.dst.toNat + 4096 * h.ttl) / 256), BitVec.ofNat 8 h.src.toNat, BitVec.ofNat 8 (h.src.toNat / 256),
    BitVec.ofNat 8 h.seq.toNat, BitVec.ofNat 8 (h.seq.toNat / 256), h.opcode, h.status, BitVec.ofNat 8 len, BitVec.ofNat 8 (len / 256)]

@[simp] theorem PktHead.bytes_length (h : PktHead) (auth : Bool) (len : Nat) : (h.bytes auth len).length = 12 := rfl

/-- A packet's head as the tag covers it, TTL and SRC as 0 (R341). -/
def PktHead.tagged (h : PktHead) : PktHead := { h with ttl := 0, src := 0 }

/-- What stands behind the head: FRESH with AUTH = 1, the payload, the tag with AUTH = 1 (R337, R341). -/
def packetRest (h : PktHead) (p : List Byte) (a : Option (BitVec 32 × List Byte)) : List Byte :=
  match a with
  | none => p
  | some (fresh, key) => le 4 fresh.toNat ++ (p ++ tag4 key (h.tagged.bytes true p.length ++ (le 4 fresh.toNat ++ p)))

/-- Bytes with their CRC-32 behind them (R337). -/
def withCrc (m : List Byte) : List Byte := m ++ le 4 (crc32 m).toNat

section Head

variable (h : PktHead) (auth : Bool) (len : Nat) (rest : List Byte)

/-- A packet's first two bytes of LEN. -/
theorem pkLen_bytes_append (hlen : len < 65536) : pkLen (h.bytes auth len ++ rest) = len := by
  simp only [pkLen, PktHead.bytes, List.cons_append, leAt, List.drop_succ_cons, List.drop_zero, List.take_succ_cons, ofLe,
    BitVec.toNat_ofNat, List.nil_append, List.take_zero]
  omega

theorem ttl_cleared :
    BitVec.ofNat 8 ((h.dst.toNat + 4096 * h.ttl) / 256) &&& 0x0F#8 = BitVec.ofNat 8 (h.dst.toNat / 256) := by
  have hdst := h.dst.isLt
  have hlow : (h.dst.toNat + 4096 * h.ttl) / 256 % 256 % 16 = h.dst.toNat / 256 := by omega
  apply BitVec.eq_of_toNat_eq
  rw [BitVec.toNat_and, BitVec.toNat_ofNat, BitVec.toNat_ofNat, BitVec.toNat_ofNat]
  have hmask : (15 % 2 ^ 8 : Nat) = 2 ^ 4 - 1 := by decide
  rw [hmask, Nat.and_two_pow_sub_one_eq_mod]
  omega

theorem ttl_put (n : Nat) (hn : n < 16) :
    (BitVec.ofNat 8 ((h.dst.toNat + 4096 * h.ttl) / 256) &&& 0x0F#8) ||| BitVec.ofNat 8 (16 * n) =
      BitVec.ofNat 8 ((h.dst.toNat + 4096 * n) / 256) := by
  have hdst := h.dst.isLt
  rw [ttl_cleared h]
  apply BitVec.eq_of_toNat_eq
  rw [BitVec.toNat_or, BitVec.toNat_ofNat, BitVec.toNat_ofNat, BitVec.toNat_ofNat]
  have hlow : h.dst.toNat / 256 % 2 ^ 8 = h.dst.toNat / 256 := by omega
  have hhigh : 16 * n % 2 ^ 8 = 2 ^ 4 * n := by omega
  rw [hlow, hhigh, Nat.or_comm, ← Nat.two_pow_add_eq_or_of_lt (by omega)]
  omega

/-- The tag covers the head with TTL and SRC as 0. -/
theorem tagMessage_bytes_append (hlen : len < 65536) :
    tagMessage (h.bytes auth len ++ rest) = (h.tagged.bytes auth len ++ rest).take (16 + len) := by
  rw [tagMessage, pkLen_bytes_append h auth len rest hlen]
  have hbyte : byteAt (h.bytes auth len ++ rest) 3 &&& 0x0F#8 = BitVec.ofNat 8 (h.dst.toNat / 256) := ttl_cleared h
  rw [hbyte]
  simp [PktHead.bytes, PktHead.tagged, PktHead.flagByte]

end Head

theorem tagMessage_head_fresh_payload (h : PktHead) {p : List Byte} (hlen : p.length < 65536) (fresh : BitVec 32) :
    tagMessage (h.bytes true p.length ++ (le 4 fresh.toNat ++ p)) = h.tagged.bytes true p.length ++ (le 4 fresh.toNat ++ p) := by
  rw [tagMessage_bytes_append _ _ _ _ hlen]
  exact List.take_of_length_le (by simp; omega)

/-- A packet is its head, what stands behind it, and the CRC-32 of both. -/
theorem buildPacket_eq (h : PktHead) {p : List Byte} (hlen : p.length < 65536) (a : Option (BitVec 32 × List Byte)) :
    buildPacket h p a = withCrc (h.bytes a.isSome p.length ++ packetRest h p a) := by
  have hhead : [BitVec.ofNat 8 (h.kind + 16), BitVec.ofNat 8 (h.flagByte a.isSome)] ++ le 2 (h.dst.toNat + 4096 * h.ttl) ++
      le 2 h.src.toNat ++ le 2 h.seq.toNat ++ [h.opcode, h.status] ++ le 2 p.length = h.bytes a.isSome p.length := by
    have hlow : BitVec.ofNat 8 (h.dst.toNat + 4096 * h.ttl) = BitVec.ofNat 8 h.dst.toNat := BitVec.eq_of_toNat_eq (by simp; omega)
    simp only [le_two, hlow]
    rfl
  unfold buildPacket
  simp only [← PktHead.flagByte.eq_def, hhead]
  cases a with
  | none => rfl
  | some a =>
    obtain ⟨fresh, key⟩ := a
    simp only [Option.isSome_some, List.append_assoc, tagMessage_head_fresh_payload h hlen, packetRest, withCrc]

/-! Another TTL or SRC (R338, R339). -/

theorem reCrc_append (m c : List Byte) (hc : c.length = 4) : reCrc (m ++ c) = withCrc m := by
  have hcut : (m ++ c).take ((m ++ c).length - 4) = m := by
    rw [List.length_append, hc, Nat.add_sub_cancel]
    exact List.take_left' rfl
  rw [reCrc, hcut]
  rfl

/-- What stands behind the head does not depend on TTL or SRC: the tag does not cover them (R341). -/
theorem packetRest_congr {h k : PktHead} (heq : h.tagged = k.tagged) (p : List Byte) (a : Option (BitVec 32 × List Byte)) :
    packetRest h p a = packetRest k p a := by
  unfold packetRest
  rw [heq]

theorem setTtl_buildPacket (h : PktHead) {p : List Byte} (hlen : p.length < 65536)
    (a : Option (BitVec 32 × List Byte)) {n : Nat} (hn : n < 16) : setTtl (buildPacket h p a) n = buildPacket { h with ttl := n } p a := by
  rw [buildPacket_eq h hlen, buildPacket_eq { h with ttl := n } hlen,
    packetRest_congr (h := h) (k := { h with ttl := n }) rfl]
  generalize packetRest { h with ttl := n } p a = rest
  have hbyte : (byteAt (withCrc (h.bytes a.isSome p.length ++ rest)) 3 &&& 0x0F#8) ||| BitVec.ofNat 8 (16 * n) =
      BitVec.ofNat 8 ((h.dst.toNat + 4096 * n) / 256) := ttl_put h n hn
  have hset : (withCrc (h.bytes a.isSome p.length ++ rest)).set 3 (BitVec.ofNat 8 ((h.dst.toNat + 4096 * n) / 256)) =
      ({ h with ttl := n }.bytes a.isSome p.length ++ rest) ++ le 4 (crc32 (h.bytes a.isSome p.length ++ rest)).toNat := by
    simp [withCrc, PktHead.bytes, PktHead.flagByte]
  rw [setTtl, hbyte, hset]
  exact reCrc_append _ _ (le_length 4 _)

theorem setSrc_buildPacket (h : PktHead) {p : List Byte} (hlen : p.length < 65536)
    (a : Option (BitVec 32 × List Byte)) (s : Addr) : setSrc (buildPacket h p a) s = buildPacket { h with src := s } p a := by
  rw [buildPacket_eq h hlen, buildPacket_eq { h with src := s } hlen,
    packetRest_congr (h := h) (k := { h with src := s }) rfl]
  generalize packetRest { h with src := s } p a = rest
  have hset : ((withCrc (h.bytes a.isSome p.length ++ rest)).set 4 (BitVec.ofNat 8 s.toNat)).set 5 (BitVec.ofNat 8 (s.toNat / 256)) =
      ({ h with src := s }.bytes a.isSome p.length ++ rest) ++ le 4 (crc32 (h.bytes a.isSome p.length ++ rest)).toNat := by
    simp [withCrc, PktHead.bytes, PktHead.flagByte]
  rw [setSrc, hset]
  exact reCrc_append _ _ (le_length 4 _)

/-! A packet read (R337 to R341, Table PKT-1). -/

/-- The fields that a packet's first twelve bytes give. -/
structure Reads (x : List Byte) (h : PktHead) (auth : Bool) (len : Nat) : Prop where
  ver : pkVer x = 1
  kind : pkKind x = h.kind
  tenant : pkTenant x = h.tenant
  auth : pkAuth x = auth
  urg : pkUrg x = h.urg
  frag : pkFrag x = h.frag
  last : pkLast x = h.last
  dst : pkDst x = h.dst
  ttl : pkTtl x = h.ttl
  src : pkSrc x = h.src
  seq : pkSeq x = h.seq
  op : pkOp x = h.opcode
  status : pkStatus x = h.status
  len : pkLen x = len

theorem PktHead.flagByte_getLsbD (h : PktHead) (auth : Bool) (i : Nat) (hi : i < 8) (b : Bool)
    (hb : h.flagByte auth / 2 ^ i % 2 = bit b) : (BitVec.ofNat 8 (h.flagByte auth)).getLsbD i = b := by
  rw [BitVec.getLsbD_eq_getElem hi]
  exact getElem_ofNat_of_div hb

theorem reads_bytes_append (h : PktHead) (hkind : h.kind < 16) (hlt : h.ttl < 16) (auth : Bool) {len : Nat} (hlen : len < 65536)
    (rest : List Byte) : Reads (h.bytes auth len ++ rest) h auth len := by
  have hten := h.tenant.isLt
  have hauth := bit_le_one auth
  have hurg := bit_le_one h.urg
  have hfrag := bit_le_one h.frag
  have hlast := bit_le_one h.last
  have hdst := h.dst.isLt
  have hsrc := h.src.isLt
  have hseq := h.seq.isLt
  have hflags : h.flagByte auth = h.tenant.val + 16 * bit auth + 32 * bit h.urg + 64 * bit h.frag + 128 * bit h.last := rfl
  have hpair (i : Nat) (x y : Byte) (l : List Byte) (he : (h.bytes auth len ++ rest).drop i = x :: y :: l) :
      leAt (h.bytes auth len ++ rest) i 2 = x.toNat + 256 * y.toNat := by
    simp [leAt, he, ofLe]
  refine ⟨?_, ?_, ?_, ?_, ?_, ?_, ?_, ?_, ?_, ?_, ?_, rfl, rfl, pkLen_bytes_append h auth len rest hlen⟩
  · show (BitVec.ofNat 8 (h.kind + 16)).toNat / 16 = 1
    rw [BitVec.toNat_ofNat]
    omega
  · show (BitVec.ofNat 8 (h.kind + 16)).toNat % 16 = h.kind
    rw [BitVec.toNat_ofNat]
    omega
  · show Fin.ofNat 16 (BitVec.ofNat 8 (h.flagByte auth)).toNat = h.tenant
    apply Fin.ext
    rw [Fin.val_ofNat, BitVec.toNat_ofNat]
    omega
  · exact h.flagByte_getLsbD auth 4 (by decide) _ (by omega)
  · exact h.flagByte_getLsbD auth 5 (by decide) _ (by omega)
  · exact h.flagByte_getLsbD auth 6 (by decide) _ (by omega)
  · exact h.flagByte_getLsbD auth 7 (by decide) _ (by omega)
  · rw [pkDst, hpair 2 _ _ _ rfl]
    exact ofNat_eq_of_mod (by simp only [BitVec.toNat_ofNat]; omega)
  · show (BitVec.ofNat 8 ((h.dst.toNat + 4096 * h.ttl) / 256)).toNat / 16 = h.ttl
    rw [BitVec.toNat_ofNat]
    omega
  · rw [pkSrc, hpair 4 _ _ _ rfl]
    exact ofNat_eq_of_mod (by simp only [BitVec.toNat_ofNat]; omega)
  · rw [pkSeq, hpair 6 _ _ _ rfl]
    exact ofNat_eq_of_mod (by simp only [BitVec.toNat_ofNat]; omega)

/-- The bytes behind the head: the payload, and with AUTH = 1 FRESH and the tag. -/
theorem packetRest_length (h : PktHead) (p : List Byte) {a : Option (BitVec 32 × List Byte)} (hkey : ∀ f k, a = some (f, k) → k.length = 16) :
    (packetRest h p a).length = p.length + (if a.isSome then 8 else 0) := by
  cases a with
  | none => rfl
  | some a =>
    obtain ⟨f, k⟩ := a
    simp [packetRest, tag4_length (hkey f k rfl)]
    omega

theorem withCrc_length (m : List Byte) : (withCrc m).length = m.length + 4 := by simp [withCrc]

/-- Check 1 of Table PKT-3 passes where the length is the one of the head. -/
theorem pkIntact_withCrc {m : List Byte} (hlen : m.length + 4 = pkTotal (withCrc m)) (hle : pkLen (withCrc m) ≤ 1024) :
    pkIntact (withCrc m) = true := by
  have hcut : (withCrc m).length - 4 = m.length := by rw [withCrc_length, Nat.add_sub_cancel]
  have hlength : (withCrc m).length = pkTotal (withCrc m) := by rw [withCrc_length, hlen]
  have hcrc : leAt (withCrc m) m.length 4 = (crc32 ((withCrc m).take m.length)).toNat := by
    rw [withCrc, leAt_crc, List.take_left' rfl]
  rw [pkIntact, hcut, ← hlength, ← hcrc]
  simp [hle, withCrc_length]

/-- What a packet read back shows of what it was built from. -/
structure ReadsPacket (x : List Byte) (h : PktHead) (p : List Byte) (a : Option (BitVec 32 × List Byte)) : Prop where
  head : Reads x h a.isSome p.length
  length : x.length = p.length + (if a.isSome then 24 else 16)
  intact : pkIntact x = true
  payload : pkPayload x = p
  auth : ∀ f k, a = some (f, k) → pkFresh x = f ∧ tagOk k x = true

theorem readsPacket_buildPacket {h : PktHead} (hkind : h.kind < 16) (hlt : h.ttl < 16) {p : List Byte} (hp : p.length ≤ 1024)
    {a : Option (BitVec 32 × List Byte)} (hkey : ∀ f k, a = some (f, k) → k.length = 16) :
    ReadsPacket (buildPacket h p a) h p a := by
  have hlen : p.length < 65536 := by omega
  have hrest := packetRest_length h p hkey
  rw [buildPacket_eq h hlen]
  have hhead : Reads (withCrc (h.bytes a.isSome p.length ++ packetRest h p a)) h a.isSome p.length := by
    rw [withCrc, List.append_assoc]
    exact reads_bytes_append h hkind hlt _ hlen _
  refine ⟨hhead, ?_, pkIntact_withCrc ?_ ?_, ?_, fun f k hfk => ?_⟩
  · rw [withCrc_length, List.length_append, PktHead.bytes_length, hrest]
    split <;> omega
  · rw [pkTotal, hhead.auth, hhead.len, List.length_append, PktHead.bytes_length, hrest]
    split <;> omega
  · rw [hhead.len]
    exact hp
  · rw [pkPayload, pkStart, hhead.auth, hhead.len, withCrc, List.append_assoc]
    cases a with
    | none =>
      rw [Option.isSome_none, if_neg Bool.false_ne_true, List.drop_left' (h.bytes_length _ _)]
      exact List.take_left' rfl
    | some a =>
      obtain ⟨f, k⟩ := a
      have hfront : (h.bytes true p.length ++ le 4 f.toNat).length = 16 := by simp
      rw [Option.isSome_some, if_pos rfl, packetRest, List.append_assoc, ← List.append_assoc, List.drop_left' hfront, List.append_assoc]
      exact List.take_left' rfl
  · subst hfk
    have htagLen := tag4_length (hkey f k rfl)
    constructor
    · rw [pkFresh, withCrc, packetRest, List.append_assoc, leAt_append_right _ _ _ _ (by simp), List.append_assoc,
        leAt_append_left _ _ _ _ (by simp)]
      rw [Option.isSome_some, PktHead.bytes_length, Nat.sub_self, leAt_le]
      exact ofNat_eq_of_mod (by omega)
    · rw [tagOk, hhead.len, withCrc, List.append_assoc, Option.isSome_some, tagMessage_bytes_append _ _ _ _ hlen]
      have hcovered : ∀ g : PktHead, (g.bytes true p.length ++ (le 4 f.toNat ++ p)).length = 16 + p.length := by
        intro g
        simp
        omega
      have hmessage : ∀ (g : PktHead) (c : List Byte), g.bytes true p.length ++ (packetRest h p (some (f, k)) ++ c) =
          (g.bytes true p.length ++ (le 4 f.toNat ++ p)) ++
            (tag4 k (h.tagged.bytes true p.length ++ (le 4 f.toNat ++ p)) ++ c) := by
        intro g c
        simp only [packetRest, List.append_assoc]
      rw [hmessage, List.take_left' (hcovered _), hmessage, List.drop_left' (hcovered _), List.take_left' (htagLen _)]
      exact beq_self_eq_true _

/-- Settles O60: a packet with another TTL or SRC is the packet built with it, since the tag covers neither. -/
theorem packetsRoundTrip : Obligations.PacketsRoundTrip := by
  intro h p a hkind httl hp hkey b same
  have hlen : p.length < 65536 := by omega
  have hread (g : PktHead) (hgt : g.ttl < 16) (hfields : g.kind = h.kind ∧ g.tenant = h.tenant ∧ g.urg = h.urg ∧ g.frag = h.frag ∧
      g.last = h.last ∧ g.dst = h.dst ∧ g.seq = h.seq ∧ g.opcode = h.opcode ∧ g.status = h.status) :
      same (buildPacket g p a) ∧ pkTtl (buildPacket g p a) = g.ttl ∧ pkSrc (buildPacket g p a) = g.src := by
    obtain ⟨hk, hten, hurg, hfrag, hlast, hdst, hseq, hop, hst⟩ := hfields
    have hx := readsPacket_buildPacket (h := g) (by rwa [hk]) hgt hp hkey
    exact ⟨⟨hx.intact, hx.length, hx.head.ver, hx.head.kind.trans hk, hx.head.tenant.trans hten, hx.head.auth, hx.head.urg.trans hurg,
      hx.head.frag.trans hfrag, hx.head.last.trans hlast, hx.head.dst.trans hdst, hx.head.seq.trans hseq, hx.head.op.trans hop,
      hx.head.status.trans hst, hx.head.len, hx.payload, hx.auth⟩, hx.head.ttl, hx.head.src⟩
  have hsame : h.kind = h.kind ∧ h.tenant = h.tenant ∧ h.urg = h.urg ∧ h.frag = h.frag ∧ h.last = h.last ∧ h.dst = h.dst ∧
      h.seq = h.seq ∧ h.opcode = h.opcode ∧ h.status = h.status := ⟨rfl, rfl, rfl, rfl, rfl, rfl, rfl, rfl, rfl⟩
  refine ⟨hread h httl hsame, fun n hn => ?_, fun s => ?_⟩
  · rw [show b = buildPacket h p a from rfl, setTtl_buildPacket h hlen a hn]
    exact hread { h with ttl := n } hn hsame
  · rw [show b = buildPacket h p a from rfl, setSrc_buildPacket h hlen a s]
    exact hread { h with src := s } httl hsame

end Sys2Proof.Machine

/-!
PROOFS. A tenant's queue (chapter 11, R216, R369, R370): what placing a record in a full queue can do.
-/
namespace Sys2Proof.Machine

/-- The first place of a list, in some order, whose record satisfies a property. -/
theorem exists_of_find?_any {α : Type} {l : List α} {places : List Nat} {P : Nat → α → Bool} {i : Nat}
    (h : places.find? (fun i => (l[i]?).any (P i)) = some i) : ∃ x, l[i]? = some x ∧ P i x = true :=
  (Option.any_eq_true _ _).mp (List.find?_some (p := fun i => (l[i]?).any (P i)) h)

theorem modifyAt_of_getElem? {α : Type} {l : List α} {i : Nat} {x : α} (h : l[i]? = some x) (f : α → α) :
    modifyAt l i f = l.set i (f x) := by
  simp [modifyAt, h]

theorem mem_set_of_ne {α : Type} {l : List α} {i : Nat} {x y : α} (hi : l[i]? = some x) (hy : y ∈ l) (hne : y ≠ x) (z : α) :
    y ∈ l.set i z := by
  obtain ⟨j, hj⟩ := List.getElem?_of_mem hy
  have hij : i ≠ j := by
    rintro rfl
    exact hne (Option.some.inj (hj.symm.trans hi))
  exact List.mem_of_getElem? ((List.getElem?_set_ne hij).trans hj)

theorem mem_eraseIdx_of_ne {α : Type} {l : List α} {i : Nat} {x y : α} (hi : l[i]? = some x) (hy : y ∈ l) (hne : y ≠ x) :
    y ∈ l.eraseIdx i := by
  obtain ⟨j, hj⟩ := List.getElem?_of_mem hy
  have hij : j ≠ i := by
    rintro rfl
    exact hne (Option.some.inj (hj.symm.trans hi))
  exact List.mem_eraseIdx_iff_getElem?.mpr ⟨j, hij, hj⟩

namespace Queue

/-- A record that R369 may change or remove: one that is not fixed, and is a MOVE, a HOVER without END or an encoder's. -/
def mayGive (r : QEnt) : Prop := r.fixed = false ∧ (isMoving r.bytes = true ∨ recType r.bytes = 4)

/-- One more record ahead of the QUEUE_FULL event has gone. -/
def back (i : Nat) (f : QFull) : QFull := if i < f.ahead then { f with ahead := f.ahead - 1 } else f

theorem back_counts (i : Nat) (f : QFull) : (back i f).du + (back i f).other = f.du + f.other := by
  unfold back
  split <;> rfl

theorem map_back_counts (i : Nat) (f : Option QFull) :
    ((f.map (back i)).map (fun f => f.du + f.other)).getD 0 = (f.map (fun f => f.du + f.other)).getD 0 := by
  cases f <;> simp [back_counts]

/-- What placing a record in a full queue does: it merges with an encoder's record or overwrites a MOVE, it takes the place of a superseded
MOVE, or it is lost (R216, R369, R370). -/
inductive PlacedFull (q : Queue) (e : QEnt) (r : Placed) : Prop where
  | changed (i : Nat) (x y : QEnt) (at_i : q.recs[i]? = some x) (gives : mayGive x) (new : isMoving e.bytes = true ∨ recType e.bytes = 4)
      (eq : r = { q := { q with recs := q.recs.set i y }, lost := false, qfull := false })
  | removed (i : Nat) (x : QEnt) (at_i : q.recs[i]? = some x) (moving : isMoving x.bytes = true) (free : x.fixed = false)
      (later : ∃ y ∈ q.recs.drop (i + 1), sameContact y.bytes x.bytes = true)
      (eq : r = { q := { recs := q.recs.eraseIdx i ++ [e], full := q.full.map (back i), late := q.late.map (back i) }, lost := false,
                  qfull := false })
  | lost (down : Bool) (eq : r = { q := (q.lose down e.fc).1, lost := true, qfull := (q.lose down e.fc).2 })

theorem recType_of_sameEncoder {a b : List Byte} (h : sameEncoder a b = true) : recType a = 4 ∧ recType b = 4 := by
  simp only [sameEncoder, Bool.and_eq_true, beq_iff_eq] at h
  exact h.1.1

theorem placedFull_place (q : Queue) (e : QEnt) (hfull : ¬ q.recs.length < 64) : PlacedFull q e (q.place e) := by
  unfold place
  rw [if_neg hfull]
  dsimp only
  split
  case h_1 i henc =>
    obtain ⟨x, hx, hp⟩ := exists_of_find?_any (l := q.recs) (P := fun _ r => sameEncoder r.bytes e.bytes && !r.fixed) henc
    simp only [Bool.and_eq_true, Bool.not_eq_true'] at hp
    obtain ⟨hsame, hfree⟩ := hp
    obtain ⟨hold, hnew⟩ := recType_of_sameEncoder hsame
    exact .changed i x _ hx ⟨hfree, .inr hold⟩ (.inr hnew) (by rw [modifyAt_of_getElem? hx])
  case h_2 =>
    split
    case h_1 i holder =>
      obtain ⟨-, hp⟩ := Option.filter_eq_some_iff.mp holder
      simp only [Bool.and_eq_true] at hp
      obtain ⟨hnew, hold⟩ := hp
      obtain ⟨x, hx, hp⟩ := (Option.any_eq_true _ _).mp hold
      simp only [Bool.and_eq_true, Bool.not_eq_true'] at hp
      exact .changed i x _ hx ⟨hp.2, .inl hp.1⟩ (.inl hnew) (by rw [modifyAt_of_getElem? hx])
    case h_2 =>
      split
      case h_1 i hsup =>
        obtain ⟨x, hx, hp⟩ := exists_of_find?_any (l := q.recs) (P := fun i x =>
          isMoving x.bytes && !x.fixed && (q.recs.drop (i + 1)).any (fun l => sameContact l.bytes x.bytes)) hsup
        simp only [Bool.and_eq_true, Bool.not_eq_true', List.any_eq_true] at hp
        exact .removed i x hx hp.1.1 hp.1.2 hp.2 rfl
      case h_2 => exact .lost _ rfl

theorem more_counts (f : QFull) (down : Bool) : (f.more down).du + (f.more down).other = f.du + f.other + 1 := by
  cases down <;> simp [QFull.more] <;> omega

theorem first_counts (q : Queue) (down : Bool) (fc : BitVec 32) : (QFull.first q down fc).du + (QFull.first q down fc).other = 1 :=
  more_counts _ down

/-- A loss leaves the records, counts one more, and sets QFULL where it is the first (R370). -/
theorem lose_spec (q : Queue) (down : Bool) (fc : BitVec 32) :
    (q.lose down fc).1.recs = q.recs ∧ (q.lose down fc).1.losses = q.losses + 1 ∧ ((q.lose down fc).2 = true ↔ q.full = none) := by
  obtain ⟨recs, full, late⟩ := q
  cases full with
  | none => simp [lose, losses, first_counts, Nat.add_comm]
  | some f =>
    cases hfixed : f.fixed
    · simp [lose, losses, more_counts, hfixed]
      omega
    · cases late with
      | none => simp [lose, losses, hfixed, first_counts]
      | some l => simp [lose, losses, hfixed, more_counts, Nat.add_assoc]

theorem mayGive_ne {x y : QEnt} (hx : mayGive x) (hy : y.fixed = true ∨ (isMoving y.bytes = false ∧ recType y.bytes ≠ 4)) : y ≠ x := by
  rintro rfl
  obtain ⟨hfree, hkind⟩ := hx
  rcases hy with hfixed | ⟨hstill, hother⟩
  · exact Bool.noConfusion (hfree.symm.trans hfixed)
  · rcases hkind with hmoving | henc
    · exact Bool.noConfusion (hstill.symm.trans hmoving)
    · exact hother henc

/-- What R369 may not touch stays in a full queue. -/
theorem PlacedFull.mem {q : Queue} {e : QEnt} {r : Placed} (h : PlacedFull q e r) {x : QEnt} (hx : x ∈ q.recs)
    (hkeep : x.fixed = true ∨ (isMoving x.bytes = false ∧ recType x.bytes ≠ 4)) : x ∈ r.q.recs := by
  cases h with
  | changed i y z at_i gives new eq =>
    subst eq
    exact mem_set_of_ne at_i hx (mayGive_ne gives hkeep) z
  | removed i y at_i moving free later eq =>
    subst eq
    exact List.mem_append_left _ (mem_eraseIdx_of_ne at_i hx (mayGive_ne ⟨free, .inl moving⟩ hkeep))
  | lost down eq =>
    subst eq
    rwa [(q.lose_spec down e.fc).1]

theorem PlacedFull.length {q : Queue} {e : QEnt} {r : Placed} (h : PlacedFull q e r) (hq : q.recs.length = 64) : r.q.recs.length = 64 := by
  cases h with
  | changed i x y at_i gives new eq =>
    subst eq
    simpa using hq
  | removed i x at_i moving free later eq =>
    subst eq
    obtain ⟨hlt, -⟩ := List.getElem?_eq_some_iff.mp at_i
    simp [List.length_eraseIdx, hq, hq ▸ hlt]
  | lost down eq =>
    subst eq
    rw [(q.lose_spec down e.fc).1, hq]

/-- A record is counted as lost exactly where nothing made room. -/
theorem PlacedFull.counts {q : Queue} {e : QEnt} {r : Placed} (h : PlacedFull q e r) :
    (r.lost = true → r.q.recs = q.recs ∧ r.q.losses = q.losses + 1) ∧ (r.lost = false → r.q.losses = q.losses ∧ r.qfull = false) ∧
      (r.qfull = true ↔ r.lost = true ∧ q.full = none) := by
  cases h with
  | changed i x y at_i gives new eq =>
    subst eq
    exact ⟨nofun, fun _ => ⟨rfl, rfl⟩, ⟨nofun, nofun⟩⟩
  | removed i x at_i moving free later eq =>
    subst eq
    exact ⟨nofun, fun _ => ⟨congrArg₂ (· + ·) (map_back_counts i q.full) (map_back_counts i q.late), rfl⟩, ⟨nofun, nofun⟩⟩
  | lost down eq =>
    subst eq
    obtain ⟨hrecs, hloss, hfirst⟩ := q.lose_spec down e.fc
    exact ⟨fun _ => ⟨hrecs, hloss⟩, nofun, by simpa using hfirst⟩

/-- A record that neither merges nor overwrites is lost, or takes the last place for a MOVE that a later record of its contact follows. -/
theorem PlacedFull.lost_or_last {q : Queue} {e : QEnt} {r : Placed} (h : PlacedFull q e r) (hstill : isMoving e.bytes = false)
    (hother : recType e.bytes ≠ 4) : r.lost = true ∨ (r.q.recs.getLast? = some e ∧
      ∃ i, ∃ x, q.recs[i]? = some x ∧ isMoving x.bytes = true ∧ x.fixed = false ∧ r.q.recs = q.recs.eraseIdx i ++ [e] ∧
        ∃ y ∈ q.recs.drop (i + 1), sameContact y.bytes x.bytes = true) := by
  cases h with
  | changed i x y at_i gives new eq =>
    rcases new with hmoving | henc
    · exact absurd hmoving (by simp [hstill])
    · exact absurd henc hother
  | removed i x at_i moving free later eq =>
    subst eq
    exact .inr ⟨by simp, i, x, at_i, moving, free, rfl, later⟩
  | lost down eq =>
    subst eq
    exact .inl rfl

end Queue

/-- Settles O53: a full queue gives up only what R369 lets it, and counts a loss where nothing gave. -/
theorem fullQueueKeepsWhatCounts : Obligations.FullQueueKeepsWhatCounts := by
  intro q e r
  refine ⟨fun hroom => if_pos hroom, fun hfull => ?_⟩
  have h : q.PlacedFull e r := q.placedFull_place e (by omega)
  obtain ⟨hlost, hkept, hqfull⟩ := h.counts
  exact ⟨h.length hfull, fun x hx hfixed => h.mem hx (.inl hfixed), fun x hx hstill hother => h.mem hx (.inr ⟨hstill, hother⟩),
    hlost, hkept, hqfull, h.lost_or_last⟩

end Sys2Proof.Machine

/-!
PROOFS. A write of a two-copy record (chapter 12, R374, R396, R397): what its rows leave beside the content it writes, and the renewal of a
tenant's reservation (chapter 11, R344).
-/
namespace Sys2Proof.Machine

namespace Core

/-- `c` with what a write of NVM may have changed on the way, as `d` has it. -/
def withRowsOf (c d : Core) : Core :=
  { c with
    nvm := { c.nvm with
      fieldMap := d.nvm.fieldMap, mapPending := d.nvm.mapPending, faultsSaved := d.nvm.faultsSaved, rows := d.nvm.rows
      sparesUsed := d.nvm.sparesUsed, copies := d.nvm.copies, older := d.nvm.older }
    qs := d.qs, host := { c.host with attnsrc := d.host.attnsrc }, free := d.free
    rep := { c.rep with extra := d.rep.extra, grade := d.rep.grade, sparesOut := d.rep.sparesOut, tele := d.rep.tele } }

theorem onlyNvm_withRowsOf (c d : Core) : OnlyNvm c (c.withRowsOf d) := rfl

/-- A successful write of a record other than the repair record leaves its content changed and, beside it, what its rows and those of the
repair record after it have changed. The content is one that the rows do not touch. -/
theorem write_done {c : Core} {r : RecId} {f : Core → Core} (hr : r ≠ .repair) (hf : ∀ a d, f (withRowsOf a d) = (f a).withRowsOf d)
    (h : (c.writeCopy r).2 = true) : ∃ d, OnlyNvm c d ∧ c.write r f = (f d, true) := by
  have hrows : (c.writeCopy r).1 = c.withRowsOf (c.writeCopy r).1 := c.writeCopy_only r
  have hnot : (r == .repair) = false := beq_false_of_ne hr
  have hwrite : c.write r f = ((f (c.writeCopy r).1).saveMap, true) := by simp [write, hnot, h]
  have hmap : (f (c.writeCopy r).1).saveMap = (f (c.writeCopy r).1).withRowsOf (f (c.writeCopy r).1).saveMap := saveMap_only _
  refine ⟨c.withRowsOf (f (c.writeCopy r).1).saveMap, c.onlyNvm_withRowsOf _, ?_⟩
  rw [hwrite, hmap, hrows, hf, hf]
  rfl

/-- A write that fails leaves what its rows have changed. -/
theorem write_not_done {c : Core} {r : RecId} (f : Core → Core) (h : (c.writeCopy r).2 = false) :
    ∃ d, OnlyNvm c d ∧ c.write r f = (d, false) := by
  have hsnd : (c.write r f).2 = false := h
  exact ⟨_, c.write_failed r f hsnd, Prod.ext rfl hsnd⟩

/-! The renewal of a reservation (R344). -/

section
variable {c : Core} {x : CmdCtx} {op : Byte} {f : BitVec 32} {p : List Byte} (hfresh : (c.tenantSt x.tenant).isFresh f = true)
  (hdue : (c.tenantRec x.tenant).s.toNat ≤ f.toNat + 256)
include hfresh hdue

/-- A fresh value within 256 of the reserved bound moves the bound first. -/
theorem freshThen_of_due :
    c.freshThen x op f p =
      let w := c.write .tenant (fun c => c.modTenantRec x.tenant (fun r => { r with s := f + 4096#32 }))
      if w.2 then (w.1.modTenantSt x.tenant (fun s => s.consume f)).command op x p else w.1.answer x op stNvmFail [] := by
  unfold freshThen
  simp only [hfresh, hdue, decide_true, Bool.not_true, Bool.false_eq_true, if_false, if_true]

theorem freshThen_of_inhibited (h : c.pw.nvmInhibit = true) : c.freshThen x op f p = c.answer x op stNvmFail [] := by
  have hbarred : c.nvmOk = false := by simp [nvmOk, h]
  rw [freshThen_of_due hfresh hdue, write_inhibited _ _ _ hbarred]
  rfl

theorem freshThen_of_due_cases : ∃ d, OnlyNvm c d ∧
    ((c.writeCopy .tenant).2 = true → c.freshThen x op f p =
      ((d.modTenantRec x.tenant (fun r => { r with s := f + 4096#32 })).modTenantSt x.tenant (fun s => s.consume f)).command op x p) ∧
    ((c.writeCopy .tenant).2 = false → c.freshThen x op f p = d.answer x op stNvmFail []) := by
  rw [freshThen_of_due hfresh hdue]
  cases hw : (c.writeCopy .tenant).2
  · obtain ⟨d, hd, heq⟩ := write_not_done (fun c => c.modTenantRec x.tenant (fun r => { r with s := f + 4096#32 })) hw
    exact ⟨d, hd, nofun, fun _ => by rw [heq]; rfl⟩
  · obtain ⟨d, hd, heq⟩ := write_done (c := c) (r := .tenant) (f := fun c => c.modTenantRec x.tenant (fun r => { r with s := f + 4096#32 }))
      (by decide) (fun _ _ => rfl) hw
    exact ⟨d, hd, fun _ => by rw [heq]; rfl, nofun⟩

end

end Core

/-- Above the bound a reset leaves, everything is fresh, and nothing up to it. -/
theorem TenantSt.isFresh_ofRec_iff (r : TenantRec) (f : BitVec 32) : (TenantSt.ofRec r).isFresh f = true ↔ r.s.toNat < f.toNat := by
  rw [isFresh_iff]
  refine or_iff_left ?_
  rintro ⟨hbelow, hwin, hfree⟩
  have hbit : (TenantSt.ofRec r).isMarked f = decide (r.s.toNat - 1 - f.toNat < 32) := by
    show (BitVec.allOnes 32).getLsbD _ = _
    rw [BitVec.getLsbD_allOnes]
    rfl
  have hlt : r.s.toNat - 1 - f.toNat < 32 := by
    have : r.s.toNat < f.toNat + 32 := hwin
    omega
  rw [hbit, decide_eq_true hlt] at hfree
  cases hfree

/-- A reset takes every tenant's SRAM side from its record (R344). -/
theorem resetLeft_tenantSt (c : Core) (pw : Power) (ret : Retention) {t : Tenant} (h : c.nvm.tenants.length = 16) :
    (resetLeft c pw ret).tenantSt t = TenantSt.ofRec (c.tenantRec t) := by
  have ht : t.val < c.nvm.tenants.length := by omega
  simp [resetLeft, Core.tenantSt, Core.tenantRec, ht]

/-- Settles O50: the reservation is written before the command, whose failure leaves H and the marks; a reset starts from the bound. -/
theorem reservationGoesFirst : Obligations.ReservationGoesFirst := by
  refine ⟨fun c x op f p hfresh hdue => ⟨Core.freshThen_of_inhibited hfresh hdue, Core.freshThen_of_due_cases hfresh hdue⟩,
    TenantSt.isFresh_ofRec_iff, fun s t ha hlen => ?_⟩
  obtain ⟨-, hreset⟩ := hostctlResetsOnItsKeyOnly s 0xC3A5#16 ha
  rw [if_pos rfl] at hreset
  exact hreset.leaves ⟨rfl, resetLeft_tenantSt _ _ _ hlen⟩

end Sys2Proof.Machine

/-!
PROOFS. Moves between power states (chapter 02): what an entry to Run, a decision to enter Doze and a write of PWRCTL leave unchanged.
-/
namespace Sys2Proof.Machine

/-- `d` is `c` but for what a move between power states may change: the power part, the frames and the contacts that stop or start, keys and
their records, conversions, and what goes out on the ports (R50 to R58, R191, R212). -/
def OnlyMoves (c d : Core) : Prop :=
  d = { c with
    pw := d.pw, host := { c.host with attnsrc := d.host.attnsrc }, sar := d.sar, keys := d.keys, lnk := d.lnk, hg := d.hg, acq := d.acq
    node := d.node, trk := d.trk, qs := d.qs, rep := { c.rep with tele := d.rep.tele } }

namespace OnlyMoves

theorem refl (c : Core) : OnlyMoves c c := rfl

theorem trans {a b c : Core} (h : OnlyMoves a b) (k : OnlyMoves b c) : OnlyMoves a c := by
  unfold OnlyMoves at *
  rw [k, h]

theorem of_records {a b : Core} (h : OnlyRecords a b) : OnlyMoves a b := by
  unfold OnlyMoves OnlyRecords at *
  rw [h]

theorem of_txq {a b : Core} (h : OnlyTxq a b) : OnlyMoves a b := by
  unfold OnlyMoves
  rw [h.1]

theorem host {a b : Core} (h : OnlyMoves a b) : b.host = { a.host with attnsrc := b.host.attnsrc } := congrArg Core.host h

theorem host_firstWrite {a b : Core} (h : OnlyMoves a b) : b.host.firstWrite = a.host.firstWrite := by rw [h.host]

end OnlyMoves

namespace Core

/-! An urgent request and new user-sequence settings change the converter alone (R197, R333). -/

theorem urgent_eq (c : Core) (who : Requester) (chan count tag : Nat) :
    c.urgent who chan count tag = { c with sar := (c.urgent who chan count tag).sar } := by
  unfold urgent
  dsimp only
  split
  · rfl
  · split <;> rfl

theorem setPhase_moves (c : Core) (p : Phase) : OnlyMoves c (c.setPhase p) :=
  OnlyMoves.trans (b := { c with pw := { c.pw with phase := p } }) rfl (.of_records (attnIf_only _ _ _))

theorem urgent_moves (c : Core) (who : Requester) (chan count tag : Nat) : OnlyMoves c (c.urgent who chan count tag) := by
  rw [OnlyMoves, urgent_eq]

theorem modPw_moves (c : Core) (f : Power → Power) : OnlyMoves c (c.modPw f) := rfl

theorem enterRun_moves (c : Core) : OnlyMoves c c.enterRun := by
  unfold enterRun
  refine OnlyMoves.trans ?_ (urgent_moves _ _ _ _ _)
  exact (c.setPhase_moves .run).trans rfl

theorem goAwake_moves (c : Core) (p : Phase) : OnlyMoves c (c.goAwake p) := by
  unfold goAwake
  split
  · exact c.setPhase_moves _
  · split
    · split
      · exact .refl c
      · exact c.enterRun_moves
    · split
      · exact .refl c
      · exact c.setPhase_moves _

theorem endContacts_moves (c : Core) : OnlyMoves c c.endContacts :=
  (OnlyMoves.of_records (c.placeOut_only _)).trans rfl

theorem placeKeyRecs_moves (c : Core) : OnlyMoves c c.placeKeyRecs :=
  OnlyMoves.trans (b := { c with keys := { c.keys with recs := [] } }) rfl (.of_records (foldl_only _ (fun c (_ : PendRec) => c.placeAll_only _ _) _ _))

theorem leaveFrames_moves (c : Core) : OnlyMoves c c.leaveFrames :=
  (c.endContacts_moves.trans (placeKeyRecs_moves _)).trans rfl

theorem keyRecord_moves (c : Core) (event : Nat) (l : Ladder) (k : Key) (forced : Bool) (mask hold : Nat) :
    OnlyMoves c (c.keyRecord event l k forced mask hold) := by
  unfold keyRecord
  dsimp only
  split
  · split
    · exact .of_records (c.placeAll_only _ _)
    · rfl
  · exact .refl c
  · exact .of_records (c.placeAll_only _ _)

/-- A fold of moves is one. -/
theorem foldl_moves {α : Type} (f : Core → α → Core) (hf : ∀ c a, OnlyMoves c (f c a)) (l : List α) (c : Core) : OnlyMoves c (l.foldl f c) :=
  foldl_keeps OnlyMoves OnlyMoves.refl (fun _ _ _ => OnlyMoves.trans) f hf l c

theorem forceRelease_moves (c : Core) : OnlyMoves c c.forceRelease := by
  unfold forceRelease
  refine OnlyMoves.trans (foldl_moves _ (fun c lk => ?_) _ c) rfl
  refine OnlyMoves.trans ?_ (keyRecord_moves _ _ _ _ _ _ _)
  rfl

/-- DOZE on every LIVE port (R274). -/
def dozeAll (c : Core) (b : Byte) : Core := ports.foldl (fun c p => c.when (c.helloPort p) (fun c => c.sendFrame p (.doze b))) c

theorem dozeAll_only (c : Core) (b : Byte) : OnlyTxq c (c.dozeAll b) :=
  foldl_onlyTxq _ (fun c _ => when_keeps OnlyTxq OnlyTxq.refl c _ _ (c.sendFrame_only _ _)) _ c

/-- A decision to enter Doze or Watch, the frames stopped and the keys released before it (Table POWER-4). -/
theorem decideEntry_eq (c : Core) (target : Phase) (byReq : Bool) :
    c.decideEntry target byReq =
      (((if byReq then (if c.pw.phase == .run then c.leaveFrames else c).forceRelease else (if c.pw.phase == .run then c.leaveFrames else c)).modPw
        (fun p => { p with entry := some { target := target, byReq := byReq }, retry := none, req := 0#4, idleDue := false })).dozeAll
          (BitVec.ofNat 8 target.code.toNat)) := rfl

theorem decideEntry_moves (c : Core) (target : Phase) (byReq : Bool) : OnlyMoves c (c.decideEntry target byReq) := by
  have hstop : OnlyMoves c (if c.pw.phase == .run then c.leaveFrames else c) := by
    split
    · exact c.leaveFrames_moves
    · exact .refl c
  rw [decideEntry_eq]
  refine OnlyMoves.trans ?_ (.of_txq (dozeAll_only _ _))
  refine OnlyMoves.trans ?_ (modPw_moves _ _)
  split
  · exact hstop.trans (forceRelease_moves _)
  · exact hstop

theorem actReq_moves (c : Core) (code : BitVec 4) : OnlyMoves c (c.actReq code) := by
  have hstart : OnlyMoves c (c.abortEntry.modPw (fun p => { p with req := 0#4, idleDue := false })) := rfl
  unfold actReq
  dsimp only
  split
  · split
    · exact hstart.trans (decideEntry_moves _ _ _)
    · exact hstart
  · split
    · exact (hstart.trans (modPw_moves _ _)).trans (goAwake_moves _ _)
    · split
      · exact hstart.trans (modPw_moves _ _)
      · exact (hstart.trans (modPw_moves _ _)).trans (decideEntry_moves _ _ _)
  · split
    · exact hstart
    · exact hstart.trans (modPw_moves _ _)
  · exact hstart

theorem actFloor_moves (c : Core) : OnlyMoves c c.actFloor := by
  have hstart : OnlyMoves c c.abortEntry := rfl
  unfold actFloor
  dsimp only
  split
  · exact .refl c
  · split
    · split
      · exact hstart.trans (goAwake_moves _ _)
      · exact hstart
    · split
      · exact c.goAwake_moves _
      · exact .refl c

theorem writePwrctl_moves (c : Core) (req floor : BitVec 4) : OnlyMoves c (c.writePwrctl req floor) := by
  unfold writePwrctl
  dsimp only
  split
  · exact (modPw_moves c _).trans (actFloor_moves _)
  · exact (modPw_moves c _).trans (actReq_moves _ _)

end Core

/-!
PROOFS. The first accepted write (chapters 02 and 09, R74, R316, R317): which registers' writes leave the mark of it, and what ATTN# follows.
-/

namespace Core

theorem userRun_host (c : Core) : c.userRun.host = c.host := by
  unfold userRun
  split
  · rfl
  · split <;> rfl

theorem closeUser_host_firstWrite (c : Core) : c.closeUser.host.firstWrite = c.host.firstWrite := attn_host_firstWrite _ _

theorem writeUseqctl_host_firstWrite (c : Core) (w : Word) : (c.writeUseqctl w).host.firstWrite = c.host.firstWrite := by
  unfold writeUseqctl
  dsimp only
  split
  · exact attn_host_firstWrite _ _
  · cases w.getLsbD 11 <;> cases w.getLsbD 6 && _ <;> simp [userRun_host, closeUser_host_firstWrite, setUseq]

/-- A write leaves the mark of the first accepted write as it was, but for PKTIN's and the reset of HOSTCTL. -/
theorem writeReg_host_firstWrite (c : Core) (a : Nat) (w : Word) (hreset : ¬ (a = 0x07 ∧ w = 0xC3A5#16)) (hpktin : a ≠ 0x08) :
    (c.writeReg a w).host.firstWrite = c.host.firstWrite := by
  unfold writeReg
  split
  case h_4 =>
    dsimp only
    split
    · exact (c.writePwrctl_moves _ _).host_firstWrite
    · exact attn_host_firstWrite _ _
  case h_5 => rw [if_neg (by simpa using hreset)]
  case h_6 => exact absurd rfl hpktin
  case h_11 => exact c.writeUseqctl_host_firstWrite w
  case h_7 | h_13 | h_14 | h_15 | h_16 | h_18 =>
    split
    · rfl
    · exact attn_host_firstWrite _ _
  case h_17 =>
    split
    · rw [urgent_eq]
    · exact attn_host_firstWrite _ _
  all_goals rfl

theorem writeReg_pktin (c : Core) (w : Word) : c.writeReg 0x08 w = c.pktinWord w := rfl

/-! ATTN# (R74, R316, R317). -/

/-- Before the first accepted write only WOKE counts. -/
theorem and_one_ne_zero_iff (x : Word) : x &&& 0x0001#16 ≠ 0#16 ↔ x.getLsbD 0 = true := by
  have hone : (0x0001#16 : Word) = BitVec.twoPow 16 0 := by decide
  rw [hone, BitVec.and_twoPow]
  cases x.getLsbD 0 <;> decide

theorem attnLow_iff (c : Core) : c.attnLow = true ↔
    c.pw.ready = true ∧ (c.attnView &&& c.host.attnen) &&& (if c.host.firstWrite then 0xFFFF#16 else 0x0001#16) ≠ 0#16 := by
  rw [attnLow, Bool.and_eq_true, bne_iff_ne]

theorem attnLow_iff_of_not_firstWrite {c : Core} (hready : c.pw.ready = true) (hfirst : c.host.firstWrite = false) :
    c.attnLow = true ↔ c.attnView.getLsbD 0 = true ∧ c.host.attnen.getLsbD 0 = true := by
  simp only [attnLow_iff, hready, hfirst, Bool.false_eq_true, if_false, true_and, and_one_ne_zero_iff, BitVec.getLsbD_and, Bool.and_eq_true]

theorem attnLow_iff_of_firstWrite {c : Core} (hready : c.pw.ready = true) (hfirst : c.host.firstWrite = true) :
    c.attnLow = true ↔ c.attnView &&& c.host.attnen ≠ 0#16 := by
  have hall : ∀ x : Word, x &&& 0xFFFF#16 = x := fun _ => BitVec.and_allOnes
  simp only [attnLow_iff, hready, hfirst, if_true, true_and, hall]

/-- The two level bits are not WOKE's. -/
theorem latch_attnsrc_woke (c : Core) : c.latch.host.attnsrc.getLsbD 0 = c.host.attnsrc.getLsbD 0 := by
  have hbit (d : Core) (b : Bool) (n : Nat) (hn : n = 1 ∨ n = 2) : (d.attnIf b n).host.attnsrc.getLsbD 0 = d.host.attnsrc.getLsbD 0 := by
    cases b
    · rfl
    · show (d.attn n).host.attnsrc.getLsbD 0 = _
      unfold attn
      split
      · rcases hn with rfl | rfl <;> simp [bitMask]
      · rfl
  rw [latch, hbit _ _ 2 (.inr rfl), hbit _ _ 1 (.inl rfl)]

end Core

/-- Settles O48: only a reset unmakes the first accepted write, and no level bit is WOKE's. -/
theorem firstWriteReleasesAttention : Obligations.FirstWriteReleasesAttention := by
  refine ⟨fun c hready hfirst => Core.attnLow_iff_of_not_firstWrite hready hfirst,
    fun c hready hfirst => Core.attnLow_iff_of_firstWrite hready hfirst, fun c hready => ?_,
    fun s i a w hi ha hreset hpktin => ?_, fun s i w hi ha => ⟨Core.writeReg_pktin _ w ▸ gives_writeReg hi ha, rfl⟩, fun s w ha hw => ?_⟩
  · simp [Core.attnLow, hready]
  · exact (gives_writeReg hi ha).leaves (Core.writeReg_host_firstWrite _ a w hreset hpktin)
  · have hcleared : ((wrote s.core).writeReg 0x02 w).host.attnsrc.getLsbD 0 = false := by
      show ((wrote s.core).host.attnsrc &&& ~~~w).getLsbD 0 = false
      simp [hw]
    exact (gives_writeReg (i := .attnsrcWrite w) rfl ha).leaves ⟨hcleared, by rw [Core.latch_attnsrc_woke, hcleared]⟩

end Sys2Proof.Machine

/-!
PROOFS. The host port's transactions (chapter 09, R303 to R307, R318, Table HOST-7): how a transaction opens and ends, what a flag of HOSTSTAT
brings with it, and what a read word with a side effect does.
-/
namespace Sys2Proof.Machine

theorem bitMask_getLsbD (n i : Nat) (hi : i < 16) : (bitMask n).getLsbD i = decide (n = i) := by
  simp [bitMask, ← BitVec.twoPow_eq, hi, eq_comm]

/-- A flag stands in a word where the word and its mask have a bit in common. -/
theorem and_bitMask_ne_zero_iff (x : Word) {n : Nat} (hn : n < 16) : x &&& bitMask n ≠ 0#16 ↔ x.getLsbD n = true := by
  have hmask : bitMask n = BitVec.twoPow 16 n := (BitVec.twoPow_eq 16 n).symm
  rw [hmask, BitVec.and_twoPow]
  cases x.getLsbD n
  · simp
  · have hset : (BitVec.twoPow 16 n).getLsbD n = true := by simp [hn]
    simp only [if_true, ne_eq, iff_true]
    intro hzero
    simp [hzero] at hset

namespace Core

/-- A sticky flag other than LOSTWAKE: it is set, and where it was not before, HOSTERR with it (R308, Table REGS-2). -/
theorem hostFlag_eq (c : Core) (n : Nat) (hn : n ≠ 7) (hready : c.pw.ready = true) :
    c.hostFlag n = { c with host := { c.host with
      flags := c.host.flags ||| bitMask n
      attnsrc := if c.host.flags.getLsbD n = true then c.host.attnsrc else c.host.attnsrc ||| 0x0008#16 } } := by
  have hmask : bitMask 3 = 0x0008#16 := by decide
  unfold hostFlag
  rw [if_pos hready]
  cases hset : c.host.flags.getLsbD n
  · simp [hn, attn, hready, hmask]
  · simp

/-! Transactions. -/

/-- The transaction that a fall of CS# opens (R303, R304). -/
def opened (c : Core) (highTicks : Nat) (header : Word) : Txn :=
  { captured := c.hoststat, header := header, words := 0, served := decide (40 ≤ highTicks), ready := c.pw.ready, inSkip := false
    outDone := false }

theorem txnStart_of_awake {c : Core} (hawake : c.pw.phase.isAwake = true) (htxn : c.host.txn = none) (hheld : c.host.csHeld = false)
    (hentry : c.pw.entry = none) (n : Nat) (h : Word) :
    c.txnStart n h =
      let d := c.modHost (fun x => { x with txn := some (c.opened n h), miso := c.hoststat })
      if 40 ≤ n then d else d.hostFlag 4 := by
  simp [txnStart, hawake, htxn, hheld, hentry, opened]

/-- The flag of HOSTSTAT that `n` counted edges of a transaction of `w` edges call for: FRAME, OVERCLK, SHORT or none (R318, Table HOST-7). -/
def edgesFlag (w n : Nat) : Option Nat :=
  if n = 0 then none else if n < 16 then some 4 else if w < n then some 5 else if n % 16 ≠ 0 then some 4 else if n < w then some 6 else none

theorem edgesFlag_lt {w n k : Nat} (h : edgesFlag w n = some k) : k < 7 := by
  unfold edgesFlag at h
  split_ifs at h <;> simp_all <;> omega

theorem edgesFlag_eq_frame (w n : Nat) :
    decide (edgesFlag w n = some 4) = (decide (0 < n) && (decide (n < 16) || (decide (n ≤ w) && decide (n % 16 ≠ 0)))) := by
  unfold edgesFlag
  split_ifs <;> simp <;> omega

theorem edgesFlag_mask (w n : Nat) : (edgesFlag w n).elim 0#16 bitMask =
    if n = 0 then 0#16 else if (decide (0 < n) && (decide (n < 16) || (decide (n ≤ w) && decide (n % 16 ≠ 0)))) = true then 0x0010#16
      else if w < n then 0x0020#16 else if n < w then 0x0040#16 else 0#16 := by
  rw [← edgesFlag_eq_frame]
  unfold edgesFlag
  split_ifs <;> simp_all [bitMask]

/-- FRAME discards the packet being assembled; every flag closes the transaction first. -/
theorem txnEnd_of_served {c : Core} {t : Txn} (htxn : c.host.txn = some t) (hserved : t.served = true) (hready : t.ready = true) (n : Nat) :
    c.txnEnd n =
      let flag := edgesFlag (16 * (hdrCount t.header + 1)) n
      let closed := c.modHost (fun h =>
        { h with txn := none, csHeld := false, pktin := if decide (flag = some 4) then [] else h.pktin })
      flag.elim closed closed.hostFlag := by
  unfold edgesFlag
  split_ifs <;> simp [*, txnEnd, dropPktin, modHost]

theorem txnOver_of_served {c : Core} {t : Txn} (htxn : c.host.txn = some t) (hserved : t.served = true) (hready : t.ready = true)
    (hover : hdrRead t.header = true ∨ hdrCount t.header ≤ t.words) :
    c.txnOver = ({ c with host := { c.host with txn := some { t with words := hdrCount t.header }, miso := 0#16 } }).hostFlag 5 := by
  have hacts : (t.served && (hdrRead t.header || decide (hdrCount t.header ≤ t.words))) = true := by simpa [hserved] using hover
  simp [txnOver, htxn, when, hacts, hready, modTxn, modHost]

/-- A transaction closed with a flag: the flag sets HOSTERR unless it stood already. -/
theorem closed_hostFlag (c : Core) (hready : c.pw.ready = true) {k : Nat} (hk : k < 7) (p : List Byte) :
    let d := (c.modHost (fun h => { h with txn := none, csHeld := false, pktin := p })).hostFlag k
    d = { c with host := { c.host with
      txn := none, csHeld := false, pktin := p, flags := c.host.flags ||| bitMask k, attnsrc := d.host.attnsrc } } ∧
    d.host.attnsrc = (if bitMask k = 0#16 ∨ c.host.flags &&& bitMask k ≠ 0#16 then c.host.attnsrc else c.host.attnsrc ||| 0x0008#16) := by
  have hmask : bitMask k ≠ 0#16 := by
    have hbit := bitMask_getLsbD k k (by omega)
    intro hzero
    simp [hzero] at hbit
  intro d
  have hd : d = _ := hostFlag_eq _ k (by omega) (by exact hready)
  rw [hd]
  refine ⟨rfl, ?_⟩
  simp only [hmask, false_or, and_bitMask_ne_zero_iff _ (show k < 16 by omega)]
  rfl

end Core

theorem Gives.congr {i : Instr} {s : State} {c d : Core} (h : Gives i s c) (e : c = d) : Gives i s d := e ▸ h

theorem gives_transactionStart (n : Nat) (h : Word) (s : State) : Gives (.transactionStart n h) s (s.core.txnStart n h) := rfl

theorem gives_transactionEnd (n : Nat) (s : State) : Gives (.transactionEnd n) s (s.core.txnEnd n) := rfl

theorem gives_overclk (s : State) : Gives .overclk s s.core.txnOver := rfl

/-- Settles O28: the port's state and the counted edges tell the branch of Table HOST-7. -/
theorem transactionsComplete : Obligations.TransactionsComplete := by
  refine ⟨fun s n h hawake htxn hheld hentry hn => (gives_transactionStart n h s).congr ?_,
    fun s n h hawake htxn hheld hentry hready hn => (gives_transactionStart n h s).leaves ?_,
    fun s t n htxn hserved hready hnow => (gives_transactionEnd n s).leaves ?_,
    fun s htxn => (gives_transactionEnd 0 s).congr ?_, fun s t htxn hserved hready hover hnow => (gives_overclk s).leaves ?_⟩
  · rw [Core.txnStart_of_awake hawake htxn hheld hentry]
    simp [Core.opened, hn, Core.modHost]
  · rw [Core.txnStart_of_awake hawake htxn hheld hentry]
    dsimp only
    rw [if_neg (by omega), Core.hostFlag_eq _ 4 (by decide) (by exact hready)]
    exact ⟨rfl, _, rfl, decide_eq_false (by omega), rfl⟩
  · rw [Core.txnEnd_of_served htxn hserved hready]
    dsimp only
    rw [← Core.edgesFlag_mask, ← Core.edgesFlag_eq_frame]
    cases hflag : Core.edgesFlag (16 * (hdrCount t.header + 1)) n with
    | none => exact ⟨by simp [Core.modHost], by simp⟩
    | some k => exact Core.closed_hostFlag s.core hnow (Core.edgesFlag_lt hflag) _
  · simp [Core.txnEnd, htxn, Core.modHost]
  · rw [Core.txnOver_of_served htxn hserved hready hover, Core.hostFlag_eq _ 5 (by decide) (by exact hnow)]
    rfl

end Sys2Proof.Machine

/-!
PROOFS. Register writes (chapters 02, 06, 07 and 10, R52, R53, R196, R197, R245, R305, R308, R326, R328 to R333): what each register makes of
its word.
-/
namespace Sys2Proof.Machine

namespace Core

/-- An address without a register to write, or with a read-only one (Table REGS-1). -/
theorem writeReg_of_not_mem (c : Core) {a : Nat} (w : Word) (h : a ∉ [0x01, 0x02, 0x03, 0x04, 0x07, 0x08, 0x16, 0x17, 0x19, 0x1D, 0x1E,
    0x1F, 0x20, 0x21, 0x22, 0x23, 0x24, 0x25, 0x3E, 0x3F]) : c.writeReg a w = c := by
  unfold writeReg
  split
  case h_21 => rfl
  all_goals exact absurd h (by decide)

section

variable (c : Core) (w : Word)

theorem writeReg_hoststat : c.writeReg 0x01 w = { c with host := { c.host with flags := c.host.flags &&& ~~~(w &&& 0x03F0#16) } } := rfl

theorem writeReg_attnsrc : c.writeReg 0x02 w = { c with host := { c.host with attnsrc := c.host.attnsrc &&& ~~~w } } := rfl

theorem writeReg_attnen : c.writeReg 0x03 w = { c with host := { c.host with attnen := w &&& 0x7FFF#16 } } := rfl

theorem writeReg_scratch0 : c.writeReg 0x3E w = { c with host := { c.host with scratch0 := w } } := rfl

theorem writeReg_scratch1 : c.writeReg 0x3F w = { c with host := { c.host with scratch1 := w } } := rfl

end

/-! PWRCTL (R52, R53, R329). -/

/-- The fields of a word that PWRCTL allows reach the power controller. -/
theorem writeReg_pwrctl_of_allowed (c : Core) {w : Word} (hreq : w.toNat % 16 = 0 ∨ 2 ≤ w.toNat % 16 ∧ w.toNat % 16 ≤ 5)
    (hlow : 2 ≤ w.toNat / 16 % 16) (hhigh : w.toNat / 16 % 16 ≤ 5) :
    c.writeReg 0x04 w = c.writePwrctl (BitVec.ofNat 4 (w.toNat % 16)) (BitVec.ofNat 4 (w.toNat / 16 % 16)) := by
  rw [writeReg_pwrctl, if_pos]
  simpa [hlow, hhigh] using hreq

/-- REQ = 0 only sets FLOOR where no entry is decided and FLOOR calls for no move: in BARE, and in Run. -/
theorem writePwrctl_zero (c : Core) (h : c.pw.phase = .bare ∨ c.pw.phase = .run ∧ c.pw.entry = none) (floor : BitVec 4) :
    c.writePwrctl 0#4 floor = { c with pw := { c.pw with floor := floor, req := 0#4 } } := by
  rcases h with hbare | ⟨hrun, hentry⟩
  · simp [writePwrctl, actFloor, modPw, hbare]
  · simp [writePwrctl, actFloor, modPw, hrun, hentry]

/-- In Run a REQ of a lower state waits for the frame's end; an entry under way is given up (R52, R58). -/
theorem writePwrctl_run_lower (c : Core) (hrun : c.pw.phase = .run) {n : Nat} (hlow : 2 ≤ n) (hhigh : n ≤ 4) (floor : BitVec 4) :
    c.writePwrctl (BitVec.ofNat 4 n) floor = { c with pw := { c.pw with
      floor := floor, req := BitVec.ofNat 4 n, entry := none, retry := none, idleDue := false } } := by
  have hcases : n = 2 ∨ n = 3 ∨ n = 4 := by omega
  rcases hcases with rfl | rfl | rfl <;> simp [writePwrctl, actReq, abortEntry, modPw, hrun, Phase.ofCode]

end Core

theorem gives_registerWrite {a : BitVec 6} {w : Word} {s : State} (ha : writesAt s.core a.toNat) :
    Gives (.registerWrite a w) s ((wrote s.core).writeReg a.toNat w) :=
  gives_writeReg rfl ha

theorem gives_commitWrite_of_no_transaction {i : Instr} {a : Nat} {w : Word} (hi : hostWrite i = some (a, w)) {s : State}
    (htxn : s.core.host.txn = none) : Gives i s s.core := by
  have hnone : s.core.commitWrite a w = s.core := by simp [Core.commitWrite, htxn]
  unfold Gives
  rw [exec_of_hostWrite hi, onCore_eq, hnone]

/-- Settles O29: every row commits its word, and each register's own rule says what becomes of it. -/
theorem registerWritesComplete : Obligations.RegisterWritesComplete := by
  refine ⟨fun s w ha => (gives_registerWrite ha).congr (Core.writeReg_attnen _ w),
    fun s w ha => (gives_registerWrite ha).congr (Core.writeReg_scratch0 _ w),
    fun s w ha => (gives_registerWrite ha).congr (Core.writeReg_scratch1 _ w), fun s a w ha hno => ?_,
    fun s w ha => (gives_writeReg rfl ha).congr (Core.writeReg_hoststat _ w),
    fun s w ha => (gives_writeReg rfl ha).congr (Core.writeReg_attnsrc _ w), fun s w ha hout => ?_,
    fun s w ha hphase hreq hlow hhigh => ?_, fun s w ha hrun hreq2 hreq4 hlow hhigh => ?_, fun s ha => ?_, fun s w ha hkey => ?_,
    fun s a w htxn => gives_commitWrite_of_no_transaction rfl htxn⟩
  · exact (gives_registerWrite ha).congr (Core.writeReg_of_not_mem _ w hno)
  · have hrange : outOfRange 0x04 w = true := by simpa [outOfRange, or_assoc] using hout
    exact ⟨(gives_writeReg rfl ha).congr (Core.writeReg_of_outOfRange _ hrange), (gives_writeReg rfl ha).congr (Core.writeReg_of_outOfRange _ hrange)⟩
  · have hword := Core.writeReg_pwrctl_of_allowed (wrote s.core) (.inl hreq) hlow hhigh
    rw [hreq, Core.writePwrctl_zero (wrote s.core) hphase] at hword
    exact ⟨(gives_writeReg rfl ha).congr hword, (gives_writeReg rfl ha).congr hword⟩
  · have hword := Core.writeReg_pwrctl_of_allowed (wrote s.core) (.inr ⟨hreq2, by omega⟩) hlow hhigh
    rw [Core.writePwrctl_run_lower (wrote s.core) hrun hreq2 hreq4] at hword
    exact ⟨(gives_writeReg rfl ha).congr hword, (gives_writeReg rfl ha).congr hword⟩
  · exact (hostctlResetsOnItsKeyOnly s _ ha).2.congr (if_pos rfl)
  · exact (hostctlResetsOnItsKeyOnly s w ha).2.congr (if_neg hkey)

end Sys2Proof.Machine

/-!
PROOFS. Writes of the link and converter registers (chapters 06, 07 and 10, R196, R197, R245, R246, R326, R332 to R334).
-/
namespace Sys2Proof.Machine

namespace Sar

/-- New user-sequence settings while no run has begun (R333). -/
theorem setUseq_of_not_begun {s : Sar} (h : s.userBegun = false) (u : UseqCfg) :
    s.setUseq u = { s with useqReg := u, useq := u, userNext := if u.len = 0 then none else s.userNext } := by
  simp [setUseq, h]

theorem setUseq_of_begun {s : Sar} (h : s.userBegun = true) (u : UseqCfg) : s.setUseq u = { s with useqReg := u } := by
  simp [setUseq, h]

end Sar

namespace Core

section

variable (c : Core) (w : Word)

theorem writeReg_linkctl : c.writeReg 0x17 w = { c with lnk := modifyAt c.lnk c.host.linksel.val (fun l =>
    ((if w.getLsbD 3 then l.flush else l).writeOp (BitVec.ofNat 2 w.toNat)).writeTxbrk (w.getLsbD 2)) } := rfl

theorem writeReg_linkdata : c.writeReg 0x19 w = c.modPort c.host.linksel (fun l => l.writeData (BitVec.ofNat 8 w.toNat)) := rfl

theorem writeReg_useqper : c.writeReg 0x1F w = c.setUseq { c.sar.useqReg with period := w.toNat } := rfl

end

theorem setUseq_of_not_begun (c : Core) (h : c.sar.userBegun = false) (u : UseqCfg) : c.setUseq u =
    { c with sar := { c.sar with useqReg := u, useq := u, userNext := if u.len = 0 then none else c.sar.userNext } } := by
  rw [setUseq, modSar, Sar.setUseq_of_not_begun h]

theorem setUseq_of_begun (c : Core) (h : c.sar.userBegun = true) (u : UseqCfg) :
    c.setUseq u = { c with sar := { c.sar with useqReg := u } } := by
  rw [setUseq, modSar, Sar.setUseq_of_begun h]

/-- A port whose change leaves it as it is. -/
theorem modPort_of_fixed {c : Core} {p : Port} {f : LinkPort → LinkPort} (h : f (c.port p) = c.port p) : c.modPort p f = c := by
  have hlist : modifyAt c.lnk p.val f = c.lnk := by
    unfold modifyAt
    cases hat : c.lnk[p.val]? with
    | none => rfl
    | some l =>
      have hl : c.port p = l := by simp [port, hat]
      rw [hl] at h
      dsimp only
      rw [h]
      obtain ⟨hlt, heq⟩ := List.getElem?_eq_some_iff.mp hat
      rw [← heq, List.set_getElem_self]
  rw [modPort, hlist]

/-- USEQCTL takes a word in range: its settings, then CLOSE, then START (R196, R333). -/
theorem writeReg_useqctl_of_inRange (c : Core) {w : Word} (hlen : w.toNat % 32 ≤ 16) (hacc : w.toNat / 128 % 16 ≤ 12) :
    c.writeReg 0x1E w =
      ((c.setUseq { c.sar.useqReg with len := w.toNat % 32, abort := w.getLsbD 5, accLog := w.toNat / 128 % 16 }).when
        (w.getLsbD 11) closeUser).when (w.getLsbD 6 && (((c.setUseq { c.sar.useqReg with
          len := w.toNat % 32, abort := w.getLsbD 5, accLog := w.toNat / 128 % 16 }).when (w.getLsbD 11) closeUser).sar.useqReg.period == 0))
        userRun := by
  have hin : (decide (16 < w.toNat % 32) || decide (12 < w.toNat / 128 % 16)) = false := by simpa using And.intro hlen hacc
  rw [writeReg_useqctl, writeUseqctl]
  simp only [hin, Bool.false_eq_true, if_false]

/-- A user run that is due begins its first entry at once where the converter is idle (R194, R196). -/
theorem userRun_of_idle (c : Core) (hlen : c.sar.useq.len ≠ 0) (hnext : c.sar.userNext = none) (hcur : c.sar.cur = none)
    (hurg : c.sar.urgent = []) (hsys : c.sar.sysQ = []) :
    c.userRun = { c with sar := { c.sar with userNext := some 0, userBegun := true, cur := some (.user 0 c.pw.refrdy) } } := by
  simp [userRun, hlen, hnext, sarStart, modSar, Sar.start, hcur, hurg, hsys]

/-- A host request on a full queue only sets URG_FULL (R197). -/
theorem urgent_host_of_full (c : Core) (hfull : 4 ≤ c.sar.urgent.length) (chan count : Nat) :
    c.urgent .host chan count = { c with sar := { c.sar with urgFull := true } } := by
  have hplace : c.sar.hasPlace = false := by simpa [Sar.hasPlace] using hfull
  simp [urgent, hplace, modSar]

/-- An urgent request starts at once where the converter is idle and the reference is ready (R194, R197). -/
theorem urgent_of_idle (c : Core) (hurg : c.sar.urgent = []) (hcur : c.sar.cur = none) (href : c.pw.refrdy = true) (who : Requester)
    (chan count : Nat) :
    c.urgent who chan count = { c with sar := { c.sar with
      cur := some .urgent
      urgent := [{ who := who, chan := chan, count := count, left := count, win := Tracker.code, tag := 0 }] } } := by
  simp [urgent, Sar.hasPlace, Sar.insert, Sar.abort, Sar.start, sarStart, modSar, hurg, hcur, href]

end Core

theorem gives_useqSettingsWrite {a : BitVec 6} {n : Nat} {w : Word} {s : State} (han : a.toNat = n) (hrange : 0x1E ≤ n ∧ n ≤ 0x23)
    (ha : writesAt s.core n) : Gives (.useqSettingsWrite a w) s ((wrote s.core).writeReg n w) := by
  subst han
  exact gives_writeReg (if_pos hrange) ha

/-- Settles O32: each word commits to its register, and the settings in force follow R333. -/
theorem linkAndConverterWritesComplete : Obligations.LinkAndConverterWritesComplete := by
  refine ⟨fun s w ha hraw hroom => (gives_writeReg rfl ha).leaves ?_, fun s w ha hraw => (gives_writeReg rfl ha).congr ?_,
    fun s w p ha hport => (gives_writeReg rfl ha).congr ?_, fun s w ha hport => (gives_writeReg rfl ha).congr ?_,
    fun s w ha => ⟨?_, ?_, ?_⟩, fun s w ha hbegun => (gives_useqSettingsWrite rfl (by decide) ha).congr ?_,
    fun s k w ha hin hbegun => (gives_useqSettingsWrite ?_ ?_ ha).congr ?_, fun s k w ha hout => (gives_useqSettingsWrite ?_ ?_ ha).congr ?_,
    fun s w ha hlen hlen1 hacc hclose hstart hper hnext hbegun hcur hurg hsys => (gives_writeReg rfl ha).congr ?_,
    fun s w ha hlen hacc hclose hstart hnext hbegun => (gives_writeReg rfl ha).congr ?_,
    fun s w ha hchan hfull => (gives_writeReg rfl ha).congr ?_,
    fun s w ha hchan hurg hcur href => (gives_writeReg rfl ha).congr ?_, fun s w ha hchan => (gives_writeReg rfl ha).congr ?_⟩
  · refine ⟨rfl, fun hport => ?_⟩
    have hput : (s.core.port s.core.host.linksel).writeData (BitVec.ofNat 8 w.toNat) = { s.core.port s.core.host.linksel with
        txFifo := (s.core.port s.core.host.linksel).txFifo ++ [BitVec.ofNat 8 w.toNat] } := by
      rw [LinkPort.writeData, if_pos hraw, LinkPort.putTx, if_pos hroom]
    rw [Core.writeReg_linkdata, Core.modPort_port, if_pos ⟨rfl, hport⟩]
    exact hput
  · rw [Core.writeReg_linkdata]
    exact Core.modPort_of_fixed (if_neg (by rw [Bool.not_eq_true]; exact hraw))
  · have hsel : Fin.ofNat 6 p.val = p := Fin.ofNat_val_eq_self p
    rw [Core.writeReg_linksel, hport, if_pos (by omega), hsel]
    rfl
  · rw [Core.writeReg_linksel, if_neg (by omega)]
  · exact (gives_writeReg rfl ha).congr (Core.writeReg_linkctl _ w)
  · exact (gives_writeReg rfl ha).congr (Core.writeReg_linkctl _ w)
  · exact (gives_writeReg rfl ha).congr (Core.writeReg_linkctl _ w)
  · exact (Core.writeReg_useqper _ w).trans (Core.setUseq_of_not_begun (wrote s.core) hbegun _)
  · rw [BitVec.toNat_ofNat]
    omega
  · omega
  · have hall : (nibbles w).all (fun e => decide (e ≤ 13)) = true := by simpa using hin
    rw [Core.writeReg_useq, if_pos hall]
    exact Core.setUseq_of_begun (wrote s.core) hbegun _
  · rw [BitVec.toNat_ofNat]
    omega
  · omega
  · have hany : ¬ (nibbles w).all (fun e => decide (e ≤ 13)) = true := by simpa using hout
    rw [Core.writeReg_useq, if_neg hany]
  · rw [Core.writeReg_useqctl_of_inRange _ hlen hacc, hclose, hstart, Core.when_false, Core.setUseq_of_not_begun (wrote s.core) hbegun]
    have hlen0 : w.toNat % 32 ≠ 0 := by omega
    have hnow : (s.core.sar.useqReg.period == 0) = true := beq_iff_eq.mpr hper
    have hkeep : (if w.toNat % 32 = 0 then none else s.core.sar.userNext) = none := by rw [if_neg hlen0, hnext]
    show Core.when _ (true && (s.core.sar.useqReg.period == 0)) _ = _
    rw [hnow, Bool.and_self, Core.when_true]
    exact Core.userRun_of_idle _ hlen0 hkeep hcur hurg hsys
  · rw [Core.writeReg_useqctl_of_inRange _ hlen hacc, hclose, hstart, Core.when_true, Core.setUseq_of_not_begun (wrote s.core) hbegun, Bool.false_and, Core.when_false]
    have hkeep : (if w.toNat % 32 = 0 then none else s.core.sar.userNext) = s.core.sar.userNext := by rw [hnext, ite_self]
    dsimp only [wrote]
    rw [hkeep]
    rfl
  · rw [Core.writeReg_sarurg, if_pos hchan]
    exact Core.urgent_host_of_full (wrote s.core) hfull _ _
  · rw [Core.writeReg_sarurg, if_pos hchan]
    exact Core.urgent_of_idle (wrote s.core) hurg hcur href _ _ _
  · rw [Core.writeReg_sarurg, if_neg (by omega)]

end Sys2Proof.Machine

/-!
PROOFS. Reads with side effects (chapters 07, 09 and 10, R245, R246, R306, R307, R310 to R315, R326, R332, R335): what a read word gives, and
what it does once it completes.
-/
namespace Sys2Proof.Machine

namespace Core

/-- A read word of an open transaction: the register's effect at the fetch, the word given, and its effect once the word completes (R306). -/
theorem readWord_of_readsAt {c : Core} {a i : Nat} (h : readsAt c a i) (fetch : Core → Core) (done : Core → Word → Core) (b : Bool) :
    c.readWord a b fetch done =
      if b then done (gave (fetch c) i ((fetch c).readReg a)) ((fetch c).readReg a)
      else { fetch c with host := { (fetch c).host with miso := (fetch c).readReg a } } := by
  obtain ⟨t, htxn, hserved, hready, hread, hindex⟩ := h
  unfold readWord
  simp only [htxn, hserved, hread, hready, Bool.and_self, if_true, hindex]
  cases b <;> rfl

/-- What a register reads with READY = 1 and no snapshot of its group. -/
theorem readReg_of_ready {c : Core} (hready : c.pw.ready = true) {a : Nat} (hsnap : c.snapReg a = none) : c.readReg a = c.liveReg a := by
  rw [readReg, if_pos hready, hsnap]
  rfl

end Core

theorem gives_wakesrcRead (b : Bool) (s : State) : Gives (.wakesrcRead b) s (s.core.readWakesrc b) := rfl
theorem gives_encstatRead (b : Bool) (s : State) : Gives (.encstatRead b) s (s.core.readEncstat b) := rfl
theorem gives_htfc0Read (b : Bool) (s : State) : Gives (.htfc0Read b) s (s.core.readHtfc0 b) := rfl
theorem gives_sarminRead (b : Bool) (s : State) : Gives (.sarminRead b) s (s.core.readSarmin b) := rfl
theorem gives_rtc0Read (b : Bool) (s : State) : Gives (.rtc0Read b) s (s.core.readRtc0 b) := rfl
theorem gives_linkstatRead (b : Bool) (s : State) : Gives (.linkstatRead b) s (s.core.readLinkstat b) := rfl
theorem gives_linkdataRead (b : Bool) (s : State) : Gives (.linkdataRead b) s (s.core.readLinkdata b) := rfl
theorem gives_pktoutRead (b : Bool) (s : State) : Gives (.pktoutRead b) s (s.core.readPktout b) := rfl
theorem gives_pktoutlvlRead (b : Bool) (s : State) : Gives (.pktoutlvlRead b) s (s.core.readPktoutlvl b) := rfl

/-- The low bits of LINKSTAT are the flags (Table REGS-5). -/
theorem LinkPort.stat_flags (l : LinkPort) : BitVec.ofNat 4 l.stat.toNat = l.flags := by
  have hflags := l.flags.isLt
  apply ofNat_eq_of_mod
  rw [stat, word, BitVec.toNat_ofNat]
  omega

/-- The oldest raw character leaves its FIFO, and the flags returned are cleared (R246, R332). -/
theorem LinkPort.taken_eq (l : LinkPort) (m : BitVec 4) :
    ({ l with rxFifo := if l.isRaw then l.rxFifo.drop 1 else l.rxFifo }).clearFlags m =
      { l with rxFifo := if l.op = 1#2 ∨ l.op = 2#2 then l.rxFifo.drop 1 else l.rxFifo, flags := l.flags &&& ~~~m } := by
  simp [isRaw, clearFlags]

namespace Core

/-- The word ENCSTAT gives shows each encoder's error flag at its own place (Table REGS-7). -/
theorem encstat_getLsbD (c : Core) (e : Fin 2) : c.encstat.getLsbD (4 + e.val) = (c.keys.encs.getD e.val Encoder.reset).errStat := by
  have h0 := (c.keys.encs.getD 0 Encoder.reset).lvl.isLt
  have h1 := (c.keys.encs.getD 1 Encoder.reset).lvl.isLt
  have b0 := bit_le_one (c.keys.encs.getD 0 Encoder.reset).errStat
  have b1 := bit_le_one (c.keys.encs.getD 1 Encoder.reset).errStat
  rw [encstat, word, getLsbD_ofNat_eq_decide _ (by omega)]
  refine (congrArg (fun n => decide (n = 1)) ?_).trans (decide_bit_eq_one _)
  have hplace : e.val = 0 ∨ e.val = 1 := by omega
  dsimp only
  rcases hplace with he | he <;> rw [he] <;> omega

/-- A completed read of ENCSTAT clears the error flags it returned, which are all that stood (R307, R335). -/
theorem encs_cleared (c : Core) (hlen : c.keys.encs.length = 2) :
    c.keys.encs.zipIdx.map (fun e => { e.1 with errStat := e.1.errStat && !c.encstat.getLsbD (4 + e.2) }) =
      c.keys.encs.map (fun e => { e with errStat := false }) := by
  have h0 := c.encstat_getLsbD 0
  have h1 := c.encstat_getLsbD 1
  obtain ⟨a, b, hab⟩ := List.length_eq_two.mp hlen
  simp only [hab, Fin.isValue, Fin.val_zero, Fin.val_one, List.getD_cons_zero, List.getD_cons_succ, Nat.add_zero, Nat.reduceAdd,
    BitVec.getLsbD_eq_getElem (show 4 < 16 by decide), BitVec.getLsbD_eq_getElem (show 5 < 16 by decide)] at h0 h1
  simp [hab, h0, h1]

end Core

/-- Settles O31: a read word gives its register, and its effect follows once it completes. -/
theorem readsWithEffectsComplete : Obligations.ReadsWithEffectsComplete := by
  refine ⟨fun s i h hready => ⟨?_, ?_⟩, fun s i h hready hlen => ⟨?_, ?_⟩, fun s i b h hready => ?_, fun s i b h hready => ?_,
    fun s i b h hready => ?_, fun s i h hready => ⟨?_, ?_⟩, fun s i h hready => ⟨?_, ?_⟩⟩
  · refine (gives_wakesrcRead true s).congr ?_
    rw [Core.readWakesrc, Core.readWord_of_readsAt h, Core.readReg_of_ready hready rfl]
    have hclear : s.core.pw.wakesrc &&& ~~~s.core.pw.wakesrc = 0#16 := BitVec.and_not_self _
    rw [if_pos rfl]
    exact congrArg (fun v => { gave s.core i s.core.pw.wakesrc with pw := { s.core.pw with wakesrc := v } }) hclear
  · refine (gives_wakesrcRead false s).congr ?_
    rw [Core.readWakesrc, Core.readWord_of_readsAt h, Core.readReg_of_ready hready rfl]
    rfl
  · refine (gives_encstatRead true s).congr ?_
    rw [Core.readEncstat, Core.readWord_of_readsAt h, Core.readReg_of_ready hready rfl]
    rw [if_pos rfl]
    exact congrArg (fun l => { gave s.core i s.core.encstat with keys := { s.core.keys with encs := l } }) (s.core.encs_cleared hlen)
  · refine (gives_encstatRead false s).congr ?_
    rw [Core.readEncstat, Core.readWord_of_readsAt h, Core.readReg_of_ready hready rfl]
    rfl
  · refine (gives_htfc0Read b s).congr ?_
    rw [Core.readHtfc0, Core.readWord_of_readsAt h, Core.readReg_of_ready (by exact hready) rfl]
    rfl
  · refine (gives_sarminRead b s).congr ?_
    rw [Core.readSarmin, Core.readWord_of_readsAt h, Core.readReg_of_ready (by exact hready) rfl]
    rfl
  · refine (gives_rtc0Read b s).congr ?_
    rw [Core.readRtc0, Core.readWord_of_readsAt h, Core.readReg_of_ready (by exact hready) rfl]
    rfl
  · refine (gives_linkstatRead true s).congr ?_
    rw [Core.readLinkstat, Core.readWord_of_readsAt h, Core.readReg_of_ready (by exact hready) rfl, if_pos rfl]
    have hflags := (s.core.port s.core.host.linksel).stat_flags
    exact congrArg (fun m => { gave s.core i (s.core.port s.core.host.linksel).stat with
      host := { (gave s.core i (s.core.port s.core.host.linksel).stat).host with
        snapLink := some { mon := s.core.linkmon s.core.host.linksel, div := (s.core.port s.core.host.linksel).cfg.div.zeroExtend 16
                           dly := (s.core.hport s.core.host.linksel).delay }
        clrArm := some m } }) hflags
  · refine (gives_linkstatRead false s).congr ?_
    rw [Core.readLinkstat, Core.readWord_of_readsAt h, Core.readReg_of_ready (by exact hready) rfl]
    rfl
  · refine (gives_linkdataRead true s).congr ?_
    rw [Core.readLinkdata, Core.readWord_of_readsAt h, Core.readReg_of_ready (by exact hready) rfl, if_pos rfl]
    exact congrArg (fun f : LinkPort → LinkPort => { gave s.core i (s.core.port s.core.host.linksel).dataWord with
      lnk := modifyAt s.core.lnk s.core.host.linksel.val f
      host := { (gave s.core i (s.core.port s.core.host.linksel).dataWord).host with clrArm := none } })
      (funext fun l => LinkPort.taken_eq l _)
  · refine (gives_linkdataRead false s).congr ?_
    rw [Core.readLinkdata, Core.readWord_of_readsAt h, Core.readReg_of_ready (by exact hready) rfl]
    rfl

end Sys2Proof.Machine

/-!
PROOFS. The packet port (chapters 09 and 11, R310 to R315, R370): assembling a packet in PKTIN, and reading the head packet out of PKTOUT.
-/
namespace Sys2Proof.Machine

namespace Core

/-! PKTIN (R310 to R312). -/

/-- A word is passed over once the packet it belongs to was discarded. -/
theorem pktinWord_of_inSkip {c : Core} (h : ∃ t, c.host.txn = some t ∧ t.inSkip = true) (w : Word) : c.pktinWord w = c := by
  obtain ⟨t, htxn, hskip⟩ := h
  simp [pktinWord, htxn, hskip]

section

variable {c : Core} (hskip : ∀ t, c.host.txn = some t → t.inSkip = false) {w : Word}

theorem any_inSkip_eq_false {o : Option Txn} (h : ∀ t, o = some t → t.inSkip = false) : o.any (fun t => t.inSkip) = false := by
  cases o with
  | none => rfl
  | some t => exact h t rfl

include hskip

/-- A word joins the packet being assembled while the packet is not whole. -/
theorem pktinWord_of_joins (hlen : (c.host.pktin ++ [BitVec.ofNat 8 (w.toNat / 256), BitVec.ofNat 8 w.toNat]).length ≤ 2096)
    (hgood : pktinBad (c.host.pktin ++ [BitVec.ofNat 8 (w.toNat / 256), BitVec.ofNat 8 w.toNat]) = false)
    (hpart : ¬ (12 ≤ (c.host.pktin ++ [BitVec.ofNat 8 (w.toNat / 256), BitVec.ofNat 8 w.toNat]).length ∧
      pkTotal (c.host.pktin ++ [BitVec.ofNat 8 (w.toNat / 256), BitVec.ofNat 8 w.toNat]) ≤
        (c.host.pktin ++ [BitVec.ofNat 8 (w.toNat / 256), BitVec.ofNat 8 w.toNat]).length)) :
    c.pktinWord w = { c with host := { c.host with pktin := c.host.pktin ++ [BitVec.ofNat 8 (w.toNat / 256), BitVec.ofNat 8 w.toNat] } } := by
  unfold pktinWord
  generalize hb : c.host.pktin ++ [BitVec.ofNat 8 (w.toNat / 256), BitVec.ofNat 8 w.toNat] = b at *
  have hshort : ¬ (decide (2096 < b.length) || pktinBad b) = true := by simpa [hgood] using hlen
  have hwait : ¬ (decide (12 ≤ b.length) && decide (pkTotal b ≤ b.length)) = true := by simpa using hpart
  rw [any_inSkip_eq_false hskip, if_neg Bool.false_ne_true]
  dsimp only
  rw [if_neg hshort, if_neg hwait]
  rfl

/-- A bad first word or length discards the packet and passes over the rest of the transaction. -/
theorem pktinWord_of_bad (hbad : pktinBad (c.host.pktin ++ [BitVec.ofNat 8 (w.toNat / 256), BitVec.ofNat 8 w.toNat]) = true) :
    c.pktinWord w = ({ c with host := { c.host with pktin := [], txn := c.host.txn.map (fun t : Txn => { t with inSkip := true }) } }).hostFlag 8 := by
  unfold pktinWord
  rw [any_inSkip_eq_false hskip, if_neg Bool.false_ne_true]
  dsimp only
  rw [hbad, Bool.or_true, if_pos rfl]
  rfl

end

/-! PKTOUT (R313 to R315). -/

theorem sealHead_of_isSome {c : Core} (h : c.host.outHead.isSome = true) : c.sealHead = c := by rw [sealHead, if_pos h]

theorem sealHead_of_none {c : Core} (hhead : c.host.outHead = none) (hpick : c.headPick = none) : c.sealHead = c := by
  simp [sealHead, hhead, hpick]

theorem sealHead_of_foreign {c : Core} (hhead : c.host.outHead = none) {j : Nat} (hpick : c.headPick = some (.rsp j)) {u : Bool}
    {b : List Byte} (hitem : c.host.outRsp[j]? = some (.foreign u b)) :
    c.sealHead = { c with host := { c.host with outHead := some { source := .rsp, bytes := b, pos := 0 }, outRsp := c.host.outRsp.eraseIdx j } } := by
  simp [sealHead, hhead, hpick, hitem]

/-- A queue after a change of one queue. -/
theorem modQueue_queue (c : Core) (t u : Tenant) (f : Queue → Queue) :
    (c.modQueue t f).queue u = if t = u ∧ u.val < c.qs.length then f (c.queue u) else c.queue u := by
  simp only [queue, modQueue, modifyAt_getD, Fin.ext_iff]

theorem any_outDone_eq_false {o : Option Txn} (h : ∀ t, o = some t → t.outDone = false) : o.any (fun t => t.outDone) = false := by
  cases o with
  | none => rfl
  | some t => exact h t rfl

/-- A word read with no head packet is OUTUNDER (R314). -/
theorem pktoutDone_of_none {c : Core} (h : c.host.outHead = none) (gone : Bool) : c.pktoutDone gone = (c.hostFlag 9, false) := by
  cases gone <;> simp [pktoutDone, h]

section

variable {c : Core} {h : OutHead} (hhead : c.host.outHead = some h)
include hhead

theorem pktoutWord_of_head : c.pktoutWord false =
    BitVec.ofNat 16 ((byteAt h.bytes (2 * h.pos)).toNat * 256 + (byteAt h.bytes (2 * h.pos + 1)).toNat) := by
  simp [pktoutWord, hhead]

/-- A word of the head packet with more behind it. -/
theorem pktoutDone_of_more (hmore : 2 * (h.pos + 1) < h.bytes.length) :
    c.pktoutDone false = ({ c with host := { c.host with outHead := some { h with pos := h.pos + 1 } } }, false) := by
  simp [pktoutDone, hhead, hmore]

theorem pktoutDone_of_last (hlast : h.bytes.length ≤ 2 * (h.pos + 1)) : c.pktoutDone false = (c.headLeaves h, true) := by
  simp [pktoutDone, hhead, hlast]

end

/-- PKTOUTLVL does not depend on the word that MISO gives. -/
theorem pktoutLvl_miso (c : Core) (v : Word) : ({ c with host := { c.host with miso := v } }).pktoutLvl = c.pktoutLvl := by
  unfold pktoutLvl headWords outCount
  rfl

/-- What a read of PKTOUT does where a head packet stands and none has ended in the transaction. -/
theorem readPktout_of_head {c : Core} {i : Nat} {h : OutHead} (hreads : readsAt c 0x0A i)
    (hgone : ∀ t, c.host.txn = some t → t.outDone = false) (hready : c.pw.ready = true) (hhead : c.host.outHead = some h) (b : Bool) :
    c.readPktout b =
      let v := BitVec.ofNat 16 ((byteAt h.bytes (2 * h.pos)).toNat * 256 + (byteAt h.bytes (2 * h.pos + 1)).toNat)
      let r := (gave c i v).pktoutDone false
      if b then (if r.2 then r.1.modTxn (fun t => { t with outDone := true }) else r.1)
      else { c with host := { c.host with miso := v } } := by
  have hfirst := any_outDone_eq_false hgone
  have hseal : c.sealHead = c := sealHead_of_isSome (by rw [hhead]; rfl)
  have hword : c.readReg 0x0A = BitVec.ofNat 16 ((byteAt h.bytes (2 * h.pos)).toNat * 256 + (byteAt h.bytes (2 * h.pos + 1)).toNat) := by
    rw [readReg_of_ready hready rfl]
    show c.sealHead.pktoutWord (c.host.txn.any (fun t => t.outDone)) = _
    rw [hseal, hfirst, pktoutWord_of_head hhead]
  have hthen (v : Word) : (gave c i v).host.txn.any (fun t => t.outDone) = false := by
    have hmap : (gave c i v).host.txn.any (fun t => t.outDone) = c.host.txn.any (fun t => t.outDone) := by
      simp only [gave, Option.any_map]
    rw [hmap, hfirst]
  rw [readPktout, readWord_of_readsAt hreads]
  simp only [hfirst, Bool.false_eq_true, if_false, hseal, hword, hthen]

/-- A completed word of PKTOUT with more of the head packet behind it. -/
theorem readPktout_of_more {c : Core} {i : Nat} {h : OutHead} (hreads : readsAt c 0x0A i)
    (hgone : ∀ t, c.host.txn = some t → t.outDone = false) (hready : c.pw.ready = true) (hhead : c.host.outHead = some h)
    (hmore : 2 * (h.pos + 1) < h.bytes.length) :
    let v := BitVec.ofNat 16 ((byteAt h.bytes (2 * h.pos)).toNat * 256 + (byteAt h.bytes (2 * h.pos + 1)).toNat)
    c.readPktout true = { gave c i v with host := { (gave c i v).host with outHead := some { h with pos := h.pos + 1 } } } := by
  intro v
  have hdone : (gave c i v).pktoutDone false = _ := pktoutDone_of_more (by exact hhead) hmore
  rw [readPktout_of_head hreads hgone hready hhead]
  dsimp only
  rw [hdone]
  rfl

/-- The last word of the head packet: it leaves PKTOUT, and no other follows in the transaction. -/
theorem readPktout_of_last {c : Core} {i : Nat} {h : OutHead} (hreads : readsAt c 0x0A i)
    (hgone : ∀ t, c.host.txn = some t → t.outDone = false) (hready : c.pw.ready = true) (hhead : c.host.outHead = some h)
    (hlast : h.bytes.length ≤ 2 * (h.pos + 1)) :
    c.readPktout true =
      ((gave c i (BitVec.ofNat 16 ((byteAt h.bytes (2 * h.pos)).toNat * 256 + (byteAt h.bytes (2 * h.pos + 1)).toNat))).headLeaves h).modTxn
        (fun t => { t with outDone := true }) := by
  rw [readPktout_of_head hreads hgone hready hhead]
  dsimp only
  rw [pktoutDone_of_last (by exact hhead) hlast]
  rfl

/-- The records that a packet of records carried leave their queue with it (R315). -/
theorem headLeaves_records {c : Core} {h : OutHead} {t : Tenant} {evt : Bool} {n : Nat} (hsource : h.source = .records t evt n false) :
    OnlyRecords { c with host := { c.host with outHead := none } } (c.headLeaves h) ∧
      ((c.headLeaves h).queue t).recs = (c.queue t).recs.drop n ∧ ∀ u : Tenant, u ≠ t → (c.headLeaves h).queue u = c.queue u := by
  have hleaves : c.headLeaves h = ({ c with host := { c.host with outHead := none } }).modQueue t (fun _ => ((c.queue t).leave n false).1) := by
    simp only [headLeaves, hsource]
    rfl
  rw [hleaves]
  refine ⟨modQueue_only _ _ _, ?_, fun u hu => ?_⟩
  · rw [modQueue_queue]
    split
    · rfl
    · have hempty : (c.queue t).recs = [] := by
        have hout : ¬ t.val < c.qs.length := by simp_all
        simp [queue, List.getElem?_eq_none (Nat.le_of_not_lt hout), Queue.empty]
      show (c.queue t).recs = _
      rw [hempty, List.drop_nil]
  · rw [modQueue_queue, if_neg (fun h => hu h.1.symm)]
    rfl

end Core

/-- Records placed, then a change of the open transaction. -/
theorem OnlyRecords.modTxn {c d : Core} (h : OnlyRecords c d) (f : Txn → Txn) :
    OnlyRecords { c with host := { c.host with txn := (d.modTxn f).host.txn } } (d.modTxn f) := by
  unfold OnlyRecords at *
  rw [h]
  rfl

theorem gives_pktinWrite {s : State} (ha : writesAt s.core 0x08) (w : Word) : Gives (.pktinWrite w) s ((wrote s.core).pktinWord w) :=
  (gives_writeReg rfl ha).congr (Core.writeReg_pktin _ w)

/-- Settles O30: PKTIN's word joins, is passed over or discards; PKTOUT's leaves the head packet, ends it or finds none. -/
theorem packetPortCompletes : Obligations.PacketPortCompletes := by
  refine ⟨fun s w ha hskip hlen => ⟨fun hgood hpart => (gives_pktinWrite ha w).congr ?_, fun hbad hready => (gives_pktinWrite ha w).leaves ?_⟩,
    fun s w ha hskip => (gives_pktinWrite ha w).congr ?_, fun s i h hreads hgone hready hhead => ⟨?_, fun hmore => ?_, fun hlast hrsp => ?_,
    fun t evt n hlast hrec => ?_⟩, fun s i hreads hready hhead hpick => ?_, fun s i b hreads hready hhead => ?_,
    fun s i j u b hreads hready hhead hpick hitem => ?_⟩
  · refine Core.pktinWord_of_joins (c := wrote s.core) (fun t ht => ?_) hlen hgood hpart
    obtain ⟨t', htxn, rfl⟩ := Option.map_eq_some_iff.mp ht
    exact hskip t' htxn
  · have hword := Core.pktinWord_of_bad (c := wrote s.core) (w := w) (fun t ht => ?_) hbad
    · rw [hword, Core.hostFlag_eq _ 8 (by decide) (by exact hready)]
      refine ⟨rfl, rfl, rfl, rfl, rfl, fun t ht => ?_⟩
      obtain ⟨t', -, rfl⟩ := Option.map_eq_some_iff.mp ht
      rfl
    · obtain ⟨t', htxn, rfl⟩ := Option.map_eq_some_iff.mp ht
      exact hskip t' htxn
  · refine Core.pktinWord_of_inSkip ?_ w
    obtain ⟨t, htxn, ht⟩ := hskip
    exact ⟨{ t with words := t.words + 1 }, by simp [wrote, htxn], ht⟩
  · refine (gives_pktoutRead false s).congr ?_
    rw [Core.readPktout_of_head hreads hgone hready hhead]
    rfl
  · exact (gives_pktoutRead true s).congr (Core.readPktout_of_more hreads hgone hready hhead hmore)
  · refine (gives_pktoutRead true s).leaves ?_
    obtain ⟨t, htxn, -⟩ := id hreads
    rw [Core.readPktout_of_last hreads hgone hready hhead hlast, Core.headLeaves, hrsp]
    refine ⟨rfl, { t with words := i + 1, outDone := true }, ?_, rfl, rfl⟩
    simp [gave, Core.modTxn, Core.modHost, htxn]
  · refine (gives_pktoutRead true s).leaves ?_
    rw [Core.readPktout_of_last hreads hgone hready hhead hlast]
    obtain ⟨honly, hqueue, hother⟩ := Core.headLeaves_records (c := gave s.core i _) hrec
    refine ⟨?_, hqueue, hother⟩
    exact honly.modTxn _
  · refine (gives_pktoutRead true s).leaves ?_
    have hfetch : (if s.core.host.txn.any (fun t => t.outDone) then s.core else s.core.sealHead) = s.core := by
      rw [Core.sealHead_of_none hhead hpick, ite_self]
    have hword : s.core.readReg 0x0A = 0#16 := by
      rw [Core.readReg_of_ready hready rfl]
      show s.core.sealHead.pktoutWord _ = _
      rw [Core.sealHead_of_none hhead hpick, Core.pktoutWord, hhead]
    rw [Core.readPktout, Core.readWord_of_readsAt hreads, hfetch, hword, if_pos rfl, Core.pktoutDone_of_none (by exact hhead)]
    dsimp only
    rw [if_neg Bool.false_ne_true, Core.hostFlag_eq _ 9 (by decide) (by exact hready)]
    exact ⟨rfl, rfl, rfl, rfl, rfl⟩
  · refine (gives_pktoutlvlRead b s).congr ?_
    rw [Core.readPktoutlvl, Core.readWord_of_readsAt hreads, Core.sealHead_of_isSome hhead, Core.readReg_of_ready hready rfl]
    rfl
  · refine (gives_pktoutlvlRead false s).leaves ?_
    rw [Core.readPktoutlvl, Core.readWord_of_readsAt hreads, Core.sealHead_of_foreign hhead hpick hitem,
      Core.readReg_of_ready (by exact hready) rfl]
    exact ⟨rfl, rfl, rfl, (Core.pktoutLvl_miso _ _).symm⟩

end Sys2Proof.Machine

/-!
PROOFS. Supply, resets and holds (chapters 02, 12 and 13, R48, R64 to R66, R69, R70, R80, R81, R374, R397, R409, R410, R413): what a reset
leaves, when BOOT begins, and what an end of the NVM inhibit writes.
-/
namespace Sys2Proof.Machine

theorem gives_powerOn (s : State) : Gives .powerOn s s.core.powerOn := rfl
theorem gives_brownOut (s : State) : Gives .brownOut s s.core.brownOut := rfl
theorem gives_brownOutRecovery (s : State) : Gives .brownOutRecovery s s.core.brownOutRecovery := rfl
theorem gives_nvmInhibit (s : State) : Gives .nvmInhibit s s.core.setInhibit := rfl
theorem gives_nvmInhibitClear (s : State) : Gives .nvmInhibitClear s s.core.clearInhibit := rfl
theorem gives_resetPin (s : State) : Gives .resetPin s s.core.resetPin := rfl
theorem gives_testenHold (b : Bool) (s : State) : Gives (.testenHold b) s (s.core.testen b) := rfl
theorem gives_vioAbsent (s : State) : Gives .vioAbsent s s.core.vioAbsent := rfl
theorem gives_vioPresent (s : State) : Gives .vioPresent s s.core.vioPresent := rfl
theorem gives_refloss (s : State) : Gives .refloss s s.core.refloss := rfl
theorem gives_referenceQualified (s : State) : Gives .referenceQualified s s.core.qualified := rfl
theorem gives_resetRelease (s : State) : Gives .resetRelease s s.core.release := rfl

theorem incSat_eq (x : Word) : incSat x = if x = 0xFFFF#16 then 0xFFFF#16 else x + 1#16 := by
  unfold incSat
  split
  next h => exact h
  next => rfl

namespace Core

theorem powered_of_isPowered {c : Core} (h : isPowered c) : c.powered = true := by
  obtain ⟨hun, hoff⟩ := h
  simp [powered, hun, hoff]

/-- The reset at a start with the pin's hold over. -/
theorem startPower_of_not_held {c : Core} (h : c.pw.holdPin = false) (cause : BitVec 3) : c.startPower cause =
    { Power.reset with cause := cause, holdTesten := c.pw.holdTesten, holdVio := c.pw.holdVio, provLow := c.pw.provLow
                       provPin := c.pw.provLow } := by
  rw [startPower, h]
  rfl

theorem brownOutRecovery_of_off {c : Core} (hoff : c.pw.phase = .off) (hpin : c.pw.holdPin = false) : c.brownOutRecovery =
    if c.ret.valid then inReset (c.startPower 2#3) { c.ret with cause := 2#3 } (nvmKept c.nvm) c.keyProg c.free
    else inReset (c.startPower 0#3) Retention.none (nvmKept c.nvm) c.keyProg c.free := by
  simp [brownOutRecovery, hoff, hpin]

/-! The map entries that wait (R374, R397). -/

/-- The rows of a write leave the field map, and add to what waits for it. -/
structure MapGrows (c d : Core) : Prop where
  fieldMap : d.nvm.fieldMap = c.nvm.fieldMap
  mapPending : ∃ l, d.nvm.mapPending = c.nvm.mapPending ++ l

namespace MapGrows

theorem of_nvm {c d : Core} (h : d.nvm = c.nvm) : MapGrows c d := ⟨by rw [h], [], by rw [h, List.append_nil]⟩

theorem of_records {c d : Core} (h : OnlyRecords c d) : MapGrows c d := of_nvm (by rw [h])

theorem refl (c : Core) : MapGrows c c := of_nvm rfl

theorem of_same {c d : Core} (hmap : d.nvm.fieldMap = c.nvm.fieldMap) (hwait : d.nvm.mapPending = c.nvm.mapPending) : MapGrows c d :=
  ⟨hmap, [], by rw [hwait, List.append_nil]⟩

theorem trans {a b c : Core} (h : MapGrows a b) (k : MapGrows b c) : MapGrows a c := by
  obtain ⟨hmap, l, hl⟩ := h
  obtain ⟨kmap, m, hm⟩ := k
  exact ⟨kmap.trans hmap, l ++ m, by rw [hm, hl, List.append_assoc]⟩

end MapGrows

theorem regrade_mapGrows (c : Core) : MapGrows c c.regrade := by
  unfold regrade regradeNow
  split
  · exact .refl c
  · dsimp only
    split
    · exact .refl c
    · exact MapGrows.trans (.of_nvm (by rfl)) (.of_records ((repairEvent_only _ _ _).trans (attn_only _ _)))

theorem sparesOut_mapGrows (c : Core) (k : Byte) : MapGrows c (c.sparesOut k) := by
  unfold sparesOut
  split
  · exact .refl c
  · exact MapGrows.trans (.of_nvm (by rfl)) (.of_records (repairEvent_only _ _ _))

theorem noteRepair_mapGrows (c : Core) (r : RepairEntry) : MapGrows c (c.noteRepair r) := by
  unfold noteRepair
  split
  · exact MapGrows.trans (.of_nvm (by rfl)) (.of_records (repairEvent_only _ _ _))
  · exact ⟨rfl, [r], rfl⟩

theorem retire_mapGrows (c : Core) (row : Nat) : MapGrows c (c.retire row).1 := by
  unfold retire
  split
  · exact c.sparesOut_mapGrows _
  · dsimp only
    refine MapGrows.trans ?_ (regrade_mapGrows _)
    refine MapGrows.trans ?_ (.of_records (repairEvent_only _ _ _))
    exact MapGrows.trans (.of_same (by rfl) (by rfl)) (noteRepair_mapGrows _ _)

theorem programFrom_mapGrows (n : Nat) (c : Core) (row : Nat) : MapGrows c (programFrom n c row).1 := by
  induction n generalizing c with
  | zero => exact .refl c
  | succ n ih =>
    unfold programFrom
    have hrow : MapGrows c ((c.noteErase row).verifies).1 := .of_same rfl rfl
    dsimp only
    split
    · exact hrow
    · split
      · exact (hrow.trans (retire_mapGrows _ row)).trans (ih _)
      · exact hrow.trans (retire_mapGrows _ row)

theorem programRows_mapGrows (c : Core) (rows : List Nat) : MapGrows c (c.programRows rows).1 := by
  unfold programRows
  generalize true = b
  induction rows generalizing c b with
  | nil => exact .refl c
  | cons r rows ih => exact (programFrom_mapGrows 17 c r).trans (ih _ _)

theorem writeCopy_mapGrows (c : Core) (r : RecId) : MapGrows c (c.writeCopy r).1 := by
  unfold writeCopy
  split
  · exact .refl c
  · have h := c.programRows_mapGrows (r.rows (c.pair r).targetsB)
    dsimp only
    split
    · exact h.trans (.of_same rfl rfl)
    · exact MapGrows.trans (h.trans (.of_same (by rfl) (by rfl))) (regrade_mapGrows _)

theorem saveMap_of_nothing {c : Core} (hmap : c.nvm.mapPending = []) (hfaults : c.nvm.faultsSaved = none) : c.saveMap = c := by
  simp [saveMap, hmap, hfaults]

theorem saveMap_of_waiting {c : Core} (hmap : c.nvm.mapPending ≠ []) :
    c.saveMap = if (c.writeCopy .repair).2 then (c.writeCopy .repair).1.flushMap else (c.writeCopy .repair).1 := by
  simp [saveMap, hmap]

theorem saveAlloc_of_nothing {c : Core} (h : c.nvm.allocPending = none) : c.saveAlloc = c := by
  unfold saveAlloc
  rw [h]

theorem relayRetry_of_empty {c : Core} (h : c.hg.relay = []) : c.relayRetry = c := by
  have hsame : { c with hg := { c.hg with relay := [] } } = c := by rw [← h]
  simp only [relayRetry, h, List.foldl_nil]
  exact hsame

/-- What waits while NVM writes are inhibited, where neither a packet, an allocation nor combination B does. -/
theorem clearInhibit_eq {c : Core} (hpow : isPowered c) (hrelay : c.hg.relay = [])
    (hheld : ∀ t, c.keys.caretaker.held = some t → t < 20000) (halloc : c.nvm.allocPending = none) :
    c.clearInhibit = ({ c with pw := { c.pw with nvmInhibit := false } }).saveMap := by
  have hmap := saveMap_only { c with pw := { c.pw with nvmInhibit := false } }
  generalize hd : ({ c with pw := { c.pw with nvmInhibit := false } } : Core).saveMap = d at hmap
  have hdalloc : d.nvm.allocPending = none := by rw [hmap]; exact halloc
  have hdrelay : d.hg.relay = [] := by rw [hmap]; exact hrelay
  have hdheld : d.keys.caretaker.held.any (fun t => decide (20000 ≤ t)) = false := by
    have hkeys : d.keys = c.keys := by rw [hmap]
    rw [hkeys]
    cases hc : c.keys.caretaker.held with
    | none => rfl
    | some t => simpa using hheld t hc
  have hwait : d.when d.pw.phase.isAwake relayRetry = d := when_keeps (fun a b => b = a) (fun _ => rfl) d _ _ (relayRetry_of_empty hdrelay)
  unfold clearInhibit
  rw [powered_of_isPowered hpow, when_true]
  simp only [modPw, hd, saveAlloc_of_nothing hdalloc, hwait, hdheld, when_false]

end Core

/-- Settles O1: each row's effect where the supply lets it; an end of the inhibit writes what waits with what its own rows retire. -/
theorem supplyCommandsComplete : Obligations.SupplyCommandsComplete := by
  refine ⟨fun s hphase => (gives_powerOn s).congr ?_, fun s hpow => (gives_brownOut s).congr ?_,
    fun s hoff hpin => (gives_brownOutRecovery s).congr ?_, fun s hpow => (gives_nvmInhibit s).congr ?_,
    fun s hpow hrelay hheld halloc => ⟨fun hmap hfaults => (gives_nvmInhibitClear s).congr ?_,
      fun hmap => (gives_nvmInhibitClear s).leaves ?_⟩, fun s => rfl⟩
  · rw [Core.powerOn, hphase]
    rfl
  · rw [Core.brownOut, Core.powered_of_isPowered hpow, Core.when_true]
    dsimp only
    rw [incSat_eq]
    rfl
  · rw [Core.brownOutRecovery_of_off hoff hpin, Core.startPower_of_not_held hpin, Core.startPower_of_not_held hpin]
    cases hvalid : s.core.ret.valid <;> rfl
  · rw [Core.setInhibit, Core.powered_of_isPowered hpow]
    rfl
  · rw [Core.clearInhibit_eq hpow hrelay hheld halloc]
    exact Core.saveMap_of_nothing hmap hfaults
  · rw [Core.clearInhibit_eq hpow hrelay hheld halloc]
    refine ⟨Core.saveMap_only _, fun hok => ?_, fun hfail => ?_⟩
    all_goals
      obtain ⟨hfield, l, hl⟩ := Core.writeCopy_mapGrows { s.core with pw := { s.core.pw with nvmInhibit := false } } .repair
      rw [Core.saveMap_of_waiting (by exact hmap)]
    · rw [if_pos hok]
      refine ⟨rfl, rfl, l, ?_⟩
      show _ ++ _ = _
      rw [hfield, hl, List.append_assoc]
    · rw [hfail]
      exact hfield

end Sys2Proof.Machine

/-!
PROOFS. Reset commands and holds (chapters 02 and 13, R48, R65, R66, R69, R73, R409, R410, R413, R417).
-/
namespace Sys2Proof.Machine

namespace Core

/-- What a reset leaves, with the kind of hold that it records (R69, Table POWER-5). -/
theorem enterReset_kind (c : Core) {cause : BitVec 3} (hsupply : cause ≠ 0#3) (hbrown : cause ≠ 2#3) (kind : Byte) (xtal : Xtal) :
    c.enterReset cause kind xtal = resetLeft c { resetPower c cause xtal with holdKind := kind } (retainedNow c cause) := by
  have hquiet : (cause != 0#3 && cause != 2#3) = true := by simp [hsupply, hbrown]
  unfold enterReset
  rw [hquiet]
  rfl

/-! The holds of a pin, of TESTEN and of VIO: in OFF they only stand, elsewhere they reset. -/

theorem resetPin_of_powered {c : Core} (h : isPowered c) : c.resetPin = ({ c with pw := { c.pw with holdPin := true } }).enterReset 1#3 0#8 c.pw.xtal := by
  obtain ⟨hun, hoff⟩ := h
  unfold resetPin
  split
  · contradiction
  · contradiction
  · rfl

theorem testen_true_of_powered {c : Core} (h : isPowered c) :
    c.testen true = ({ c with pw := { c.pw with holdTesten := true } }).enterReset 7#3 1#8 c.pw.xtal := by
  obtain ⟨hun, hoff⟩ := h
  unfold testen
  rw [if_pos rfl]
  split
  · contradiction
  · contradiction
  · rfl

theorem vioAbsent_of_powered {c : Core} (h : isPowered c) : c.vioAbsent = ({ c with pw := { c.pw with holdVio := true } }).enterReset 7#3 0#8 c.pw.xtal := by
  obtain ⟨hun, hoff⟩ := h
  unfold vioAbsent
  split
  · contradiction
  · contradiction
  · rfl

theorem testen_false_of_reset {c : Core} (hphase : c.pw.phase = .reset) (hheld : c.pw.holdTesten = true) : c.testen false =
    { c with pw := { c.pw with holdTesten := false, cause := 7#3, holdKind := 1#8, linkQuiet := true }, ret := { c.ret with cause := 7#3 } } := by
  simp [testen, hphase, hheld, modPw]

theorem vioPresent_of_reset {c : Core} (hphase : c.pw.phase = .reset) (hheld : c.pw.holdVio = true) : c.vioPresent =
    { c with pw := { c.pw with holdVio := false, cause := 7#3, holdKind := 0#8, linkQuiet := true }, ret := { c.ret with cause := 7#3 } } := by
  simp [vioPresent, hphase, hheld, modPw]

/-- BOOT begins where the reference runs and nothing holds the reset (R66). -/
theorem tryBoot_eq (c : Core) : c.tryBoot = { c with pw := { c.pw with
    phase := if c.pw.phase = .reset ∧ c.pw.xtal = .running ∧ c.noHold = true then .boot else c.pw.phase } } := by
  unfold tryBoot
  by_cases h : c.pw.phase = .reset ∧ c.pw.xtal = .running ∧ c.noHold = true
  · have hgo : (c.pw.phase == .reset && c.pw.xtal == .running && c.noHold) = true := by simpa [and_assoc] using h
    rw [if_pos h, if_pos hgo]
    rfl
  · have hstay : ¬ (c.pw.phase == .reset && c.pw.xtal == .running && c.noHold) = true := by simpa [and_assoc] using h
    rw [if_neg h, if_neg hstay]

/-- In the reset, with VIO present, the pins are as Table BALLS-5 has them. -/
theorem pins_of_reset {c : Core} (hphase : c.pw.phase = .reset) (hvio : c.pw.holdVio = false) (p : Port) :
    c.pinTx p = .hiZ ∧ c.pinDe p = .low ∧ c.pinRx p = .pullDown false ∧ c.misoWord = 0xFFFF#16 ∧ c.pinAttn = .released ∧
      ∀ (t : SlotName) (ph n : Nat), c.pinDrv t ph n = .held ∧ c.pinSns t ph n = .held ∧ c.pinGuard t ph n = .low := by
  have hgone : c.vioGone = false := by simp [vioGone, hphase, hvio]
  have hslow : c.fast = false := by simp [fast, hphase, Phase.isAwake]
  have hlive : c.portLive = false := by simp [portLive, hslow, hphase]
  refine ⟨?_, ?_, ?_, ?_, ?_, fun t ph n => ⟨?_, ?_, ?_⟩⟩
  · simp [pinTx, hgone, hphase, hslow, Phase.isAsleep]
  · simp [pinDe, hgone, linkDrives, hslow]
  · simp [pinRx, hgone, hslow, hphase, Phase.isAsleep]
  · simp [misoWord, misoDriven, hlive]
  · simp [pinAttn, hgone, hphase]
  · simp [pinDrv, hphase]
  · simp [pinSns, hphase]
  · simp [pinGuard, hphase]

end Core

/-- Settles O2: each hold resets or stands, and the reset's end is judged by what still holds it. -/
theorem resetAndHoldCommandsComplete : Obligations.ResetAndHoldCommandsComplete := by
  refine ⟨fun s hpow => (gives_resetPin s).congr ?_, fun s p hpow hvio => (gives_resetPin s).leaves ?_,
    fun s hpow => (gives_testenHold true s).congr ?_, fun s hphase hheld => (gives_testenHold false s).congr ?_,
    fun s hpow => (gives_vioAbsent s).congr ?_, fun s hphase hheld => (gives_vioPresent s).congr ?_,
    fun s hoff => ⟨(gives_resetPin s).congr ?_, (gives_testenHold true s).congr ?_, (gives_vioAbsent s).congr ?_⟩,
    fun s hpow hxtal => (gives_refloss s).congr ?_, fun s hphase hxtal => (gives_referenceQualified s).congr ?_,
    fun s => (gives_resetRelease s).congr ?_⟩
  · rw [Core.resetPin_of_powered hpow, Core.enterReset_kind _ (by decide) (by decide)]
    rfl
  · rw [Core.resetPin_of_powered hpow]
    refine Core.pins_of_reset ?_ ?_ p
    · rfl
    · exact hvio
  · rw [Core.testen_true_of_powered hpow, Core.enterReset_kind _ (by decide) (by decide)]
    rfl
  · exact Core.testen_false_of_reset hphase hheld
  · rw [Core.vioAbsent_of_powered hpow, Core.enterReset_kind _ (by decide) (by decide)]
    rfl
  · exact Core.vioPresent_of_reset hphase hheld
  · simp [Core.resetPin, hoff, Core.modPw]
  · simp [Core.testen, hoff, Core.modPw]
  · simp [Core.vioAbsent, hoff, Core.modPw]
  · have hruns : (s.core.powered && s.core.pw.xtal == .running) = true := by simp [Core.powered_of_isPowered hpow, hxtal]
    rw [Core.refloss, hruns, Core.when_true, Core.enterReset_kind _ (by decide) (by decide)]
    rfl
  · have hstarts : (s.core.pw.phase == .reset && s.core.pw.xtal != .running) = true := by simp [hphase, hxtal]
    rw [Core.qualified, hstarts, Core.when_true, Core.tryBoot_eq]
    have hends : (if s.core.pw.phase = .reset ∧ Xtal.running = .running ∧ s.core.noHold = true then Phase.boot else s.core.pw.phase) =
        if s.core.pw.holdPin || s.core.pw.holdTesten || s.core.pw.holdVio then .reset else .boot := by
      rw [Core.noHold, ← Bool.not_or, ← Bool.not_or]
      cases s.core.pw.holdPin || s.core.pw.holdTesten || s.core.pw.holdVio <;> simp [hphase]
    exact congrArg (fun ph => { s.core with pw := { s.core.pw with xtal := .running, phase := ph } }) hends
  · rw [Core.release, Core.tryBoot_eq]
    have hends : (s.core.pw.phase = .reset ∧ s.core.pw.xtal = .running ∧ (!false && !s.core.pw.holdTesten && !s.core.pw.holdVio) = true) ↔
        (s.core.pw.phase = .reset ∧ s.core.pw.xtal = .running ∧ s.core.pw.holdTesten = false ∧ s.core.pw.holdVio = false) := by simp
    exact congrArg (fun ph => { s.core with pw := { s.core.pw with holdPin := false, phase := ph } }) (if_congr hends rfl rfl)

end Sys2Proof.Machine

/-!
PROOFS. Wake sources (chapters 02, 06 and 12, R47, R54, R57, R62, R63, R207, R214, R319, R394, Table POWER-3).
-/
namespace Sys2Proof.Machine

theorem gives_csWake (s : State) : Gives .csWake s s.core.csWake := rfl
theorem gives_linkStartEdgeWake (p : Port) (s : State) : Gives (.linkStartEdgeWake p) s (s.core.linkWake p) := rfl
theorem gives_ladderWake (l : Ladder) (s : State) : Gives (.ladderWake l) s (s.core.ladderWake l) := rfl
theorem gives_encoderEdgeWake (e : Fin 2) (s : State) : Gives (.encoderEdgeWake e) s (s.core.encoderWake e) := rfl
theorem gives_rtcAlarm (s : State) : Gives .rtcAlarm s s.core.alarm := rfl

theorem isAsleep_iff (p : Phase) : p.isAsleep = true ↔ p = .doze ∨ p = .watch := by cases p <;> simp [Phase.isAsleep]

namespace Core

/-- In Doze and Watch a wake source latches its bit, and the highest state named holds (R54, R57). -/
theorem wakeSource_of_asleep {c : Core} (h : c.pw.phase.isAsleep = true) (bits : Word) (target : Phase) (cs : Bool) :
    c.wakeSource bits target cs = ({ c with pw := { c.pw with
      wakesrc := c.pw.wakesrc ||| bits, waking := true, csWoke := c.pw.csWoke || cs
      wakeTarget := if c.pw.waking then higher c.pw.wakeTarget target else target } }).attnIf (!cs) 10 := by
  rw [wakeSource, if_pos h]
  rfl

/-- A wake source other than select (R316). -/
theorem wakeSource_only {c : Core} (h : c.pw.phase.isAsleep = true) (bits : Word) (target : Phase) :
    OnlyRecords { c with pw := { c.pw with
      wakesrc := c.pw.wakesrc ||| bits, waking := true
      wakeTarget := if c.pw.waking then higher c.pw.wakeTarget target else target } } (c.wakeSource bits target false) := by
  rw [wakeSource_of_asleep h, Bool.or_false]
  exact attnIf_only _ _ _

/-! The tasks whose deadline has come (R394). -/

/-- The tasks whose deadline has come. -/
def dueTasks (c : Core) : List (Fin 5) := ([0, 1, 2, 3, 4] : List (Fin 5)).filter (fun t => c.deadline t == some 0)

theorem contains_dueTasks (c : Core) (t : Fin 5) : c.dueTasks.contains t = (c.deadline t == some 0) := by
  have hall : t ∈ ([0, 1, 2, 3, 4] : List (Fin 5)) := by
    fin_cases t <;> decide
  rw [Bool.eq_iff_iff, List.contains_iff_mem, dueTasks, List.mem_filter]
  simp [hall]

/-- Tasks past due set their bits of BGDEFER and raise their events. -/
structure PastDue (c : Core) (tasks : List (Fin 5)) (d : Core) : Prop where
  only : OnlyRecords { c with rep := { c.rep with bgdefer := d.rep.bgdefer } } d
  bits : ∀ t : Fin 5, d.rep.bgdefer.getLsbD t.val = (c.rep.bgdefer.getLsbD t.val || tasks.contains t)

theorem pastDue_spec (c : Core) (t : Fin 5) : PastDue c [t] (c.pastDue t) := by
  unfold pastDue
  split
  case isTrue hset =>
    refine ⟨rfl, fun u => ?_⟩
    by_cases hut : u = t
    · rw [hut, hset, Bool.true_or]
    · simp [hut]
  case isFalse =>
    have honly := repairEvent_only { c with rep := { c.rep with bgdefer := c.rep.bgdefer ||| (1#5 <<< t.val) } } 0x51 [BitVec.ofNat 8 (t.val + 1)]
    refine ⟨?_, fun u => ?_⟩
    · rw [honly.rep_bgdefer]
      exact honly
    · rw [honly.rep_bgdefer]
      have hbit : (1#5 <<< t.val).getLsbD u.val = [t].contains u := by
        rw [← BitVec.twoPow_eq, BitVec.getLsbD_twoPow, Bool.eq_iff_iff]
        simp [t.isLt, Fin.ext_iff, eq_comm]
      rw [← hbit]
      exact BitVec.getLsbD_or

theorem foldl_pastDue (tasks : List (Fin 5)) (c : Core) : PastDue c tasks (tasks.foldl pastDue c) := by
  induction tasks generalizing c with
  | nil => exact ⟨rfl, fun t => by simp⟩
  | cons t tasks ih =>
    obtain ⟨hfirst, hbit⟩ := c.pastDue_spec t
    obtain ⟨hrest, hbits⟩ := ih (c.pastDue t)
    refine ⟨?_, fun u => ?_⟩
    · unfold OnlyRecords at hfirst hrest ⊢
      rw [List.foldl_cons, hrest, hfirst]
    · rw [List.foldl_cons, hbits, hbit, List.contains_cons, List.contains_cons, List.contains_nil, Bool.or_false, Bool.or_assoc]

/-- What the deadlines leave: the bits of the tasks past due, and a daily self-test among them due. -/
theorem deadlines_spec (c : Core) :
    OnlyRecords { c with rep := { c.rep with bgdefer := c.deadlines.rep.bgdefer, testDue := c.deadlines.rep.testDue, bgDue := c.deadlines.rep.bgDue } }
      c.deadlines ∧
    c.deadlines.rep.testDue = (c.rep.testDue || c.deadline 1 == some 0) ∧
    ∀ t : Fin 5, c.deadlines.rep.bgdefer.getLsbD t.val = (c.rep.bgdefer.getLsbD t.val || c.deadline t == some 0) := by
  have hdeadlines : c.deadlines = c.dueTasks.foldl pastDue
      (if c.dueTasks.contains 1 then { c with rep := { c.rep with testDue := true, bgDue := c.rep.bgDue ||| 2#5 } } else c) := rfl
  obtain ⟨honly, hbits⟩ := foldl_pastDue c.dueTasks
      (if c.dueTasks.contains 1 then { c with rep := { c.rep with testDue := true, bgDue := c.rep.bgDue ||| 2#5 } } else c)
  rw [← hdeadlines] at honly hbits
  rw [contains_dueTasks] at honly hbits
  cases h1 : c.deadline 1 == some 0
  all_goals
    simp only [h1, Bool.false_eq_true, if_false, if_true, contains_dueTasks] at honly hbits
    unfold OnlyRecords at honly ⊢
    refine ⟨?_, ?_, hbits⟩
  · rw [honly]
  · rw [Bool.or_false, honly]
  · rw [honly]
  · rw [Bool.or_true, honly]

/-- At the alarm the tasks are judged with the count at the alarm, and then the tile wakes (R394, Table POWER-3). -/
theorem alarm_of_asleep {c : Core} (hasleep : c.pw.phase.isAsleep = true) (hset : c.pw.alarmSet = true) :
    c.alarm =
      let n := (c.pw.alarm - c.pw.rtc).toNat
      let d := ({ c with
        pw := { c.pw with rtc := c.pw.alarm, alarmSet := false }
        rep := { c.rep with rtcLong := c.rep.rtcLong + n, lifeT := c.rep.lifeT + n } } : Core).deadlines
      d.wakeSource (bitMask 4) (if d.maintIsDue then .run else .quiet) false := by
  have hgo : (c.pw.phase.isAsleep && c.pw.alarmSet) = true := by rw [hasleep, hset]; rfl
  rw [alarm, hgo, when_true]
  rfl

/-- A wake at a deadline: the tasks past due, then the wake, whose state a MAINT frame that is due names (R394). -/
theorem deadlineWake_spec (x : Core) (hasleep : x.pw.phase.isAsleep = true) :
    let d := x.deadlines
    let c := d.wakeSource (bitMask 4) (if d.maintIsDue then .run else .quiet) false
    let target := if c.maintIsDue then Phase.run else .quiet
    OnlyRecords { x with
      pw := { x.pw with wakesrc := x.pw.wakesrc ||| bitMask 4, waking := true
                        wakeTarget := if x.pw.waking then higher x.pw.wakeTarget target else target }
      rep := { x.rep with bgdefer := c.rep.bgdefer, testDue := c.rep.testDue, bgDue := c.rep.bgDue } } c ∧
    c.rep.testDue = (x.rep.testDue || x.deadline 1 == some 0) ∧
    ∀ t : Fin 5, c.rep.bgdefer.getLsbD t.val = (x.rep.bgdefer.getLsbD t.val || x.deadline t == some 0) := by
  intro d c target
  obtain ⟨honly, htest, hbits⟩ := x.deadlines_spec
  have hpw : d.pw = x.pw := by rw [show d = _ from honly]
  have hwake : OnlyRecords _ c := wakeSource_only (c := d) (by rw [hpw]; exact hasleep) (bitMask 4) (if d.maintIsDue then .run else .quiet)
  have hmaint : c.maintIsDue = d.maintIsDue := by
    rw [show c = _ from hwake]
    rfl
  have hrep : c.rep.testDue = d.rep.testDue ∧ c.rep.bgdefer = d.rep.bgdefer ∧ c.rep.bgDue = d.rep.bgDue :=
    ⟨by rw [hwake], hwake.rep_bgdefer, hwake.rep_bgDue⟩
  obtain ⟨hctest, hcdefer, hcdue⟩ := hrep
  rw [show target = if d.maintIsDue then Phase.run else .quiet from by rw [← hmaint]]
  rw [hctest, hcdefer, hcdue]
  refine ⟨?_, htest, hbits⟩
  refine OnlyRecords.trans ?_ hwake
  have hd : d = _ := honly
  unfold OnlyRecords
  rw [hpw]
  rw [hd]

end Core

/-- Settles O4: every source latches and starts the wake; the alarm judges the deadlines first. -/
theorem wakeSourcesComplete : Obligations.WakeSourcesComplete := by
  intro s hphase named
  have hasleep : s.core.pw.phase.isAsleep = true := (isAsleep_iff _).mpr hphase
  refine ⟨(gives_csWake s).leaves ?_, fun p hmon hmode hsev hnoise => (gives_linkStartEdgeWake p s).leaves ?_,
    fun l huse harmed hmask => (gives_ladderWake l s).leaves ?_, fun e hen => (gives_encoderEdgeWake e s).leaves ?_,
    fun hset => (gives_rtcAlarm s).leaves ?_⟩
  · rw [Core.csWake, hasleep, Core.when_true, Core.wakeSource_of_asleep (by exact hasleep), Bool.or_true]
    rfl
  · have hgo : (s.core.pw.phase.isAsleep && (s.core.port p).mon == .live && (s.core.port p).cfg.mode != 0#2 && !(s.core.port p).sevMask &&
        !(s.core.port p).noiseMask) = true := by simp [hasleep, hmon, hmode, hsev, hnoise]
    have hbits : bitMask 1 ||| bitMask (8 + p.val) = 0x0002#16 ||| (0x0100#16 <<< p.val) := by
      fin_cases p <;> rfl
    rw [Core.linkWake, hgo, Core.when_true, hbits]
    exact Core.wakeSource_only (by exact hasleep) _ _
  · have hgo : (s.core.pw.phase.isAsleep && s.core.ladderInUse l && (s.core.ladder l).armed && !(s.core.ladder l).masked) = true := by
      simp [hasleep, huse, harmed, hmask]
    rw [Core.ladderWake, hgo, Core.when_true]
    exact Core.wakeSource_only (by exact hasleep) _ _
  · have hgo : (s.core.pw.phase.isAsleep && s.core.prof.encEn e.val) = true := by simp [hasleep, hen]
    rw [Core.encoderWake, hgo, Core.when_true]
    exact Core.wakeSource_only (by exact hasleep) _ _
  · rw [Core.alarm_of_asleep hasleep hset]
    exact Core.deadlineWake_spec _ hasleep

end Sys2Proof.Machine

/-!
PROOFS. Frames that wait (chapter 08, R254, R256, R274): a frame sent on a port waits there, and what is sent on every port waits on each.
-/
namespace Sys2Proof.Machine

/-- `d` is `c` with frames added to those that wait on its ports. -/
structure Queued (c d : Core) : Prop where
  only : OnlyTxq c d
  length : d.lnk.length = c.lnk.length
  kept : ∀ (p : Port), ∀ f ∈ (c.port p).txq, f ∈ (d.port p).txq

namespace Queued

theorem refl (c : Core) : Queued c c := ⟨.refl c, rfl, fun _ _ h => h⟩

theorem trans {a b c : Core} (h : Queued a b) (k : Queued b c) : Queued a c :=
  ⟨h.only.trans k.only, k.length.trans h.length, fun p f hf => k.kept p f (h.kept p f hf)⟩

end Queued

@[simp] theorem modifyAt_length {α : Type} (l : List α) (i : Nat) (f : α → α) : (modifyAt l i f).length = l.length := by
  unfold modifyAt
  split <;> simp

namespace Core

/-- A frame sent takes its place among those that wait. -/
theorem sendFrame_txq (c : Core) (p : Port) (b : LinkBody) (hp : p.val < c.lnk.length) (f : TxFrame) :
    f ∈ ((c.sendFrame p b).port p).txq ↔ f = { body := b, lseq := none, tries := 0, carries := none, again := false } ∨ f ∈ (c.port p).txq := by
  unfold sendFrame
  dsimp only
  rw [modPort_port, if_pos ⟨rfl, hp⟩]
  dsimp only
  have hsplit := List.takeWhile_append_dropWhile (p := fun g : TxFrame => decide (g.body.txRank ≤ b.txRank)) (l := (c.port p).txq)
  conv_rhs => rw [← hsplit]
  simp only [List.mem_append, List.mem_singleton]
  tauto

theorem sendFrame_queued (c : Core) (p : Port) (b : LinkBody) : Queued c (c.sendFrame p b) := by
  refine ⟨c.sendFrame_only p b, modifyAt_length _ _ _, fun q f hf => ?_⟩
  by_cases hpq : p = q ∧ q.val < c.lnk.length
  · obtain ⟨rfl, hlen⟩ := hpq
    exact (c.sendFrame_txq p b hlen f).mpr (.inr hf)
  · have hsame : (c.sendFrame p b).port q = c.port q := by
      unfold sendFrame
      rw [modPort_port, if_neg hpq]
    rwa [hsame]

/-- A frame sent waits on its port. -/
theorem exists_sent (c : Core) (p : Port) (b : LinkBody) (hp : p.val < c.lnk.length) : ∃ f ∈ ((c.sendFrame p b).port p).txq, f.body = b :=
  ⟨_, (c.sendFrame_txq p b hp _).mpr (.inl rfl), rfl⟩

/-- A frame on each port of a list that satisfies a test. -/
def sendEach (q : Core → Port → Bool) (b : Core → Port → LinkBody) (l : List Port) (c : Core) : Core :=
  l.foldl (fun c p => c.when (q c p) (fun c => c.sendFrame p (b c p))) c

section

variable {q : Core → Port → Bool} {b : Core → Port → LinkBody}

theorem sendEach_queued (l : List Port) (c : Core) : Queued c (sendEach q b l c) :=
  foldl_keeps Queued Queued.refl (fun _ _ _ => Queued.trans) _
    (fun c _ => when_keeps Queued Queued.refl c _ _ (c.sendFrame_queued _ _)) l c

/-- Test and body do not depend on the frames that wait. -/
def TxqBlind {α : Type} (q : Core → Port → α) : Prop := ∀ c d p, OnlyTxq c d → q d p = q c p

/-- Each port that satisfies the test has its frame. -/
theorem exists_sendEach (hq : TxqBlind q) (hb : TxqBlind b) (l : List Port) (c : Core) {p : Port} (hmem : p ∈ l) (hp : q c p = true)
    (hlen : p.val < c.lnk.length) : ∃ f ∈ ((sendEach q b l c).port p).txq, f.body = b c p := by
  induction l generalizing c with
  | nil => cases hmem
  | cons r l ih =>
    have hfirst : Queued c (c.when (q c r) (fun c => c.sendFrame r (b c r))) :=
      when_keeps Queued Queued.refl c _ _ (c.sendFrame_queued _ _)
    have hsplit : sendEach q b (r :: l) c = sendEach q b l (c.when (q c r) (fun c => c.sendFrame r (b c r))) := rfl
    rw [hsplit]
    by_cases hpr : p = r
    · subst hpr
      obtain ⟨f, hf, hbody⟩ : ∃ f ∈ ((c.when (q c p) (fun c => c.sendFrame p (b c p))).port p).txq, f.body = b c p := by
        rw [hp, when_true]
        exact c.exists_sent p _ hlen
      exact ⟨f, (sendEach_queued l _).kept p f hf, hbody⟩
    · have hrest : p ∈ l := by simpa [hpr] using hmem
      obtain ⟨f, hf, hbody⟩ := ih _ hrest (by rw [hq _ _ p hfirst.only, hp]) (by rw [hfirst.length]; exact hlen)
      exact ⟨f, hf, hbody.trans (hb _ _ p hfirst.only)⟩

end

theorem mem_ports (p : Port) : p ∈ ports := by
  fin_cases p <;> decide

theorem helloPort_blind : TxqBlind helloPort := fun c d p h => by rw [helloPort, h.2 p]; rfl

/-- A port that HELLO can go out on is one of the tile's. -/
theorem lt_length_of_helloPort {c : Core} {p : Port} (h : c.helloPort p = true) : p.val < c.lnk.length := by
  by_contra hout
  have hreset : c.port p = LinkPort.reset := by simp [port, List.getElem?_eq_none (Nat.le_of_not_lt hout)]
  rw [helloPort, hreset] at h
  exact absurd h (by decide)

end Core

end Sys2Proof.Machine

/-!
PROOFS. Entries to Doze and Watch (chapter 02, R50 to R61, R193, R207, R274, R441, Table POWER-4): the decision, its retry, and the switch-over.
-/
namespace Sys2Proof.Machine

theorem gives_dozeEntrySwitchover (m : BitVec 8) (s : State) : Gives (.dozeEntrySwitchover m) s (s.core.switchover m) := rfl
theorem gives_dozeEntryAbandon (s : State) : Gives .dozeEntryAbandon s s.core.abandonEntry := rfl
theorem gives_dozeEntryRetry (s : State) : Gives .dozeEntryRetry s s.core.retryEntry := rfl
theorem gives_runIdleElapsed (s : State) : Gives .runIdleElapsed s s.core.runIdle := rfl
theorem gives_quietIdleElapsed (s : State) : Gives .quietIdleElapsed s s.core.quietIdle := rfl
theorem gives_bareIdleElapsed (s : State) : Gives .bareIdleElapsed s s.core.bareIdle := rfl

namespace Core

/-! ### The decision to enter (step E1) -/

/-- A forced release changes the keys and places records (R212). -/
theorem forceRelease_only (c : Core) : OnlyRecords { c with keys := c.forceRelease.keys } c.forceRelease := by
  have hstep : ∀ (c : Core) (l : Ladder) (k : Key) (mask hold : Nat), OnlyRecords c (c.keyRecord 1 l k true mask hold) := by
    intro c l k mask hold
    unfold keyRecord
    dsimp only
    split
    · exact placeAll_only _ _ _
    · rfl
    · exact placeAll_only _ _ _
  have hkeep : ∀ (c : Core) (keys : Keys) (l : Ladder) (k : Key) (mask hold : Nat),
      (fun a b : Core => OnlyRecords { a with keys := b.keys } b) c (keyRecord { c with keys := keys } 1 l k true mask hold) := by
    intro c keys l k mask hold
    have h := hstep { c with keys := keys } l k mask hold
    rw [h.keys]
    exact h
  have htrans : ∀ a b c : Core, OnlyRecords { a with keys := b.keys } b → OnlyRecords { b with keys := c.keys } c →
      OnlyRecords { a with keys := c.keys } c := by
    intro a b c h k
    unfold OnlyRecords at *
    rw [k, h]
  unfold forceRelease
  exact htrans _ _ _ (foldl_keeps (fun a b : Core => OnlyRecords { a with keys := b.keys } b) (fun _ => rfl) htrans _
    (fun c lk => hkeep c _ _ _ _ _) _ c) rfl

/-- The power part of a tile that has decided to enter Doze or Watch. -/
def decidedPower (c : Core) (target : Phase) (byReq : Bool) : Power :=
  { c.pw with entry := some { target := target, byReq := byReq }, retry := none, req := 0#4, idleDue := false }

/-- A decision for an idle entry in Quiet or BARE tells the partners and changes nothing else (R274). -/
theorem decideEntry_idle {c : Core} (hrun : c.pw.phase ≠ .run) (target : Phase) :
    c.decideEntry target false = dozeAll { c with pw := c.decidedPower target false } (BitVec.ofNat 8 target.code.toNat) := by
  rw [decideEntry_eq, if_neg (by simp), if_neg (by simpa using hrun)]
  rfl

/-- A decision in Quiet or BARE: the keys released where it is by request, and DOZE sent (R212, R274). -/
theorem decideEntry_spec {c : Core} (hrun : c.pw.phase ≠ .run) (target : Phase) (byReq : Bool) :
    ∃ d, OnlyRecords { c with pw := c.decidedPower target byReq, keys := d.keys } d ∧
      c.decideEntry target byReq = d.dozeAll (BitVec.ofNat 8 target.code.toNat) := by
  cases byReq with
  | false => exact ⟨{ c with pw := c.decidedPower target false }, rfl, decideEntry_idle hrun target⟩
  | true =>
    have h := c.forceRelease_only
    refine ⟨_, ?_, by rw [decideEntry_eq, if_pos rfl, if_neg (by simpa using hrun)]⟩
    unfold OnlyRecords at h ⊢
    rw [h]
    rfl

/-- DOZE waits on every LIVE port after a decision (R274). -/
theorem exists_dozeAll (c : Core) (b : Byte) {p : Port} (hp : c.helloPort p = true) : ∃ f ∈ ((c.dozeAll b).port p).txq, f.body = .doze b :=
  exists_sendEach (b := fun _ _ => .doze b) helloPort_blind (fun _ _ _ _ => rfl) ports c (mem_ports p) hp (lt_length_of_helloPort hp)

/-! ### The switch-over (step E3) -/

/-- The power part in Doze or Watch after step E3 (Table POWER-4). -/
def sleepPower (c : Core) (target : Phase) (byReq : Bool) (alarm : BitVec 32) : Power :=
  { c.pw with
    phase := target, entry := none, waking := false, csWoke := false, wakeTarget := .doze, refbuf := false, refrdy := false
    pump := false, reqState := byReq, alarm := alarm, alarmSet := true }

/-- A ladder as step E3 leaves it: armed where its comparator shows it at rest (R207). -/
def armedBy (m : BitVec 8) (l : LadderSt × Nat) : LadderSt := { l.1 with armed := m.getLsbD l.2, latch := false }

/-- The keys, ladders and encoders after step E3. -/
def sleepKeys (c : Core) (m : BitVec 8) : Keys :=
  { c.keys with
    ladders := c.keys.ladders.zipIdx.map (armedBy m), encs := c.keys.encs.map (fun e => { e with latch := false })
    caretaker := ComboSt.reset, provision := ComboSt.reset, recs := [] }

/-- The converter and the sample engine after step E3: conversions and frames have stopped. -/
def sleepAcq (c : Core) : Core :=
  { c with
    sar := { c.sar with cur := none, sysQ := [], userNext := none, userBegun := false, useq := c.sar.useqReg, urgent := c.sar.urgent.map (fun u =>
      { u with left := u.count, win := Tracker.code }) }
    acq := { c.acq with running := false, slot := none, watch := List.replicate 4 WatchGroup.reset, wgStep := 0, wgAge := 0 } }

/-- The tile after step E3, but for the key records placed before it and the bit of ATTNSRC for the new state. -/
def asleep (c : Core) (target : Phase) (byReq : Bool) (m : BitVec 8) (alarm : BitVec 32) (held : Bool) : Core :=
  { c.sleepAcq with
    pw := c.sleepPower target byReq alarm, keys := c.sleepKeys m, lnk := c.lnk.map (fun l => l.toNormal.disarm)
    host := { c.host with attnHeld := held } }

theorem placeKeyRecs_only (c : Core) : OnlyRecords { c with keys := { c.keys with recs := [] } } c.placeKeyRecs :=
  foldl_only _ (fun c (_ : PendRec) => c.placeAll_only _ _) _ _

theorem placeKeyRecs_of_nil {c : Core} (h : c.keys.recs = []) : c.placeKeyRecs = c := by
  unfold placeKeyRecs
  rw [h, List.foldl_nil]
  exact congrArg (fun r => { c with keys := { c.keys with recs := r } }) h.symm

/-- A bit of ATTNSRC alone. -/
theorem attnIf_eq (c : Core) (b : Bool) (n : Nat) :
    c.attnIf b n = { c with host := { c.host with attnsrc := (c.attnIf b n).host.attnsrc } } := by
  unfold attnIf attn
  split
  · split <;> rfl
  · rfl

/-- What the switch-over leaves, beside the key records placed before it. -/
theorem switchOver_only (c : Core) (target : Phase) (byReq : Bool) (m : BitVec 8) :
    OnlyRecords (c.asleep target byReq m (c.switchOver target byReq m).pw.alarm c.placeKeyRecs.attnLow) (c.switchOver target byReq m) := by
  have hplace := c.placeKeyRecs_only
  unfold switchOver setPhase
  dsimp only
  generalize c.placeKeyRecs = e at *
  rw [attnIf_eq]
  unfold OnlyRecords at *
  rw [hplace]
  rfl

/-- Without key records that wait, the switch-over places none, and ATTN# holds the level it had (R316). -/
theorem switchOver_of_no_records {c : Core} (h : c.keys.recs = []) (target : Phase) (byReq : Bool) (m : BitVec 8) :
    (c.switchOver target byReq m).qs = c.qs ∧ (c.switchOver target byReq m).rep = c.rep ∧
      (c.switchOver target byReq m).host.attnHeld = c.attnLow := by
  unfold switchOver setPhase
  rw [placeKeyRecs_of_nil h]
  dsimp only
  rw [attnIf_eq]
  exact ⟨rfl, rfl, rfl⟩

/-- A ladder after step E3. -/
theorem ladder_asleep (c : Core) (target : Phase) (byReq : Bool) (m : BitVec 8) (alarm : BitVec 32) (held : Bool) (l : Ladder) :
    (c.asleep target byReq m alarm held).ladder l =
      if l.val < c.keys.ladders.length then armedBy m (c.ladder l, l.val) else LadderSt.reset := by
  have hl : (c.asleep target byReq m alarm held).ladder l = (c.keys.ladders.zipIdx.map (armedBy m)).getD l.val LadderSt.reset := rfl
  rw [hl, ladder]
  split <;> simp [*, List.getD_eq_getElem?_getD]

/-- A port after step E3. -/
theorem port_asleep (c : Core) (target : Phase) (byReq : Bool) (m : BitVec 8) (alarm : BitVec 32) (held : Bool) (p : Port) :
    (c.asleep target byReq m alarm held).port p =
      if p.val < c.lnk.length then (c.port p).toNormal.disarm else LinkPort.reset := by
  have hp : (c.asleep target byReq m alarm held).port p = (c.lnk.map (fun l => l.toNormal.disarm)).getD p.val LinkPort.reset := rfl
  rw [hp, port]
  split <;> simp [*, List.getD_eq_getElem?_getD]

theorem ladder_congr {c d : Core} (h : d.keys = c.keys) (l : Ladder) : d.ladder l = c.ladder l := by rw [ladder, ladder, h]
theorem port_congr {c d : Core} (h : d.lnk = c.lnk) (p : Port) : d.port p = c.port p := by rw [port, port, h]

/-- A ladder past the last is at rest. -/
theorem ladder_of_le {c : Core} {l : Ladder} (h : ¬ l.val < c.keys.ladders.length) : c.ladder l = LadderSt.reset := by
  simp [ladder, List.getElem?_eq_none (Nat.le_of_not_lt h)]

/-- A port past the last is as at reset. -/
theorem port_of_le {c : Core} {p : Port} (h : ¬ p.val < c.lnk.length) : c.port p = LinkPort.reset := by
  simp [port, List.getElem?_eq_none (Nat.le_of_not_lt h)]

/-- The switch-over arms the ladders and clears their latches (R207). -/
theorem switchOver_ladder (c : Core) (target : Phase) (byReq : Bool) (m : BitVec 8) (l : Ladder) :
    let d := c.switchOver target byReq m
    d.ladder l = { c.ladder l with armed := (d.ladder l).armed, latch := false } ∧
      (l.val < c.keys.ladders.length → (d.ladder l).armed = m.getLsbD l.val) := by
  dsimp only
  rw [ladder_congr (c.switchOver_only target byReq m).keys, ladder_asleep]
  split
  case isTrue hin => exact ⟨rfl, fun _ => rfl⟩
  case isFalse hout => exact ⟨by rw [ladder_of_le hout]; rfl, fun h => absurd h hout⟩

/-- The switch-over puts the ports back in NORMAL operation (R61, R332). -/
theorem switchOver_port (c : Core) (target : Phase) (byReq : Bool) (m : BitVec 8) (p : Port) :
    let d := c.switchOver target byReq m
    (d.port p).op = 0#2 ∧ (d.port p).txbrk = false ∧ (d.port p).mon = (c.port p).mon ∧ (d.port p).cfg = (c.port p).cfg := by
  dsimp only
  rw [port_congr (c.switchOver_only target byReq m).lnk, port_asleep]
  split
  case isTrue hin => exact ⟨rfl, rfl, rfl, rfl⟩
  case isFalse hout => rw [port_of_le hout]; exact ⟨rfl, rfl, rfl, rfl⟩

/-- A retry in an awake state without another decision (R60). -/
theorem retryEntry_of_awake {c : Core} {e : DozeEntry} (hretry : c.pw.retry = some e) (hentry : c.pw.entry = none)
    (hawake : c.pw.phase.isAwake = true) :
    c.retryEntry =
      if c.pw.phase != .bare && !e.byReq && c.keptBelowFloor e.target then c.modPw (fun p => { p with retry := none })
      else if c.pw.phase == .run then
        c.modPw (fun p => if e.byReq then { p with retry := none, req := e.target.code } else { p with retry := none, idleDue := true })
      else c.decideEntry e.target e.byReq := by
  simp only [retryEntry, hretry, hentry, hawake, Option.isNone_none, Bool.and_self, when_true]

theorem helloPort_congr {c d : Core} (h : d.lnk = c.lnk) (p : Port) : d.helloPort p = c.helloPort p := by
  rw [helloPort, helloPort, port_congr h]

end Core

/-- Settles O5: each command's guard is met, the switch-over leaves the sleeping tile, and a retry goes by its state. -/
theorem dozeEntryCompletes : Obligations.DozeEntryCompletes := by
  unfold Obligations.DozeEntryCompletes
  refine ⟨fun s e m hentry hawake hquiet => (gives_dozeEntrySwitchover m s).leaves ?_,
    fun s e hentry hawake => (gives_dozeEntryAbandon s).congr ?_,
    fun s e hretry hentry hphase hreq hbelow => (gives_dozeEntryRetry s).congr ?_,
    fun s e hretry hentry hrun hgo => (gives_dozeEntryRetry s).congr ?_,
    fun s e hretry hentry hphase hgo => (gives_dozeEntryRetry s).leaves ?_⟩
  case refine_1 =>
    have hover : s.core.switchover m = s.core.switchOver e.target e.byReq m := by
      simp only [Core.switchover, hentry, hawake, hquiet, Bool.and_self, Core.when_true]
    rw [hover]
    have h := s.core.switchOver_only e.target e.byReq m
    have hladder := s.core.switchOver_ladder e.target e.byReq m
    have hport := s.core.switchOver_port e.target e.byReq m
    have hnone := fun hrecs => Core.switchOver_of_no_records (c := s.core) hrecs e.target e.byReq m
    generalize s.core.switchOver e.target e.byReq m = c at *
    have hpw : c.pw = s.core.sleepPower e.target e.byReq c.pw.alarm := h.pw
    have hrep : c.rep = { s.core.rep with tele := c.rep.tele } := congrArg Core.rep h
    rw [hpw, h.sar, h.acq, h.nvm, h.ret, h.prof, h.hg, h.node, h.trk, h.ten, h.pk, h.keys]
    exact ⟨rfl, rfl, rfl, rfl, rfl, rfl, rfl, rfl, rfl, rfl, rfl, rfl, rfl, rfl, rfl, rfl, rfl, fun l => (hladder l).1, fun l => (hladder l).2,
      hport, rfl, rfl, rfl, rfl, rfl, rfl, rfl, rfl, rfl, hrep, hnone⟩
  case refine_2 =>
    have hsome : s.core.pw.entry.isSome = true := by rw [hentry]; rfl
    rw [Core.abandonEntry, hawake, hsome, Bool.and_self, Core.when_true]
    exact congrArg (fun v => { s.core with pw := { s.core.pw with entry := none, retry := v } }) hentry
  case refine_3 =>
    have hawake : s.core.pw.phase.isAwake = true := by rcases hphase with h | h <;> rw [h] <;> rfl
    have hbare : (s.core.pw.phase != .bare) = true := by rcases hphase with h | h <;> rw [h] <;> rfl
    rw [Core.retryEntry_of_awake hretry hentry hawake, hbare, hreq, hbelow]
    rfl
  case refine_4 =>
    have hguard : ¬ (s.core.pw.phase != .bare && !e.byReq && s.core.keptBelowFloor e.target) = true := by
      rcases hgo with h | h <;> simp [h]
    rw [Core.retryEntry_of_awake hretry hentry (by rw [hrun]; rfl), if_neg hguard, if_pos (by rw [hrun]; rfl)]
    cases e.byReq <;> rfl
  case refine_5 =>
    have hawake : s.core.pw.phase.isAwake = true := by rcases hphase with h | h <;> rw [h] <;> rfl
    have hrun : s.core.pw.phase ≠ .run := by rcases hphase with h | h <;> simp [h]
    have hguard : ¬ (s.core.pw.phase != .bare && !e.byReq && s.core.keptBelowFloor e.target) = true := by
      rcases hgo with h | h | h <;> simp [h]
    rw [Core.retryEntry_of_awake hretry hentry hawake, if_neg hguard, if_neg (by simpa using hrun)]
    obtain ⟨d, honly, hdecided⟩ := Core.decideEntry_spec hrun e.target e.byReq
    obtain ⟨hsame, hports⟩ := d.dozeAll_only (BitVec.ofNat 8 e.target.code.toNat)
    rw [hdecided]
    refine ⟨?_, ?_, ?_, ?_, ?_, ?_, fun p => ?_, fun p hp => Core.exists_dozeAll d _ ?_⟩
    · rw [hsame]; exact honly.pw.trans (by cases e; rfl)
    · rw [hsame]; exact honly.nvm
    · rw [hsame]; exact honly.hg
    · rw [hsame]; exact honly.trk
    · rw [hsame]; exact honly.acq
    · rw [hsame]; exact honly.prof
    · rw [hports p, Core.port_congr honly.lnk p]
      exact ⟨rfl, rfl⟩
    · rwa [Core.helloPort_congr honly.lnk p]

/-- The idle decision changes the power part and what waits on the ports. -/
theorem Core.decideEntry_idle_spec {c : Core} (hrun : c.pw.phase ≠ .run) (target : Phase) :
    (c.decideEntry target false).pw = c.decidedPower target false ∧
      c.decideEntry target false = { c with pw := (c.decideEntry target false).pw, lnk := (c.decideEntry target false).lnk } := by
  rw [Core.decideEntry_idle hrun]
  obtain ⟨hsame, -⟩ := Core.dozeAll_only { c with pw := c.decidedPower target false } (BitVec.ofNat 8 target.code.toNat)
  have hpw := congrArg Core.pw hsame
  exact ⟨hpw, by rw [hpw]; exact hsame⟩

/-- Settles O6: the guard of each idle time is met, and in Quiet and BARE an idle entry is decided. -/
theorem idleTimesComplete : Obligations.IdleTimesComplete := by
  unfold Obligations.IdleTimesComplete
  refine ⟨fun s hrun hentry hcands hhover hheld htarget => (gives_runIdleElapsed s).congr ?_,
    fun s hquiet hentry hasleep hpanel hladders => (gives_quietIdleElapsed s).leaves ?_,
    fun s hbare hentry hpanel => (gives_bareIdleElapsed s).leaves ?_⟩
  · have hnone : (s.core.trk.contacts.any fun k => !k.isCand) = false := by simpa using hcands
    have hbelow : (s.core.idleTarget != .run) = true := by simpa using htarget
    have hguard : (s.core.pw.phase == .run && s.core.pw.entry.isNone && !s.core.trk.contacts.any (fun k => !k.isCand) &&
        s.core.trk.hover.isNone && !s.core.heldByCommand && s.core.idleTarget != .run) = true := by
      rw [hrun, hentry, hnone, hhover, hheld, hbelow]; rfl
    rw [Core.runIdle, hguard, Core.when_true]
    rfl
  · have hnone : (([0, 1, 2, 3, 4, 5, 6, 7] : List Ladder).any s.core.ladderHolds) = false :=
      List.any_eq_false.mpr (fun l _ => by simp [hladders l])
    have hguard : (s.core.pw.phase == .quiet && s.core.pw.entry.isNone && s.core.idleTarget.isAsleep && !s.core.panelRuns &&
        !([0, 1, 2, 3, 4, 5, 6, 7] : List Ladder).any s.core.ladderHolds) = true := by
      rw [hquiet, hentry, hasleep, hpanel, hnone]; rfl
    rw [Core.quietIdle, hguard, Core.when_true]
    exact Core.decideEntry_idle_spec (c := s.core) (by simp [hquiet]) _
  · have hguard : (s.core.pw.phase == .bare && s.core.pw.entry.isNone && !s.core.panelRuns) = true := by
      rw [hbare, hentry, hpanel]; rfl
    rw [Core.bareIdle, hguard, Core.when_true]
    exact Core.decideEntry_idle_spec (c := s.core) (by simp [hbare]) _

end Sys2Proof.Machine

/-!
PROOFS. Ladders, encoders, hardware combinations and physical presence (chapter 06, R204 to R219, R327).
-/
namespace Sys2Proof.Machine

theorem gives_keyLong (l : Ladder) (k : Key) (s : State) : Gives (.keyLong l k) s (s.core.keyLong l k) := rfl
theorem gives_keyStuck (l : Ladder) (k : Key) (s : State) : Gives (.keyStuck l k) s (s.core.keyStuck l k) := rfl
theorem gives_ladderFault (l : Ladder) (s : State) : Gives (.ladderFault l) s (s.core.ladderFault l) := rfl
theorem gives_ladderArm (l : Ladder) (s : State) : Gives (.ladderArm l) s (s.core.ladderArm l) := rfl
theorem gives_ladderWakeSpurious (l : Ladder) (s : State) : Gives (.ladderWakeSpurious l) s (s.core.ladderSpurious l) := rfl
theorem gives_ladderMaskEnd (l : Ladder) (s : State) :
    Gives (.ladderMaskEnd l) s (s.core.modLadder l (fun x => { x with masked := false })) := rfl
theorem gives_encoderTransition (e : Fin 2) (a b : Bool) (s : State) : Gives (.encoderTransition e a b) s (s.core.encoderStep e a b) := rfl
theorem gives_encoderReport (e : Fin 2) (s : State) :
    Gives (.encoderReport e) s (s.core.when (s.core.pw.phase == .quiet) (fun c => c.encoderRecord e)) := rfl
theorem gives_combinationA (s : State) : Gives .combinationA s s.core.combA := rfl
theorem gives_combinationB (s : State) : Gives .combinationB s s.core.combB := rfl
theorem gives_provisioningHold (s : State) : Gives .provisioningHold s s.core.provHold := rfl
theorem gives_presenceEnd (s : State) : Gives .presenceEnd s (s.core.setPresence s.core.pw.provPin false) := rfl
theorem gives_provPin (s : State) : Gives .provPin s (s.core.setProv true) := rfl
theorem gives_provRelease (s : State) : Gives .provRelease s (s.core.setProv false) := rfl

namespace Core

/-! ### Keys (R204 to R213) -/

/-- A ladder after a change of one. -/
theorem modLadder_ladder (c : Core) (l m : Ladder) (f : LadderSt → LadderSt) :
    (c.modLadder l f).ladder m = if l = m ∧ m.val < c.keys.ladders.length then f (c.ladder m) else c.ladder m := by
  simp only [ladder, modLadder, modifyAt_getD, Fin.ext_iff]

/-- A key that is down belongs to a ladder of the tile, which has it. -/
theorem of_keyDown {c : Core} {l : Ladder} {k : Key} (h : c.keyDown l k = true) :
    l.val < c.keys.ladders.length ∧ k.val < (c.ladder l).keys.length := by
  have hany : ((c.ladder l).keys[k.val]?).any (fun x => x.st == .pressed || x.st == .pendR) = true := by
    rw [keyDown, Bool.and_eq_true, Bool.and_eq_true] at h
    exact h.1.1
  constructor
  · by_contra hout
    rw [ladder_of_le hout] at hany
    revert hany
    fin_cases k <;> decide
  · by_contra hout
    rw [List.getElem?_eq_none (Nat.le_of_not_lt hout)] at hany
    exact absurd hany (by decide)

/-- The mask of the keys that are down does not depend on their hold times. -/
theorem keyMask_modifyAt (s : LadderSt) (k : Nat) {f : KeySt → KeySt} (hf : ∀ x, (f x).st = x.st) :
    keyMask { s with keys := modifyAt s.keys k f } = keyMask s := by
  unfold keyMask
  refine congrArg List.sum (List.map_congr_left fun i _ => ?_)
  unfold modifyAt
  cases hk : s.keys[k]? with
  | none => rfl
  | some x =>
    by_cases hik : k = i
    · subst hik
      obtain ⟨hlt, -⟩ := List.getElem?_eq_some_iff.mp hk
      simp only [List.getElem?_set_self hlt, hk, hf]
    · simp only [List.getElem?_set_ne hik]

/-- In Run a key record waits for the REPORT slot (R213). -/
theorem keyRecord_of_run {c : Core} (h : c.pw.phase = .run) (event : Nat) (l : Ladder) (k : Key) (hold : Nat) :
    c.keyRecord event l k false (keyMask (c.ladder l)) hold =
      { c with keys := { c.keys with recs := c.keys.recs ++ [c.keyRec event l k hold] } } := by
  unfold keyRecord
  rw [h]
  rfl

/-- The record of a key whose hold timer has just been raised (R211). -/
theorem keyRecord_modKey {c : Core} {l : Ladder} {k : Key} (hrun : c.pw.phase = .run) (hdown : c.keyDown l k = true) (event : Nat)
    (f : KeySt → KeySt) (hf : ∀ x, (f x).st = x.st) (hold : Nat) (hhold : (f ((c.ladder l).keys.getD k.val KeySt.rest)).hold = hold) :
    (c.modKey l k f).keyRecord event l k false (keyMask ((c.modKey l k f).ladder l)) ((c.modKey l k f).keyHold l k) =
      { c with keys := { c.keys with
        ladders := modifyAt c.keys.ladders l.val (fun s => { s with keys := modifyAt s.keys k.val f })
        recs := c.keys.recs ++ [c.keyRec event l k hold] } } := by
  obtain ⟨hl, hk⟩ := of_keyDown hdown
  have hladder : (c.modKey l k f).ladder l = { c.ladder l with keys := modifyAt (c.ladder l).keys k.val f } := by
    rw [modKey, modLadder_ladder, if_pos ⟨rfl, hl⟩]
  have hraised : (c.modKey l k f).keyHold l k = hold := by
    rw [keyHold, hladder, modifyAt_getD, if_pos ⟨rfl, hk⟩, hhold]
  have hrec : (c.modKey l k f).keyRec event l k hold = c.keyRec event l k hold := by
    rw [keyRec, hladder, keyMask_modifyAt _ _ hf]
    rfl
  rw [hraised, keyRecord_of_run (c := c.modKey l k f) hrun, hrec]
  rfl

/-! ### Encoders, combinations and presence (R214 to R219) -/

theorem level_eq (a b : Bool) : BitVec.ofNat 2 (2 * bit a + bit b) = ((if a then 2#2 else 0#2) ||| (if b then 1#2 else 0#2)) := by
  cases a <;> cases b <;> rfl

/-- Awake without an entry to Doze a wake source has no effect (R58). -/
theorem wakeSource_of_awake {c : Core} (hasleep : c.pw.phase.isAsleep = false) (hentry : c.pw.entry = none) (bits : Word) (target : Phase)
    (cs : Bool) : c.wakeSource bits target cs = c := by
  simp [wakeSource, hasleep, hentry]

/-- A level enters the quadrature count of its encoder (R215). -/
theorem encoderStep_spec (c : Core) (e : Fin 2) (a b : Bool) (hun : c.pw.phase ≠ .unpowered) (hoff : c.pw.phase ≠ .off)
    (hreset : c.pw.phase ≠ .reset) (hentry : c.pw.entry = none) (hen : c.prof.encEn e.val = true) :
    c.encoderStep e a b = { c with
      keys := { c.keys with encs := modifyAt c.keys.encs e.val (fun _ =>
        Encoder.take (c.enc e) c.prof ((if a then 2#2 else 0#2) ||| (if b then 1#2 else 0#2))) }
      rep := { c.rep with tele := (c.encoderStep e a b).rep.tele } } := by
  have hguard : (c.powered && c.pw.phase != .reset && c.prof.encEn e.val) = true := by
    simp [powered, hun, hoff, hreset, hen]
  have hstay : ∀ d : Core, d.pw = c.pw → ∀ g : Bool, d.when (d.pw.phase.isAwake && g) (fun c => c.wakeSource (bitMask 3) .quiet false) = d := by
    intro d hd g
    rw [hd]
    cases hawake : c.pw.phase.isAwake
    · rfl
    · cases g
      · rfl
      · exact wakeSource_of_awake (by rw [hd]; revert hawake; cases c.pw.phase <;> decide) (by rw [hd, hentry]) _ _ _
  rw [encoderStep, hguard, when_true]
  dsimp only
  rw [level_eq, hstay]
  · rfl
  · rfl

/-- Presence rises once in ATTNSRC (R219). -/
theorem setPresence_rise (c : Core) (pin keys : Bool) (h : (pin || keys) = true) :
    c.setPresence pin keys = { c with
      pw := { c.pw with provPin := pin, provKeys := keys }
      host := { c.host with attnsrc := if !c.presence && c.pw.ready then c.host.attnsrc ||| 0x4000#16 else c.host.attnsrc } } := by
  unfold setPresence
  rw [h, Bool.and_true]
  cases hp : c.presence
  · cases hr : c.pw.ready <;> simp [attnIf, attn, hr, bitMask]
  · rfl

theorem setPresence_fall (c : Core) (pin keys : Bool) (h : (!c.presence && (pin || keys)) = false) :
    c.setPresence pin keys = { c with pw := { c.pw with provPin := pin, provKeys := keys } } := by
  rw [setPresence, h]
  rfl

end Core

/-- Settles O12: each guard is met, and in Run the raised hold timer stands in the key's record. -/
theorem ladderCommandsComplete : Obligations.LadderCommandsComplete := by
  unfold Obligations.LadderCommandsComplete
  refine ⟨fun s l k hdown hlong hrun hnew => (gives_keyLong l k s).congr ?_, fun s l k hdown hrun hnew => (gives_keyStuck l k s).leaves ?_,
    fun s l hinvalid hnew hawake => (gives_ladderFault l s).leaves ?_, fun s l hasleep => (gives_ladderArm l s).congr ?_,
    fun s l hawake hlatch hseen => ?_, fun s l => gives_ladderMaskEnd l s⟩
  · have hguard : (s.core.keyDown l k && s.core.prof.longMs != 0 && !((s.core.ladder l).keys.getD k.val KeySt.rest).long) = true := by
      rw [hdown, hnew]; simp [hlong]
    rw [Core.keyLong, hguard, Core.when_true]
    exact Core.keyRecord_modKey hrun hdown 2 (fun y => { y with hold := max y.hold s.core.prof.longMs, long := true }) (fun _ => rfl)
      (max (s.core.keyHold l k) s.core.prof.longMs) rfl
  · have hguard : (s.core.keyDown l k && !((s.core.ladder l).keys.getD k.val KeySt.rest).stuck) = true := by
      rw [hdown, hnew]; rfl
    rw [Core.keyStuck, hguard, Core.when_true]
    refine OnlyRecords.trans ?_ (Core.eventCustodian_only _ _ _)
    refine OnlyRecords.trans ?_ (Core.attnIf_only _ _ _)
    rw [Core.keyRecord_modKey hrun hdown 3 (fun y => { y with hold := max y.hold (1000 * s.core.prof.stuckS), stuck := true }) (fun _ => rfl)
      (max (s.core.keyHold l k) (1000 * s.core.prof.stuckS)) rfl]
    rfl
  · have hguard : ((s.core.ladder l).invalid && !(s.core.ladder l).lfault && s.core.pw.phase.isAwake) = true := by
      simp [hinvalid, hnew, hawake]
    rw [Core.ladderFault, hguard, Core.when_true]
    exact OnlyRecords.trans (Core.attn_only _ _) (Core.eventCustodian_only _ _ _)
  · rw [Core.ladderArm, hasleep, Core.when_true]
    rfl
  · have hguard : (s.core.pw.phase.isAwake && (s.core.ladder l).latch && !(s.core.ladder l).seen) = true := by
      simp [hawake, hlatch, hseen]
    have hlen : ∀ ts : List (BitVec 32), (ts ++ [s.core.pw.rtc]).length = ts.length + 1 := fun _ => List.length_append
    refine ⟨fun hfew => (gives_ladderWakeSpurious l s).congr ?_, fun hmany => (gives_ladderWakeSpurious l s).leaves ?_⟩
    · rw [Core.ladderSpurious, hguard, Core.when_true, if_neg (by rw [hlen]; omega)]
      rfl
    · rw [Core.ladderSpurious, hguard, Core.when_true, if_pos (by rw [hlen]; omega)]
      exact Core.eventCustodian_only _ _ _

/-- Settles O13: each guard is met; the combinations reset as `enterReset` does, and presence goes by the pin and the pair. -/
theorem encodersAndCombinationsComplete : Obligations.EncodersAndCombinationsComplete := by
  unfold Obligations.EncodersAndCombinationsComplete
  refine ⟨fun s e a b hun hoff hreset hentry hen => (gives_encoderTransition e a b s).leaves ?_,
    fun s e hquiet hnet => (gives_encoderReport e s).leaves ?_, fun s e hnet => (gives_encoderReport e s).congr ?_,
    fun s t hawake hdone hlow hhigh => (gives_combinationA s).congr ?_, fun s t hawake hheld hlong => ?_,
    fun s t hawake hheld hlong => (gives_provisioningHold s).congr ?_, fun s => (gives_presenceEnd s).congr ?_,
    fun s hasleep => ⟨(gives_provPin s).congr ?_, (gives_provRelease s).congr ?_⟩, fun s hawake => (gives_provPin s).congr ?_,
    fun s hawake => (gives_provRelease s).congr ?_⟩
  · exact s.core.encoderStep_spec e a b hun hoff hreset hentry hen
  · have hguard : ((s.core.enc e).net != 0) = true := by simp [hnet]
    rw [hquiet, beq_self_eq_true, Core.when_true, Core.encoderRecord, hguard, Core.when_true]
    exact Core.foldl_only _ (fun c t => Core.placeEncoder_only c t _ _) _ _
  · have hguard : ((s.core.enc e).net != 0) = false := by simp [hnet]
    have hsame : s.core.encoderRecord e = s.core := by rw [Core.encoderRecord, hguard, Core.when_false]
    cases (s.core.pw.phase == Phase.quiet)
    · rfl
    · exact hsame
  · have hguard : (s.core.pw.phase.isAwake && s.core.keys.caretaker.done.any (fun t => decide (8000 ≤ t) && decide (t < 20000))) = true := by
      simp [hawake, hdone, hlow, hhigh]
    rw [Core.combA, hguard, Core.when_true, Core.enterReset_kind _ (by decide) (by decide)]
    rfl
  · have hguard : (s.core.pw.phase.isAwake && Core.ComboSt.reaches s.core.keys.caretaker s.core.prof.keyPeriod 20000) = true := by
      simp [hawake, Core.ComboSt.reaches, hheld, hlong]
    have hboth : max 20000 (s.core.keys.caretaker.held.getD 0) = max 20000 t := by rw [hheld]; rfl
    refine ⟨fun hok => (gives_combinationB s).congr ?_, fun hinhibit => (gives_combinationB s).congr ?_⟩
    · rw [Core.combB, hguard, Core.when_true, Core.combinationB, Core.nvmOk]
      dsimp only
      rw [hok, Bool.not_false, Core.when_true, Core.enterReset_kind _ (by decide) (by decide)]
      rfl
    · rw [Core.combB, hguard, Core.when_true, Core.combinationB, Core.nvmOk, hboth]
      dsimp only
      rw [hinhibit, Bool.not_true, Core.when_false]
  · have hguard : (s.core.pw.phase.isAwake &&
        Core.ComboSt.reaches s.core.keys.provision s.core.prof.keyPeriod (1000 * s.core.otpc.combo.pvHold)) = true := by
      simp [hawake, Core.ComboSt.reaches, hheld, hlong]
    rw [Core.provHold, hguard, Core.when_true, Core.setPresence_rise _ _ _ (Bool.or_true _)]
  · exact Core.setPresence_fall _ _ _ (by cases h : s.core.pw.provPin <;> simp [Core.presence, h])
  · rw [Core.setProv, if_pos hasleep]
  · rw [Core.setProv, if_pos hasleep]
  · rw [Core.setProv, if_neg (by simp [hawake]), Core.setPresence_rise _ _ _ (Bool.true_or _)]
    rfl
  · rw [Core.setProv, if_neg (by simp [hawake]), Core.setPresence_fall _ _ _ (by cases h : s.core.pw.provKeys <;> simp [Core.presence, h])]

end Sys2Proof.Machine

/-!
PROOFS. The SAR converter (chapter 06, R122, R194 to R199): conversions that end, and runs that begin or are skipped.
-/
namespace Sys2Proof.Machine

theorem gives_sarConversionDone (v : BitVec 12) (s : State) :
    Gives (.sarConversionDone v) s (s.core.when s.core.pw.phase.isAwake (fun c => c.convDone v.toNat)) := rfl
theorem gives_batteryLowRepeat (s : State) :
    Gives .batteryLowRepeat s (s.core.when s.core.pw.batLow (fun c => c.eventTo c.diagTenants 0x05 (bvLe 2 c.sar.vbatmv))) := rfl
theorem gives_systemSequenceRun (s : State) :
    Gives .systemSequenceRun s (s.core.when (s.core.pw.phase.isAwake && s.core.pw.refrdy) Core.sysRun) := rfl
theorem gives_userSequenceRun (s : State) :
    Gives .userSequenceRun s (s.core.when (s.core.pw.phase.isAwake && s.core.sar.useq.period != 0) Core.userRun) := rfl

/-- The start of a conversion changes what runs and what is taken from the system sequence (R198). -/
theorem Sar.start_frame (s : Sar) (refrdy : Bool) :
    s.start refrdy = { s with cur := (s.start refrdy).cur, sysQ := (s.start refrdy).sysQ, userBegun := (s.start refrdy).userBegun } := by
  unfold Sar.start
  split
  · rfl
  · split
    · rfl
    · split
      · rfl
      · split <;> rfl

/-- While a conversion runs none starts (R198). -/
theorem Sar.start_of_running {s : Sar} {v : Conv} (h : s.cur = some v) (refrdy : Bool) : s.start refrdy = s := by
  rw [Sar.start, h]

/-- An urgent conversion goes first (R198). -/
theorem Sar.start_of_urgent {s : Sar} (hcur : s.cur = none) (hurg : s.urgent ≠ []) : s.start true = { s with cur := some .urgent } := by
  simp [Sar.start, hcur, hurg]

/-- A request put in its place joins the queue (R197). -/
theorem Sar.mem_insert (s : Sar) (u : UrgReq) : u ∈ (s.insert u).urgent := by simp [Sar.insert]

namespace Core

/-! Events count one each, whatever their records do in the queues (R368). -/

theorem placeRec_events (c : Core) (t : Tenant) (b : List Byte) (fc : BitVec 32) (o : Addr) :
    (c.placeRec t b fc o).rep.tele.events = c.rep.tele.events := by
  have hattn : ∀ (d : Core) (q : Bool), (d.attnIf q 13).rep = d.rep := fun d q => by rw [attnIf_eq]
  unfold placeRec takePlaced
  split
  · dsimp only
    split
    · show ((c.modQueue t _).attnIf _ 13).rep.tele.events = _
      rw [hattn]
      rfl
    · rw [hattn]
      rfl
  · rfl

theorem placeAll_events (c : Core) (ts : List Tenant) (b : List Byte) : (c.placeAll ts b).rep.tele.events = c.rep.tele.events :=
  foldl_keeps (fun a d : Core => d.rep.tele.events = a.rep.tele.events) (fun _ => rfl) (fun _ _ _ h k => k.trans h) _
    (fun c t => c.placeRec_events t b c.hg.fc c.hg.addr) ts c

theorem eventTo_events (c : Core) (ts : List Tenant) (n : Nat) (d : List Byte) :
    (c.eventTo ts n d).rep.tele.events = c.rep.tele.events + 1 :=
  congrArg (· + 1) (c.placeAll_events ts _)

/-- While a conversion runs none starts (R198). -/
theorem sarStart_of_running {c : Core} {v : Conv} (h : c.sar.cur = some v) : c.sarStart = c := by
  rw [sarStart, modSar, Sar.start_of_running h]

/-! Conversions (R197, R198). -/

/-- An urgent conversion that is not its request's last enters the window, and the next one follows (R198). -/
theorem convDone_urgent_of_more {c : Core} {u : UrgReq} {rest : List UrgReq} (href : c.pw.refrdy = true) (hcur : c.sar.cur = some .urgent)
    (hurg : c.sar.urgent = u :: rest) (hmore : 2 ≤ u.left) (code : Nat) :
    c.convDone code = { c with sar := { c.sar with urgent := { u with left := u.left - 1, win := u.win.add code } :: rest } } := by
  have hleft : (u.left - 1 == 0) = false := by simp; omega
  simp only [convDone, hcur, hurg, hleft, Bool.false_eq_true, if_false, modSar, sarStart, href]
  rw [Sar.start_of_urgent rfl (List.cons_ne_nil _ _)]

/-- What the last conversion of a host request leaves of the converter before the next one starts (R197, R198). -/
def hostDone (s : Sar) (rest : List UrgReq) (w : Tracker) : Sar :=
  Sar.refill { s with cur := none, urgent := rest, urgView := s.urgView.set 1 w }

theorem convDone_host_last {c : Core} {u : UrgReq} {rest : List UrgReq} (hready : c.pw.ready = true) (hcur : c.sar.cur = some .urgent)
    (hurg : c.sar.urgent = u :: rest) (hlast : u.left = 1) (hhost : u.who = .host) (code : Nat) :
    c.convDone code = { c with
      sar := (hostDone c.sar rest (u.win.add code)).start c.pw.refrdy
      host := { c.host with attnsrc := c.host.attnsrc ||| 0x0040#16 } } := by
  have hleft : (u.left - 1 == 0) = true := by rw [hlast]; rfl
  simp only [convDone, hcur, hurg, hleft, if_true, urgentDone, hhost, Requester.order, attn, modSar, hready]
  rfl

theorem refill_spec (s : Sar) :
    (Sar.refill s).urgView = s.urgView ∧ (s.urgWait = [] → (Sar.refill s).urgent = s.urgent) ∧
      ∀ w ws, s.urgWait = w :: ws → s.urgent.length < 4 → w ∈ (Sar.refill s).urgent ∧ (Sar.refill s).urgWait = ws := by
  unfold Sar.refill
  split
  case h_1 u rest hwait =>
    refine ⟨by split <;> rfl, fun h => absurd (hwait.symm.trans h) (List.cons_ne_nil _ _), fun w ws h hroom => ?_⟩
    obtain ⟨rfl, rfl⟩ := List.cons.inj (hwait.symm.trans h)
    rw [if_pos (by simpa [Sar.hasPlace] using hroom)]
    exact ⟨s.mem_insert u, rfl⟩
  case h_2 hwait => exact ⟨rfl, fun _ => rfl, fun w ws h => absurd h (by rw [hwait]; exact (List.cons_ne_nil _ _).symm)⟩

/-- What follows a user conversion: the next entry, or the end of the run (R196, R333). -/
def nextEntry (s : Sar) (i : Nat) : Sar :=
  if i + 1 < s.useq.len then { s with userNext := some (i + 1) }
  else { s with userNext := none, userBegun := false, useq := s.useqReg }

theorem nextEntry_usr (s : Sar) (i : Nat) : (nextEntry s i).usr = s.usr := by unfold nextEntry; split <;> rfl

theorem nextEntry_usrView (s : Sar) (i : Nat) : (nextEntry s i).usrView = s.usrView := by unfold nextEntry; split <;> rfl

/-- The last entry ends the run (R196). -/
theorem nextEntry_last {s : Sar} {i : Nat} (h : s.useq.len ≤ i + 1) : (nextEntry s i).userNext = none := by
  rw [nextEntry, if_neg (Nat.not_lt.mpr h)]

theorem sarNext (c : Core) (i : Nat) :
    (if i + 1 < c.sar.useq.len then c.modSar (fun s => { s with userNext := some (i + 1) })
      else c.modSar (fun s => { s with userNext := none, userBegun := false, useq := s.useqReg })) =
      { c with sar := nextEntry c.sar i } := by
  unfold nextEntry
  split <;> rfl

/-- A user conversion joins its channel's accumulator (R194, Table KEY-3). -/
theorem userSample_of_more {c : Core} {ch : Nat} {t : Tracker} {i code : Nat} (hch : ch = c.sar.useq.entries.getD i 0)
    (ht : t = (c.sar.usr.getD ch Tracker.code).add code) (hmore : t.count < 2 ^ c.sar.useq.accLog) :
    c.userSample i code true = { c with sar := nextEntry { c.sar with usr := c.sar.usr.set ch t } i } := by
  subst hch ht
  unfold userSample
  simp only [Bool.not_true, Bool.false_eq_true, if_false, if_pos hmore, sarNext]
  rfl

/-- The last user conversion of a channel's window presents it (R194, Table KEY-3). -/
theorem userSample_of_full {c : Core} {ch : Nat} {t : Tracker} {i code : Nat} (hch : ch = c.sar.useq.entries.getD i 0)
    (ht : t = (c.sar.usr.getD ch Tracker.code).add code) (hfull : 2 ^ c.sar.useq.accLog ≤ t.count) :
    c.userSample i code true = { c with
      sar := nextEntry { c.sar with usr := c.sar.usr.set ch Tracker.code, usrView := c.sar.usrView.set ch t } i
      host := { c.host with attnsrc := (c.attn 6).host.attnsrc } } := by
  have hattn : ∀ d : Core, d.attn 6 = { d with host := { d.host with attnsrc := (d.attn 6).host.attnsrc } } := fun d => d.attnIf_eq true 6
  subst hch ht
  unfold userSample
  simp only [Bool.not_true, Bool.false_eq_true, if_false, if_neg (Nat.not_lt.mpr hfull), sarNext]
  rw [hattn]
  have hsrc : ∀ f : Sar → Sar, ((c.modSar f).attn 6).host.attnsrc = (c.attn 6).host.attnsrc := by
    intro f
    unfold attn
    rw [show (c.modSar f).pw = c.pw from rfl]
    split <;> rfl
  rw [hsrc]
  rfl

theorem convDone_user {c : Core} {i : Nat} (hcur : c.sar.cur = some (.user i true)) (code : Nat) :
    c.convDone code = (userSample { c with sar := { c.sar with cur := none } } i code true).sarStart := by
  simp only [convDone, hcur]
  rfl

end Core

/-- Settles O11: an urgent or user conversion enters what it is for, and the next one that is ready starts after it. -/
theorem converterCommandsComplete : Obligations.ConverterCommandsComplete := by
  unfold Obligations.ConverterCommandsComplete
  refine ⟨fun s v u rest hawake href hcur hurg hmore => (gives_sarConversionDone v s).congr ?_,
    fun s v u rest hawake hready hcur hurg hlast hhost => (gives_sarConversionDone v s).leaves ?_,
    fun s v i hawake hcur => (gives_sarConversionDone v s).leaves ?_, fun s hlow => (gives_batteryLowRepeat s).leaves ?_,
    fun s v hawake href hcur => (gives_systemSequenceRun s).congr ?_, fun s v hawake hperiod hlen hcur => ?_⟩
  · rw [hawake, Core.when_true]
    exact Core.convDone_urgent_of_more href hcur hurg hmore _
  · rw [hawake, Core.when_true, Core.convDone_host_last hready hcur hurg hlast hhost]
    have hstart := (Core.hostDone s.core.sar rest (u.win.add v.toNat)).start_frame s.core.pw.refrdy
    obtain ⟨hview, hempty, hwait⟩ := Core.refill_spec
      { s.core.sar with cur := none, urgent := rest, urgView := s.core.sar.urgView.set 1 (u.win.add v.toNat) }
    dsimp only
    rw [hstart]
    exact ⟨hview, hempty, hwait, rfl⟩
  · rw [hawake, Core.when_true, Core.convDone_user hcur]
    have hstart := fun x : Sar => x.start_frame s.core.pw.refrdy
    dsimp only
    by_cases hmore : ((s.core.sar.usr.getD (s.core.sar.useq.entries.getD i 0) Tracker.code).add v.toNat).count < 2 ^ s.core.sar.useq.accLog
    · rw [Core.userSample_of_more rfl rfl (by exact hmore)]
      unfold Core.sarStart Core.modSar
      dsimp only
      rw [hstart]
      exact ⟨rfl, fun _ => ⟨Core.nextEntry_usr _ _, Core.nextEntry_usrView _ _⟩,
        fun h => absurd hmore (Nat.not_lt.mpr h), fun hend => Core.nextEntry_last (by exact hend)⟩
    · have hfull := Nat.le_of_not_lt hmore
      rw [Core.userSample_of_full rfl rfl (by exact hfull)]
      unfold Core.sarStart Core.modSar
      dsimp only
      rw [hstart]
      exact ⟨rfl, fun h => absurd h hmore, fun _ => ⟨Core.nextEntry_usr _ _, Core.nextEntry_usrView _ _⟩,
        fun hend => Core.nextEntry_last (by exact hend)⟩
  · rw [hlow, Core.when_true]
    exact ⟨Core.eventTo_only _ _ _ _, Core.eventTo_events _ _ _ _⟩
  · rw [hawake, href, Bool.and_self, Core.when_true, Core.sysRun, Core.sarStart_of_running (v := v)]
    · rfl
    · exact hcur
  · have hguard : (s.core.pw.phase.isAwake && s.core.sar.useq.period != 0) = true := by simp [hawake, hperiod]
    have hlen0 : ¬ (s.core.sar.useq.len == 0) = true := by simpa using hlen
    refine ⟨fun hnext => (gives_userSequenceRun s).congr ?_, fun hnext => (gives_userSequenceRun s).congr ?_⟩
    · rw [hguard, Core.when_true, Core.userRun, if_neg hlen0, if_neg (by rw [hnext]; decide), Core.sarStart_of_running (v := v)]
      · rfl
      · exact hcur
    · rw [hguard, Core.when_true, Core.userRun, if_neg hlen0, if_pos (Option.isSome_iff_ne_none.mpr hnext)]
      rfl

end Sys2Proof.Machine

/-!
PROOFS. The compensation keeper (chapter 04, R143, R144), and the repairs in force beside a write to NVM (R373, R374, R397).
-/
namespace Sys2Proof.Machine

theorem gives_keeperEvaluation (s : State) : Gives .keeperEvaluation s s.core.keeper := rfl

/-- Kind of a repair that puts a spare row in the place of a row (Table REPAIR-4). -/
def rowRepair : Nat := 7

/-- The repairs in force are the same, but for rows retired into spare rows. -/
def SameRepairs (c d : Core) : Prop := ∀ kind index, kind ≠ rowRepair → d.hasRepair kind index = c.hasRepair kind index

namespace SameRepairs

theorem refl (c : Core) : SameRepairs c c := fun _ _ _ => rfl

theorem trans {a b c : Core} (h : SameRepairs a b) (k : SameRepairs b c) : SameRepairs a c :=
  fun kind index hk => (k kind index hk).trans (h kind index hk)

theorem of_repairs {c d : Core} (h : d.repairs = c.repairs) : SameRepairs c d := fun _ _ _ => by rw [Core.hasRepair, Core.hasRepair, h]

theorem of_records {c d : Core} (h : OnlyRecords c d) : SameRepairs c d := of_repairs (by rw [h]; rfl)

end SameRepairs

namespace Core

theorem regrade_sameRepairs (c : Core) : SameRepairs c c.regrade := by
  unfold regrade regradeNow
  split
  · exact .refl c
  · dsimp only
    split
    · exact .refl c
    · exact SameRepairs.trans (.of_repairs (by rfl)) (.of_records ((repairEvent_only _ _ _).trans (attn_only _ _)))

theorem sparesOut_sameRepairs (c : Core) (k : Byte) : SameRepairs c (c.sparesOut k) := by
  unfold sparesOut
  split
  · exact .refl c
  · exact SameRepairs.trans (.of_repairs (by rfl)) (.of_records (repairEvent_only _ _ _))

theorem noteRepair_sameRepairs (c : Core) {r : RepairEntry} (hr : r.kind.toNat = rowRepair) : SameRepairs c (c.noteRepair r) := by
  have hnew : ∀ kind index, kind ≠ rowRepair → (r.kind.toNat == kind && r.index.toNat == index) = false := by
    intro kind index hk
    rw [hr, beq_false_of_ne (Ne.symm hk), Bool.false_and]
  unfold noteRepair
  split
  · refine SameRepairs.trans (fun kind index hk => ?_) (.of_records (repairEvent_only _ _ _))
    simp [hasRepair, repairs, fieldRepairs, List.any_append, hnew kind index hk]
  · intro kind index hk
    simp [hasRepair, repairs, fieldRepairs, List.any_append, hnew kind index hk]

theorem retire_sameRepairs (c : Core) (row : Nat) : SameRepairs c (c.retire row).1 := by
  unfold retire
  split
  · exact c.sparesOut_sameRepairs _
  · dsimp only
    refine SameRepairs.trans ?_ (regrade_sameRepairs _)
    refine SameRepairs.trans ?_ (.of_records (repairEvent_only _ _ _))
    exact SameRepairs.trans (.of_repairs (by rfl)) (noteRepair_sameRepairs _ rfl)

theorem programFrom_sameRepairs (n : Nat) (c : Core) (row : Nat) : SameRepairs c (programFrom n c row).1 := by
  induction n generalizing c with
  | zero => exact .refl c
  | succ n ih =>
    unfold programFrom
    have hrow : SameRepairs c ((c.noteErase row).verifies).1 := .of_repairs rfl
    dsimp only
    split
    · exact hrow
    · split
      · exact (hrow.trans (retire_sameRepairs _ row)).trans (ih _)
      · exact hrow.trans (retire_sameRepairs _ row)

theorem programRows_sameRepairs (c : Core) (rows : List Nat) : SameRepairs c (c.programRows rows).1 := by
  unfold programRows
  generalize true = b
  induction rows generalizing c b with
  | nil => exact .refl c
  | cons r rows ih => exact (programFrom_sameRepairs 17 c r).trans (ih _ _)

theorem writeCopy_sameRepairs (c : Core) (r : RecId) : SameRepairs c (c.writeCopy r).1 := by
  unfold writeCopy
  split
  · exact .refl c
  · have h := c.programRows_sameRepairs (r.rows (c.pair r).targetsB)
    dsimp only
    split
    · exact h.trans (.of_repairs rfl)
    · exact SameRepairs.trans (h.trans (.of_repairs (by rfl))) (regrade_sameRepairs _)

theorem saveMap_sameRepairs (c : Core) : SameRepairs c c.saveMap := by
  unfold saveMap
  split
  · exact .refl c
  · dsimp only
    split
    · refine (c.writeCopy_sameRepairs .repair).trans (.of_repairs ?_)
      simp [repairs, fieldRepairs, flushMap]
    · exact c.writeCopy_sameRepairs .repair

/-! ### Changed faults (R388) -/

/-- A changed fault list changes what a write to NVM changes, beside the list. -/
theorem setFaults_only (c : Core) (l : List FaultEntry) :
    OnlyNvm { c with nvm := { c.nvm with faults := (c.setFaults l).nvm.faults } } (c.setFaults l) := by
  unfold setFaults
  split
  · rfl
  · have h := saveMap_only { c with nvm := { c.nvm with faults := l, faultsSaved := some (c.nvm.faultsSaved.getD c.nvm.faults) } }
    have hfaults := congrArg (fun d => d.nvm.faults) h
    dsimp only at hfaults
    rw [hfaults]
    exact OnlyNvm.trans (by rfl) h

theorem setFaults_sameRepairs (c : Core) (l : List FaultEntry) : SameRepairs c (c.setFaults l) := by
  unfold setFaults
  split
  · exact .refl c
  · exact SameRepairs.trans (.of_repairs (by rfl)) (saveMap_sameRepairs _)

/-! ### The keeper -/

/-- `d` is `c` but for what the keeper may change: the range changes that wait, and what a node at the end of its compensation leaves. -/
structure KeeperOnly (c d : Core) : Prop where
  only : OnlyNvm { c with
    node := { c.node with pend := d.node.pend }, nvm := { c.nvm with faults := d.nvm.faults }, rep := { c.rep with complim := d.rep.complim } } d
  repairs : SameRepairs c d
  length : d.node.pend.length = c.node.pend.length

namespace KeeperOnly

theorem refl (c : Core) : KeeperOnly c c := ⟨rfl, .refl c, rfl⟩

theorem trans {a b c : Core} (h : KeeperOnly a b) (k : KeeperOnly b c) : KeeperOnly a c := by
  refine ⟨?_, h.repairs.trans k.repairs, k.length.trans h.length⟩
  have h1 := h.only
  have k1 := k.only
  unfold OnlyNvm at *
  rw [k1, h1]

theorem setPending (c : Core) (k : Nat) (p : Option RangePend) : KeeperOnly c (c.setPending k p) :=
  ⟨rfl, .of_repairs rfl, List.length_set ..⟩

end KeeperOnly

/-- The keeper's act on a line leaves what waits on the other lines. -/
structure KeepsOthers (k : Nat) (c d : Core) : Prop extends KeeperOnly c d where
  others : ∀ j, j ≠ k → d.node.pend.getD j none = c.node.pend.getD j none

namespace KeepsOthers

theorem refl (k : Nat) (c : Core) : KeepsOthers k c c := ⟨.refl c, fun _ _ => rfl⟩

theorem setPending (c : Core) (k : Nat) (p : Option RangePend) : KeepsOthers k c (c.setPending k p) := by
  refine ⟨⟨rfl, .of_repairs rfl, List.length_set ..⟩, fun j hj => ?_⟩
  show (c.node.pend.set k p).getD j none = c.node.pend.getD j none
  rw [List.getD_eq_getElem?_getD, List.getD_eq_getElem?_getD, List.getElem?_set_ne (Ne.symm hj)]

end KeepsOthers

theorem requestSense_keeps (c : Core) (k gain : Nat) (coarse forced : Bool) : KeepsOthers k c (c.requestSense k gain coarse forced) := by
  unfold requestSense
  split
  · split
    · exact .setPending ..
    · exact .refl k c
  · exact .setPending ..

theorem requestCodes_keeps (c : Core) (k : Nat) (codes : List (Nat × Nat)) (forced : Bool) : KeepsOthers k c (c.requestCodes k codes forced) := by
  unfold requestCodes
  dsimp only
  split
  · split
    · exact .setPending ..
    · exact .refl k c
  · exact .setPending ..

theorem compLimit_keeps (c : Core) (d k : Nat) : KeepsOthers k c (c.compLimit d k) := by
  have hlimit : KeeperOnly c (c.modRep (fun r => { r with complim := true })) := ⟨rfl, .of_repairs rfl, rfl⟩
  have hfault : ∀ (c : Core) (l : List FaultEntry), KeeperOnly c (c.setFaults l) ∧ (c.setFaults l).node = c.node := by
    intro c l
    have h := c.setFaults_only l
    have hnode : (c.setFaults l).node = c.node := by rw [h]
    have hlim : (c.setFaults l).rep.complim = c.rep.complim := by rw [h]
    exact ⟨⟨by rw [hnode, hlim]; exact h, c.setFaults_sameRepairs l, by rw [hnode]⟩, hnode⟩
  have hevent : ∀ (c : Core) (n : Nat) (l : List Byte), KeeperOnly c (c.repairEvent n l) ∧ (c.repairEvent n l).node = c.node := by
    intro c n l
    have h := c.repairEvent_only n l
    exact ⟨⟨by rw [h]; rfl, .of_records h, by rw [h]⟩, by rw [h]⟩
  unfold compLimit
  dsimp only
  obtain ⟨h1, hn1⟩ := hfault (c.modRep (fun r => { r with complim := true })) _
  obtain ⟨h2, hn2⟩ := hevent (addFault (c.modRep (fun r => { r with complim := true })) _ _ _ _ _) _ _
  refine ⟨(hlimit.trans h1).trans h2, fun j _ => ?_⟩
  rw [hn2]
  exact congrArg (fun n => n.pend.getD j none) hn1

theorem keepLine_keeps (c : Core) (k : Nat) : KeepsOthers k c (c.keepLine k) := by
  unfold keepLine
  dsimp only
  split
  · exact .refl k c
  · split
    · exact c.requestSense_keeps k _ _ _
    · split
      · exact .refl k c
      · split
        · exact .refl k c
        · split
          · split
            · exact c.requestCodes_keeps k _ _
            · split
              · exact c.compLimit_keeps _ k
              · exact c.requestSense_keeps k _ _ _
          · split
            · exact c.requestCodes_keeps k _ _
            · exact c.compLimit_keeps _ k

/-- What the keeper looks at on a line stands while it acts on others (R143). -/
theorem worstNode_congr {c d : Core} (h : KeeperOnly c d) (k : Nat) : d.worstNode k = c.worstNode k := by
  have honly := h.only
  have hdead : d.deadDrive = c.deadDrive := funext fun x => h.repairs 5 x (by decide)
  have hkept : d.keptNodes k = c.keptNodes k := by
    unfold keptNodes sought
    rw [hdead, honly]
    rfl
  have hdev : d.deviation = c.deviation := by
    rw [honly]
    rfl
  rw [worstNode, worstNode, hkept, hdev]

theorem mem_keptNodes_of_worstNode {c : Core} {k x : Nat} (h : c.worstNode k = some x) : x ∈ c.keptNodes k := by
  have hfold : ∀ (l : List Nat) (b : Option Nat), l.foldl (fun (b : Option Nat) d => match b with
      | none => some d
      | some y => if (c.deviation y k).natAbs < (c.deviation d k).natAbs then some d else b) b = some x → b = some x ∨ x ∈ l := by
    intro l
    induction l with
    | nil => exact fun b hb => .inl hb
    | cons d l ih =>
      intro b hb
      rcases ih _ hb with hfirst | hrest
      · cases b with
        | none => exact .inr (by rw [Option.some.inj hfirst]; exact List.mem_cons_self)
        | some y =>
          dsimp only at hfirst
          split at hfirst
          · exact .inr (by rw [Option.some.inj hfirst]; exact List.mem_cons_self)
          · exact .inl hfirst
      · exact .inr (List.mem_cons_of_mem _ hrest)
  exact (hfold _ _ h).resolve_left (by simp)

/-- A line whose worst node lies too low has its code raised by one (R143, R144). -/
theorem keepLine_raises {c : Core} {k x : Nat} (hfree : c.lineExcluded k = false) (hfine : c.node.coarse.getD k false = false)
    (hworst : c.worstNode k = some x) (hlow : c.deviation x k < 0) (hfar : 3 * c.lineL k < 4 * ((c.deviation x k).natAbs : Int))
    (hcode : (c.lineCodes k).getD x 0 < 63) :
    c.keepLine k = c.setPending k (some (.codes { codes := [(x, (c.lineCodes k).getD x 0 + 1)], forced := false })) := by
  have hmem := mem_keptNodes_of_worstNode hworst
  have hlive : c.deadDrive x = false := by
    simp only [keptNodes, sought, List.mem_filter, Bool.and_eq_true, Bool.not_eq_true', decide_eq_true_eq] at hmem
    obtain ⟨-, ⟨⟨⟨-, hlive⟩, -⟩, -⟩, -⟩ := hmem
    exact hlive
  have hne : (((c.lineCodes k).getD x 0 != (c.lineCodes k).getD x 0 + 1) && !c.deadDrive x) = true := by
    simp [hlive]
  unfold keepLine
  simp only [hfree, hfine, hworst, Bool.false_and, Bool.false_eq_true, if_false, if_neg (not_le.mpr hfar), if_pos hlow, if_pos hcode]
  rw [requestCodes, List.filter_cons, if_pos hne]
  rfl

/-- What the keeper puts on a line stands, whatever it does on the others. -/
theorem foldl_keepLine (l : List Nat) (c : Core) :
    KeeperOnly c (l.foldl keepLine c) ∧ ∀ j, j ∉ l → (l.foldl keepLine c).node.pend.getD j none = c.node.pend.getD j none := by
  induction l generalizing c with
  | nil => exact ⟨.refl c, fun _ _ => rfl⟩
  | cons k l ih =>
    obtain ⟨honly, hothers⟩ := ih (c.keepLine k)
    have hk := c.keepLine_keeps k
    refine ⟨hk.toKeeperOnly.trans honly, fun j hj => ?_⟩
    rw [List.mem_cons, not_or] at hj
    rw [List.foldl_cons, hothers j hj.2, hk.others j hj.1]

theorem foldl_keepLine_raises {l : List Nat} (hl : l.Nodup) {c : Core} {k x : Nat} (hk : k ∈ l) (hlen : k < c.node.pend.length)
    (hfree : c.lineExcluded k = false) (hfine : c.node.coarse.getD k false = false) (hworst : c.worstNode k = some x)
    (hlow : c.deviation x k < 0) (hfar : 3 * c.lineL k < 4 * ((c.deviation x k).natAbs : Int)) (hcode : (c.lineCodes k).getD x 0 < 63) :
    (l.foldl keepLine c).node.pend.getD k none =
      some (.codes { codes := [(x, (c.lineCodes k).getD x 0 + 1)], forced := false }) := by
  obtain ⟨a, b, rfl⟩ := List.append_of_mem hk
  have hb : k ∉ b := by
    rw [List.nodup_append] at hl
    exact (List.nodup_cons.mp hl.2.1).1
  obtain ⟨hbefore, -⟩ := foldl_keepLine a c
  rw [List.foldl_append, List.foldl_cons, (foldl_keepLine b _).2 k hb]
  generalize a.foldl keepLine c = d at *
  have honly := hbefore.only
  have hcodes : d.lineCodes k = c.lineCodes k := by rw [honly]; rfl
  have hdev : d.deviation x k = c.deviation x k := by rw [honly]; rfl
  have hL : d.lineL k = c.lineL k := by rw [honly]; rfl
  rw [keepLine_raises (x := x) (by rw [honly]; exact hfree) (by rw [honly]; exact hfine) (by rw [worstNode_congr hbefore]; exact hworst)
    (by rw [hdev]; exact hlow) (by rw [hdev, hL]; exact hfar) (by rw [hcodes]; exact hcode), hcodes]
  show (d.node.pend.set k _).getD k none = _
  rw [List.getD_eq_getElem?_getD, List.getElem?_set_self (by rw [hbefore.length]; exact hlen)]
  rfl

end Core

/-- Settles O9: the keeper acts on each line in turn, and what it has put on one stands. -/
theorem keeperRequestsOneCode : Obligations.KeeperRequestsOneCode := by
  unfold Obligations.KeeperRequestsOneCode
  intro s hrun hrunning hint hvalid hnormal hlen hlines
  have hguard : (s.core.pw.phase == .run && s.core.acq.running && s.core.prof.keepInt != 0 && s.core.node.valid && s.core.acq.maint.isNone) =
      true := by
    simp [hrun, hrunning, hint, hvalid, hnormal]
  refine (gives_keeperEvaluation s).leaves ?_
  rw [Core.keeper, hguard, Core.when_true]
  refine ⟨(Core.foldl_keepLine _ _).1.only, fun k x hk hfree hfine hworst hlow hfar hcode => ?_⟩
  exact Core.foldl_keepLine_raises List.nodup_range (List.mem_range.mpr hk) (by omega) hfree hfine hworst hlow hfar hcode

end Sys2Proof.Machine

/-!
PROOFS. The Watch burst (chapters 03 and 05, R116 to R121, R187, R188).
-/
namespace Sys2Proof.Machine

theorem gives_watchBurst {v : List (Option Nat)} {s : State} (hshape : s.core.burstShape v = true) :
    Gives (.watchBurst v) s (s.core.watchBurst v) := by
  have hrun : exec (.watchBurst v) s = onCoreIf (s.core.pw.phase != .watch || s.core.burstShape v) (fun c => c.watchBurst v) s := rfl
  rw [hshape, Bool.or_true, onCoreIf_true] at hrun
  exact gives_of_onCore hrun rfl

namespace WatchGroup

theorem detect_shortRun (g : WatchGroup) (can : Bool) (delta : Int) (k : Nat) : (g.detect can delta k).shortRun = g.shortRun := by
  unfold detect
  split
  · rfl
  · split <;> rfl

/-- A burst that is not SHORT (R119 to R121). -/
theorem burst_of_not_short (g : WatchGroup) {p : Profile} {v : Option Nat} (h : ∀ n, v = some n → p.ctMin ≤ n) :
    g.burst p v = ({ g.counted p.ctMax v with shortRun := 0 } : WatchGroup).detect v.isSome p.wDelta p.wK := by
  have hshort : (g.counted p.ctMax v).isShort p = false := by
    cases v with
    | none => rfl
    | some n => exact decide_eq_false (Nat.not_lt.mpr (h n rfl))
  have hfull : (!(g.counted p.ctMax v).full) = v.isSome := by cases v <;> rfl
  rw [burst, hshort, hfull, Bool.not_false, Bool.and_true, if_neg Bool.false_ne_true]

/-- A SHORT burst makes no candidate, and moves the baseline (R119). -/
theorem burst_of_short {g : WatchGroup} {p : Profile} {n : Nat} (hshort : n < p.ctMin) (hseeded : g.seeded = true) :
    g.burst p (some n) = { g with
      n := n, full := false, shortRun := min 3 (g.shortRun + 1), run := 0, cand := false
      base := (usat (g.base + rhu (16 * n - g.base) p.wK) 16).toNat } := by
  have hs : (g.counted p.ctMax (some n)).isShort p = true := decide_eq_true hshort
  rw [burst, hs, Bool.not_true, Bool.and_false, if_pos rfl, detect, if_neg (by simp [counted, hseeded])]
  rfl

/-- A drop of more than W_DELTA makes a candidate (R120). -/
theorem burst_of_drop {g : WatchGroup} {p : Profile} {n : Nat} (hlong : p.ctMin ≤ n) (hseeded : g.seeded = true)
    (hdrop : (16 * n : Int) < g.base - 16 * p.wDelta) :
    g.burst p (some n) = { g with n := n, full := false, shortRun := 0, run := g.run + 1, cand := true } := by
  rw [g.burst_of_not_short (fun m hm => by rw [← Option.some.inj hm]; exact hlong), detect, if_neg (by simp [counted, hseeded])]
  exact if_pos (decide_eq_true hdrop)

end WatchGroup

namespace Core

/-- The groups after a burst (R119 to R121). -/
def burstWatch (c : Core) (v : List (Option Nat)) : List WatchGroup :=
  c.acq.watch.zipIdx.map (fun g => match v[g.2]? with
    | some n => WatchGroup.burst g.1 c.prof n
    | none => g.1)

theorem burstWatch_getElem? {c : Core} {v : List (Option Nat)} {i : Nat} {g : WatchGroup} {n : Option Nat} (hg : c.acq.watch[i]? = some g)
    (hn : v[i]? = some n) : (c.burstWatch v)[i]? = some (g.burst c.prof n) := by
  simp [burstWatch, List.getElem?_zipIdx, hg, hn]

/-- A fault recorded changes the list, beside what a write to NVM changes (R388). -/
theorem addFault_only (c : Core) (kind index sign state derate : Nat) :
    OnlyNvm { c with nvm := { c.nvm with faults := (c.addFault kind index sign state derate).nvm.faults } }
      (c.addFault kind index sign state derate) := setFaults_only _ _

/-- `d` is `c` but for the fault list and what a write to NVM changes. -/
def OnlyFaults (c d : Core) : Prop := OnlyNvm { c with nvm := { c.nvm with faults := d.nvm.faults } } d

theorem OnlyFaults.refl (c : Core) : OnlyFaults c c := rfl

theorem OnlyFaults.trans {a b c : Core} (h : OnlyFaults a b) (k : OnlyFaults b c) : OnlyFaults a c := by
  unfold OnlyFaults OnlyNvm at *
  rw [k, h]

theorem OnlyFaults.of_records {c d : Core} (h : OnlyRecords c d) : OnlyFaults c d := by
  unfold OnlyFaults OnlyNvm OnlyRecords at *
  rw [h]

theorem OnlyFaults.of_nvm {c d : Core} (h : OnlyNvm c d) : OnlyFaults c d := by
  unfold OnlyFaults OnlyNvm at *
  rw [h]

theorem watchFault_only (c : Core) (g : Nat) : OnlyFaults c (c.watchFault g) :=
  (OnlyFaults.of_records (c.eventCustodian_only _ _)).trans (addFault_only _ _ _ _ _ _)

/-- The groups whose third SHORT count in a row a burst brings (R119). -/
def burstThird (c : Core) (v : List (Option Nat)) : List Nat :=
  (List.range v.length).filter (fun i =>
    (c.acq.watch[i]?).any (fun g => decide (g.shortRun < 3)) && ((c.burstWatch v)[i]?).any (fun g => decide (3 ≤ g.shortRun)))

/-- A burst leaves a group with a SHORT count, or with as many as `n` in a row. -/
def burstShort (c : Core) (v : List (Option Nat)) (n : Nat) : Bool := ((c.burstWatch v).take v.length).any (fun g => decide (n ≤ g.shortRun))

theorem burstGroups_eq (c : Core) (v : List (Option Nat)) :
    c.burstGroups v = (((c.burstThird v).foldl watchFault { c with acq := { c.acq with watch := c.burstWatch v } }).modRep
      (fun r => { r with watchFault := c.burstShort v 3 || (r.watchFault && c.burstShort v 1) })).regrade := rfl

/-- A burst changes the groups, WATCH_FAULT, and what its faults change. -/
theorem burstGroups_only (c : Core) (v : List (Option Nat)) :
    OnlyFaults { c with
      acq := { c.acq with watch := c.burstWatch v }
      rep := { c.rep with watchFault := (c.burstGroups v).rep.watchFault } } (c.burstGroups v) := by
  have hfold := foldl_keeps OnlyFaults OnlyFaults.refl (fun _ _ _ => OnlyFaults.trans) watchFault watchFault_only (c.burstThird v)
    { c with acq := { c.acq with watch := c.burstWatch v } }
  rw [burstGroups_eq]
  generalize (c.burstThird v).foldl watchFault { c with acq := { c.acq with watch := c.burstWatch v } } = d at *
  have hgrade := regrade_only (d.modRep (fun r => { r with watchFault := c.burstShort v 3 || (r.watchFault && c.burstShort v 1) }))
  generalize (d.modRep (fun r => { r with watchFault := c.burstShort v 3 || (r.watchFault && c.burstShort v 1) })).regrade = e at *
  unfold OnlyFaults OnlyNvm at *
  rw [hgrade, modRep, hfold]

/-- Without a SHORT count a burst changes the groups alone (R119). -/
theorem burstGroups_of_not_short {c : Core} {v : List (Option Nat)} (hshort : ∀ n, some n ∈ v → c.prof.ctMin ≤ n)
    (hphase : c.pw.phase ≠ .run) (hfault : c.rep.watchFault = false) (hgrade : c.gradeNow = c.rep.grade.toNat) :
    c.burstGroups v = { c with acq := { c.acq with watch := c.burstWatch v } } := by
  have hrun : ∀ i g, i < v.length → (c.burstWatch v)[i]? = some g → g.shortRun = 0 := by
    intro i g hi hg
    rw [burstWatch, List.getElem?_map, List.getElem?_zipIdx] at hg
    cases hw : c.acq.watch[i]? with
    | none => simp [hw] at hg
    | some w =>
      have hv : v[0 + i]? = some v[i] := by rw [Nat.zero_add, List.getElem?_eq_getElem hi]
      simp only [hw, Option.map_some, hv, Option.some.injEq] at hg
      rw [← hg, w.burst_of_not_short (fun n hn => hshort n (hn ▸ List.getElem_mem hi)), WatchGroup.detect_shortRun]
  have hnone : ∀ n, 0 < n → c.burstShort v n = false := by
    intro n hn
    refine List.any_eq_false.mpr fun g hg => ?_
    obtain ⟨i, hi⟩ := List.getElem?_of_mem hg
    rw [List.getElem?_take] at hi
    split at hi
    · rw [hrun i g ‹_› hi]
      simp only [decide_eq_true_eq]
      omega
    · cases hi
  have hthird : c.burstThird v = [] := by
    refine List.filter_eq_nil_iff.mpr fun i hi => ?_
    cases hg : (c.burstWatch v)[i]? with
    | none => simp
    | some g => simp [hrun i g (List.mem_range.mp hi) hg]
  rw [burstGroups_eq, hthird, hnone 3 (by omega), hnone 1 (by omega), List.foldl_nil, modRep, Bool.and_false, Bool.or_false]
  have hsame : { c.rep with watchFault := false } = c.rep := by rw [← hfault]
  dsimp only
  rw [hsame, regrade, if_neg (by simpa using hphase), regradeNow]
  exact if_pos (by rw [beq_iff_eq]; exact hgrade.symm)

/-- A tile that wakes others counts the wake and sends WAKE (R35, R276). -/
theorem wakeOthers_only (c : Core) : c.wakeOthers = { c with hg := c.wakeOthers.hg, lnk := c.wakeOthers.lnk } := by
  unfold wakeOthers
  dsimp only
  split
  · rfl
  · generalize hd : c.modHg _ = d
    have hfold := fun (l : List Port) (b : LinkBody) => (foldl_onlyTxq (fun c q => c.sendFrame q b) (fun c q => c.sendFrame_only q b) l d).1
    rw [hfold, ← hd]
    rfl

/-- The power part of a tile in Watch that a burst wakes (Table POWER-3). -/
def watchPower (c : Core) (bit : Nat) : Power :=
  { c.pw with
    wakesrc := c.pw.wakesrc ||| bitMask bit, waking := true
    wakeTarget := if c.pw.waking then higher c.pw.wakeTarget .run else .run }

/-- A wake by a Watch burst (R35, R188). -/
theorem watchWake_only {c : Core} (h : c.pw.phase = .watch) (bit : Nat) :
    OnlyRecords { c with
      pw := c.watchPower bit, acq := { c.acq with wgStep := 0, wgAge := 0 }, hg := (c.watchWake bit).hg, lnk := (c.watchWake bit).lnk }
      (c.watchWake bit) := by
  have hothers := wakeOthers_only (c.modAcq (fun a => { a with wgStep := 0, wgAge := 0 }))
  unfold watchWake
  generalize (c.modAcq (fun a => { a with wgStep := 0, wgAge := 0 })).wakeOthers = d at *
  have hpw : d.pw = c.pw := by rw [hothers]; rfl
  have hwake := wakeSource_only (c := d) (by rw [hpw, h]; rfl) (bitMask bit) .run
  unfold OnlyRecords at *
  rw [hwake, hpw, hothers]
  rfl

/-- A burst in Watch leaves the groups as it has found them (R119 to R121). -/
theorem watchBurst_watch {c : Core} (h : c.pw.phase = .watch) (v : List (Option Nat)) : (c.watchBurst v).acq.watch = c.burstWatch v := by
  have honly := c.burstGroups_only v
  have hgroups : (c.burstGroups v).acq.watch = c.burstWatch v := by rw [honly]
  have hphase : (c.burstGroups v).pw.phase = .watch := by rw [honly]; exact h
  have hwake : ∀ (d : Core) (n : Nat), d.pw.phase = .watch → (d.watchWake n).acq.watch = d.acq.watch := by
    intro d n hd
    rw [(watchWake_only hd n).acq]
  rw [watchBurst, h, beq_self_eq_true, when_true]
  dsimp only
  split
  · rw [hwake _ _ hphase, hgroups]
  · split
    · split
      · rw [wakeRecord, (placeOwn_only _ _ _).acq, hwake _ _ (by exact hphase)]
        exact hgroups
      · exact hgroups
    · exact hgroups

/-- Approach is declared where a candidate's run has reached W_CONFIRM (R121). -/
theorem approach_of_mem {c : Core} {g : WatchGroup} (hon : c.prof.wakeOn.testBit 0 = true) (hg : g ∈ c.acq.watch)
    (hrun : c.prof.wConfirm ≤ g.run) (hcand : g.cand = true) : c.approach = true := by
  rw [approach, hon, Bool.true_and]
  exact List.any_eq_true.mpr ⟨g, hg, by rw [decide_eq_true hrun, hcand]; rfl⟩

theorem approach_of_off {c : Core} (hon : c.prof.wakeOn = 0) : c.approach = false := by
  rw [approach, hon, Nat.zero_testBit, Bool.false_and]

theorem watchBurst_of_approach {c : Core} (h : c.pw.phase = .watch) {v : List (Option Nat)} (happroach : (c.burstGroups v).approach = true) :
    c.watchBurst v = (c.burstGroups v).watchWake 5 := by
  rw [watchBurst, h, beq_self_eq_true, when_true]
  exact if_pos happroach

end Core

theorem higher_run (p : Phase) : higher p .run = .run := by cases p <;> decide

/-- Settles O10: the burst's groups stand whatever follows it, and approach goes before the wake gesture. -/
theorem watchBurstCompletes : Obligations.WatchBurstCompletes := by
  unfold Obligations.WatchBurstCompletes
  refine ⟨fun s v hphase hshape hon hfault hgrade hshort => (gives_watchBurst hshape).leaves ?_,
    fun s v i g n hphase hshape hg hn hshort hseeded => (gives_watchBurst hshape).leaves ?_,
    fun s v i g n hphase hshape hon hg hn hseeded hlong hdrop hconfirm => (gives_watchBurst hshape).leaves ?_⟩
  · have hgroups := Core.burstGroups_of_not_short hshort (by rw [hphase]; decide) hfault hgrade
    have hwatch : s.core.burstWatch v = s.core.acq.watch.zipIdx.map (fun g => match v[g.2]? with
        | some n => ({ g.1.counted s.core.prof.ctMax n with shortRun := 0 } : WatchGroup).detect n.isSome s.core.prof.wDelta s.core.prof.wK
        | none => g.1) := by
      refine List.map_congr_left fun g _ => ?_
      cases hv : v[g.2]? with
      | none => rfl
      | some n => exact g.1.burst_of_not_short fun m hm => hshort m (hm ▸ List.mem_of_getElem? hv)
    refine ⟨?_, (Core.watchBurst_watch hphase v).trans hwatch⟩
    rw [Core.watchBurst, hphase, beq_self_eq_true, Core.when_true, hgroups]
    dsimp only
    rw [Core.approach_of_off (by exact hon), if_neg Bool.false_ne_true]
    split
    · have hoff : s.core.prof.wakeOn.testBit 1 = false := by rw [hon, Nat.zero_testBit]
      rw [if_neg (by rw [Core.modAcq, hoff]; exact Bool.false_ne_true)]
      rfl
    · rfl
  · rw [Core.watchBurst_watch hphase, Core.burstWatch_getElem? hg hn, WatchGroup.burst_of_short hshort hseeded]
  · have honly := s.core.burstGroups_only v
    have hpw : (s.core.burstGroups v).pw = s.core.pw := by rw [honly]
    have hprof : (s.core.burstGroups v).prof = s.core.prof := by rw [honly]
    have hwatch : (s.core.burstGroups v).acq.watch = s.core.burstWatch v := by rw [honly]
    have hgroup := Core.burstWatch_getElem? hg hn
    rw [WatchGroup.burst_of_drop hlong hseeded hdrop] at hgroup
    have happroach : (s.core.burstGroups v).approach = true :=
      Core.approach_of_mem (by rw [hprof]; exact hon) (by rw [hwatch]; exact List.mem_of_getElem? hgroup) (by rw [hprof]; exact hconfirm) rfl
    rw [Core.watchBurst_of_approach hphase happroach]
    have hwake := Core.watchWake_only (c := s.core.burstGroups v) (by rw [hpw]; exact hphase) 5
    rw [hwake.pw, hwake.acq, hwake.prof, Core.watchPower, hpw, hprof]
    refine ⟨rfl, ?_, rfl, hphase, rfl, rfl⟩
    dsimp only
    rw [higher_run, ite_self]

end Sys2Proof.Machine

/-!
PROOFS. Sending over the hedge (chapters 08 and 11, R260, R270 to R273, R344, R345, R347): what a packet sent, relayed, held or dropped leaves
unchanged.
-/
namespace Sys2Proof.Machine

/-- `d` is `c` but for what the sending of packets may change: the frames that wait on the ports, the relay buffer and the counts of this tile's
packets, transmit counters with what their reservations write to NVM, PKTOUT, and what events change. -/
structure Sent (c d : Core) : Prop where
  only : d = { c with
    lnk := d.lnk
    hg := { c.hg with relay := d.hg.relay, seen := d.hg.seen, ownSeq := d.hg.ownSeq, ownFresh := d.hg.ownFresh }
    nvm := { c.nvm with
      tenants := d.nvm.tenants, fieldMap := d.nvm.fieldMap, mapPending := d.nvm.mapPending, faultsSaved := d.nvm.faultsSaved
      rows := d.nvm.rows, sparesUsed := d.nvm.sparesUsed, copies := d.nvm.copies, older := d.nvm.older }
    ten := d.ten, qs := d.qs, host := { c.host with attnsrc := d.host.attnsrc, outRsp := d.host.outRsp }, free := d.free
    rep := { c.rep with extra := d.rep.extra, grade := d.rep.grade, sparesOut := d.rep.sparesOut, tele := d.rep.tele } }
  ports : ∀ p : Port, d.port p = { c.port p with txq := (d.port p).txq }

namespace Sent

theorem refl (c : Core) : Sent c c := ⟨rfl, fun _ => rfl⟩

theorem trans {a b c : Core} (h : Sent a b) (k : Sent b c) : Sent a c := by
  refine ⟨?_, fun p => by rw [k.ports, h.ports]⟩
  have h1 := h.only
  have k1 := k.only
  rw [k1, h1]

theorem of_nvm {c d : Core} (h : OnlyNvm c d) : Sent c d := by
  have hlnk : d.lnk = c.lnk := by rw [h]
  refine ⟨?_, fun p => by rw [Core.port_congr hlnk]⟩
  unfold OnlyNvm at h
  rw [h]

theorem of_records {c d : Core} (h : OnlyRecords c d) : Sent c d := .of_nvm (.of_records (.refl c) h)

theorem of_txq {c d : Core} (h : OnlyTxq c d) : Sent c d := ⟨by rw [h.1], h.2⟩

/-- What sending changes is of the hedge layer. -/
theorem hedge {c d : Core} (h : Sent c d) : OnlyHedge c d := by
  have h1 := h.only
  unfold OnlyHedge
  rw [h1]

theorem pw {c d : Core} (h : Sent c d) : d.pw = c.pw := by rw [h.only]
theorem ret {c d : Core} (h : Sent c d) : d.ret = c.ret := by rw [h.only]
theorem hp {c d : Core} (h : Sent c d) : d.hp = c.hp := by rw [h.only]
theorem prof {c d : Core} (h : Sent c d) : d.prof = c.prof := by rw [h.only]
theorem acq {c d : Core} (h : Sent c d) : d.acq = c.acq := by rw [h.only]
theorem node {c d : Core} (h : Sent c d) : d.node = c.node := by rw [h.only]
theorem trk {c d : Core} (h : Sent c d) : d.trk = c.trk := by rw [h.only]
theorem hg {c d : Core} (h : Sent c d) :
    d.hg = { c.hg with relay := d.hg.relay, seen := d.hg.seen, ownSeq := d.hg.ownSeq, ownFresh := d.hg.ownFresh } := congrArg Core.hg h.only
theorem alloc {c d : Core} (h : Sent c d) : d.alloc = c.alloc := by rw [h.only]; rfl

end Sent

namespace Core

theorem relayPut_sent (c : Core) (i : RelayItem) : Sent c (c.relayPut i) := ⟨rfl, fun _ => rfl⟩

theorem present_sent (c : Core) (i : OutItem) : Sent c (c.present i) := ⟨rfl, fun _ => rfl⟩

theorem noteSeen_sent (c : Core) (b : List Byte) : Sent c (c.noteSeen b) := ⟨rfl, fun _ => rfl⟩

theorem sendPacketOn_sent (c : Core) (p : Port) (b : List Byte) (k : Option (Tenant × Nat × Bool × Bool)) (again : Bool) :
    Sent c (c.sendPacketOn p b k again) := .of_txq (c.sendPacketOn_only p b k again)

theorem modTenantRec_sent (c : Core) (t : Tenant) (f : TenantRec → TenantRec) : Sent c (c.modTenantRec t f) := ⟨rfl, fun _ => rfl⟩

theorem modTenantSt_sent (c : Core) (t : Tenant) (f : TenantSt → TenantSt) : Sent c (c.modTenantSt t f) := ⟨rfl, fun _ => rfl⟩

/-- A tenant's record written to NVM (R344, R345, R396). -/
theorem write_tenantRec_sent (c : Core) (t : Tenant) (f : TenantRec → TenantRec) : Sent c (c.write .tenant (fun c => c.modTenantRec t f)).1 := by
  cases hw : (c.writeCopy .tenant).2
  · obtain ⟨d, hd, heq⟩ := write_not_done (fun c => c.modTenantRec t f) hw
    rw [heq]
    exact .of_nvm hd
  · obtain ⟨d, hd, heq⟩ := write_done (c := c) (r := .tenant) (f := fun c => c.modTenantRec t f) (by decide) (fun _ _ => rfl) hw
    rw [heq]
    exact (Sent.of_nvm hd).trans (d.modTenantRec_sent t f)

/-- The tile with the transmit reservation of a tenant renewed where it is due (R345). -/
def txRenewed (c : Core) (t : Tenant) : Core :=
  if decide ((c.tenantRec t).txS.toNat ≤ (c.tenantSt t).txCtr.toNat + 256) then
    (c.write .tenant (fun d => d.modTenantRec t (fun r => { r with txS := (c.tenantSt t).txCtr + 4096#32 }))).1
  else c

theorem drawTx_eq (c : Core) (t : Tenant) :
    c.drawTx t = if (c.tenantSt t).txCtr.toNat < ((c.txRenewed t).tenantRec t).txS.toNat then
      ((c.txRenewed t).modTenantSt t (fun s => { s with txCtr := (c.tenantSt t).txCtr + 1#32 }), some (c.tenantSt t).txCtr)
    else (c.txRenewed t, none) := rfl

theorem drawTx_sent (c : Core) (t : Tenant) : Sent c (c.drawTx t).1 := by
  have hdue : Sent c (c.txRenewed t) := by
    unfold txRenewed
    split
    · exact c.write_tenantRec_sent t _
    · exact .refl c
  rw [drawTx_eq]
  split
  · exact hdue.trans (modTenantSt_sent _ t _)
  · exact hdue

theorem sealPacket_sent (c : Core) (h : PktHead) (wantAuth : Bool) (payload : List Byte) : Sent c (c.sealPacket h wantAuth payload).1 := by
  have hdraw := c.drawTx_sent h.tenant
  unfold sealPacket
  split
  · exact .refl c
  · revert hdraw
    rcases c.drawTx h.tenant with ⟨d, fresh⟩
    cases fresh <;> exact id

/-- A fold of operations that only send. -/
theorem foldl_sent {α : Type} (f : Core → α → Core) (hf : ∀ c a, Sent c (f c a)) (l : List α) (c : Core) : Sent c (l.foldl f c) :=
  foldl_keeps Sent Sent.refl (fun _ _ _ => Sent.trans) f hf l c

theorem sendOut_sent (c : Core) (b : List Byte) (arrival : Option Port) : Sent c (c.sendOut b arrival) := by
  unfold sendOut
  split
  · exact foldl_sent _ (fun c p => c.sendPacketOn_sent p b none false) _ c
  · split
    · exact c.sendPacketOn_sent _ _ _ _
    · exact c.relayPut_sent _

theorem sendRsp_sent (c : Core) (r : Rsp) : Sent c (c.sendRsp r) := by
  have hseal := c.sealPacket_sent (c.rspHead r 15) r.auth r.payload
  unfold sendRsp
  split
  · exact c.present_sent _
  · revert hseal
    rcases c.sealPacket (c.rspHead r 15) r.auth r.payload with ⟨d, b⟩
    cases b with
    | none => exact fun h => h.trans (d.relayPut_sent _)
    | some b => exact fun h => h.trans (d.sendOut_sent _ _)

theorem answer_sent (c : Core) (x : CmdCtx) (op status : Byte) (payload : List Byte) : Sent c (c.answer x op status payload) := by
  unfold answer
  dsimp only
  split
  · exact c.sendRsp_sent _
  · exact foldl_sent _ (fun c _ => c.sendRsp_sent _) _ c

theorem hedgePacket_sent (c : Core) (dst : Addr) (op : Nat) (payload : List Byte) : Sent c (c.hedgePacket dst op payload).1 := by
  unfold hedgePacket
  dsimp only
  split <;> exact ⟨rfl, fun _ => rfl⟩

theorem hedgeSend_sent (c : Core) (dst : Addr) (op : Nat) (payload : List Byte) : Sent c (c.hedgeSend dst op payload) := by
  have hpacket := c.hedgePacket_sent dst op payload
  unfold hedgeSend
  revert hpacket
  rcases c.hedgePacket dst op payload with ⟨d, b⟩
  intro hpacket
  dsimp only
  split
  · exact (hpacket.trans (d.noteSeen_sent b)).trans (sendOut_sent _ _ _)
  · exact hpacket.trans (d.sendOut_sent _ _)

theorem sendAdvert_sent (c : Core) : Sent c c.sendAdvert := c.hedgeSend_sent _ _ _

theorem relayRetry_sent (c : Core) : Sent c c.relayRetry := by
  have hclear : Sent c { c with hg := { c.hg with relay := [] } } := ⟨rfl, fun _ => rfl⟩
  have hout : ∀ (i : RelayItem) (c : Core) (b : List Byte), Sent c (match c.hopFor b i.notVia with
      | some p => c.sendPacketOn p b none i.notVia.isSome
      | none => c.relayPut { i with bytes := b, held := none }) := by
    intro i c b
    split
    · exact c.sendPacketOn_sent _ _ _ _
    · exact c.relayPut_sent _
  unfold relayRetry
  refine hclear.trans (foldl_sent _ (fun c i => ?_) _ _)
  dsimp only
  split
  · exact hout i c _
  case h_2 r hr =>
    have hseal := c.sealPacket_sent (c.rspHead r 15) r.auth r.payload
    revert hseal
    rcases c.sealPacket (c.rspHead r 15) r.auth r.payload with ⟨d, b⟩
    cases b with
    | none => exact fun h => h.trans (d.relayPut_sent _)
    | some b => exact fun h => h.trans (hout i d b)

end Core
end Sys2Proof.Machine

/-!
PROOFS. The receivers of the link ports (chapter 07, R226 to R236, R251).
-/
namespace Sys2Proof.Machine

theorem gives_linkCharacter {p : Port} {start : Nat} {bits : List (List Bool)} {s : State}
    (h : (!(s.core.fast && (s.core.port p).listens) || s.core.charShape p bits) = true) :
    Gives (.linkCharacter p start bits) s (s.core.linkChar p start bits) := by
  have hrun : exec (.linkCharacter p start bits) s =
    onCoreIf (!(s.core.fast && (s.core.port p).listens) || s.core.charShape p bits) (fun c => c.linkChar p start bits) s := rfl
  rw [h, onCoreIf_true] at hrun
  exact gives_of_onCore hrun rfl

theorem gives_falseStart (p : Port) (s : State) : Gives (.falseStart p) s (s.core.falseStart p) := rfl
theorem gives_linkFrameEnd (p : Port) (s : State) : Gives (.linkFrameEnd p) s (s.core.frameEnd p) := rfl

theorem modifyAt_congr {α : Type} {l : List α} {i : Nat} {f g : α → α} (h : ∀ x, l[i]? = some x → f x = g x) :
    modifyAt l i f = modifyAt l i g := by
  unfold modifyAt
  cases hx : l[i]? with
  | none => rfl
  | some x => exact congrArg (l.set i) (h x hx)

theorem modifyAt_modifyAt {α : Type} (l : List α) (i : Nat) (f g : α → α) :
    modifyAt (modifyAt l i f) i g = modifyAt l i (fun x => g (f x)) := by
  unfold modifyAt
  cases hx : l[i]? with
  | none => simp [hx]
  | some x =>
    obtain ⟨hlt, -⟩ := List.getElem?_eq_some_iff.mp hx
    simp [List.getElem?_set_self hlt]

namespace Core

/-- A change of a port goes by what it makes of the port's state. -/
theorem modPort_congr {c : Core} {p : Port} {f g : LinkPort → LinkPort} (h : f (c.port p) = g (c.port p)) : c.modPort p f = c.modPort p g := by
  unfold modPort
  rw [modifyAt_congr (g := g)]
  intro x hx
  have hport : c.port p = x := by rw [port, List.getD_eq_getElem?_getD, hx]; rfl
  rw [← hport]
  exact h

theorem modPort_modPort (c : Core) (p : Port) (f g : LinkPort → LinkPort) : (c.modPort p f).modPort p g = c.modPort p (fun l => g (f l)) := by
  unfold modPort
  rw [modifyAt_modifyAt]

/-- A port of the tile after its change. -/
theorem modPort_port_self {c : Core} {p : Port} (h : p.val < c.lnk.length) (f : LinkPort → LinkPort) : (c.modPort p f).port p = f (c.port p) := by
  rw [modPort_port, if_pos ⟨rfl, h⟩]

/-- A port with a fact that does not hold of a port at reset is one of the tile's. -/
theorem lt_length_of_port {c : Core} {p : Port} {P : LinkPort → Prop} (h : P (c.port p)) (hreset : ¬ P LinkPort.reset) : p.val < c.lnk.length := by
  by_contra hout
  exact hreset (port_of_le hout ▸ h)

theorem fast_eq_not_asleep {c : Core} (h : c.fast = true) : c.pw.phase.isAsleep = false := by
  rw [fast] at h
  revert h
  cases c.pw.phase <;> decide

/-- A WIRE start that is not low at its middle (R232). -/
theorem falseStart_of_wire {c : Core} {p : Port} (hfast : c.fast = true) (hlisten : (c.port p).listens = true)
    (hwire : (c.port p).cfg.mode = 2#2) :
    c.falseStart p = c.modPort p (fun l => { l with cntNoise := if l.cntNoise = 0xFFFF#16 then 0xFFFF#16 else l.cntNoise + 1#16 }) := by
  have hw : c.isWire p = true := by rw [isWire, hwire]; rfl
  rw [falseStart, hfast, hlisten, hw, Bool.and_self, Bool.and_self, when_true]
  exact congrArg (fun f => c.modPort p (fun l => { l with cntNoise := f l.cntNoise })) (funext incSat_eq)

/-- What a character received leaves on its port (R63, R235, R245). -/
def took (l : LinkPort) (start : Nat) (x : RxChar) : LinkPort :=
  { l.accept start x with
    woke := if x.fe || x.pe then (l.accept start x).woke else false
    noiseMask := if x.fe || x.pe then (l.accept start x).noiseMask else false }

/-- A character that a listening port takes, in a tile that has not decided to enter Doze (R226, R233, R235). -/
theorem linkChar_spec {c : Core} {p : Port} {start : Nat} {bits : List (List Bool)} (hfast : c.fast = true)
    (hlisten : (c.port p).listens = true) (hentry : c.pw.entry = none)
    (hstart : (c.port p).cfg.mode = 2#2 → (bits.map majority).headD false = false) :
    let d := c.linkChar p start bits
    let x := readChar (c.port p).cfg.par (bits.map majority) (!(c.port p).inFrame)
    d = { c with lnk := modifyAt c.lnk p.val (fun l => took l start x), rep := { c.rep with tele := d.rep.tele } } := by
  have hgo : ¬ (!c.fast || !(c.port p).listens) = true := by simp [hfast, hlisten]
  have hgood : ¬ (c.isWire p && (bits.map majority).headD false) = true := by
    intro h
    rw [Bool.and_eq_true, isWire, beq_iff_eq] at h
    exact absurd (hstart h.1) (by rw [h.2]; decide)
  have hstay : ∀ (d : Core) (m : Bool), d.pw = c.pw → (if m then d else d.wakeSource (bitMask 1 ||| bitMask (8 + p.val)) .quiet false) = d := by
    intro d m hd
    cases m
    · exact wakeSource_of_awake (by rw [hd]; exact fast_eq_not_asleep hfast) (by rw [hd, hentry]) _ _ _
    · rfl
  intro d x
  have hd : d = if !(!x.fe && !x.pe) then (c.modPort p (fun l => took l start x)).modTele (fun t => { t with linkErr := t.linkErr + 1 })
      else c.modPort p (fun l => took l start x) := by
    have htook : (fun l : LinkPort => if (!x.fe && !x.pe) then { l.accept start x with woke := false, noiseMask := false } else l.accept start x) =
        fun l => took l start x := by
      funext l
      unfold took
      cases x.fe <;> cases x.pe <;> rfl
    simp only [d]
    unfold linkChar
    rw [if_neg hgo, if_neg hgood]
    dsimp only
    rw [hstay]
    · rw [htook]
    · split <;> rfl
  rw [hd]
  split <;> rfl

/-- In NORMAL operation a character with an error, or without a place, makes its frame BAD (R235). -/
theorem took_rxBad {l : LinkPort} (hframe : l.inFrame = true) (hop : l.op = 0#2) (start : Nat) (x : RxChar) :
    (took l start x).rxBad = (l.rxBad || x.fe || x.pe || l.rxFull) := by
  have hbegin : l.begin start = l := if_pos hframe
  have haccept : l.accept start x = (l.count x).framePut x := by
    unfold LinkPort.accept
    dsimp only
    rw [hbegin]
    have hcount : (l.count x).op = 0#2 := hop
    rw [hcount]
    rfl
  have hbad : (took l start x).rxBad = (l.accept start x).rxBad := rfl
  have hop' : ((l.count x).op == 0#2) = true := by
    rw [beq_iff_eq]
    exact hop
  rw [hbad, haccept, LinkPort.framePut, hop', Bool.true_and]
  dsimp only
  split <;> rfl

/-- A frame ends on a port in NORMAL operation (R234, R235, R251). -/
theorem frameEnd_of_normal {c : Core} {p : Port} (hfast : c.fast = true) (hframe : (c.port p).inFrame = true) (hop : (c.port p).op = 0#2)
    (hecho : (c.port p).echo = none) :
    c.frameEnd p = c.modPort p (fun l =>
      { l with
        inFrame := false, rxBytes := [], rxLong := false, rxBad := false
        cntBad := if (c.port p).rxBad then (if l.cntBad = 0xFFFF#16 then 0xFFFF#16 else l.cntBad + 1#16) else l.cntBad
        delivered := if !(c.port p).rxBad && !l.rxLong && frameOk ((c.port p).rxBytes.map (fun x => x.data)) then
            l.delivered ++ [{ bytes := (c.port p).rxBytes.map (fun x => x.data), edge := l.rxEdge }]
          else l.delivered }) := by
  have hend : ∀ f : LinkPort → LinkPort, (f (c.port p)).echo = none → (c.modPort p f).echoEnd p = c.modPort p f := by
    intro f hf
    have hnone : ((c.modPort p f).port p).echo = none := by
      rw [modPort_port]
      split
      · exact hf
      · exact hecho
    rw [echoEnd, hnone]
  have htakes : ((c.port p).op == 0#2 || (c.port p).op == 3#2) = true := by rw [hop]; rfl
  rw [frameEnd, hfast, hframe, Bool.and_self, when_true]
  dsimp only
  rw [htakes, hend]
  · refine modPort_congr ?_
    simp only [Bool.and_true, Bool.true_and, hecho, Option.map_none, ← incSat_eq]
  · simp only [hecho, Option.map_none]

end Core

/-- Settles O14: each reception goes by what the port's state makes of it. -/
theorem linkReceptionCompletes : Obligations.LinkReceptionCompletes := by
  unfold Obligations.LinkReceptionCompletes
  refine ⟨fun s p start bits hfast hlisten hshape hentry hstart => (gives_linkCharacter (by rw [hshape, Bool.or_true])).leaves ?_,
    fun s p start bits hfast hlisten hshape hwire hhigh => (gives_linkCharacter (by rw [hshape, Bool.or_true])).congr ?_,
    fun s p start bits hdeaf => (gives_linkCharacter (by rw [hdeaf, Bool.and_false]; rfl)).congr ?_,
    fun s p hfast hlisten hwire => (gives_falseStart p s).congr (Core.falseStart_of_wire hfast hlisten hwire),
    fun s p hfast hframe hop hecho => (gives_linkFrameEnd p s).congr (Core.frameEnd_of_normal hfast hframe hop hecho)⟩
  · have h := Core.linkChar_spec hfast hlisten hentry hstart (start := start)
    dsimp only at h ⊢
    generalize s.core.linkChar p start bits = c at h ⊢
    have hlnk := congrArg Core.lnk h
    refine ⟨h.trans ?_, hlnk, fun hframe hop => ?_⟩
    · rw [hlnk]
    · have hlen : p.val < s.core.lnk.length := Core.lt_length_of_port (P := fun l => l.inFrame = true) hframe (by decide)
      rw [Core.port_congr (d := c) (c := s.core.modPort p _) hlnk, Core.modPort_port_self hlen, Core.took_rxBad hframe hop]
  · have hw : (s.core.isWire p && (bits.map majority).headD false) = true := by rw [Core.isWire, hwire, hhigh]; rfl
    rw [Core.linkChar, if_neg (by simp [hfast, hlisten]), if_pos hw, Core.falseStart_of_wire hfast hlisten hwire]
    rfl
  · rw [Core.linkChar, if_pos (by simp [hdeaf])]

end Sys2Proof.Machine

/-!
PROOFS. The transmitters of the link ports (chapters 07 and 08, R223, R227, R237, R245, R253, R332).
-/
namespace Sys2Proof.Machine

theorem gives_linkTransmit (p : Port) (launch : Nat) (s : State) : Gives (.linkTransmit p launch) s (s.core.transmit p launch) := rfl
theorem gives_linkFrameSent (p : Port) (s : State) : Gives (.linkFrameSent p) s (s.core.frameSent p) := rfl
theorem gives_linkConfigApply (p : Port) (s : State) : Gives (.linkConfigApply p) s (s.core.configApply p) := rfl

namespace Core

/-- The next raw character of a port that does not send BREAK (R245). -/
theorem nextRaw_of_cons {l : LinkPort} {b : Byte} {rest : List Byte} (hfifo : l.txFifo = b :: rest) (hbrk : l.txbrk = false) :
    l.nextRaw = { l with rawOnLine := true, lineOut := [b], txFifo := rest } := by
  rw [LinkPort.nextRaw, hfifo]
  dsimp only
  rw [hbrk, if_neg Bool.false_ne_true]

theorem nextRaw_of_nil {l : LinkPort} (hfifo : l.txFifo = []) : l.nextRaw = { l with rawOnLine := false, lineOut := [] } := by
  rw [LinkPort.nextRaw, hfifo]

theorem txbrk_of_canSend {c : Core} {p : Port} (h : c.canSend p = true) : (c.port p).txbrk = false := by
  rw [canSend] at h
  simp only [Bool.and_eq_true, Bool.not_eq_true'] at h
  obtain ⟨⟨_, h⟩, -⟩ := h
  exact h

/-- In RAW and LOOP the transmitter takes the oldest raw character (R245). -/
theorem transmit_raw {c : Core} {p : Port} (hsend : c.canSend p = true) (hop : (c.port p).op = 1#2 ∨ (c.port p).op = 2#2) {b : Byte}
    {rest : List Byte} (hfifo : (c.port p).txFifo = b :: rest) (launch : Nat) :
    c.transmit p launch = c.modPort p (fun l => { l with rawOnLine := true, lineOut := [b], txFifo := rest, launch := launch }) := by
  have hraw : ((c.port p).op == 1#2 || (c.port p).op == 2#2) = true := by rcases hop with h | h <;> rw [h] <;> rfl
  rw [transmit, hsend, when_true]
  dsimp only
  rw [if_pos hraw, hfifo, if_neg (by exact Bool.false_ne_true)]
  exact modPort_congr (by rw [nextRaw_of_cons hfifo (txbrk_of_canSend hsend)])

/-- In NORMAL operation the transmitter takes the hedge layer's frame (R237). -/
theorem transmit_of_normal {c : Core} {p : Port} (hsend : c.canSend p = true) (hop : (c.port p).op = 0#2) (launch : Nat) :
    c.transmit p launch = c.startFrame p launch := by
  rw [transmit, hsend, when_true]
  dsimp only
  rw [if_neg (by rw [hop]; decide)]

section

variable {c : Core} {p : Port} {launch : Nat} {f : TxFrame} {rest : List TxFrame}
  (hop : (c.port p).op = 0#2) (hcfg : (c.port p).pendCfg = none) (hpend : (c.port p).pendOp = none) (hawake : (c.hport p).asleep = false)
  (hqueue : (c.port p).txq = f :: rest) (hprobe : f.body ≠ .probe)
include hop hcfg hpend hawake hqueue hprobe

/-- An unacknowledged frame goes out as it is (R253). -/
theorem startFrame_unacked (hacked : f.body.acked = false) :
    c.startFrame p launch = c.modPort p (fun l => { l with txq := rest, onLine := some f, lineOut := f.body.frame 0#4, launch := launch }) := by
  have hp : (f.body == .probe) = false := beq_false_of_ne hprobe
  unfold startFrame
  simp only [hqueue, hcfg, hpend, hop, hawake, hacked, hp, Option.isSome_none, bne_self_eq_false, Bool.false_and, Bool.or_false,
    Bool.false_eq_true, if_false, Bool.not_false, if_true, modPort_modPort]

/-- An acknowledged frame takes the next LSEQ while the window has room (R253). -/
theorem startFrame_numbered (hacked : f.body.acked = true) (hnew : f.lseq = none)
    (hwindow : unacked (c.port p) (c.hport p) < (if (c.port p).cfg.mode = 2#2 then 1 else 4)) :
    c.startFrame p launch = (c.modHp p (fun h => { h with lseqTx := (c.hport p).lseqTx + 1#4 })).modPort p (fun l =>
      { l with
        txq := rest, onLine := some { f with lseq := some (c.hport p).lseqTx }, lineOut := f.body.frame (c.hport p).lseqTx
        launch := launch }) := by
  have hp : (f.body == .probe) = false := beq_false_of_ne hprobe
  have hroom : ¬ (if c.isWire p then 1 else 4) ≤ unacked (c.port p) (c.hport p) := by
    rw [isWire]
    simpa using hwindow
  unfold startFrame
  simp only [hqueue, hcfg, hpend, hop, hawake, hacked, hp, hnew, Option.isSome_none, bne_self_eq_false, Bool.false_and, Bool.or_false,
    Bool.false_eq_true, if_false, Bool.not_true, if_neg hroom]
  unfold modPort modHp
  dsimp only
  rw [modifyAt_modifyAt]

end

/-- A frame sent leaves the line, and waits for its ACK where it is acknowledged (R253). -/
theorem frameSent_of_frame {c : Core} {p : Port} {f : TxFrame} (hfast : c.fast = true) (hraw : (c.port p).rawOnLine = false)
    (hecho : (c.port p).echoOut = false) (hline : (c.port p).onLine = some f) (hready : f.body ≠ .ready) :
    c.frameSent p = { c with
      lnk := modifyAt c.lnk p.val (fun l => { l with onLine := none, lineOut := [] })
      hp := if f.body.acked then modifyAt c.hp p.val (fun h => { h with outstanding := h.outstanding ++ [f] }) else c.hp } := by
  have hr : (f.body == .ready) = false := beq_false_of_ne hready
  rw [frameSent, hfast, when_true]
  simp only [hraw, hecho, hline, hr, Bool.false_and, Bool.false_eq_true, if_false, Bool.not_false, Bool.and_true, Bool.or_false]
  split <;> rfl

/-- Outside a frame new settings of a port that stays in use take effect (R223, R227). -/
theorem configApply_settings {c : Core} {p : Port} {g : LinkCfg} (hfast : c.fast = true) (hframe : (c.port p).inFrame = false)
    (hline : (c.port p).onLine = none) (hraw : (c.port p).rawOnLine = false) (hecho : (c.port p).echoOut = false)
    (hcfg : (c.port p).pendCfg = some g) (hop : (c.port p).pendOp = none) (hused : (c.port p).cfg.mode ≠ 0#2) (huse : g.mode ≠ 0#2) :
    c.configApply p = c.modPort p (fun l => { l with cfg := g, pendCfg := none }) := by
  have hg : (g.mode == 0#2) = false := beq_false_of_ne huse
  have hl : ((c.port p).cfg.mode == 0#2) = false := beq_false_of_ne hused
  unfold configApply
  simp only [hfast, hframe, hline, hraw, hecho, hop, hcfg, hg, Option.isNone_none, Option.isSome_none, Bool.false_and, Bool.not_false,
    Bool.and_self, when_true, Bool.false_eq_true, if_false]
  exact modPort_congr (by simp [hl])

/-- Outside a frame, with nothing waiting, a new operation takes effect (R227, R332). -/
theorem configApply_operation {c : Core} {p : Port} {o : BitVec 2} (hfast : c.fast = true) (hframe : (c.port p).inFrame = false)
    (hline : (c.port p).onLine = none) (hraw : (c.port p).rawOnLine = false) (hecho : (c.port p).echoOut = false)
    (hcfg : (c.port p).pendCfg = none) (hop : (c.port p).pendOp = some o) (hqueue : (c.port p).txq = []) :
    c.configApply p = c.modPort p (fun l =>
      { l with op := o, pendOp := none, echo := if o = 3#2 then some { waiting := [], started := false, ended := false } else none }) := by
  unfold configApply
  simp only [hfast, hframe, hline, hraw, hecho, hop, hcfg, hqueue, List.any_nil, Option.isNone_none, Option.isSome_some, Bool.and_false,
    Bool.not_false, Bool.and_self, when_true, beq_iff_eq]

end Core

/-- Settles O15: what stands at the front of the port goes on the line, and what waits takes effect outside a frame. -/
theorem linkTransmissionCompletes : Obligations.LinkTransmissionCompletes := by
  unfold Obligations.LinkTransmissionCompletes
  refine ⟨fun s p launch hsend hop b rest hfifo => (gives_linkTransmit p launch s).congr (Core.transmit_raw hsend hop hfifo launch),
    fun s p hfast hraw hop => ?_, fun s p launch f rest hsend hop hcfg hpend hawake hqueue hprobe => ?_,
    fun s p f hfast hraw hecho hline hready => (gives_linkFrameSent p s).congr (Core.frameSent_of_frame hfast hraw hecho hline hready),
    fun s p g hfast hframe hline hraw hecho hcfg hop hused huse =>
      (gives_linkConfigApply p s).congr (Core.configApply_settings hfast hframe hline hraw hecho hcfg hop hused huse),
    fun s p o hfast hframe hline hraw hecho hcfg hop hqueue =>
      (gives_linkConfigApply p s).congr (Core.configApply_operation hfast hframe hline hraw hecho hcfg hop hqueue)⟩
  · have hsent : s.core.frameSent p = s.core.modPort p LinkPort.nextRaw := by
      rw [Core.frameSent, hfast, Core.when_true]
      dsimp only
      rw [if_pos hraw]
      exact Core.modPort_congr (by rw [if_neg (by rw [hop]; decide)])
    refine ⟨fun hfifo => (gives_linkFrameSent p s).congr (hsent.trans ?_),
      fun b rest hfifo hbrk => (gives_linkFrameSent p s).congr (hsent.trans ?_)⟩
    · exact Core.modPort_congr (Core.nextRaw_of_nil hfifo)
    · exact Core.modPort_congr ((Core.nextRaw_of_cons hfifo hbrk).trans (by rw [← hraw]))
  · have htransmit := Core.transmit_of_normal hsend hop launch
    refine ⟨fun hacked => (gives_linkTransmit p launch s).congr ?_, fun hacked hnew hwindow => (gives_linkTransmit p launch s).leaves ?_⟩
    · rw [htransmit]
      exact Core.startFrame_unacked hop hcfg hpend hawake hqueue hprobe hacked
    · have hlen : p.val < s.core.lnk.length :=
        Core.lt_length_of_port (P := fun l => l.txq ≠ []) (by rw [hqueue]; exact List.cons_ne_nil _ _) (by decide)
      rw [htransmit, Core.startFrame_numbered hop hcfg hpend hawake hqueue hprobe hacked hnew hwindow]
      exact ⟨rfl, Core.modPort_port_self (c := s.core.modHp p _) hlen _⟩

end Sys2Proof.Machine

/-!
PROOFS. The line monitor, the ECHO operation, link wakes, and the loss of a partner (chapters 07 and 08, R62, R63, R236, R239, R240, R242, R248,
R249, R294, R296).
-/
namespace Sys2Proof.Machine

theorem gives_linkHuntStart (p : Port) (s : State) : Gives (.linkHuntStart p) s (s.core.huntStart p) := rfl
theorem gives_lineLive (p : Port) (s : State) : Gives (.lineLive p) s (s.core.lineLive p) := rfl
theorem gives_lineBreak (p : Port) (s : State) : Gives (.lineBreak p) s (s.core.lineBreak p) := rfl
theorem gives_lineBreakClear (p : Port) (s : State) : Gives (.lineBreakClear p) s (s.core.breakClear p) := rfl
theorem gives_severed (p : Port) (s : State) : Gives (.severed p) s (s.core.severed p) := rfl
theorem gives_echoCharacter (p : Port) (s : State) : Gives (.echoCharacter p) s (s.core.echoChar p) := rfl
theorem gives_echoTimeout (p : Port) (s : State) : Gives (.echoTimeout p) s (s.core.echoTimeout p) := rfl
theorem gives_linkWakeSpurious (p : Port) (s : State) : Gives (.linkWakeSpurious p) s (s.core.wakeSpurious p) := rfl
theorem gives_linkWakeMaskEnd (p : Port) (s : State) :
    Gives (.linkWakeMaskEnd p) s (s.core.modPort p (fun l => { l with noiseMask := false })) := rfl

/-- `d` is `c` but for the hedge layer and what the sending of packets may change. -/
def SentHedge (c d : Core) : Prop := Sent { c with hg := d.hg } d

namespace SentHedge

theorem of_sent {c d : Core} (h : Sent c d) : SentHedge c d := by
  have honly := h.only
  refine ⟨?_, h.ports⟩
  rw [honly]

theorem refl (c : Core) : SentHedge c c := of_sent (.refl c)

theorem trans {a b c : Core} (h : SentHedge a b) (k : SentHedge b c) : SentHedge a c := by
  have h1 := Sent.only h
  have k1 := Sent.only k
  refine ⟨?_, fun p => ?_⟩
  · rw [k1, h1]
  · have hp : b.port p = { a.port p with txq := (b.port p).txq } := Sent.ports h p
    have kp : c.port p = { b.port p with txq := (c.port p).txq } := Sent.ports k p
    show c.port p = { a.port p with txq := (c.port p).txq }
    rw [kp, hp]

theorem modHg (c : Core) (f : Hedge → Hedge) : SentHedge c (c.modHg f) := ⟨rfl, fun _ => rfl⟩

end SentHedge

namespace Core

/-! ### The loss of a partner (R294, R296) -/

/-- What the loss of its partner does to a port's hedge side; `seam` tells that the seam's contacts become uncertain. -/
def lostSide (h : HedgePort) (seam : Bool) : HedgePort :=
  { h with
    partner := none, present := false, asleep := false, outstanding := [], nakWait := false, wakeTry := none, delayRun := none, syncD := none
    uncertain := h.uncertain || seam, takeover := h.takeover || seam }

/-- What the loss of its partner does to a port's line side. -/
def lostLine (l : LinkPort) : LinkPort := { l with txq := [], onLine := none, lineOut := [] }

theorem rootLoss_hedge (c : Core) (src : Addr) (r : LossReport) : SentHedge c (c.rootLoss src r) := .modHg c _

theorem toRoot_hedge {c : Core} {op : Nat} {payload : List Byte} {own : Core → Core} (h : SentHedge c (own c)) :
    SentHedge c (c.toRoot op payload own) := by
  unfold toRoot
  split
  · exact h
  · exact .of_sent (c.hedgeSend_sent _ _ _)

/-- What a frame carried whose port has lost its partner: its records are no longer fixed, and its packet goes another way (R294). -/
def freeFrame (p : Port) (c : Core) (f : TxFrame) : Core :=
  match f.carries with
  | some (t, n, _, full) => c.modQueue t (fun q => q.fix n full false)
  | none =>
    match f.body with
    | .data b => if pkDst b == 0x3FF#10 then c else c.relayPut { bytes := b, held := none, came := c.pw.rtc, notVia := some p }
    | _ => c

theorem freeFrame_sent (p : Port) (c : Core) (f : TxFrame) : Sent c (freeFrame p c f) := by
  unfold freeFrame
  split
  · exact .of_records (c.modQueue_only _ _)
  · split
    · split
      · exact .refl c
      · exact c.relayPut_sent _
    · exact .refl c

/-- The tile without the partner of a port, its frames freed and its parent gone (R294). -/
def withoutPartner (c : Core) (p : Port) (seam : Bool) : Core :=
  let d := ((c.hport p).outstanding ++ (c.port p).onLine.toList ++ (c.port p).txq).foldl (freeFrame p)
    ((c.modHp p (fun h => lostSide h seam)).modPort p lostLine)
  (if d.hg.parent == some p then d.modHg (fun h => { h with parent := none, p := 0, phi := 0 }) else d).relayRetry

theorem withoutPartner_hedge (c : Core) (p : Port) (seam : Bool) :
    SentHedge ((c.modHp p (fun h => lostSide h seam)).modPort p lostLine) (c.withoutPartner p seam) := by
  have hfree := foldl_sent (freeFrame p) (freeFrame_sent p) ((c.hport p).outstanding ++ (c.port p).onLine.toList ++ (c.port p).txq)
    ((c.modHp p (fun h => lostSide h seam)).modPort p lostLine)
  unfold withoutPartner
  dsimp only
  generalize ((c.hport p).outstanding ++ (c.port p).onLine.toList ++ (c.port p).txq).foldl (freeFrame p) _ = d at *
  refine (SentHedge.of_sent hfree).trans (SentHedge.trans ?_ (.of_sent (relayRetry_sent _)))
  split
  · exact .modHg d _
  · exact .refl d

/-- LOSS to the panel root, where a partner was known (R294). -/
theorem partnerLost_eq (c : Core) (p : Port) (cause : LossCause) :
    c.partnerLost p cause =
      let d := c.withoutPartner p (c.pw.phase == .run && c.isTile p && cause == .severed)
      match (c.hport p).partner with
      | none => d
      | some h =>
        if d.hg.confirmed || d.hg.panelRoot then
          let r : LossReport := { port := BitVec.ofNat 3 p.val, partner := h.addr, uid := h.uid, cause := cause }
          d.toRoot 6 r.bytes (fun d => d.rootLoss d.hg.addr r)
        else d := rfl

/-- The loss of a partner changes its port, and beside it the hedge layer and what is sent. -/
theorem partnerLost_hedge (c : Core) (p : Port) (cause : LossCause) :
    SentHedge ((c.modHp p (fun h => lostSide h (c.pw.phase == .run && c.isTile p && cause == .severed))).modPort p lostLine)
      (c.partnerLost p cause) := by
  rw [partnerLost_eq]
  refine (c.withoutPartner_hedge p _).trans ?_
  dsimp only
  split
  · exact .refl _
  · split
    · exact toRoot_hedge (rootLoss_hedge _ _ _)
    · exact .refl _

/-! ### The line monitor (R236, R239, R240) -/

theorem attn_of_ready {c : Core} (h : c.pw.ready = true) (n : Nat) :
    c.attn n = { c with host := { c.host with attnsrc := c.host.attnsrc ||| bitMask n } } := by rw [attn, if_pos h]

/-- READY answers a wake (R242, R275). -/
theorem huntStart_of_live {c : Core} {p : Port} (hfast : c.fast = true) (hhunt : (c.port p).noHunt = true) (hlive : (c.port p).mon = .live) :
    c.huntStart p =
      (((c.modPort p (fun l => { l with noHunt := false })).modHp p (fun h => { h with asleep := false })).sendFrame p .ready) := by
  rw [huntStart, hfast, hhunt, hlive]
  rfl

/-- A line that becomes LIVE (R62, R239, R256). -/
theorem lineLive_of_down {c : Core} {p : Port} (hpow : isPowered c) (hready : c.pw.ready = true) (hused : (c.port p).cfg.mode ≠ 0#2)
    (hdown : (c.port p).mon = .absent ∨ (c.port p).mon = .severed) :
    c.lineLive p = sendHello { c with
      lnk := modifyAt c.lnk p.val (fun l => { l with mon := .live, sevMask := false, noHunt := false, lowDoze := false })
      hp := modifyAt c.hp p.val (fun h => { h with asleep := false, lseqRx := 0#4, syncD := none })
      host := { c.host with attnsrc := c.host.attnsrc ||| 0x0020#16 } } p := by
  have hguard : (c.powered && c.pw.ready && (c.port p).cfg.mode != 0#2 && ((c.port p).mon == .absent || (c.port p).mon == .severed)) = true := by
    rw [powered_of_isPowered hpow, hready, bne_iff_ne.mpr hused]
    rcases hdown with h | h <;> rw [h] <;> rfl
  rw [lineLive, hguard, when_true]
  dsimp only
  rw [attn_of_ready (by exact hready)]
  rfl

/-- The seam of a port in BREAK is an edge, and the contacts of its band are uncertain (R296). -/
theorem bandUncertain_eq (c : Core) (p : Port) : c.bandUncertain p = { c with
    hp := modifyAt c.hp p.val (fun h => { h with uncertain := true })
    trk := { c.trk with contacts := c.trk.contacts.map (fun k =>
      if !k.isCand && c.prof.inBand (c.seamSegment p) k.pos then { k with flags := k.flags ||| 2#6 } else k) } } := rfl

theorem modifyAt_id {α : Type} (l : List α) (i : Nat) : modifyAt l i (fun x => x) = l := by
  unfold modifyAt
  cases h : l[i]? with
  | none => rfl
  | some x =>
    obtain ⟨hlt, heq⟩ := List.getElem?_eq_some_iff.mp h
    rw [← heq]
    exact List.set_getElem_self hlt

/-- BREAK on a LIVE line (R239, R240, R296). -/
theorem lineBreak_of_live {c : Core} {p : Port} (hfast : c.fast = true) (hready : c.pw.ready = true) (hlive : (c.port p).mon = .live)
    (hsupp : (c.port p).suppressed = false) {seam : Bool}
    (hseam : seam = (c.pw.phase == .run && (c.port p).cfg.mode == 1#2 && (c.hport p).present)) :
    c.lineBreak p = { c with
      lnk := modifyAt c.lnk p.val (fun l => { l with mon := .brk })
      hp := modifyAt c.hp p.val (fun h => { h with uncertain := h.uncertain || seam })
      trk := { c.trk with contacts := c.trk.contacts.map (fun k =>
        if seam && !k.isCand && c.prof.inBand (c.seamSegment p) k.pos then { k with flags := k.flags ||| 2#6 } else k) }
      host := { c.host with attnsrc := c.host.attnsrc ||| 0x0020#16 } } := by
  have hguard : (c.fast && (c.port p).mon == .live && !(c.port p).suppressed) = true := by rw [hfast, hlive, hsupp]; rfl
  have htile : (c.modPort p (fun l => { l with mon := .brk })).isTile p = ((c.port p).cfg.mode == 1#2) := by
    rw [isTile, modPort_port]
    split <;> rfl
  have hseam' : ((c.modPort p (fun l => { l with mon := .brk })).pw.phase == .run && (c.modPort p (fun l => { l with mon := .brk })).isTile p &&
      ((c.modPort p (fun l => { l with mon := .brk })).hport p).present) = seam := by
    rw [htile, hseam]
    rfl
  rw [lineBreak, hguard, when_true]
  dsimp only
  rw [hseam', attn_of_ready (by cases seam <;> exact hready)]
  cases seam with
  | true =>
    rw [if_pos rfl, bandUncertain_eq]
    simp only [Bool.or_true, Bool.true_and]
    rfl
  | false =>
    simp only [Bool.or_false, Bool.false_and, Bool.false_eq_true, if_false, List.map_id', modifyAt_id]
    rfl

/-- A line low for SEV_T loses its partner (R62, R239, R240). -/
theorem severed_of_break {c : Core} {p : Port} (htimes : c.monTimes = true) (hbrk : (c.port p).mon = .brk)
    (hsupp : (c.port p).suppressed = false) :
    c.severed p = ((c.modPort p (fun l => { l with mon := .severed, sevMask := true })).attn 5).partnerLost p .severed := by
  rw [severed, htimes, hbrk, hsupp]
  rfl

theorem modHp_hport_self {c : Core} {p : Port} (h : p.val < c.hp.length) (f : HedgePort → HedgePort) : (c.modHp p f).hport p = f (c.hport p) := by
  simp only [hport, modHp, modifyAt_getD, h, and_self, if_true]

theorem partnerLost_port {c : Core} {p : Port} (h : p.val < c.lnk.length) (cause : LossCause) :
    (c.partnerLost p cause).port p = { lostLine (c.port p) with txq := ((c.partnerLost p cause).port p).txq } := by
  have hlost := Sent.ports (c.partnerLost_hedge p cause) p
  refine hlost.trans (congrArg (fun l : LinkPort => { l with txq := ((c.partnerLost p cause).port p).txq }) ?_)
  exact modPort_port_self (c := c.modHp p (fun h => lostSide h (c.pw.phase == .run && c.isTile p && cause == .severed))) h lostLine

theorem partnerLost_hport {c : Core} {p : Port} (h : p.val < c.hp.length) (cause : LossCause) :
    (c.partnerLost p cause).hport p = lostSide (c.hport p) (c.pw.phase == .run && c.isTile p && cause == .severed) := by
  have hlost := Sent.hp (c.partnerLost_hedge p cause)
  rw [hport, hlost]
  exact modHp_hport_self h _

/-- What a severed line leaves of its port, and of the tile beside the hedge layer. -/
theorem severed_spec {c : Core} {p : Port} (hlnk : p.val < c.lnk.length) (hhp : p.val < c.hp.length) :
    let d := ((c.modPort p (fun l => { l with mon := .severed, sevMask := true })).attn 5).partnerLost p .severed
    (d.port p).mon = .severed ∧ (d.port p).sevMask = true ∧ (d.port p).cfg = (c.port p).cfg ∧ (d.hport p).partner = none ∧
      (d.hport p).present = false ∧ (d.hport p).uncertain = ((c.hport p).uncertain || (c.pw.phase == .run && (c.port p).cfg.mode == 1#2)) ∧
      d.pw = c.pw ∧ d.prof = c.prof ∧ d.trk = c.trk ∧ d.acq = c.acq ∧ d.node = c.node := by
  have hattn := (c.modPort p (fun l => { l with mon := .severed, sevMask := true })).attn_only 5
  generalize (c.modPort p (fun l => { l with mon := .severed, sevMask := true })).attn 5 = d at *
  have hline : d.port p = { c.port p with mon := .severed, sevMask := true } := by
    rw [port_congr hattn.lnk, modPort_port_self hlnk]
  have hside : d.hport p = c.hport p := by rw [hport, hattn.hp]; rfl
  have htile : d.isTile p = ((c.port p).cfg.mode == 1#2) := by rw [isTile, hline]
  have hlost := d.partnerLost_hedge p .severed
  have hport := partnerLost_port (c := d) (p := p) (by rw [hattn.lnk]; simpa [modPort] using hlnk) .severed
  have hhport := partnerLost_hport (c := d) (p := p) (by rw [hattn.hp]; exact hhp) .severed
  dsimp only
  rw [hport, hline, hhport, hside, htile, hattn.pw]
  refine ⟨rfl, rfl, rfl, rfl, rfl, ?_, (Sent.pw hlost).trans hattn.pw, (Sent.prof hlost).trans hattn.prof, (Sent.trk hlost).trans hattn.trk,
    (Sent.acq hlost).trans hattn.acq, (Sent.node hlost).trans hattn.node⟩
  have hsev : (LossCause.severed == LossCause.severed) = true := rfl
  rw [hsev, Bool.and_true]
  rfl

end Core

/-- Settles O16: each event's guard is met, and the severed port alone loses its partner. -/
theorem lineMonitorCompletes : Obligations.LineMonitorCompletes := by
  unfold Obligations.LineMonitorCompletes
  refine ⟨fun s p hfast hhunt hlive => (gives_linkHuntStart p s).leaves ?_,
    fun s p hpow hready hused hdown => (gives_lineLive p s).leaves ?_,
    fun s p hfast hready hlive hsupp => (gives_lineBreak p s).congr (Core.lineBreak_of_live hfast hready hlive hsupp rfl),
    fun s p htimes hbrk => (gives_lineBreakClear p s).leaves ?_, fun s p htimes hbrk hsupp hlen => (gives_severed p s).leaves ?_,
    fun s p e x rest hdrives hecho hwait => (gives_echoCharacter p s).congr ?_, fun s p e hecho hstart => (gives_echoTimeout p s).congr ?_,
    fun s p hfast hwoke => ?_, fun s p => gives_linkWakeMaskEnd p s⟩
  · have hlen : p.val < s.core.lnk.length := Core.lt_length_of_port (P := fun l => l.noHunt = true) hhunt (by decide)
    rw [Core.huntStart_of_live hfast hhunt hlive]
    exact ⟨Core.sendFrame_only _ p .ready, Core.exists_sent _ p .ready (by rw [Core.modHp, Core.modPort]; simpa using hlen)⟩
  · rw [Core.lineLive_of_down hpow hready hused hdown]
    exact Core.sendHello_only _ p
  · have hguard : (s.core.monTimes && (s.core.port p).mon == .brk) = true := by
      rw [hbrk, Core.monTimes]
      rcases htimes with h | h <;> simp [h]
    rw [Core.breakClear, hguard, Core.when_true]
    exact congrArg (fun f => { s.core with
      lnk := modifyAt s.core.lnk p.val (fun l => { l with mon := .live, cntBreak := f l.cntBreak })
      rep := { s.core.rep with tele := { s.core.rep.tele with breaks := s.core.rep.tele.breaks + 1 } } }) (funext incSat_eq)
  · have hmon : s.core.monTimes = true := by
      rw [Core.monTimes]
      rcases htimes with h | h <;> simp [h]
    rw [Core.severed_of_break hmon hbrk hsupp]
    exact Core.severed_spec (Core.lt_length_of_port (P := fun l => l.mon = .brk) hbrk (by decide)) hlen
  · rw [Core.echoChar, hecho]
    dsimp only
    rw [hwait]
    dsimp only
    rw [hdrives, Core.when_true]
    rfl
  · have hguard : (s.core.port p).echo.any (fun e => !e.started) = true := by rw [hecho, Option.any_some, hstart]; rfl
    rw [Core.echoTimeout, hguard, Core.when_true]
    rfl
  · have hguard : (s.core.fast && (s.core.port p).woke) = true := by rw [hfast, hwoke]; rfl
    have hlen : ∀ ts : List (BitVec 32), (ts ++ [s.core.pw.rtc]).length = ts.length + 1 := fun _ => List.length_append
    refine ⟨fun hfew => (gives_linkWakeSpurious p s).congr ?_, fun hmany => (gives_linkWakeSpurious p s).leaves ?_⟩
    · rw [Core.wakeSpurious, hguard, Core.when_true, if_neg (by rw [hlen]; omega)]
      rfl
    · rw [Core.wakeSpurious, hguard, Core.when_true, if_pos (by rw [hlen]; omega)]
      exact Core.eventCustodian_only _ _ _

end Sys2Proof.Machine

/-!
PROOFS. Commands that pass the checks (chapter 11, R346 to R358): the answer in PKTOUT, and the opcodes that answer and change nothing else.
-/
namespace Sys2Proof.Machine

/-- A command of Table PKT-5 goes to its opcode. -/
theorem gives_opcode {i : Instr} {op : Byte} {x : CmdCtx} {p : List Byte} (h : opcodeOf i = some (op, x, p)) (s : State) :
    Gives i s (s.core.opcode op x p) := by
  cases i <;> cases h <;> rfl

namespace Core

/-! ### Answers to this tile's own host (R347, R353) -/

theorem sendRsp_own {c : Core} {r : Rsp} (h : r.dst = c.hg.addr) : c.sendRsp r = c.present (.own r) := by
  rw [sendRsp, if_pos (by rw [h, beq_self_eq_true])]

/-- Responses to this tile's own host, one after another. -/
theorem foldl_sendRsp_own {α : Type} (r : α → Rsp) (l : List α) (c : Core) (h : ∀ a, (r a).dst = c.hg.addr) :
    l.foldl (fun c a => c.sendRsp (r a)) c = { c with host := { c.host with outRsp := c.host.outRsp ++ l.map (fun a => .own (r a)) } } := by
  induction l generalizing c with
  | nil => rw [List.foldl_nil, List.map_nil, List.append_nil]
  | cons a l ih =>
    rw [List.foldl_cons, sendRsp_own (h a), ih (c.present (.own (r a))) h]
    simp [present]

theorem answer_own {c : Core} {x : CmdCtx} (h : x.src = c.hg.addr) (op status : Byte) (payload : List Byte) :
    c.answer x op status payload = answered c x op status false payload := by
  unfold answer answered rspItems
  dsimp only
  by_cases hshort : payload.length ≤ 1024
  · rw [if_pos hshort, sendRsp_own (by exact h), Bool.false_or, if_neg (by simpa using hshort)]
    have hfit : decide (1024 < payload.length) = false := decide_eq_false (Nat.not_lt.mpr hshort)
    rw [hfit]
    rfl
  · have hlong : decide (1024 < payload.length) = true := decide_eq_true (Nat.lt_of_not_le hshort)
    have hne : payload ≠ [] := by
      rintro rfl
      exact hshort (Nat.zero_le _)
    rw [if_neg hshort, foldl_sendRsp_own _ _ _ (fun _ => by exact h), Bool.false_or, hlong, if_pos rfl, if_neg hne]

theorem answerFrag_own {c : Core} {x : CmdCtx} (h : x.src = c.hg.addr) (op : Byte) (payload : List Byte) :
    c.answerFrag x op payload = answered c x op 0x00#8 true payload := by
  unfold answerFrag answered rspItems
  dsimp only
  rw [foldl_sendRsp_own _ _ _ (fun _ => by exact h), Bool.true_or, if_pos rfl]
  cases payload <;> rfl

/-! ### Commands that pass (R346, R354 to R358) -/

/-- A command in one packet that has passed the checks is accepted. -/
theorem opcode_of_passes {c : Core} {op : Byte} {x : CmdCtx} {p : List Byte} {later : Bool} (h : Passes c op x p later) :
    c.opcode op x p = c.accept later op x p := by
  obtain ⟨hfast, hfrag, hsrc, hbusy, hrange, i, hinfo, hlen, hright, hlegal, hlater, hroom, hroot⟩ := h
  have hread : (i.rw && !x.frag && p.isEmpty) = decide (i.rw = true ∧ p = []) := by
    rw [hfrag]
    cases i.rw <;> cases p <;> rfl
  have hshort : (!(decide (i.rw = true ∧ p = [])) && !lenOk op.toNat c.prof.nSns p) = false := by
    rcases hlen with h | h <;> simp [h]
  have hno : (i.legal c.pw.phase == .no) = false := beq_false_of_ne hlegal
  have hdefer : (i.legal c.pw.phase == .defer && !decide (i.rw = true ∧ p = [])) = later := by
    rw [Bool.eq_iff_iff, hlater, Bool.and_eq_true, beq_iff_eq, Bool.not_eq_true', decide_eq_false_iff_not]
  have hfull : (later && decide (16 ≤ c.pk.deferred.length)) = false := by
    cases later
    · rfl
    · simpa using hroom rfl
  have hmine : (i.rootOnly && !c.hg.panelRoot) = false := by
    cases hr : i.rootOnly
    · rfl
    · rw [hroot hr]
      rfl
  rw [opcode, hfast, when_true, command, hinfo]
  dsimp only
  rw [hread, hfrag, if_neg Bool.false_ne_true, hshort, if_neg Bool.false_ne_true, hright, Bool.not_true, if_neg Bool.false_ne_true, hno,
    if_neg Bool.false_ne_true, if_neg Bool.false_ne_true, hdefer, finishCmd, hbusy, if_neg Bool.false_ne_true, hfull, if_neg Bool.false_ne_true,
    hmine, if_neg Bool.false_ne_true, hrange]

end Core

/-- A command that passes and is not frame-deferred does what its opcode does. -/
theorem gives_actOf {i : Instr} {s : State} {op : Byte} {x : CmdCtx} {p : List Byte} (hi : opcodeOf i = some (op, x, p))
    (h : Passes s.core op x p false) : Gives i s (s.core.actOf op.toNat x p) :=
  (gives_opcode hi s).congr (Core.opcode_of_passes h)

theorem src_of_passes {c : Core} {op : Byte} {x : CmdCtx} {p : List Byte} {later : Bool} (h : Passes c op x p later) : x.src = c.hg.addr := by
  obtain ⟨-, -, hsrc, -⟩ := h
  exact hsrc

/-- A command that passes and answers. -/
theorem gives_answered {i : Instr} {s : State} {op status : Byte} {x : CmdCtx} {p payload : List Byte}
    (hi : opcodeOf i = some (op, x, p)) (h : Passes s.core op x p false)
    (hact : s.core.actOf op.toNat x p = s.core.answer x op status payload) : Gives i s (answered s.core x op status false payload) :=
  (gives_actOf hi h).congr (hact.trans (Core.answer_own (src_of_passes h) op status payload))

theorem gives_answeredFrag {i : Instr} {s : State} {op : Byte} {x : CmdCtx} {p payload : List Byte} (hi : opcodeOf i = some (op, x, p))
    (h : Passes s.core op x p false) (hact : s.core.actOf op.toNat x p = s.core.answerFrag x op payload) :
    Gives i s (answered s.core x op 0x00#8 true payload) :=
  (gives_actOf hi h).congr (hact.trans (Core.answerFrag_own (src_of_passes h) op payload))

theorem ofNat_tenant {b : Byte} {t : Tenant} (h : b = BitVec.ofNat 8 t.val) : Fin.ofNat 16 b.toNat = t := by
  rw [h]
  fin_cases t <;> rfl

theorem ofNat_port {b : Byte} {q : Port} (h : b = BitVec.ofNat 8 q.val) : Fin.ofNat 6 b.toNat = q := by
  rw [h]
  fin_cases q <;> rfl

/-- The cells of a wear map: six bytes for each (R403). -/
theorem length_wearCells (high across : Nat) (cell : Nat → Nat → WearCell) :
    ((List.range high).flatMap (fun r => (List.range across).flatMap (fun k =>
      le 4 (cell r k).frames ++ le 2 (cell r k).downs))).length = 6 * (high * across) := by
  have hcell : ∀ x : WearCell, (le 4 x.frames ++ le 2 x.downs).length = 6 := fun _ => rfl
  simp only [List.length_flatMap, hcell, List.map_const', List.length_range, List.sum_replicate, smul_eq_mul]
  ring

/-- Settles O33: each opcode answers, to this tile's own host. -/
theorem engineReadsComplete : Obligations.EngineReadsComplete := by
  unfold Obligations.EngineReadsComplete
  intro s x p
  refine ⟨fun h => gives_answered rfl h rfl, fun h => gives_answered rfl h rfl, fun h => gives_answered rfl h rfl,
    fun h => ⟨fun hb => gives_answeredFrag rfl h ?_, fun hb => gives_answeredFrag rfl h ?_, fun hb => gives_answeredFrag rfl h ?_,
      fun hb => gives_answeredFrag rfl h ?_⟩,
    fun h => (gives_answered rfl h rfl).leaves ⟨_, _, rfl, rfl, rfl⟩, fun h t ht => gives_answered rfl h ?_,
    fun h => gives_answeredFrag rfl h rfl, fun h => (gives_answeredFrag rfl h rfl).leaves ⟨_, rfl, length_wearCells _ _ _⟩,
    fun h q hq => gives_answered rfl h ?_, fun h => gives_answered rfl h rfl⟩
  · show s.core.actProfileRead x p = _
    rw [Core.actProfileRead, hb]
    rfl
  · show s.core.actProfileRead x p = _
    rw [Core.actProfileRead, hb]
    rfl
  · show s.core.actProfileRead x p = _
    rw [Core.actProfileRead, hb]
    rfl
  · show s.core.actProfileRead x p = _
    rw [Core.actProfileRead, hb]
    cases s.core.slot <;> rfl
  · show s.core.actTenantGet x p = _
    rw [Core.actTenantGet, ofNat_tenant ht]
    rfl
  · show s.core.actLinkCounts x p = _
    rw [Core.actLinkCounts, ofNat_port hq]
    rfl

/-- Settles O34: each opcode answers, to this tile's own host. -/
theorem tileReadsComplete : Obligations.TileReadsComplete := by
  unfold Obligations.TileReadsComplete
  intro s x p
  exact ⟨fun h => gives_answered rfl h rfl, fun h => gives_answered rfl h rfl, fun h => gives_answered rfl h rfl,
    fun h => gives_answered rfl h rfl, fun h => gives_answered rfl h rfl, fun h => gives_answered rfl h rfl, fun h => gives_answered rfl h rfl,
    fun h => gives_answered rfl h rfl, fun h => gives_answered rfl h rfl⟩

end Sys2Proof.Machine

/-!
PROOFS. The opcodes that set up a tile (chapter 11, R221 to R223, R245, R246, R268, R272, R354, R360, R395).
-/
namespace Sys2Proof.Machine

/-- `d` is `c` but for packets of this tile that go out or wait in the relay buffer, where none waits for its reservation. -/
structure Posted (c d : Core) : Prop where
  only : d = { c with
    lnk := d.lnk, hg := { c.hg with relay := d.hg.relay, seen := d.hg.seen, ownSeq := d.hg.ownSeq, ownFresh := d.hg.ownFresh } }
  ports : ∀ p : Port, d.port p = { c.port p with txq := (d.port p).txq }
  unheld : (∀ i ∈ c.hg.relay, i.held = none) → ∀ i ∈ d.hg.relay, i.held = none

namespace Posted

theorem refl (c : Core) : Posted c c := ⟨rfl, fun _ => rfl, id⟩

theorem trans {a b c : Core} (h : Posted a b) (k : Posted b c) : Posted a c := by
  refine ⟨?_, fun p => by rw [k.ports, h.ports], k.unheld ∘ h.unheld⟩
  have h1 := h.only
  have k1 := k.only
  rw [k1, h1]

theorem of_txq {c d : Core} (h : OnlyTxq c d) : Posted c d := ⟨by rw [h.1], h.2, fun hc => by rw [h.1]; exact hc⟩

/-- What is posted is sent. -/
theorem sent {c d : Core} (h : Posted c d) : Sent c d := by
  have h1 := h.only
  refine ⟨?_, h.ports⟩
  rw [h1]

theorem hp {c d : Core} (h : Posted c d) : d.hp = c.hp := by rw [h.only]
theorem nvm {c d : Core} (h : Posted c d) : d.nvm = c.nvm := by rw [h.only]
theorem host {c d : Core} (h : Posted c d) : d.host = c.host := by rw [h.only]
theorem hg {c d : Core} (h : Posted c d) :
    d.hg = { c.hg with relay := d.hg.relay, seen := d.hg.seen, ownSeq := d.hg.ownSeq, ownFresh := d.hg.ownFresh } := congrArg Core.hg h.only

end Posted

/-- What is put among what waits by urgency stands there beside what did. -/
theorem mem_urgPut {α : Type} {behind same : α → Bool} {urgent : Bool} {x y : α} {q : List α} (h : y ∈ urgPut behind same urgent x q) :
    y = x ∨ y ∈ q := by
  unfold urgPut at h
  split at h
  · have htail : ∀ z ∈ (q.reverse.takeWhile (fun y => !same y)).reverse, z ∈ q := fun z hz =>
      List.mem_reverse.mp (List.takeWhile_subset _ (List.mem_reverse.mp hz))
    simp only [List.mem_append, List.mem_singleton] at h
    rcases h with ((h | h) | h) | h
    · exact .inr (List.mem_of_mem_take h)
    · exact .inr (htail y (List.takeWhile_subset _ h))
    · exact .inl h
    · exact .inr (htail y (List.dropWhile_subset _ h))
  · simp only [List.mem_append, List.mem_singleton] at h
    exact h.symm

namespace Core

theorem relayPut_posted (c : Core) {i : RelayItem} (hi : i.held = none) : Posted c (c.relayPut i) := by
  refine ⟨rfl, fun _ => rfl, fun hc j hj => ?_⟩
  rcases mem_urgPut hj with rfl | h
  · exact hi
  · exact hc j h

theorem noteSeen_posted (c : Core) (b : List Byte) : Posted c (c.noteSeen b) := ⟨rfl, fun _ => rfl, id⟩

theorem sendPacketOn_posted (c : Core) (p : Port) (b : List Byte) (k : Option (Tenant × Nat × Bool × Bool)) (again : Bool) :
    Posted c (c.sendPacketOn p b k again) := .of_txq (c.sendPacketOn_only p b k again)

/-- A fold of operations that only post. -/
theorem foldl_posted {α : Type} (f : Core → α → Core) (hf : ∀ c a, Posted c (f c a)) (l : List α) (c : Core) : Posted c (l.foldl f c) :=
  foldl_keeps Posted Posted.refl (fun _ _ _ => Posted.trans) f hf l c

theorem sendOut_posted (c : Core) (b : List Byte) (arrival : Option Port) : Posted c (c.sendOut b arrival) := by
  unfold sendOut
  split
  · exact foldl_posted _ (fun c p => c.sendPacketOn_posted p b none false) _ c
  · split
    · exact c.sendPacketOn_posted _ _ _ _
    · exact c.relayPut_posted rfl

theorem hedgePacket_posted (c : Core) (dst : Addr) (op : Nat) (payload : List Byte) : Posted c (c.hedgePacket dst op payload).1 := by
  unfold hedgePacket
  dsimp only
  split <;> exact ⟨rfl, fun _ => rfl, id⟩

theorem hedgeSend_posted (c : Core) (dst : Addr) (op : Nat) (payload : List Byte) : Posted c (c.hedgeSend dst op payload) := by
  have hpacket := c.hedgePacket_posted dst op payload
  unfold hedgeSend
  revert hpacket
  rcases c.hedgePacket dst op payload with ⟨d, b⟩
  intro hpacket
  dsimp only
  split
  · exact (hpacket.trans (d.noteSeen_posted b)).trans (sendOut_posted _ _ _)
  · exact hpacket.trans (d.sendOut_posted _ _)

theorem sendAdvert_posted (c : Core) : Posted c c.sendAdvert := c.hedgeSend_posted _ _ _

/-- Where none of what waits waits for its reservation, the relay buffer is only sent on (R273). -/
theorem relayRetry_posted {c : Core} (hc : ∀ i ∈ c.hg.relay, i.held = none) : Posted c c.relayRetry := by
  have hclear : Posted c { c with hg := { c.hg with relay := [] } } := ⟨rfl, fun _ => rfl, fun _ _ h => absurd h List.not_mem_nil⟩
  unfold relayRetry
  refine hclear.trans ?_
  generalize { c with hg := { c.hg with relay := [] } } = d
  dsimp only
  generalize c.hg.relay = items at hc
  clear hclear
  induction items generalizing d with
  | nil => exact .refl d
  | cons i items ih =>
    rw [List.foldl_cons]
    refine Posted.trans ?_ (ih _ (fun j hj => hc j (List.mem_cons_of_mem _ hj)))
    rw [hc i List.mem_cons_self]
    dsimp only
    split
    · exact d.sendPacketOn_posted _ _ _ _
    · exact d.relayPut_posted rfl

/-! ### Routes and the roster (R268, R272) -/

/-- The route table stands the STATIC entries first, and makes none itself (R272). -/
theorem routeTable_spec (c : Core) :
    ∃ made, (∀ r ∈ made, r.isStatic = false) ∧ c.routeTable = ((c.hg.routes.filter (fun r : RouteEntry => r.isStatic)) ++ made).take 64 := by
  unfold routeTable
  dsimp only
  refine ⟨_, fun r hr => ?_, rfl⟩
  have hmade : ∀ (l : List PanelAdvert) (f : PanelAdvert → Option (WireLink × Nat)) (m : PanelAdvert → List (Addr × Addr)),
      ∀ r ∈ l.flatMap (fun a => match f a with
        | none => []
        | some (w, d) => (m a).map (fun r =>
          ({ lo := r.1, hi := r.2, gw := w.gw, port := w.port, metric := BitVec.ofNat 4 (min d 15), isStatic := false } : RouteEntry))),
      r.isStatic = false := by
    intro l f m r hr
    obtain ⟨a, -, ha⟩ := List.mem_flatMap.mp hr
    split at ha
    · cases ha
    · obtain ⟨_, -, rfl⟩ := List.mem_map.mp ha
      rfl
  split at hr
  · cases hr
  · rcases List.mem_append.mp hr with h | h
    · exact hmade _ _ _ r (List.mem_filter.mp h).1
    · exact hmade _ _ _ r (List.mem_filter.mp h).1

/-- The root's routes as ROUTES writes them, before the table goes out (R272). -/
def withStatic (c : Core) (p : List Byte) : Core :=
  c.modHg (fun h => { h with routes := (routesOf p).map (fun r : RouteEntry => { r with isStatic := true }) ++ h.routes.filter (fun r : RouteEntry => !r.isStatic) })

theorem actRoutes_write (c : Core) (x : CmdCtx) {p : List Byte} (hp : p ≠ []) :
    c.actRoutes x p = ((((c.withStatic p).modHg (fun h => { h with routes := (c.withStatic p).routeTable })).hedgeSend 0x3FF#10 9
      ((c.withStatic p).routeTable.flatMap RouteEntry.bytes)).relayRetry).ok x 0x70#8 [] := by
  have hne : p.isEmpty = false := by cases p with
    | nil => exact absurd rfl hp
    | cons => rfl
  rw [actRoutes, hne, if_neg Bool.false_ne_true]
  rfl

theorem routeTable_withStatic (c : Core) (p : List Byte) : ∃ made, (∀ r ∈ made, r.isStatic = false) ∧
    (c.withStatic p).routeTable = ((routesOf p).map (fun r : RouteEntry => { r with isStatic := true }) ++ made).take 64 := by
  obtain ⟨made, hmade, htable⟩ := (c.withStatic p).routeTable_spec
  refine ⟨made, hmade, ?_⟩
  have hfilter : (c.withStatic p).hg.routes.filter (fun r : RouteEntry => r.isStatic) = (routesOf p).map (fun r : RouteEntry => { r with isStatic := true }) := by
    show ((routesOf p).map (fun r : RouteEntry => { r with isStatic := true }) ++ c.hg.routes.filter (fun r : RouteEntry => !r.isStatic)).filter _ = _
    rw [List.filter_append, List.filter_filter]
    have hnone : c.hg.routes.filter (fun r : RouteEntry => r.isStatic && !r.isStatic) = [] := by simp
    rw [hnone, List.append_nil, List.filter_eq_self]
    intro r hr
    obtain ⟨_, -, rfl⟩ := List.mem_map.mp hr
    rfl
  rw [htable, hfilter]

/-- The panel root publishes a roster of the next version (Table HEDGE-3). -/
theorem publish_sent (c : Core) (tiles : List RosterTile) :
    Sent (c.modHg (fun h => { h with roster := { version := h.roster.version + 1#16, tiles := tiles }, hasRoster := true })) (c.publish tiles) :=
  (hedgeSend_sent _ _ _ _).trans (relayRetry_sent _)

end Core
end Sys2Proof.Machine

/-!
PROOFS. The opcodes that set up a tile, settled (chapter 11, R221 to R223, R245, R246, R268, R272, R332, R354, R360, R395).
-/
namespace Sys2Proof.Machine

/-- An opcode that writes a record of NVM: its answer follows a write that is done, and NVM_FAIL one that is not (R80, R397, R444). -/
theorem nvmWrite_spec {i : Instr} {s : State} {op : Byte} {x : CmdCtx} {p payload : List Byte} {r : RecId} {f : Core → Core}
    (hi : opcodeOf i = some (op, x, p)) (h : Passes s.core op x p false) (hact : s.core.actOf op.toNat x p = s.core.nvmWrite r x op payload f)
    (hr : r ≠ .repair) (hf : ∀ a d, f (Core.withRowsOf a d) = (f a).withRowsOf d) (hown : ∀ a, (f a).hg = a.hg) :
    (s.core.nvmOk = false → Gives i s (answered s.core x op 0x09#8 false [])) ∧
    Leaves i s (fun c => ∃ d, OnlyNvm s.core d ∧
      ((s.core.writeCopy r).2 = false → c = answered d x op 0x09#8 false []) ∧
      ((s.core.writeCopy r).2 = true → c = answered (f d) x op 0x00#8 false payload)) := by
  have hsrc := src_of_passes h
  refine ⟨fun hok => (gives_actOf hi h).congr ?_, (gives_actOf hi h).leaves ?_⟩
  · rw [hact, Core.nvmWrite, s.core.write_inhibited r f hok]
    dsimp only
    rw [if_neg Bool.false_ne_true]
    exact Core.answer_own hsrc _ _ _
  · rw [hact, Core.nvmWrite]
    cases hw : (s.core.writeCopy r).2
    · obtain ⟨d, hd, heq⟩ := Core.write_not_done f hw
      rw [heq]
      dsimp only
      rw [if_neg Bool.false_ne_true]
      exact ⟨d, hd, fun _ => Core.answer_own (by rw [hd]; exact hsrc) _ _ _, nofun⟩
    · obtain ⟨d, hd, heq⟩ := Core.write_done hr hf hw
      rw [heq]
      dsimp only
      rw [if_pos rfl]
      exact ⟨d, hd, nofun, fun _ => Core.answer_own (by rw [hown, hd]; exact hsrc) _ _ _⟩

namespace Core

/-! ### Raw characters (R245, R246, R332) -/

/-- Characters that the transmit FIFO has room for join it (R245). -/
theorem foldl_putTx (bs : List Byte) (l : LinkPort) (h : l.txFifo.length + bs.length ≤ 16) :
    bs.foldl LinkPort.putTx l = { l with txFifo := l.txFifo ++ bs } := by
  induction bs generalizing l with
  | nil => rw [List.foldl_nil, List.append_nil]
  | cons b bs ih =>
    rw [List.length_cons] at h
    have hput : l.putTx b = { l with txFifo := l.txFifo ++ [b] } := if_pos (by omega)
    rw [List.foldl_cons, hput, ih _ (by simp only [List.length_append, List.length_singleton]; omega)]
    simp only [List.append_assoc, List.singleton_append]

/-- The port as RAW_LINK feeds it while RAW is in force (R245, R332). -/
def rawFed (l : LinkPort) (p : List Byte) : LinkPort :=
  { l with pendOp := none, txbrk := byteAt p 2 == 1#8, txFifo := l.txFifo ++ p.drop 4 }

/-- RAW_LINK on a port in RAW operation (R245, R246). -/
theorem actRawLink_of_raw {c : Core} {x : CmdCtx} {p : List Byte} {q : Port} (hq : byteAt p 0 = BitVec.ofNat 8 q.val)
    (hraw : byteAt p 1 = 1#8) (hop : (c.port q).op = 1#2) (hroom : (c.port q).txFifo.length + (p.drop 4).length ≤ 16) :
    c.actRawLink x p = (c.modPort q (fun _ => { rawFed (c.port q) p with rxFifo := [], flags := 0#4 })).ok x 0x72#8
      (bvLe 2 (rawFed (c.port q) p).stat ++ le 1 (c.port q).rxFifo.length ++ (c.port q).rxFifo.flatMap (fun r => bvLe 2 r.word)) := by
  have hwrite : ((c.port q).writeOp (BitVec.ofNat 2 (byteAt p 1).toNat)).writeTxbrk (byteAt p 2 == 1#8) =
      { c.port q with pendOp := none, txbrk := byteAt p 2 == 1#8 } := by
    have hsame : (BitVec.ofNat 2 (byteAt p 1).toNat == (c.port q).op) = true := by rw [hraw, hop]; rfl
    rw [LinkPort.writeOp, if_pos hsame]
    rfl
  have hfeed : (p.drop 4).foldl LinkPort.putTx { c.port q with pendOp := none, txbrk := byteAt p 2 == 1#8 } = rawFed (c.port q) p :=
    foldl_putTx _ _ hroom
  have hisraw : (rawFed (c.port q) p).isRaw = true := by
    rw [LinkPort.isRaw]
    show ((c.port q).op == 1#2 || (c.port q).op == 2#2) = true
    rw [hop]
    rfl
  have hon : ((c.port q).op == 1#2 || (c.port q).op == 2#2) = true := hisraw
  have hclear : ({ rawFed (c.port q) p with rxFifo := [] } : LinkPort).clearFlags (rawFed (c.port q) p).flags =
      { rawFed (c.port q) p with rxFifo := [], flags := 0#4 } := by
    show ({ rawFed (c.port q) p with rxFifo := [], flags := (rawFed (c.port q) p).flags &&& ~~~(rawFed (c.port q) p).flags } : LinkPort) = _
    rw [BitVec.and_not_self]
    rfl
  unfold actRawLink
  dsimp only
  rw [ofNat_port hq, hwrite]
  simp only [Option.getD_none, hon, if_true, hfeed, hisraw, hclear]
  rfl

/-! ### Background tasks (R395) -/

/-- A task is due (R395). -/
def withTask (c : Core) (p : List Byte) : Core :=
  c.modRep (fun r => { r with
    bgDue := r.bgDue ||| (1#5 <<< ((byteAt p 0).toNat - 1)), testDue := r.testDue || decide (byteAt p 0 = 2#8) })

theorem actBgTask_eq (c : Core) (x : CmdCtx) (p : List Byte) : c.actBgTask x p = (c.withTask p).testWake.ok x 0x84#8 [] := by
  have hself : ((byteAt p 0).toNat - 1 == 1) = decide (byteAt p 0 = 2#8) := by
    rw [Bool.eq_iff_iff, beq_iff_eq, decide_eq_true_iff, ← BitVec.toNat_inj]
    have htwo : (2#8).toNat = 2 := rfl
    omega
  rw [actBgTask, withTask, hself]

/-- A tile that a self-test due does not take into Run (R376). -/
theorem testWake_of_not {c : Core} (h : c.rep.grade ≠ 6#3 ∨ c.pw.phase ≠ .quiet ∨ c.pw.entry ≠ none ∨ c.rep.testDue = false) :
    c.testWake = c := by
  have hguard : (c.rep.grade == 6#3 && c.rep.testDue && c.pw.phase == .quiet && c.pw.entry.isNone) = false := by
    rcases h with h | h | h | h
    · rw [beq_false_of_ne h]; rfl
    · rw [beq_false_of_ne h, Bool.and_false]; rfl
    · rw [Option.isNone_eq_false_iff.mpr (Option.isSome_iff_ne_none.mpr h), Bool.and_false]
    · rw [h, Bool.and_false]; rfl
  rw [testWake, hguard, if_neg Bool.false_ne_true]

/-- A self-test due takes a tile of grade 6 from Quiet into Run (R376). -/
theorem testWake_of_due {c : Core} (hgrade : c.rep.grade = 6#3) (hdue : c.rep.testDue = true) (hquiet : c.pw.phase = .quiet)
    (hentry : c.pw.entry = none) (hslot : c.slot.isSome = true) (hbist : c.rep.bistf = false) (hjoin : c.hg.joinRefused = false) :
    c.testWake = c.enterRun := by
  have hguard : (c.rep.grade == 6#3 && c.rep.testDue && c.pw.phase == .quiet && c.pw.entry.isNone) = true := by
    rw [hgrade, hdue, hquiet, hentry]; rfl
  have hbare : c.isBare = false := by
    rw [isBare, hbist, Bool.or_false, Option.isNone_eq_false_iff]
    exact hslot
  have hmay : c.mayRun = true := by rw [mayRun, hjoin, hdue, Bool.or_true]; rfl
  rw [testWake, hguard, if_pos rfl, goAwake, hbare, if_neg Bool.false_ne_true, hmay, if_pos (by rfl), if_neg (by rw [hquiet]; decide)]

theorem enterRun_phase (c : Core) : c.enterRun.pw.phase = .run := by
  unfold enterRun
  rw [urgent_eq]
  exact congrArg Power.phase (attnIf_only _ _ _).pw

theorem enterRun_addr (c : Core) : c.enterRun.hg.addr = c.hg.addr := by
  have hphase : (c.setPhase .run).hg = c.hg := by
    unfold setPhase
    rw [attnIf_eq]
  unfold enterRun
  rw [urgent_eq]
  show (c.setPhase .run).hg.addr = c.hg.addr
  rw [hphase]

/-! ### Ladders, encoders and links (R221 to R223, R354, R360) -/

/-- LADDERS and ENCODERS write their record (R354, R360). -/
theorem actFields_of_keys {c : Core} {op rec : Nat} {x : CmdCtx} {p : List Byte} (hsrc : x.src = c.hg.addr) (hop : fieldRecord op = some rec)
    (hrec : rec ≠ 0x01 ∧ rec ≠ 0x02) (hp : p ≠ []) :
    c.actFields op x p =
      withProfile (answered c x (BitVec.ofNat 8 op) 0x00#8 false []) (c.prof.withRecord rec (c.fieldWrite op rec p)) := by
  have hne : p.isEmpty = false := by cases p with
    | nil => exact absurd rfl hp
    | cons => rfl
  have hplan : ¬ (rec == 0x01) = true := by simpa using hrec.1
  have hnode : ¬ (rec == 0x02) = true := by simpa using hrec.2
  rw [actFields, hop]
  dsimp only
  rw [hne, if_neg Bool.false_ne_true, if_neg hplan, if_neg hnode, ok, answer_own (by exact hsrc)]
  unfold restOffKeys withProfile answered
  simp only [beq_iff_eq]
  rfl

/-- A port that the settings of a link record reach (R223). -/
theorem configure_port {c : Core} (g : List LinkCfg) {q : Port} (hq : q.val < c.lnk.length) :
    let n := g.getD q.val LinkCfg.factory
    let cfg := { (c.port q).cfg with lead := n.lead, tail := n.tail }
    (c.configure g).port q = { c.port q with cfg := cfg, pendCfg := if n = cfg then none else some n } := by
  dsimp only
  have hport : c.port q = c.lnk[q.val] := by simp [port, hq]
  rw [hport]
  simp [port, configure, hq]

end Core

section

variable {s : State} {x : CmdCtx} {p : List Byte}

theorem gives_routes (h : Passes s.core 0x70#8 x p false) : Gives (.routes x p) s (s.core.actRoutes x p) := (gives_actOf rfl h).congr rfl
theorem gives_rawLink (h : Passes s.core 0x72#8 x p false) : Gives (.rawLink x p) s (s.core.actRawLink x p) := (gives_actOf rfl h).congr rfl
theorem gives_renumber (h : Passes s.core 0x75#8 x p false) : Gives (.renumber x p) s (s.core.actRenumber x p) := (gives_actOf rfl h).congr rfl
theorem gives_bgTask (h : Passes s.core 0x84#8 x p false) : Gives (.bgTask x p) s (s.core.actBgTask x p) := (gives_actOf rfl h).congr rfl
theorem gives_ladders (h : Passes s.core 0x60#8 x p false) : Gives (.ladders x p) s (s.core.actFields 0x60 x p) := (gives_actOf rfl h).congr rfl
theorem gives_encoders (h : Passes s.core 0x61#8 x p false) : Gives (.encoders x p) s (s.core.actFields 0x61 x p) := (gives_actOf rfl h).congr rfl

end

/-- The position of a tile of the roster changes (R268). -/
def Core.moved (c : Core) (p : List Byte) : List RosterTile :=
  c.hg.roster.tiles.map (fun t => if t.addr = BitVec.ofNat 10 (leAt p 0 2) ∧ t.lost = false then { t with u := byteAt p 2, v := byteAt p 3 } else t)

theorem Core.actRenumber_eq (c : Core) (x : CmdCtx) (p : List Byte) :
    c.actRenumber x p = (let d := c.publish (c.moved p)
      (if BitVec.ofNat 10 (leAt p 0 2) = d.hg.addr then d.takeAddress (BitVec.ofNat 10 (leAt p 0 2)) (byteAt p 2) (byteAt p 3) else d).ok
        x 0x75#8 []) := by
  unfold actRenumber moved
  simp only [beq_iff_eq, Bool.and_eq_true, Bool.not_eq_true']

/-- Settles O36: each opcode's effect, with its answer to this tile's own host. -/
theorem tileWritesComplete : Obligations.TileWritesComplete := by
  unfold Obligations.TileWritesComplete
  intro s x p
  refine ⟨fun h hp hrelay => (gives_routes h).leaves ?_, fun h hp => ?_, fun q l h hq hraw hl hlen hop hroom => (gives_rawLink h).leaves ?_,
    fun h hother => (gives_renumber h).leaves ?_, fun h hown => (gives_renumber h).leaves ?_, fun h hstay => (gives_bgTask h).congr ?_,
    fun h hself hgrade hquiet hentry hslot hbist hjoin => (gives_bgTask h).leaves ?_,
    fun h hp => (gives_ladders h).congr (Core.actFields_of_keys (src_of_passes h) rfl (by decide) hp),
    fun h hp => (gives_encoders h).congr (Core.actFields_of_keys (src_of_passes h) rfl (by decide) hp)⟩
  · have hsrc := src_of_passes h
    obtain ⟨made, hmade, htable⟩ := s.core.routeTable_withStatic p
    have hsend := Core.hedgeSend_posted ((s.core.withStatic p).modHg (fun h => { h with routes := (s.core.withStatic p).routeTable })) 0x3FF#10 9
      ((s.core.withStatic p).routeTable.flatMap RouteEntry.bytes)
    have hunheld := hsend.unheld (fun i hi => absurd hi (by
      show i ∉ s.core.hg.relay
      rw [hrelay]
      exact List.not_mem_nil))
    have hpost := hsend.trans (Core.relayRetry_posted hunheld)
    rw [Core.actRoutes_write _ _ hp]
    generalize Core.relayRetry _ = d at *
    have hd := hpost.only
    rw [Core.ok, Core.answer_own (by rw [hd]; exact hsrc)]
    refine ⟨?_, hpost.hp, hpost.nvm, ?_, ?_, made, hmade, ?_⟩
    · unfold OnlyHedge
      rw [hd]
      rfl
    · rw [hd]; rfl
    · rw [hd]; rfl
    · rw [← htable, hd]; rfl
  · have hne : p.isEmpty = false := by cases p with
      | nil => exact absurd rfl hp
      | cons => rfl
    have hact : s.core.actOf 0x71 x p = s.core.nvmWrite .link x 0x71#8 []
        (fun c => ({ c with nvm := { c.nvm with linkRec := some ((chunks 6 p).map linkCfgOf) } }).configure ((chunks 6 p).map linkCfgOf)) := by
      show s.core.actLinkConfig x p = _
      rw [Core.actLinkConfig, hne, if_neg Bool.false_ne_true]
    obtain ⟨hinhibit, hwrite⟩ := nvmWrite_spec (i := .linkConfig x p) rfl h hact (by decide) (fun _ _ => rfl) (fun _ => rfl)
    refine ⟨hinhibit, hwrite.mono fun c hc => ?_⟩
    obtain ⟨d, hd, hfail, hdone⟩ := hc
    refine ⟨d, hd, hfail, fun hok => ?_⟩
    rw [hdone hok]
    refine ⟨rfl, fun q hq => ?_⟩
    have hlnk : d.lnk = s.core.lnk := by rw [hd]
    have hport := Core.configure_port (c := { d with nvm := { d.nvm with linkRec := some ((chunks 6 p).map linkCfgOf) } })
      ((chunks 6 p).map linkCfgOf) (q := q) (by rw [hlnk]; exact hq)
    rw [← Core.port_congr hlnk q]
    exact hport
  · have hsrc := src_of_passes h
    subst hl
    rw [Core.actRawLink_of_raw hq hraw hop hroom, Core.ok, Core.answer_own (by exact hsrc)]
    refine ⟨rfl, Core.modPort_port_self hlen _, fun r hr => ?_⟩
    exact (Core.modPort_port _ q r _).trans (if_neg fun hqr => hr hqr.1.symm)
  · have hpub := s.core.publish_sent (s.core.moved p)
    rw [Core.actRenumber_eq]
    dsimp only
    generalize s.core.publish (s.core.moved p) = d at *
    have hd := hpub.only
    have haddr : d.hg.addr = s.core.hg.addr := by rw [hd]; rfl
    have hok := d.answer_sent x 0x75#8 stOk []
    rw [if_neg (by rw [haddr]; exact hother), Core.ok]
    generalize d.answer x 0x75#8 stOk [] = e at *
    have he := (hpub.trans hok).only
    refine ⟨?_, (hpub.trans hok).hp, ?_, ?_, ?_, ?_, (hpub.trans hok).ret, ?_⟩
    · unfold OnlyHedge
      rw [he]
      rfl
    · rw [he]; rfl
    · rw [he]; rfl
    · rw [he]; rfl
    · rw [he]; rfl
    · rw [he]; rfl
  · have hpub := s.core.publish_sent (s.core.moved p)
    rw [Core.actRenumber_eq]
    dsimp only
    generalize s.core.publish (s.core.moved p) = d at *
    have hd := hpub.only
    have haddr : d.hg.addr = s.core.hg.addr := by rw [hd]; rfl
    rw [if_pos (by rw [haddr]; exact hown), Core.ok]
    have hok := (d.takeAddress (BitVec.ofNat 10 (leAt p 0 2)) (byteAt p 2) (byteAt p 3)).answer_sent x 0x75#8 stOk []
    generalize Core.answer _ x 0x75#8 stOk [] = e at *
    have he := hok.only
    refine ⟨?_, hok.hp.trans hpub.hp, ?_, ?_, ?_, ?_, ?_⟩
    · unfold OnlyHedge
      rw [he, Core.takeAddress, hd]
      rfl
    · rw [he]; exact hown
    · rw [he]; rfl
    · rw [he]; rfl
    · rw [he]; rfl
    · rw [he]; rfl
  · have hsrc := src_of_passes h
    rw [Core.actBgTask_eq, Core.testWake_of_not]
    · exact Core.answer_own (c := s.core.withTask p) hsrc _ _ _
    · rcases hstay with hgrade | hphase | hentry | ⟨htest, hother⟩
      · exact .inl hgrade
      · exact .inr (.inl hphase)
      · exact .inr (.inr (.inl hentry))
      · refine .inr (.inr (.inr ?_))
        show (s.core.rep.testDue || decide (byteAt p 0 = 2#8)) = false
        rw [htest, decide_eq_false hother]
        rfl
  · have hsrc := src_of_passes h
    have hdue : (s.core.withTask p).rep.testDue = true := by
      show (s.core.rep.testDue || decide (byteAt p 0 = 2#8)) = true
      rw [decide_eq_true hself, Bool.or_true]
    have hmoves := Core.enterRun_moves (s.core.withTask p)
    rw [Core.actBgTask_eq, Core.testWake_of_due (c := s.core.withTask p) (by exact hgrade) hdue
      (by exact hquiet) (by exact hentry) (by exact hslot) (by exact hbist) (by exact hjoin), Core.ok,
      Core.answer_own (by rw [Core.enterRun_addr]; exact hsrc)]
    refine ⟨Core.enterRun_phase _, ?_, ?_⟩
    · show (s.core.withTask p).enterRun.rep.testDue = true
      rw [hmoves]
      exact hdue
    · show (s.core.withTask p).enterRun.host.outRsp ++ _ = _
      rw [hmoves.host]
      rfl

end Sys2Proof.Machine

/-!
PROOFS. What the rows of an NVM write leave beside their record (chapter 12, R374, R397), and the state, profile, key and tenant opcodes of
the packet engine (chapter 11, R52, R53, R79, R80, R342, R363 to R366, R444, R445).
-/
namespace Sys2Proof.Machine

/-- `d` follows `c` in a write of NVM: the tenants stand as they were, no tenant that does not hear of repairs is told anything, and no
spare row comes free. -/
structure RowWork (c d : Core) : Prop where
  tenants : d.nvm.tenants = c.nvm.tenants
  untold : ∀ t, t ∉ c.repairTenants → d.queue t = c.queue t
  spares : c.nvm.sparesUsed ≤ d.nvm.sparesUsed

/-- `d` is `c` but for its rows, the marks of its copies and the free values drawn. -/
def OnlyRows (c d : Core) : Prop :=
  d = { c with nvm := { c.nvm with rows := d.nvm.rows, copies := d.nvm.copies, older := d.nvm.older }, free := d.free }

namespace Core

theorem repairTenants_congr {c d : Core} (h : d.nvm.tenants = c.nvm.tenants) : d.repairTenants = c.repairTenants := by
  unfold repairTenants everyTenant isDefined hasRight tenantRec
  rw [h]

theorem takePlaced_queue_of_ne (c : Core) {t u : Tenant} (r : Placed) (h : u ≠ t) : (c.takePlaced t r).queue u = c.queue u := by
  have hattn : ∀ a : Core, (a.attnIf r.qfull 13).queue u = a.queue u := fun a => by
    unfold queue
    simp
  have hq : ((c.modQueue t (fun _ => r.q)).attnIf r.qfull 13).queue u = c.queue u := by
    rw [hattn, modQueue_queue, if_neg fun he => h he.1.symm]
  unfold takePlaced
  dsimp only
  split
  · exact hq
  · exact hq

theorem placeOwn_queue_of_ne (c : Core) {t u : Tenant} (b : List Byte) (h : u ≠ t) : (c.placeOwn t b).queue u = c.queue u := by
  unfold placeOwn placeRec
  split
  · exact c.takePlaced_queue_of_ne _ h
  · rfl

theorem placeAll_queue_of_not_mem (c : Core) {ts : List Tenant} {u : Tenant} (b : List Byte) (h : u ∉ ts) :
    (c.placeAll ts b).queue u = c.queue u := by
  unfold placeAll
  induction ts generalizing c with
  | nil => rfl
  | cons t ts ih =>
    rw [List.mem_cons, not_or] at h
    obtain ⟨hne, hrest⟩ := h
    exact (ih (c.placeOwn t b) hrest).trans (c.placeOwn_queue_of_ne b hne)

theorem eventTo_queue_of_not_mem (c : Core) {ts : List Tenant} {u : Tenant} (n : Nat) (b : List Byte) (h : u ∉ ts) :
    (c.eventTo ts n b).queue u = c.queue u :=
  c.placeAll_queue_of_not_mem _ h

end Core

namespace RowWork

theorem refl (c : Core) : RowWork c c := ⟨rfl, fun _ _ => rfl, le_refl _⟩

theorem trans {a b c : Core} (h : RowWork a b) (k : RowWork b c) : RowWork a c where
  tenants := k.tenants.trans h.tenants
  untold := fun t ht => (k.untold t (by rwa [Core.repairTenants_congr h.tenants])).trans (h.untold t ht)
  spares := h.spares.trans k.spares

theorem of_same {c d : Core} (htenants : d.nvm.tenants = c.nvm.tenants) (hqs : d.qs = c.qs) (hspares : c.nvm.sparesUsed ≤ d.nvm.sparesUsed) :
    RowWork c d :=
  ⟨htenants, fun t _ => by rw [Core.queue, Core.queue, hqs], hspares⟩

theorem event {c d : Core} (h : RowWork c d) (n : Nat) (b : List Byte) : RowWork c (d.repairEvent n b) :=
  h.trans ⟨by rw [d.repairEvent_only n b], fun _ ht => d.eventTo_queue_of_not_mem n b ht, by rw [d.repairEvent_only n b]⟩

theorem attn {c d : Core} (h : RowWork c d) (n : Nat) : RowWork c (d.attn n) :=
  h.trans (.of_same (by simp) (by simp) (by simp))

end RowWork

namespace Core

theorem regrade_rowWork (c : Core) : RowWork c c.regrade := by
  unfold regrade regradeNow
  split
  · exact .refl c
  · dsimp only
    split
    · exact .refl c
    · refine RowWork.attn (RowWork.event ?_ 0x40 _) 9
      exact .of_same rfl rfl (le_refl _)

theorem sparesOut_rowWork (c : Core) (k : Byte) : RowWork c (c.sparesOut k) := by
  unfold sparesOut
  split
  · exact .refl c
  · refine RowWork.event (.of_same ?_ ?_ ?_) 0x48 [k]
    · rfl
    · rfl
    · exact le_refl _

theorem noteRepair_rowWork (c : Core) (r : RepairEntry) : RowWork c (c.noteRepair r) := by
  unfold noteRepair
  split
  · refine RowWork.event (.of_same ?_ ?_ ?_) 0x48 [0xFF#8]
    · rfl
    · rfl
    · exact le_refl _
  · exact .of_same rfl rfl (le_refl _)

/-- The next spare row stands in the place of a row. -/
def takeSpare (c : Core) (row : Nat) : Core :=
  let n := c.nvm.sparesUsed
  { c with nvm := { c.nvm with sparesUsed := n + 1, rows := modifyAt c.nvm.rows row (fun r => { r with spare := some n }) } }

theorem takeSpare_rowWork (c : Core) (row : Nat) : RowWork c (c.takeSpare row) := .of_same rfl rfl (Nat.le_succ _)

/-- A row that is retired takes the next spare row. -/
theorem retire_spec (c : Core) (row : Nat) :
    RowWork c (c.retire row).1 ∧ ((c.retire row).2 = true → c.nvm.sparesUsed < (c.retire row).1.nvm.sparesUsed) := by
  unfold retire
  split
  · exact ⟨c.sparesOut_rowWork _, nofun⟩
  · dsimp only
    have hrest : RowWork (c.takeSpare row) (((c.takeSpare row).noteRepair ⟨7#8, BitVec.ofNat 8 row, BitVec.ofNat 8 c.nvm.sparesUsed, 2#8⟩
        ).repairEvent 0x4A (le 2 (c.physical row) ++ [BitVec.ofNat 8 c.nvm.sparesUsed])).regrade :=
      ((noteRepair_rowWork _ _).event _ _).trans (regrade_rowWork _)
    exact ⟨(c.takeSpare_rowWork row).trans hrest, fun _ => hrest.spares⟩

theorem onlyRows_verified (c : Core) (row : Nat) : OnlyRows c ((c.noteErase row).verifies).1 := rfl

end Core

namespace OnlyRows

theorem refl (c : Core) : OnlyRows c c := rfl

theorem trans {a b c : Core} (h : OnlyRows a b) (k : OnlyRows b c) : OnlyRows a c := by
  unfold OnlyRows at *
  rw [k, h]

theorem rowWork {c d : Core} (h : OnlyRows c d) : RowWork c d := .of_same (by rw [h]) (by rw [h]) (by rw [h])

end OnlyRows

/-- What writing rows leaves: where all pass verify in the end, the rest is as it was, or a spare row has been taken. -/
structure RowsDone (c : Core) (r : Core × Bool) : Prop where
  work : RowWork c r.1
  clean : r.2 = true → OnlyRows c r.1 ∨ c.nvm.sparesUsed < r.1.nvm.sparesUsed

theorem RowsDone.and {c : Core} {r w : Core × Bool} (h : RowsDone c r) (k : RowsDone r.1 w) : RowsDone c (w.1, r.2 && w.2) := by
  refine ⟨h.work.trans k.work, fun hok => ?_⟩
  obtain ⟨hr, hw⟩ := (Bool.and_eq_true _ _).mp hok
  rcases h.clean hr with hrows | hspare
  · rcases k.clean hw with krows | kspare
    · exact .inl (hrows.trans krows)
    · exact .inr (Nat.lt_of_le_of_lt h.work.spares kspare)
  · exact .inr (Nat.lt_of_lt_of_le hspare k.work.spares)

namespace Core

theorem programFrom_spec (n : Nat) (c : Core) (row : Nat) : RowsDone c (programFrom n c row) := by
  induction n generalizing c with
  | zero => exact ⟨.refl c, nofun⟩
  | succ n ih =>
    unfold programFrom
    have hrow := c.onlyRows_verified row
    obtain ⟨hretire, hspare⟩ := retire_spec ((c.noteErase row).verifies).1 row
    dsimp only
    split
    · exact ⟨hrow.rowWork, fun _ => .inl hrow⟩
    · split
      case isTrue hdone =>
        obtain ⟨hwork, -⟩ := ih (((c.noteErase row).verifies).1.retire row).1
        exact ⟨(hrow.rowWork.trans hretire).trans hwork,
          fun _ => .inr (Nat.lt_of_lt_of_le (Nat.lt_of_le_of_lt hrow.rowWork.spares (hspare hdone)) hwork.spares)⟩
      case isFalse hnot => exact ⟨hrow.rowWork.trans hretire, fun h => absurd h hnot⟩

theorem programRows_spec (c : Core) (rows : List Nat) : RowsDone c (c.programRows rows) := by
  unfold programRows
  have hstart : RowsDone c (c, true) := ⟨.refl c, fun _ => .inl (.refl c)⟩
  generalize (c, true) = s at hstart
  induction rows generalizing s with
  | nil => exact hstart
  | cons row rows ih => exact ih _ (hstart.and (programFrom_spec 17 s.1 row))

theorem writeCopy_spec (c : Core) (r : RecId) : RowsDone c (c.writeCopy r) := by
  unfold writeCopy
  split
  · exact ⟨.refl c, nofun⟩
  · obtain ⟨hwork, hclean⟩ := c.programRows_spec (r.rows (c.pair r).targetsB)
    dsimp only
    generalize c.programRows (r.rows (c.pair r).targetsB) = w at *
    obtain ⟨d, done⟩ := w
    cases done
    · refine ⟨RowWork.trans ?_ (regrade_rowWork _), nofun⟩
      exact hwork.trans (.of_same rfl rfl (le_refl _))
    · refine ⟨hwork.trans (.of_same rfl rfl (le_refl _)), fun _ => (hclean rfl).imp (fun h => h.trans rfl) id⟩

theorem saveMap_rowWork (c : Core) : RowWork c c.saveMap := by
  unfold saveMap
  split
  · exact .refl c
  · have hwork := (c.writeCopy_spec .repair).work
    dsimp only
    split
    · exact hwork.trans (.of_same rfl rfl (le_refl _))
    · exact hwork

/-! ### TENANT_REMOVE (R366) -/

section
variable (c : Core) (t : Tenant)

theorem removeTenant_queue : (c.removeTenant t).queue t = Queue.empty := by
  show (c.modQueue t (fun _ => Queue.empty)).queue t = _
  rw [modQueue_queue]
  split
  · rfl
  case isFalse h => exact List.getD_eq_default _ _ (by simpa using h)

theorem removeTenant_queue_of_ne {u : Tenant} (h : u ≠ t) : (c.removeTenant t).queue u = c.queue u := by
  show (c.modQueue t (fun _ => Queue.empty)).queue u = _
  rw [modQueue_queue, if_neg fun he => h he.1.symm]

/-- A tenant's record after a change of one. -/
theorem modTenantRec_tenantRec (u : Tenant) (f : TenantRec → TenantRec) :
    (c.modTenantRec t f).tenantRec u = if t = u ∧ u.val < c.nvm.tenants.length then f (c.tenantRec u) else c.tenantRec u := by
  simp only [tenantRec, modTenantRec, modifyAt_getD, Fin.ext_iff]

/-- The record of a tenant that has been removed: its reservations stand. -/
def removedRec (r : TenantRec) : TenantRec := { r with isDefined := false, enabled := false, rights := 0#8, key := none }

theorem removeTenant_tenantRec_of_ne {u : Tenant} (h : u ≠ t) : (c.removeTenant t).tenantRec u = c.tenantRec u := by
  show (c.modTenantRec t removedRec).tenantRec u = _
  rw [modTenantRec_tenantRec, if_neg fun he => h he.1.symm]

theorem removeTenant_tenantRec : (c.removeTenant t).tenantRec t = removedRec (c.tenantRec t) := by
  show (c.modTenantRec t removedRec).tenantRec t = _
  rw [modTenantRec_tenantRec]
  split
  · rfl
  case isFalse h =>
    have hempty : c.tenantRec t = TenantRec.empty := List.getD_eq_default _ _ (by simpa using h)
    rw [hempty]
    rfl

theorem removeTenant_not_told (ht : t ≠ 0) : t ∉ (c.removeTenant t).repairTenants := by
  have hdef : (c.removeTenant t).isDefined t = false := by
    rw [isDefined, removeTenant_tenantRec, beq_false_of_ne ht]
    rfl
  simp [repairTenants, everyTenant, hdef]

end

/-- The part of a list of equal parts, one after another. -/
theorem drop_take_flatten {α : Type} {n : Nat} {ls : List (List α)} (hlen : ∀ l ∈ ls, l.length = n) (i : Nat) (hi : i < ls.length) :
    (ls.flatten.drop (n * i)).take n = ls[i] := by
  induction ls generalizing i with
  | nil => exact absurd hi (Nat.not_lt_zero i)
  | cons l ls ih =>
    have hl : l.length = n := hlen l List.mem_cons_self
    cases i with
    | zero => simp [hl]
    | succ i =>
      have hdrop : ((l :: ls).flatten).drop (n * (i + 1)) = ls.flatten.drop (n * i) := by
        rw [List.flatten_cons, List.drop_append, hl, List.drop_eq_nil_of_le (by rw [hl, Nat.mul_succ]; omega), List.nil_append, Nat.mul_succ,
          Nat.add_sub_cancel]
      rw [hdrop]
      exact ih (fun k hk => hlen k (List.mem_cons_of_mem _ hk)) i (Nat.lt_of_succ_lt_succ hi)

/-- A zone entry as TENANT_REMOVE leaves it: one of the tenant's is all 0. -/
def zoneWithout (t : Tenant) (e : Fields) : Fields :=
  if entryUsed 0x30 e && entryOwner 0x30 e == t.val then List.replicate 16 0 else e

theorem removeTenant_zone {c : Core} (t : Tenant) (hlen : c.prof.zones.length = 1024) {i : Nat} (hi : i < 64) :
    (c.removeTenant t).entryAt 0x30 i = zoneWithout t (c.entryAt 0x30 i) := by
  have hentry : ∀ j < 64, (c.entryAt 0x30 j).length = 16 := fun j hj => by
    show ((c.prof.zones.drop (16 * j)).take 16).length = 16
    rw [List.length_take, List.length_drop, hlen]
    omega
  have hparts : ∀ e ∈ ((List.range 64).map (c.entryAt 0x30)).map (zoneWithout t), e.length = 16 := fun e he => by
    simp only [List.map_map, List.mem_map, List.mem_range, Function.comp_apply] at he
    obtain ⟨j, hj, rfl⟩ := he
    unfold zoneWithout
    split
    · rfl
    · exact hentry j hj
  show (((((List.range 64).map (c.entryAt 0x30)).map (zoneWithout t)).flatten).drop (16 * i)).take 16 = _
  rw [drop_take_flatten hparts i (by simpa using hi)]
  simp

theorem zoneWithout_owner (t : Tenant) (e : Fields) (h : entryUsed 0x30 (zoneWithout t e) = true) :
    entryOwner 0x30 (zoneWithout t e) ≠ t.val := by
  unfold zoneWithout at *
  split at h
  · exact absurd h (by decide)
  case isFalse hmine =>
    rw [if_neg hmine]
    intro howner
    exact hmine (by simp [h, howner])

/-- What TENANT_REMOVE leaves where its record has been written: the tile after the write of its row, the tenant's part taken out of it,
and the map saved. -/
def removed (c : Core) (t : Tenant) : Core := ((c.writeCopy .tenant).1.removeTenant t).saveMap

section
variable (c : Core) (t : Tenant)

theorem removed_only : OnlyNvm (c.removeTenant t) (c.removed t) := by
  have hrows : (c.writeCopy .tenant).1 = c.withRowsOf (c.writeCopy .tenant).1 := c.writeCopy_only .tenant
  have htaken : OnlyNvm (c.removeTenant t) ((c.writeCopy .tenant).1.removeTenant t) := by
    rw [hrows]
    rfl
  exact htaken.trans (saveMap_only _)

theorem removed_tenantRec (u : Tenant) : (c.removed t).tenantRec u = (c.removeTenant t).tenantRec u := by
  rw [removed_only]
  rfl

theorem removed_queue (ht : t ≠ 0) : (c.removed t).queue t = Queue.empty :=
  ((saveMap_rowWork _).untold t (removeTenant_not_told _ t ht)).trans (removeTenant_queue _ t)

/-- A removal that takes no spare row, with nothing that waits to be written, leaves the repair state and the other queues. -/
theorem removed_clean (h : (c.writeCopy .tenant).2 = true) (hmap : c.nvm.mapPending = []) (hfaults : c.nvm.faultsSaved = none)
    (hspares : (c.removed t).nvm.sparesUsed = c.nvm.sparesUsed) :
    (c.removed t).rep = c.rep ∧ ∀ u, u ≠ t → (c.removed t).queue u = c.queue u := by
  have hend : (c.writeCopy .tenant).1.nvm.sparesUsed ≤ (c.removed t).nvm.sparesUsed :=
    (saveMap_rowWork ((c.writeCopy .tenant).1.removeTenant t)).spares
  have hrows : OnlyRows c (c.writeCopy .tenant).1 :=
    ((c.writeCopy_spec .tenant).clean h).resolve_right fun hmore => by omega
  have hsaved : c.removed t = (c.writeCopy .tenant).1.removeTenant t := by
    refine saveMap_of_nothing ?_ ?_
    · show (c.writeCopy .tenant).1.nvm.mapPending = []
      rw [hrows]
      exact hmap
    · show (c.writeCopy .tenant).1.nvm.faultsSaved = none
      rw [hrows]
      exact hfaults
  rw [hsaved]
  refine ⟨?_, fun u hu => ?_⟩
  · show (c.writeCopy .tenant).1.rep = c.rep
    rw [hrows]
  · rw [removeTenant_queue_of_ne _ _ hu, hrows]
    rfl

end

theorem actTenantRemove_of_written {c : Core} {x : CmdCtx} {p : List Byte} {t : Tenant} (ht : byteAt p 0 = BitVec.ofNat 8 t.val)
    (hown : x.src = c.hg.addr) (h : (c.writeCopy .tenant).2 = true) :
    ∃ n, c.actTenantRemove x p = answered (c.removed t) x 0x22#8 0x00#8 false n := by
  refine ⟨le 1 (c.clearEntries 0x30 t).2 ++ le 1 (c.clearEntries 0x31 t).2 ++ le 1 (c.bindCount t), ?_⟩
  have hwrite : c.write .tenant (fun c => c.removeTenant t) = (c.removed t, true) := by
    simp [write, removed, h]
  unfold actTenantRemove nvmWrite
  dsimp only
  rw [ofNat_tenant ht, hwrite]
  dsimp only
  rw [if_pos rfl]
  exact answer_own (by rw [removed_only]; exact hown) _ _ _

theorem actTenantRemove_of_failed {c : Core} {x : CmdCtx} {p : List Byte} (hown : x.src = c.hg.addr)
    (h : (c.writeCopy .tenant).2 = false) : ∃ d, OnlyNvm c d ∧ c.actTenantRemove x p = answered d x 0x22#8 0x09#8 false [] := by
  obtain ⟨d, hd, heq⟩ := write_not_done (fun c => c.removeTenant (Fin.ofNat 16 (byteAt p 0).toNat)) h
  refine ⟨d, hd, ?_⟩
  unfold actTenantRemove nvmWrite
  dsimp only
  rw [heq]
  dsimp only
  rw [if_neg Bool.false_ne_true]
  exact answer_own (by rw [hd]; exact hown) _ _ _

/-- The contacts of a tile without a tenant leave it without UP. -/
theorem removeTenant_engaged (c : Core) (t : Tenant) : ∀ k ∈ (c.removeTenant t).trk.contacts, ∀ e ∈ k.engaged, e.tenant ≠ t := by
  intro k hk e he
  obtain ⟨k, -, rfl⟩ := List.mem_map.mp hk
  obtain ⟨-, hne⟩ := List.mem_filter.mp he
  simpa using hne

end Core

/-- A CMD that has passed the checks carries values in range (check 11). -/
theorem inRange_of_passes {c : Core} {op : Byte} {x : CmdCtx} {p : List Byte} {later : Bool} (h : Passes c op x p later) :
    c.rangeOf op.toNat x p = none := by
  obtain ⟨-, -, -, -, hrange, -⟩ := h
  exact hrange

theorem of_need {b : Bool} {st : Byte} (h : need b st = none) : b = true := by
  cases b with
  | true => rfl
  | false => exact absurd h (Option.some_ne_none st)

theorem commitGen_of_passes {c : Core} {x : CmdCtx} {p : List Byte} {later : Bool} (h : Passes c 0x12#8 x p later) :
    BitVec.ofNat 32 (leAt p 1 4) = c.gen + 1#32 := by
  have hboth := of_need (inRange_of_passes h)
  obtain ⟨hgen, -⟩ := (Bool.and_eq_true _ _).mp hboth
  rw [beq_iff_eq.mp hgen, BitVec.ofNat_toNat, BitVec.setWidth_eq]

theorem removed_ne_custodian {c : Core} {x : CmdCtx} {p : List Byte} {later : Bool} {t : Tenant} (h : Passes c 0x22#8 x p later)
    (ht : byteAt p 0 = BitVec.ofNat 8 t.val) : t ≠ 0 := by
  rintro rfl
  have hboth := of_need (inRange_of_passes h)
  obtain ⟨hlow, -⟩ := (Bool.and_eq_true _ _).mp hboth
  have hpos : 1 ≤ (byteAt p 0).toNat := of_decide_eq_true hlow
  rw [ht] at hpos
  exact absurd hpos (by decide)

theorem Core.startCommit_eq (c : Core) (image : List Byte) (gen : BitVec 32) (reply : Option CmdCtx) :
    c.startCommit image gen reply = { c with nvm := { c.nvm with
      slotA := if c.commitSlot = .a then Slot.erased else c.nvm.slotA
      slotB := if c.commitSlot = .b then Slot.erased else c.nvm.slotB
      job := some (startJob c.commitSlot image gen reply) } } := by
  unfold Core.startCommit
  cases c.commitSlot <;> rfl

/-! ### TENANT_DEFINE (R364, R444) -/

namespace Core

/-- A slot defined by TENANT_DEFINE, with its new key where it brings one. -/
def defineTenant (c : Core) (t : Tenant) (p : List Byte) (key : Option (List Byte)) : Core :=
  let d := c.modTenantRec t (fun r =>
    { r with isDefined := true, enabled := (byteAt p 4).getLsbD 0, rights := byteAt p 1, home := BitVec.ofNat 10 (leAt p 2 2) })
  match key with
  | none => d
  | some k => (d.modTenantRec t (fun r => { r with key := some k })).freshKey t

section
variable (c : Core) (t : Tenant) (p : List Byte)

theorem defineTenant_none : c.defineTenant t p none = { c with nvm := { c.nvm with tenants := modifyAt c.nvm.tenants t.val (fun r =>
    { r with isDefined := true, enabled := (byteAt p 4).getLsbD 0, rights := byteAt p 1, home := BitVec.ofNat 10 (leAt p 2 2) }) } } := rfl

theorem defineTenant_some (k : List Byte) : c.defineTenant t p (some k) = { c with
    nvm := { c.nvm with tenants := modifyAt c.nvm.tenants t.val (fun r =>
      { r with isDefined := true, enabled := (byteAt p 4).getLsbD 0, rights := byteAt p 1
               home := BitVec.ofNat 10 (leAt p 2 2), key := some k, s := 4096#32, txS := 4096#32 }) }
    ten := modifyAt c.ten t.val (fun r => { r with h := 0#32, marks := 0#32, txCtr := 0#32 }) } := by
  simp only [defineTenant, freshKey, modTenantRec, modTenantSt, modifyAt_modifyAt]

theorem defineTenant_withRowsOf (d : Core) : (c.withRowsOf d).defineTenant t p ((c.withRowsOf d).unwrap (p.drop 5)) =
    (c.defineTenant t p (c.unwrap (p.drop 5))).withRowsOf d := by
  have hkey : (c.withRowsOf d).unwrap (p.drop 5) = c.unwrap (p.drop 5) := rfl
  rw [hkey]
  cases c.unwrap (p.drop 5) <;> rfl

theorem defineTenant_hg (key : Option (List Byte)) : (c.defineTenant t p key).hg = c.hg := by
  cases key <;> rfl

end

end Core

/-- Settles O35: each opcode acts and answers; what needs a record of NVM follows the write of that record. -/
theorem engineWritesComplete : Obligations.EngineWritesComplete := by
  intro s x p
  refine ⟨fun h hbare hreq => ?_, fun h => ?_, fun h hlen => ?_, fun image h hok himage => ?_, fun image h hok himage => ?_, fun h => ?_,
    fun t h hlen ht => ?_, fun t k h hlen ht hk => ?_, fun t h ht => ⟨fun hok => ?_, ?_⟩, fun h => ?_⟩
  all_goals have hsrc := src_of_passes h
  · refine (gives_actOf rfl h).congr ?_
    show s.core.actSetState x p = _
    rw [Core.actSetState, Core.ok, Core.answer_own hsrc, hreq]
    simp only [beq_iff_eq]
    exact Core.writePwrctl_zero (answered s.core x 0x02#8 0x00#8 false []) (.inl hbare) _
  · refine (gives_actOf rfl h).congr ?_
    show s.core.actReset x = _
    rw [Core.actReset, Core.ok, Core.answer_own hsrc]
    rfl
  · refine (gives_actOf rfl h).congr ?_
    show s.core.actProfileWrite x p = _
    have hbad : (!(decide (12 ≤ p.length) && leAt p (p.length - 4) 4 == (crc32 (p.take (p.length - 4))).toNat)) =
        decide (leAt p (p.length - 4) 4 ≠ (crc32 (p.take (p.length - 4))).toNat) := by
      rw [decide_eq_true hlen, Bool.true_and, decide_not]
      rfl
    rw [Core.actProfileWrite, Core.ok, Core.answer_own (by exact hsrc), hbad]
    rfl
  · refine (gives_actOf rfl h).leaves ?_
    have hact : s.core.actOf (0x12#8 : Byte).toNat x p = s.core.startCommit image (s.core.gen + 1#32) (some x) := by
      show s.core.actProfileCommit x p = _
      rw [Core.actProfileCommit, himage]
      dsimp only
      rw [hok, if_pos rfl, commitGen_of_passes h]
    rw [hact, Core.startCommit_eq]
    refine ⟨rfl, _, rfl, rfl, fun ht => ⟨if_pos ht, if_neg ?_⟩, fun ht => ⟨if_pos ht, if_neg ?_⟩⟩
    · rw [ht]; decide
    · rw [ht]; decide
  · refine gives_answered rfl h ?_
    show s.core.actProfileCommit x p = _
    rw [Core.actProfileCommit, himage]
    dsimp only
    rw [hok, if_neg Bool.false_ne_true]
    rfl
  · have hact : s.core.actOf (0x20#8 : Byte).toNat x p = s.core.actProvKey x p := rfl
    refine ⟨fun hok => (gives_actOf rfl h).congr ?_, (gives_actOf rfl h).leaves ?_⟩
    · rw [hact, Core.actProvKey, s.core.write_inhibited .tenant _ hok]
      dsimp only
      rw [if_neg Bool.false_ne_true]
      exact Core.answer_own hsrc _ _ _
    · rw [hact, Core.actProvKey]
      cases hw : (s.core.writeCopy .tenant).2
      · obtain ⟨d, hd, heq⟩ := Core.write_not_done (fun c => c.modTenantRec 0 (fun r => { r with s := 4096#32, txS := 4096#32 })) hw
        rw [heq]
        dsimp only
        rw [if_neg Bool.false_ne_true]
        exact ⟨d, hd, nofun, fun _ => Core.answer_own (by rw [hd]; exact hsrc) _ _ _⟩
      · obtain ⟨d, hd, heq⟩ := Core.write_done (c := s.core) (f := fun c => c.modTenantRec 0 (fun r => { r with s := 4096#32, txS := 4096#32 }))
          (by decide) (fun _ _ => rfl) hw
        have htenants : d.nvm.tenants = s.core.nvm.tenants := by rw [hd]
        rw [heq]
        dsimp only
        rw [if_pos rfl, Core.modTenantRec, htenants]
        exact ⟨d, hd, fun _ => rfl, nofun⟩
  · have hact : s.core.actOf (0x21#8 : Byte).toNat x p = s.core.nvmWrite .tenant x 0x21#8 [] (fun c => c.defineTenant t p none) := by
      show s.core.actTenantDefine x p = _
      rw [Core.actTenantDefine, hlen, ofNat_tenant ht]
      rfl
    obtain ⟨hinhibit, hwrite⟩ := nvmWrite_spec (i := .tenantDefine x p) rfl h hact (by decide) (fun _ _ => rfl) (fun _ => rfl)
    refine ⟨hinhibit, hwrite.mono fun c hc => ?_⟩
    obtain ⟨d, hd, hfail, hdone⟩ := hc
    have htenants : d.nvm.tenants = s.core.nvm.tenants := by rw [hd]
    refine ⟨d, hd, fun hok => ?_, hfail⟩
    rw [hdone hok, Core.defineTenant_none, htenants]
    rfl
  · have hact : s.core.actOf (0x21#8 : Byte).toNat x p = s.core.nvmWrite .tenant x 0x21#8 [] (fun c => c.defineTenant t p (c.unwrap (p.drop 5))) := by
      show s.core.actTenantDefine x p = _
      rw [Core.actTenantDefine, hlen, ofNat_tenant ht]
      rfl
    obtain ⟨hinhibit, hwrite⟩ := nvmWrite_spec (i := .tenantDefine x p) rfl h hact (by decide) (fun a d => a.defineTenant_withRowsOf t p d) (fun a => a.defineTenant_hg t p _)
    refine ⟨hinhibit, hwrite.mono fun c hc => ?_⟩
    obtain ⟨d, hd, hfail, hdone⟩ := hc
    have htenants : d.nvm.tenants = s.core.nvm.tenants := by rw [hd]
    have hten : d.ten = s.core.ten := by rw [hd]
    have hkey : d.unwrap (p.drop 5) = some k := by rw [hd]; exact hk
    refine ⟨d, hd, fun hok => ?_, hfail⟩
    rw [hdone hok, hkey, Core.defineTenant_some, htenants, hten]
    rfl
  · refine gives_answered rfl h ?_
    show s.core.actTenantRemove x p = _
    rw [Core.actTenantRemove, Core.nvmWrite, s.core.write_inhibited .tenant _ hok]
    rfl
  · refine (gives_actOf rfl h).leaves ?_
    have hact : s.core.actOf (0x22#8 : Byte).toNat x p = s.core.actTenantRemove x p := rfl
    rw [hact]
    cases hw : (s.core.writeCopy .tenant).2
    · obtain ⟨d, hd, heq⟩ := Core.actTenantRemove_of_failed (p := p) hsrc hw
      rw [heq]
      refine ⟨fun _ => ⟨d, hd, rfl⟩, nofun, ?_⟩
      rw [hd]
      exact ⟨rfl, rfl, rfl, rfl, rfl, rfl, rfl⟩
    · obtain ⟨n, heq⟩ := Core.actTenantRemove_of_written ht hsrc hw
      have honly := s.core.removed_only t
      have hne := removed_ne_custodian h ht
      have hrec : ∀ u, (answered (s.core.removed t) x 0x22#8 0x00#8 false n).tenantRec u = (s.core.removeTenant t).tenantRec u :=
        s.core.removed_tenantRec t
      rw [heq]
      refine ⟨nofun, fun _ => ⟨?_, ?_, ?_, s.core.removed_queue t hne, fun u hu => ?_, ?_, ?_, fun hlen i hi => ?_, ⟨n, ?_⟩,
        fun hmap hfaults hspares => s.core.removed_clean t hw hmap hfaults hspares⟩, ?_⟩
      · rw [Core.isDefined, hrec, Core.removeTenant_tenantRec, beq_false_of_ne hne]
        rfl
      · rw [hrec, Core.removeTenant_tenantRec]
        rfl
      · rw [hrec, Core.removeTenant_tenantRec]
        rfl
      · rw [hrec, Core.removeTenant_tenantRec_of_ne _ _ hu]
      · show ∀ k ∈ (s.core.removed t).trk.contacts, _
        rw [honly]
        exact s.core.removeTenant_engaged t
      · show (s.core.removed t).trk.contacts.length = _
        rw [honly]
        exact List.length_map _
      · have hentry : (answered (s.core.removed t) x 0x22#8 0x00#8 false n).entryAt 0x30 i = Core.zoneWithout t (s.core.entryAt 0x30 i) := by
          show (s.core.removed t).entryAt 0x30 i = _
          rw [← Core.removeTenant_zone t hlen hi, honly]
          rfl
        rw [hentry]
        exact Core.zoneWithout_owner t _
      · show (s.core.removed t).host.outRsp ++ _ = _
        rw [honly]
        rfl
      · rw [honly]
        exact ⟨rfl, rfl, rfl, rfl, rfl, rfl, rfl⟩
  · have hact : s.core.actOf (0x24#8 : Byte).toNat x p = s.core.nvmWrite .tenant x 0x24#8 []
        (fun c => { c with nvm := { c.nvm with hedgeKey := c.unwrap p } }) := rfl
    obtain ⟨hinhibit, hwrite⟩ := nvmWrite_spec (i := .hedgeKey x p) rfl h hact (by decide) (fun _ _ => rfl) (fun _ => rfl)
    refine ⟨hinhibit, hwrite.mono fun c hc => ?_⟩
    obtain ⟨d, hd, hfail, hdone⟩ := hc
    have hkey : d.unwrap p = s.core.unwrap p := by rw [hd]; rfl
    refine ⟨d, hd, fun hok => ?_, hfail⟩
    rw [hdone hok, hkey]
    rfl

end Sys2Proof.Machine

/-!
PROOFS. Events of the packet engine: resets, transfers, deferred commands, seeks and their time-outs (R20, R69, R71, R142, R351, R383, R388).
-/
namespace Sys2Proof.Machine

/-! What each row runs. -/

theorem gives_resetCommandExecute (s : State) :
    Gives .resetCommandExecute s (s.core.when (s.core.pw.resetDue && s.core.powered) (fun c => c.enterReset 6#3 0#8 c.pw.xtal)) := rfl
theorem gives_transferAbandon (s : State) : Gives .transferAbandon s { s.core with pk := { s.core.pk with transfer := none } } := rfl
theorem gives_deferredCommandApply (s : State) : Gives .deferredCommandApply s (s.core.when (s.core.pw.phase == .quiet) Core.applyFirst) := rfl
theorem gives_seekStart (s : State) : Gives .seekStart s s.core.seekStart := rfl
theorem gives_seekTimeout (s : State) : Gives .seekTimeout s s.core.seekTimeout := rfl
theorem gives_fingerprintTimeout (s : State) : Gives .fingerprintTimeout s s.core.fingerTimeout := rfl
theorem gives_selfTestTimeout (s : State) : Gives .selfTestTimeout s s.core.testTimeout := rfl
theorem gives_retentionRecordLost (s : State) :
    Gives .retentionRecordLost s (s.core.when (s.core.pw.phase == .off) (fun c => { c with ret := Retention.none })) := rfl

namespace Core

/-- The oldest command kept has its turn (R20). -/
theorem applyFirst_of_cons {c : Core} {d : Deferred} {rest : List Deferred} (h : c.pk.deferred = d :: rest) :
    c.applyFirst = ({ c with pk := { c.pk with deferred := rest } }).applyNowCmd d.opcode d.ctx d.payload := by
  unfold applyFirst
  rw [h]

/-- A seek that waits for its frames begins with a normal frame (R142). -/
theorem seekStart_of_waiting {c : Core} {k : SeekSt} (hseek : c.node.seek = some k) (hframe : k.frame = none) (hrun : c.pw.phase = .run)
    (hrunning : c.acq.running = true) (hslot : c.acq.slot = some .sync) (hmaint : c.acq.maint = none) (hnoise : c.acq.noiseGiven = false)
    (hfree : ∀ e ∈ c.trk.contacts, e.isCand = true) (hslice : c.rep.bgdefer.getLsbD 0 = false) :
    ∃ codes, c.seekStart = { c with
      node := { c.node with seek := some { k with frame := some 0 } }, acq := { c.acq with maint := some .seek, dac := codes } } := by
  have hcontact : c.hasContact = false := by
    simp only [hasContact, List.any_eq_false, Bool.not_eq_true', Bool.not_eq_false]
    exact hfree
  have hguard : (c.pw.phase == .run && c.acq.running && c.acq.slot == some .sync && c.acq.maint.isNone && k.frame.isNone && !c.hasContact &&
      !c.acq.noiseGiven && !c.rep.bgdefer.getLsbD 0) = true := by
    rw [hrun, hrunning, hslot, hmaint, hframe, hcontact, hnoise, hslice]
    rfl
  unfold seekStart
  rw [hseek]
  dsimp only
  rw [if_pos hguard]
  exact ⟨_, rfl⟩

end Core

/-- Settles O39: each event takes its one way. -/
theorem engineEventsComplete : Obligations.EngineEventsComplete := by
  refine ⟨fun s hdue hpow => (gives_resetCommandExecute s).congr ?_, gives_transferAbandon, fun s d rest hquiet hkept =>
    (gives_deferredCommandApply s).congr ?_, fun s k hseek hframe hrun hrunning hslot hmaint hnoise hfree hslice =>
    (gives_seekStart s).leaves ?_, fun s k hseek hframe hsrc => (gives_seekTimeout s).congr ?_, fun s x hwait hsrc =>
    (gives_fingerprintTimeout s).congr ?_, fun s x hwait hsrc hsuspects => (gives_selfTestTimeout s).congr ?_, fun s hoff =>
    (gives_retentionRecordLost s).congr ?_⟩
  · rw [hdue, Core.powered_of_isPowered hpow, Bool.and_self, Core.when_true]
    exact s.core.enterReset_kind (by decide) (by decide) 0#8 s.core.pw.xtal
  · rw [hquiet, beq_self_eq_true, Core.when_true, Core.applyFirst_of_cons hkept]
  · obtain ⟨codes, heq⟩ := Core.seekStart_of_waiting hseek hframe hrun hrunning hslot hmaint hnoise hfree hslice
    rw [heq]
  · obtain ⟨ctx, frame, coarse, codes, xAtC, clipped⟩ := k
    subst hframe
    rw [Core.seekTimeout, hseek]
    exact Core.answer_own (by exact hsrc) _ _ _
  · rw [Core.fingerTimeout, hwait]
    exact Core.answer_own (by exact hsrc) _ _ _
  · rw [Core.testTimeout, hwait]
    refine (Core.answer_own (by exact hsrc) _ _ _).trans ?_
    simp only [Core.modRep, hsuspects, List.isEmpty_nil, Bool.not_true, Bool.or_false]
    rfl
  · rw [hoff, beq_self_eq_true, Core.when_true]

end Sys2Proof.Machine

/-!
PROOFS. The steps of a commit and the programming of the custodian key (chapters 02, 11 and 12, R77, R79, R80, R343 to R345, R363, R365,
R397, R444 to R446).
-/
namespace Sys2Proof.Machine

/-- No repair in force goes in what follows, and no spare row comes free. -/
structure RepairsStand (c d : Core) : Prop where
  stand : ∀ e ∈ c.repairs, e ∈ d.repairs
  spares : c.nvm.sparesUsed ≤ d.nvm.sparesUsed

namespace RepairsStand

theorem refl (c : Core) : RepairsStand c c := ⟨fun _ h => h, le_refl _⟩

theorem trans {a b c : Core} (h : RepairsStand a b) (k : RepairsStand b c) : RepairsStand a c :=
  ⟨fun e he => k.stand e (h.stand e he), h.spares.trans k.spares⟩

theorem of_same {c d : Core} (hrepairs : d.repairs = c.repairs) (hspares : c.nvm.sparesUsed ≤ d.nvm.sparesUsed) : RepairsStand c d :=
  ⟨fun e he => by rwa [hrepairs], hspares⟩

theorem of_records {c d : Core} (h : OnlyRecords c d) : RepairsStand c d := .of_same (by rw [h]; rfl) (by rw [h])

theorem of_txq {c d : Core} (h : OnlyTxq c d) : RepairsStand c d := .of_same (by rw [h.1]; rfl) (by rw [h.1])

end RepairsStand

namespace Core

theorem regrade_stand (c : Core) : RepairsStand c c.regrade := by
  unfold regrade regradeNow
  split
  · exact .refl c
  · dsimp only
    split
    · exact .refl c
    · refine RepairsStand.trans ?_ (.of_records ((repairEvent_only _ _ _).trans (attn_only _ _)))
      exact .of_same rfl (le_refl _)

theorem sparesOut_stand (c : Core) (k : Byte) : RepairsStand c (c.sparesOut k) := by
  unfold sparesOut
  split
  · exact .refl c
  · refine RepairsStand.trans ?_ (.of_records (repairEvent_only _ _ _))
    exact .of_same rfl (le_refl _)

/-- A repair that is noted is in force. -/
theorem noteRepair_stand (c : Core) (r : RepairEntry) : RepairsStand c (c.noteRepair r) ∧ r ∈ (c.noteRepair r).repairs := by
  unfold noteRepair
  split
  · have hevent := (Core.repairEvent_only ({ c with rep := { c.rep with
      extra := c.rep.extra ++ [r], sparesOut := if c.rep.sparesOut.contains 0xFF#8 then c.rep.sparesOut else c.rep.sparesOut ++ [0xFF#8] } })
      0x48 [0xFF#8])
    refine ⟨RepairsStand.trans ⟨fun e he => ?_, ?_⟩ (.of_records hevent), (RepairsStand.of_records hevent).stand r ?_⟩
    · revert he
      simp only [repairs, fieldRepairs, List.mem_append]
      tauto
    · exact le_refl c.nvm.sparesUsed
    · simp [repairs, fieldRepairs]
  · refine ⟨⟨fun e he => ?_, le_refl _⟩, by simp [repairs, fieldRepairs]⟩
    revert he
    simp only [repairs, fieldRepairs, List.mem_append]
    tauto

/-- A row that is retired: where a spare row is left, it takes the row's place, and its entry is in force (R397). -/
theorem retire_stand (c : Core) (row : Nat) : RepairsStand c (c.retire row).1 ∧ (c.nvm.sparesUsed < 16 →
    (c.retire row).2 = true ∧ c.nvm.sparesUsed < (c.retire row).1.nvm.sparesUsed ∧
      ⟨7#8, BitVec.ofNat 8 row, BitVec.ofNat 8 c.nvm.sparesUsed, 2#8⟩ ∈ (c.retire row).1.repairs) := by
  unfold retire
  split
  case isTrue hfull => exact ⟨c.sparesOut_stand _, fun h => absurd h (by omega)⟩
  case isFalse hleft =>
    dsimp only
    have htaken : RepairsStand c (c.takeSpare row) := .of_same rfl (Nat.le_succ _)
    obtain ⟨hnoted, hmem⟩ := (c.takeSpare row).noteRepair_stand ⟨7#8, BitVec.ofNat 8 row, BitVec.ofNat 8 c.nvm.sparesUsed, 2#8⟩
    have hrest : RepairsStand ((c.takeSpare row).noteRepair ⟨7#8, BitVec.ofNat 8 row, BitVec.ofNat 8 c.nvm.sparesUsed, 2#8⟩)
        (((c.takeSpare row).noteRepair ⟨7#8, BitVec.ofNat 8 row, BitVec.ofNat 8 c.nvm.sparesUsed, 2#8⟩
        ).repairEvent 0x4A (le 2 (c.physical row) ++ [BitVec.ofNat 8 c.nvm.sparesUsed])).regrade :=
      (RepairsStand.of_records (repairEvent_only _ _ _)).trans (regrade_stand _)
    exact ⟨(htaken.trans hnoted).trans hrest, fun _ => ⟨rfl, (hnoted.trans hrest).spares, hrest.stand _ hmem⟩⟩

theorem programFrom_stand (n : Nat) (c : Core) (row : Nat) : RepairsStand c (programFrom n c row).1 := by
  induction n generalizing c with
  | zero => exact .refl c
  | succ n ih =>
    unfold programFrom
    have hrow : RepairsStand c ((c.noteErase row).verifies).1 := .of_same rfl (le_refl _)
    have hretire := (retire_stand ((c.noteErase row).verifies).1 row).1
    dsimp only
    split
    · exact hrow
    · split
      · exact (hrow.trans hretire).trans (ih _)
      · exact hrow.trans hretire

theorem programRows_stand (c : Core) (rows : List Nat) : RepairsStand c (c.programRows rows).1 := by
  unfold programRows
  generalize true = b
  induction rows generalizing c b with
  | nil => exact .refl c
  | cons r rows ih => exact (programFrom_stand 17 c r).trans (ih _ _)

theorem writeCopy_stand (c : Core) (r : RecId) : RepairsStand c (c.writeCopy r).1 := by
  unfold writeCopy
  split
  · exact .refl c
  · have h := c.programRows_stand (r.rows (c.pair r).targetsB)
    dsimp only
    split
    · exact h.trans (.of_same rfl (le_refl _))
    · refine RepairsStand.trans ?_ (regrade_stand _)
      exact h.trans (.of_same rfl (le_refl _))

theorem saveMap_stand (c : Core) : RepairsStand c c.saveMap := by
  unfold saveMap
  split
  · exact .refl c
  · have hcopy := c.writeCopy_stand .repair
    dsimp only
    split
    · refine hcopy.trans (.of_same ?_ (le_refl _))
      simp [flushMap, repairs, fieldRepairs]
    · exact hcopy

theorem retireRow_stand (c : Core) (row : Nat) : RepairsStand (c.retire row).1 (c.retireRow row).1 := by
  unfold retireRow
  dsimp only
  split
  · exact (programFrom_stand 17 _ row).trans (saveMap_stand _)
  · exact saveMap_stand _

/-! An answer takes back no repair, whether it goes to this tile's own host or over the hedge. -/

theorem drawTx_stand (c : Core) (t : Tenant) : RepairsStand c (c.drawTx t).1 := by
  have hwrite : ∀ f, RepairsStand c (c.write .tenant (fun d => d.modTenantRec t f)).1 := fun f => by
    have hcopy := c.writeCopy_stand .tenant
    show RepairsStand c (Core.saveMap _)
    refine RepairsStand.trans ?_ (saveMap_stand _)
    split
    · exact hcopy.trans (.of_same rfl (le_refl _))
    · exact hcopy
  have hdue : RepairsStand c (c.txRenewed t) := by
    unfold txRenewed
    split
    · exact hwrite _
    · exact .refl c
  rw [drawTx_eq]
  split
  · exact hdue.trans (.of_same rfl (le_refl _))
  · exact hdue

theorem sealPacket_stand (c : Core) (h : PktHead) (wantAuth : Bool) (payload : List Byte) : RepairsStand c (c.sealPacket h wantAuth payload).1 := by
  have hdraw := c.drawTx_stand h.tenant
  unfold sealPacket
  split
  · exact .refl c
  · revert hdraw
    rcases c.drawTx h.tenant with ⟨d, fresh⟩
    cases fresh <;> exact id

theorem relayPut_stand (c : Core) (i : RelayItem) : RepairsStand c (c.relayPut i) := .of_same rfl (le_refl _)

theorem sendOut_stand (c : Core) (b : List Byte) (arrival : Option Port) : RepairsStand c (c.sendOut b arrival) := by
  unfold sendOut
  split
  · exact foldl_keeps RepairsStand .refl (fun _ _ _ => .trans) _ (fun c p => .of_txq (c.sendPacketOn_only p b none false)) _ c
  · split
    · exact .of_txq (c.sendPacketOn_only _ _ _ _)
    · exact c.relayPut_stand _

theorem sendRsp_stand (c : Core) (r : Rsp) : RepairsStand c (c.sendRsp r) := by
  have hseal := c.sealPacket_stand (c.rspHead r 15) r.auth r.payload
  unfold sendRsp
  split
  · exact .of_same rfl (le_refl _)
  · revert hseal
    rcases c.sealPacket (c.rspHead r 15) r.auth r.payload with ⟨d, b⟩
    cases b with
    | none => exact fun h => h.trans (d.relayPut_stand _)
    | some b => exact fun h => h.trans (d.sendOut_stand _ _)

theorem answer_stand (c : Core) (x : CmdCtx) (op status : Byte) (payload : List Byte) : RepairsStand c (c.answer x op status payload) := by
  unfold answer
  dsimp only
  split
  · exact c.sendRsp_stand _
  · exact foldl_keeps RepairsStand .refl (fun _ _ _ => .trans) _ (fun c _ => c.sendRsp_stand _) _ c

theorem jobFail_stand (c : Core) (j : CommitJob) : RepairsStand c (c.jobFail j) := by
  have hended : RepairsStand c { c with nvm := { c.nvm with job := none } } := .of_same rfl (le_refl _)
  unfold jobFail
  dsimp only
  split
  · exact hended.trans (answer_stand _ _ _ _ _)
  · exact hended

/-! ### Steps of a commit -/

theorem jobWrite_pw (c : Core) (j : CommitJob) : (c.jobWrite j).pw = c.pw := by
  unfold jobWrite modSlot
  split
  · rfl
  all_goals
    dsimp only
    split <;> rfl

theorem jobWrite_stand (c : Core) (j : CommitJob) : RepairsStand c (c.jobWrite j) := by
  unfold jobWrite modSlot
  split
  · exact .of_same rfl (le_refl _)
  all_goals
    dsimp only
    split <;> exact .of_same rfl (le_refl _)

/-- A verified step stands, and the next one begins (R79). -/
theorem jobStep_of_next {c : Core} {j : CommitJob} {st : CommitStage} (hjob : c.nvm.job = some j) (hnext : j.next = some st)
    (hok : c.nvmOk = true) :
    c.jobStep true = { c.jobWrite j with nvm := { (c.jobWrite j).nvm with job := some { j with stage := st } } } := by
  have hwritten : (c.jobWrite j).nvmOk = true := by rw [nvmOk, jobWrite_pw]; exact hok
  unfold jobStep
  rw [hjob]
  simp only [if_true, Bool.not_true, Bool.false_eq_true, if_false, hnext, hwritten]

theorem jobStep_of_last {c : Core} {j : CommitJob} (hjob : c.nvm.job = some j) (hlast : j.next = none) :
    c.jobStep true = (c.jobWrite j).jobDone j := by
  unfold jobStep
  rw [hjob]
  simp only [if_true, Bool.not_true, Bool.false_eq_true, if_false, hlast]

/-- A row that fails verify while NVM writes are inhibited ends the commit (R80). -/
theorem jobStep_of_inhibited {c : Core} {j : CommitJob} (hjob : c.nvm.job = some j) (hok : c.nvmOk = false) :
    c.jobStep false = c.jobFail j := by
  unfold jobStep
  rw [hjob]
  simp [hok]

/-- A row that fails verify with no spare row left ends the commit (R397). -/
theorem jobStep_of_no_spare {c : Core} {j : CommitJob} (hjob : c.nvm.job = some j) (hok : c.nvmOk = true) (hfull : 16 ≤ c.nvm.sparesUsed) :
    c.jobStep false = (c.sparesOut 7#8).saveMap.jobFail j := by
  have hretire : c.retireRow j.row = ((c.sparesOut 7#8).saveMap, false) := by
    unfold retireRow retire
    rw [if_pos hfull]
    rfl
  unfold jobStep
  rw [hjob]
  simp [hok, hretire]

/-- A row that fails verify leaves the repairs that its retirement made (R397). -/
theorem jobStep_stand {c : Core} {j : CommitJob} (hjob : c.nvm.job = some j) (hok : c.nvmOk = true) {st : CommitStage}
    (hnext : j.next = some st) : RepairsStand (c.retire j.row).1 (c.jobStep false) := by
  have hrow := c.retireRow_stand j.row
  unfold jobStep
  rw [hjob]
  simp only [Bool.false_eq_true, if_false, hok, if_true, hnext]
  split
  · exact hrow.trans (jobFail_stand _ j)
  · split
    · exact (hrow.trans (jobWrite_stand _ j)).trans (.of_same rfl (le_refl _))
    · exact (hrow.trans (jobWrite_stand _ j)).trans (jobFail_stand _ j)

theorem jobFail_of_reply {c : Core} {j : CommitJob} {x : CmdCtx} (hreply : j.reply = some x) (hown : x.src = c.hg.addr) :
    c.jobFail j = answered { c with nvm := { c.nvm with job := none } } x 0x12#8 0x09#8 false [] := by
  unfold jobFail
  rw [hreply]
  exact answer_own (by exact hown) _ _ _

/-- A spare kind exhausted stands among those told. -/
theorem sparesOut_spec (c : Core) (k : Byte) : k ∈ (c.sparesOut k).rep.sparesOut ∧
    OnlyRecords { c with rep := { c.rep with sparesOut := (c.sparesOut k).rep.sparesOut } } (c.sparesOut k) := by
  unfold sparesOut
  split
  case isTrue hin => exact ⟨List.contains_iff_mem.mp hin, rfl⟩
  · have hevent := Core.repairEvent_only ({ c with rep := { c.rep with sparesOut := c.rep.sparesOut ++ [k] } }) 0x48 [k]
    have htold : (Core.repairEvent ({ c with rep := { c.rep with sparesOut := c.rep.sparesOut ++ [k] } }) 0x48 [k]).rep.sparesOut =
      c.rep.sparesOut ++ [k] := by rw [hevent]
    rw [htold]
    exact ⟨List.mem_append_right _ (List.mem_singleton.mpr rfl), hevent⟩

end Core

theorem gives_nvmOperationDone (verified : Bool) (s : State) : Gives (.nvmOperationDone verified) s (s.core.jobStep verified) := rfl

/-! ### Programming the key -/

/-- The key areas hold no key where every one is blank or spoiled. -/
theorem custodianKey_none {o : Otp} (h : ∀ a ∈ o.areas, a = .blank ∨ a = .spoiled) : Core.custodianKey o = none := by
  rw [Core.custodianKey_eq, List.findSome?_eq_none_iff]
  intro a ha
  rcases h a ha with rfl | rfl
  · rfl
  · rfl

theorem custodianKey_of_split {o : Otp} {pre post : List KeyArea} {k : List Byte} (h : o.areas = pre ++ .programmed k :: post)
    (hpre : ∀ a ∈ pre, a = .spoiled) : Core.custodianKey o = some k := by
  have hfirst : pre.findSome? KeyArea.key = none := by
    rw [List.findSome?_eq_none_iff]
    intro a ha
    rw [hpre a ha]
    rfl
  rw [Core.custodianKey_eq, h, List.findSome?_append, hfirst]
  rfl

theorem Core.after_outRsp (c d : Core) : (c.after d).host.outRsp = d.host.outRsp := by
  simp [Core.after]

/-- OTP_PROGRAM_DONE of a programming under way (R445). -/
theorem otpDone_of_keyProg {s : State} {k : KeyProg} (h : s.core.keyProg = some k) {verified : Bool} :
    exec (.otpProgramDone verified) s =
      (let o := if verified then programKey s.otp k.key else Core.firstBlank s.otp .spoiled
       .next { s with otp := o, core := s.core.after (s.core.provDone k o verified) }) := by
  show Host.Outcome.next (otpDone verified s) = _
  unfold otpDone
  rw [h]

/-- A key that has been programmed stands, T0's counters begin anew, and the answer goes to this tile's own host (R365, R444). -/
theorem Core.provDone_of_verified {c : Core} {k : KeyProg} {o : Otp} (hown : k.ctx.src = c.hg.addr) :
    c.provDone k o true = answered { c with
      keyProg := none, otpc := { c.otpc with custodian := Core.custodianKey o, provOpen := Core.provisioningOpen o }
      nvm := { c.nvm with tenants := modifyAt c.nvm.tenants 0 (fun r => { r with s := 4096#32, txS := 4096#32 }) }
      ten := modifyAt c.ten 0 (fun r => { r with h := 0#32, marks := 0#32, txCtr := 0#32 }) }
      { k.ctx with auth := true } 0x20#8 0x00#8 false [] := by
  rw [Core.provDone, if_pos rfl]
  exact Core.answer_own (by exact hown) _ _ _

theorem Core.provDone_of_failed {c : Core} {k : KeyProg} {o : Otp} (hown : k.ctx.src = c.hg.addr) :
    c.provDone k o false = answered { c with
      keyProg := none, otpc := { c.otpc with custodian := Core.custodianKey o, provOpen := Core.provisioningOpen o } }
      k.ctx 0x20#8 0x09#8 false [] := by
  rw [Core.provDone, if_neg Bool.false_ne_true]
  exact Core.answer_own (by exact hown) _ _ _

/-- Settles O40: each step of a commit, and what the programming of a key leaves. -/
theorem commitAndKeyStepsComplete : Obligations.CommitAndKeyStepsComplete := by
  refine ⟨fun s j r hjob hstage hr hok => (gives_nvmOperationDone _ s).leaves ?_, fun s j n hjob hstage hslot hok =>
    (gives_nvmOperationDone _ s).congr ?_, fun s j hjob hstage hslot hok => (gives_nvmOperationDone _ s).congr ?_,
    fun s j x q hjob hstage hslot hreply hsrc hrun himage => (gives_nvmOperationDone _ s).congr ?_,
    fun s j x hjob hreply hsrc hok hfull hmap hfaults => (gives_nvmOperationDone _ s).leaves ?_,
    fun s j n hjob hstage hok hleft => (gives_nvmOperationDone _ s).leaves ?_,
    fun s j x hjob hreply hsrc hok => (gives_nvmOperationDone _ s).congr ?_, fun s k pre post hkey hsrc hareas hpre hpost => ?_,
    fun s k pre post hkey hsrc hareas hpre => ?_⟩
  · have hnext : j.next = some (.erase (r + 1)) := by
      rw [CommitJob.next, hstage]
      exact congrArg some (if_pos hr)
    rw [Core.jobStep_of_next hjob hnext hok, Core.jobWrite, hstage]
    exact ⟨rfl, modifyAt_length _ _ _⟩
  · rw [Core.jobStep_of_next hjob (by rw [CommitJob.next, hstage]) hok, Core.jobWrite, hstage, hslot]
    rfl
  · rw [Core.jobStep_of_next hjob (by rw [CommitJob.next, hstage]) hok, Core.jobWrite, hstage, hslot]
    rfl
  · rw [Core.jobStep_of_last hjob (by rw [CommitJob.next, hstage]), Core.jobWrite, hstage, hslot]
    unfold Core.jobDone
    rw [hreply]
    dsimp only
    rw [Core.ok, Core.answer_own (by exact hsrc)]
    unfold Core.takeCommit
    dsimp only [answered, Core.modSlot]
    rw [hrun, himage, hslot]
    rfl
  · rw [Core.jobStep_of_no_spare hjob hok hfull]
    obtain ⟨hmem, hout⟩ := s.core.sparesOut_spec 7#8
    generalize s.core.sparesOut 7#8 = d at *
    have hsaved : d.saveMap = d := Core.saveMap_of_nothing (by rw [hout]; exact hmap) (by rw [hout]; exact hfaults)
    rw [hsaved, Core.jobFail_of_reply hreply (by rw [hout]; exact hsrc)]
    refine ⟨hmem, ?_⟩
    unfold OnlyRecords at *
    rw [hout]
    rfl
  · obtain ⟨-, hspec⟩ := s.core.retire_stand j.row
    obtain ⟨-, hused, hmem⟩ := hspec hleft
    have hstand := Core.jobStep_stand hjob hok (st := if n + 1 < j.pages then .body (n + 1) else .header) (by rw [CommitJob.next, hstage])
    exact ⟨Nat.lt_of_lt_of_le hused hstand.spares, _, hstand.stand _ hmem, rfl⟩
  · rw [Core.jobStep_of_inhibited hjob hok, Core.jobFail_of_reply hreply hsrc]
    rfl
  · have hblank : ∀ a ∈ s.otp.areas, a = .blank ∨ a = .spoiled := by
      intro a ha
      rw [hareas, List.mem_append, List.mem_cons] at ha
      rcases ha with ha | rfl | ha
      · exact .inr (hpre a ha)
      · exact .inl rfl
      · exact hpost a ha
    have hotp : programKey s.otp k.key = { s.otp with areas := pre ++ .programmed k.key :: post } := by
      rw [programKey, custodianKey_none hblank]
      exact Core.firstBlank_of_split hareas (fun hin => KeyArea.noConfusion (hpre _ hin)) _
    have hkeyed : Core.custodianKey ({ s.otp with areas := pre ++ .programmed k.key :: post }) = some k.key := custodianKey_of_split rfl hpre
    have hclosed : Core.provisioningOpen ({ s.otp with areas := pre ++ .programmed k.key :: post }) = false := by
      rw [Core.provisioningOpen, hkeyed]
      rfl
    refine ⟨_, otpDone_of_keyProg hkey, rfl, ?_, ?_⟩
    · exact hotp
    dsimp only
    rw [if_pos rfl, hotp, Core.provDone_of_verified hsrc, hkeyed, hclosed]
    exact ⟨congrArg OtpCopy.custodian (Core.after_otpc ..), congrArg OtpCopy.provOpen (Core.after_otpc ..), Core.after_keyProg .., Core.after_outRsp .., Core.after_nvm ..,
      Core.after_ten .., Core.after_pw ..⟩
  · have hotp := Core.firstBlank_of_split hareas (fun hin => hpre _ hin rfl) .spoiled
    refine ⟨_, otpDone_of_keyProg hkey, rfl, hotp, ?_⟩
    dsimp only
    rw [if_neg Bool.false_ne_true, Core.provDone_of_failed hsrc]
    exact ⟨Core.after_keyProg .., Core.after_nvm .., Core.after_ten .., Core.after_outRsp ..⟩

end Sys2Proof.Machine

/-!
PROOFS. Slice calibrations and self-tests as they fall due (chapter 12, R373, R374, R376 to R379, R385, R387 to R389, R394).
-/
namespace Sys2Proof.Machine

/-! What each row runs. -/

theorem gives_sliceCalibrationDone (n : Fin 2) (g o : Int) (s : State) :
    Gives (.sliceCalibrationDone n g o) s (s.core.calibrationDone n g o) := rfl
theorem gives_sliceHandoverForced (n : Fin 2) (s : State) :
    Gives (.sliceHandoverForced n) s (s.core.when (s.core.pw.phase == .run && (s.core.sliceOf n).doneCal) (fun c => c.pastDue 0)) := rfl
theorem gives_slicecalDue (n : Fin 2) (s : State) : Gives (.slicecalDue n) s
    (s.core.when (s.core.pw.phase == .run && !(s.core.sliceOf n).failed.isEmpty) (fun c => c.dueMaint (.slicecal n))) := rfl
theorem gives_dailySelftestDue (s : State) : Gives .dailySelftestDue s
    (s.core.when s.core.lives (fun c => (c.modRep (fun r => { r with testDue := true, bgDue := r.bgDue ||| 2#5 })).testWake)) := rfl
theorem gives_selftestForced (s : State) :
    Gives .selftestForced s (s.core.when (s.core.lives && s.core.hasWork 1) (fun c => c.pastDue 1)) := rfl
theorem gives_selftestConfirm (s : State) : Gives .selftestConfirm s
    (s.core.when (s.core.rep.selftest.any (fun r => r.frames == 1 && !r.first.isEmpty)) (fun c => c.dueMaint .selftest)) := rfl
theorem gives_suspectSelftest (s : State) : Gives .suspectSelftest s
    (s.core.when (!s.core.rep.suspects.isEmpty && s.core.rep.selftest.isNone) (fun c => c.dueMaint .selftest)) := rfl
theorem gives_deferForced (k : Fin 5) (s : State) :
    Gives (.deferForced k) s (s.core.when (s.core.lives && s.core.hasWork k) (fun c => c.pastDue k)) := rfl

namespace Core

/-- A MAINT frame that is not due yet becomes due. -/
theorem dueMaint_of_not_mem {c : Core} {m : Maint} (h : m ∉ c.acq.maintDue) :
    c.dueMaint m = { c with acq := { c.acq with maintDue := c.acq.maintDue ++ [m] } } := by
  have hnot : c.acq.maintDue.contains m = false := by simpa using h
  unfold dueMaint modAcq
  dsimp only
  rw [hnot]
  rfl

/-- A task that is not past due yet becomes past due, with its event (R394). -/
theorem pastDue_of_not {c : Core} {k : Fin 5} (h : c.rep.bgdefer.getLsbD k.val = false) :
    OnlyRecords { c with rep := { c.rep with bgdefer := c.rep.bgdefer ||| (1#5 <<< k.val) } } (c.pastDue k) := by
  unfold pastDue
  rw [h, if_neg Bool.false_ne_true]
  exact repairEvent_only _ _ _

theorem setFaults_stand (c : Core) (l : List FaultEntry) : RepairsStand c (c.setFaults l) := by
  unfold setFaults
  split
  · exact .refl c
  · refine RepairsStand.trans ?_ (saveMap_stand _)
    exact .of_same rfl (le_refl _)

/-- A repair that is added is in force, and beside it only NVM changes (R373, R374). -/
theorem addRepair_spec (c : Core) (r : RepairEntry) : OnlyNvm c (c.addRepair r) ∧ r ∈ (c.addRepair r).repairs :=
  ⟨(c.noteRepair_only r).trans (saveMap_only _), (saveMap_stand _).stand r (c.noteRepair_stand r).2⟩

section
variable {c : Core} {n : Fin 2} (hrun : c.pw.phase = .run) (hfailed : (c.sliceOf n).failed = []) (hopen : (c.sliceOf n).doneCal = false)
  (hdue : (c.sliceOf n).failDue = none)
include hrun hfailed hopen hdue

/-- With no failed slice on the converter and no handover waiting, a calibration is of the slice that is out (R377). -/
theorem calibrationDone_of_out (g o : Int) :
    c.calibrationDone n g o =
      (if trimsBad g o && (c.sliceOf n).bad.contains (c.sliceOf n).out then
        (c.modRep (fun r => { r with bgDue := r.bgDue &&& 0b11110#5 })).failSlice n (c.sliceOf n).out
      else (c.modRep (fun r => { r with bgDue := r.bgDue &&& 0b11110#5 })).modSlice n (fun r =>
        { r with doneCal := true, newTrim := (g, o)
                 bad := r.bad.filter (fun b => b != (c.sliceOf n).out) ++ (if trimsBad g o then [(c.sliceOf n).out] else []) })) := by
  have hcal : c.calibrated n = some (c.sliceOf n).out := by
    unfold calibrated
    dsimp only
    rw [hdue, hfailed, hopen]
    rfl
  unfold calibrationDone
  rw [hrun, beq_self_eq_true, when_true, hcal]
  simp only [hfailed]
  rfl

end

/-- A converter's rotation after a change of one. -/
theorem modSlice_sliceOf (c : Core) (n m : Fin 2) (f : SliceRot → SliceRot) :
    (c.modSlice n f).sliceOf m = if n = m ∧ m.val < c.rep.slices.length then f (c.sliceOf m) else c.sliceOf m := by
  simp only [sliceOf, modSlice, modRep, modifyAt_getD, Fin.ext_iff]

/-- The first failure of a slice of a converter (R379): the slice leaves service at the next boundary, and its repair is in force. -/
theorem failSlice_spec {c : Core} {n : Fin 2} {s : Fin 11} (hfailed : (c.sliceOf n).failed = []) :
    OnlyFaults (c.modSlice n (fun r => { r with doneCal := false, failDue := some s, bad := r.bad.filter (fun b => b != s) }))
      (c.failSlice n s) ∧
    ⟨1#8, BitVec.ofNat 8 (n.val * 16 + s.val), 0#8, 2#8⟩ ∈ (c.failSlice n s).repairs := by
  have hone : (!(c.sliceOf n).failed.isEmpty) = false := by rw [hfailed]; rfl
  obtain ⟨honly, hmem⟩ := c.addRepair_spec ⟨1#8, BitVec.ofNat 8 (n.val * 16 + s.val), 0#8, 2#8⟩
  unfold failSlice
  rw [hone]
  dsimp only
  rw [if_neg Bool.false_ne_true]
  have hevent := fun d : Core => repairEvent_only d 0x41 [BitVec.ofNat 8 n.val, BitVec.ofNat 8 s.val]
  refine ⟨?_, ?_⟩
  · refine OnlyFaults.trans (OnlyFaults.trans ?_ (addFault_only _ _ _ _ _ _)) (.of_records (hevent _))
    refine .of_nvm ?_
    unfold OnlyNvm at *
    rw [honly]
    rfl
  · exact (RepairsStand.of_records (hevent _)).stand _ ((setFaults_stand _ _).stand _ hmem)

end Core

/-- Settles O41: each row finds its slice or its task in one state. -/
theorem sliceAndSelftestCommandsComplete : Obligations.SliceAndSelftestCommandsComplete := by
  refine ⟨fun s n g o hrun hfailed hopen hdue hg ho => (gives_sliceCalibrationDone n g o s).congr ?_,
    fun s n g o hrun hfailed hopen hdue hn hbad hfirst => (gives_sliceCalibrationDone n g o s).leaves ?_,
    fun s n g o hrun hfailed hopen hdue hn hbad hagain => (gives_sliceCalibrationDone n g o s).leaves ?_,
    fun s n hrun hdone hnot => (gives_sliceHandoverForced n s).leaves ?_, fun s n hrun hfailed hnot => (gives_slicecalDue n s).congr ?_,
    fun s hlives hgrade hquiet hentry hslot hbist hjoin => (gives_dailySelftestDue s).leaves ?_,
    fun s hlives hstay => (gives_dailySelftestDue s).congr ?_, fun s hlives hdue hidle hnot => (gives_selftestForced s).leaves ?_,
    fun s r hrun hframes hfirst hnot => (gives_selftestConfirm s).congr ?_, fun s hsuspects hidle hnot => (gives_suspectSelftest s).congr ?_,
    fun s k hlives hwork hnot => (gives_deferForced k s).leaves ?_⟩
  · have hgood : trimsBad g o = false := by
      rw [trimsBad, decide_eq_false (by omega), decide_eq_false (by omega)]
      rfl
    rw [Core.calibrationDone_of_out hrun hfailed hopen hdue, hgood, Bool.false_and, if_neg Bool.false_ne_true]
    have hslices : modifyAt s.core.rep.slices n.val (fun r =>
        { r with doneCal := true, newTrim := (g, o), bad := r.bad.filter (fun b => b != (s.core.sliceOf n).out) ++ [] }) =
        modifyAt s.core.rep.slices n.val (fun r =>
        { r with doneCal := true, newTrim := (g, o), bad := r.bad.filter (fun b => b != r.out) }) := by
      refine modifyAt_congr fun r hr => ?_
      have hout : s.core.sliceOf n = r := by rw [Core.sliceOf, List.getD_eq_getElem?_getD, hr]; rfl
      rw [hout, List.append_nil]
    exact congrArg (fun l => ({ s.core with rep := { s.core.rep with bgDue := s.core.rep.bgDue &&& 0b11110#5, slices := l } } : Core)) hslices
  · have hwrong : trimsBad g o = true := by simpa [trimsBad] using hbad
    have hnew : (s.core.sliceOf n).bad.contains (s.core.sliceOf n).out = false := by simpa using hfirst
    rw [Core.calibrationDone_of_out hrun hfailed hopen hdue, hwrong, hnew, Bool.and_false, if_neg Bool.false_ne_true, if_pos rfl]
    refine ⟨rfl, ?_⟩
    rw [Core.modSlice_sliceOf, if_pos ⟨rfl, hn⟩]
    exact ⟨rfl, List.mem_append_right _ (List.mem_singleton.mpr rfl), hfailed⟩
  · have hwrong : trimsBad g o = true := by simpa [trimsBad] using hbad
    have hold : (s.core.sliceOf n).bad.contains (s.core.sliceOf n).out = true := by simpa using hagain
    rw [Core.calibrationDone_of_out hrun hfailed hopen hdue, hwrong, hold, Bool.and_self, if_pos rfl]
    obtain ⟨honly, hmem⟩ := Core.failSlice_spec (c := s.core.modRep (fun r => { r with bgDue := r.bgDue &&& 0b11110#5 })) (n := n)
      (s := (s.core.sliceOf n).out) hfailed
    have hslice := (s.core.modRep (fun r => { r with bgDue := r.bgDue &&& 0b11110#5 })).modSlice_sliceOf n n (fun r =>
      { r with doneCal := false, failDue := some (s.core.sliceOf n).out, bad := r.bad.filter (fun b => b != (s.core.sliceOf n).out) })
    rw [if_pos ⟨rfl, hn⟩] at hslice
    generalize Core.failSlice _ n _ = d at *
    have hend : d.sliceOf n = _ := Eq.trans (by rw [honly]; rfl) hslice
    rw [hend]
    refine ⟨rfl, hfailed, rfl, rfl, ⟨_, hmem, rfl, rfl⟩, ?_⟩
    rw [honly]
    exact ⟨rfl, rfl, rfl, rfl, rfl⟩
  · rw [hrun, hdone, beq_self_eq_true, Bool.and_self, Core.when_true]
    exact Core.pastDue_of_not (k := 0) hnot
  · have hsome : (s.core.sliceOf n).failed.isEmpty = false := by simpa using hfailed
    rw [hrun, hsome, beq_self_eq_true, Bool.not_false, Bool.and_self, Core.when_true]
    exact Core.dueMaint_of_not_mem hnot
  · have hmoves := Core.enterRun_moves (s.core.modRep (fun r => { r with testDue := true, bgDue := r.bgDue ||| 2#5 }))
    rw [hlives, Core.when_true, Core.testWake_of_due (c := s.core.modRep (fun r => { r with testDue := true, bgDue := r.bgDue ||| 2#5 }))
      (by exact hgrade) rfl (by exact hquiet) (by exact hentry) (by exact hslot) (by exact hbist) (by exact hjoin)]
    refine ⟨Core.enterRun_phase _, ?_, ?_⟩
    · rw [hmoves]
      rfl
    · rw [hmoves]
      rfl
  · rw [hlives, Core.when_true]
    exact Core.testWake_of_not (hstay.imp id (Or.imp id .inl))
  · have hwork : s.core.hasWork 1 = true := by
      show (s.core.rep.testDue && s.core.rep.selftest.isNone) = true
      rw [hdue, hidle]
      rfl
    rw [hlives, hwork, Bool.and_self, Core.when_true]
    exact Core.pastDue_of_not (k := 1) hnot
  · have hsome : r.first.isEmpty = false := by simpa using hfirst
    have hguard : s.core.rep.selftest.any (fun r => r.frames == 1 && !r.first.isEmpty) = true := by
      rw [hrun]
      show (r.frames == 1 && !r.first.isEmpty) = true
      rw [hframes, hsome]
      rfl
    rw [hguard, Core.when_true]
    exact Core.dueMaint_of_not_mem hnot
  · have hsome : s.core.rep.suspects.isEmpty = false := by simpa using hsuspects
    rw [hsome, hidle, Option.isNone_none, Bool.not_false, Bool.and_self, Core.when_true]
    exact Core.dueMaint_of_not_mem hnot
  · rw [hlives, hwork, Bool.and_self, Core.when_true]
    exact Core.pastDue_of_not hnot

end Sys2Proof.Machine

/-!
PROOFS. Telemetry flush (chapter 12, R401, R402): the count of drifting lines outlives the record that carries it.
-/
namespace Sys2Proof.Machine

namespace Core

/-- The drifting lines of the last self-test, as the telemetry counts hold them. -/
def drifting (c : Core) : Nat := c.rep.tele.drift

/-! Nothing that a write of NVM does beside its record changes the count. -/

theorem placeRec_drifting (c : Core) (t : Tenant) (b : List Byte) (fc : BitVec 32) (o : Addr) :
    (c.placeRec t b fc o).drifting = c.drifting := by
  unfold placeRec takePlaced
  split
  · dsimp only
    split
    · show ((c.modQueue t _).attnIf _ 13).rep.tele.drift = _
      rw [attnIf_rep]
      rfl
    · unfold drifting
      rw [attnIf_rep]
      rfl
  · rfl

theorem repairEvent_drifting (c : Core) (n : Nat) (b : List Byte) : (c.repairEvent n b).drifting = c.drifting :=
  foldl_keeps (fun a d : Core => d.drifting = a.drifting) (fun _ => rfl) (fun _ _ _ h k => k.trans h) _
    (fun c t => c.placeRec_drifting t _ c.hg.fc c.hg.addr) c.repairTenants c

theorem regrade_drifting (c : Core) : c.regrade.drifting = c.drifting := by
  unfold regrade regradeNow
  split
  · rfl
  · dsimp only
    split
    · rfl
    · unfold drifting
      rw [attn_rep]
      exact repairEvent_drifting _ _ _

theorem sparesOut_drifting (c : Core) (k : Byte) : (c.sparesOut k).drifting = c.drifting := by
  unfold sparesOut
  split
  · rfl
  · exact repairEvent_drifting _ _ _

theorem noteRepair_drifting (c : Core) (r : RepairEntry) : (c.noteRepair r).drifting = c.drifting := by
  unfold noteRepair
  split
  · exact repairEvent_drifting _ _ _
  · rfl

theorem retire_drifting (c : Core) (row : Nat) : (c.retire row).1.drifting = c.drifting := by
  unfold retire
  split
  · exact c.sparesOut_drifting _
  · dsimp only
    rw [regrade_drifting, repairEvent_drifting, noteRepair_drifting]
    rfl

theorem programFrom_drifting (n : Nat) (c : Core) (row : Nat) : (programFrom n c row).1.drifting = c.drifting := by
  induction n generalizing c with
  | zero => rfl
  | succ n ih =>
    unfold programFrom
    dsimp only
    split
    · rfl
    · split
      · exact (ih _).trans (retire_drifting _ row)
      · exact retire_drifting _ row

theorem programRows_drifting (c : Core) (rows : List Nat) : (c.programRows rows).1.drifting = c.drifting := by
  unfold programRows
  generalize true = b
  induction rows generalizing c b with
  | nil => rfl
  | cons r rows ih => exact (ih _ _).trans (programFrom_drifting 17 c r)

theorem writeCopy_drifting (c : Core) (r : RecId) : (c.writeCopy r).1.drifting = c.drifting := by
  unfold writeCopy
  split
  · rfl
  · have h := c.programRows_drifting (r.rows (c.pair r).targetsB)
    dsimp only
    split
    · exact h
    · exact (regrade_drifting _).trans h

theorem saveMap_drifting (c : Core) : c.saveMap.drifting = c.drifting := by
  unfold saveMap
  split
  · rfl
  · dsimp only
    split
    · exact c.writeCopy_drifting .repair
    · exact c.writeCopy_drifting .repair

theorem retireRow_drifting (c : Core) (row : Nat) : (c.retireRow row).1.drifting = c.drifting := by
  unfold retireRow
  dsimp only
  split
  · exact ((saveMap_drifting _).trans (programFrom_drifting 17 _ row)).trans (c.retire_drifting row)
  · exact (saveMap_drifting _).trans (c.retire_drifting row)

/-! The flush itself (R401, R402). -/

theorem ringWrite_drifting (c : Core) (b : List Byte) : (c.ringWrite b).drifting = c.drifting := by
  have hverified : ∀ d : Core × Bool, d.1.drifting = c.drifting → ∀ row,
      (if d.2 then (d.1, true) else d.1.retireRow row).1.drifting = c.drifting := by
    intro d hd row
    split
    · exact hd
    · exact (d.1.retireRow_drifting row).trans hd
  unfold ringWrite
  dsimp only
  split
  · refine ((saveMap_drifting _).trans (programFrom_drifting 17 _ _)).trans ?_
    exact hverified c.verifies rfl _
  · exact hverified c.verifies rfl _

theorem saveLife_drifting (c : Core) : c.saveLife.drifting = c.drifting := by
  have hcopy := c.writeCopy_drifting .life
  show (Core.saveMap _).drifting = _
  rw [saveMap_drifting]
  split
  · exact hcopy
  · exact hcopy

theorem mergeWear_drifting (c : Core) : c.mergeWear.drifting = c.drifting := by
  have hcopy := c.writeCopy_drifting .wear
  show (Core.saveMap _).drifting = _
  rw [saveMap_drifting]
  split
  · exact hcopy
  · exact hcopy

theorem taskOver_drifting (c : Core) (k : Fin 5) : (c.taskOver k).drifting = c.drifting := by
  unfold taskOver
  dsimp only
  split <;> rfl

theorem extreme_drifting (c : Core) (x : Option Int) : (c.extreme x).1.drifting = c.drifting := by
  cases x <;> rfl

/-- A flush clears the counts of its interval, but not that of the drifting lines. -/
theorem flush_drifting (c : Core) : c.flush.drifting = c.drifting := by
  unfold flush when
  split
  case isFalse => rfl
  case isTrue =>
    dsimp only
    rw [taskOver_drifting]
    split
    · refine (mergeWear_drifting _).trans ?_
      exact (saveLife_drifting _).trans ((ringWrite_drifting _ _).trans
        ((extreme_drifting _ _).trans ((extreme_drifting _ _).trans (extreme_drifting _ _))))
    · exact (saveLife_drifting _).trans ((ringWrite_drifting _ _).trans
        ((extreme_drifting _ _).trans ((extreme_drifting _ _).trans (extreme_drifting _ _))))

end Core

/-- A tile in Run with a telemetry interval in which a self-test found one drifting line. -/
def oneDrifting : State :=
  { State.reset with core := { State.reset.core with
      pw := { State.reset.core.pw with phase := .run, ready := true }
      rep := { State.reset.core.rep with tele := { State.reset.core.rep.tele with
        vbatLow := some 3200, tdLow := some (-64), tdHigh := some 640, drift := 1 } } } }

theorem gives_telemetryFlush (s : State) : Gives .telemetryFlush s s.core.flush := rfl

/-- Refutes O42: after a flush the telemetry counts hold the drifting lines of the last self-test still, here one, where the clause on the
flush has every count but the running seconds of Run and Quiet at 0. -/
theorem not_enduranceCommandsComplete : ¬ Obligations.EnduranceCommandsComplete := by
  unfold Obligations.EnduranceCommandsComplete
  intro h
  obtain ⟨-, -, -, -, -, -, -, -, hflush, -⟩ := h
  obtain ⟨c, hc, -, htele, -⟩ := hflush oneDrifting 3200 (-64) 640 (by decide) rfl rfl rfl (by decide) (by decide)
  have hsame : oneDrifting.core.after c = oneDrifting.core.after oneDrifting.core.flush := by
    have hnext := hc.symm.trans (gives_telemetryFlush oneDrifting)
    exact congrArg State.core (Host.Outcome.next.inj hnext)
  have hrep : c.rep = oneDrifting.core.flush.rep := by
    rw [← Core.after_rep oneDrifting.core c, hsame, Core.after_rep]
  have hnone : c.rep.tele.drift = 0 := by rw [htele]; rfl
  have hone : c.rep.tele.drift = 1 := by rw [hrep]; exact oneDrifting.core.flush_drifting
  omega

end Sys2Proof.Machine

/-!
PROOFS. Frame-deferred settings (chapters 01, 03, 04 and 11, R19, R20, R85, R136, R146, R148, R349, R354, R359, R360): kept for their boundary,
and what their turn leaves.
-/
namespace Sys2Proof.Machine

/-- A CMD that passes the checks is not busy and in range, so its turn is its act (check 12). -/
theorem Core.applyNowCmd_of_passes {c : Core} {op : Byte} {x : CmdCtx} {p : List Byte} {later : Bool} (h : Passes c op x p later) :
    c.applyNowCmd op x p = c.actOf op.toNat x p := by
  obtain ⟨-, -, -, hfree, hrange, -⟩ := h
  unfold Core.applyNowCmd
  rw [hfree, hrange, if_neg Bool.false_ne_true]

/-- A tile that keeps no command and takes one back from its list is as it was. -/
theorem Core.withDeferred_self {c : Core} (h : c.pk.deferred = []) : { c with pk := { c.pk with deferred := [] } } = c := by
  rw [← h]

/-- A frame-deferred CMD is kept; its turn, in a tile that kept no other, is its act (R19, R20, R349). -/
theorem defers_of_passes {i : Instr} {s : State} {op : Byte} {x : CmdCtx} {p : List Byte} {P : Core → Prop}
    (hi : opcodeOf i = some (op, x, p)) (h : Passes s.core op x p true) (hswing : op ≠ 0x47#8 ∨ s.core.pw.phase ≠ .run)
    (hact : P (s.core.actOf op.toNat x p)) : Defers i s P := by
  have hkept : s.core.accept true op x p = kept s.core op x p := by
    have hnot : (op == 0x47#8 && s.core.pw.phase == .run) = false := by
      rcases hswing with hop | hphase
      · rw [beq_false_of_ne hop, Bool.false_and]
      · rw [beq_false_of_ne hphase, Bool.and_false]
    show (if (op == 0x47#8 && s.core.pw.phase == .run) = true then _ else kept s.core op x p) = _
    rw [hnot, if_neg Bool.false_ne_true]
  refine ⟨op, x, p, hi, (gives_opcode hi s).congr ((Core.opcode_of_passes h).trans hkept), fun hnone => ?_⟩
  have hturn : (kept s.core op x p).applyFirst = s.core.actOf op.toNat x p := by
    have hone : (kept s.core op x p).pk.deferred = [{ opcode := op, ctx := x, payload := p }] := by
      show s.core.pk.deferred ++ _ = _
      rw [hnone, List.nil_append]
    rw [Core.applyFirst_of_cons hone]
    show Core.applyNowCmd { s.core with pk := { s.core.pk with deferred := [] } } op x p = _
    rw [Core.withDeferred_self hnone, Core.applyNowCmd_of_passes h]
  rw [hturn]
  exact hact

namespace Core

/-! ### Field sets -/

theorem isEmpty_of_ne {α : Type} {p : List α} (h : p ≠ []) : p.isEmpty = false := List.isEmpty_eq_false_iff.mpr h

/-- A median window of the right length stays as it is (R133). -/
theorem fitWindow_of_length {w : Nat} {l : List Int} (h : l.length = w) : fitWindow w l = l := by
  unfold fitWindow
  rw [h, Nat.sub_self]
  rfl

theorem fitWindows_eq (c : Core) :
    c.fitWindows = { c with node := { c.node with nodes := c.node.nodes.map (fun n => { n with win := fitWindow c.prof.medW n.win }) } } := by
  unfold fitWindows
  dsimp only
  split
  case isTrue hall =>
    have hsame : c.node.nodes.map (fun n => { n with win := fitWindow c.prof.medW n.win }) = c.node.nodes := by
      refine (List.map_congr_left fun n hn => ?_).trans (List.map_id _)
      have hlen : n.win.length = c.prof.medW := beq_iff_eq.mp (List.all_eq_true.mp hall n hn)
      rw [fitWindow_of_length hlen]
      rfl
    rw [hsame]
  case isFalse => rfl

/-- A swing change outside Run is applied with its command (R85). -/
theorem acceptSwing_of_not_run {c : Core} (h : c.pw.phase ≠ .run) (high forced : Bool) : ∃ nodes pump back,
    c.acceptSwing high forced = { c with
      acq := { c.acq with swingPend := none, swingAnn := none, highNow := high, fallback := back }
      node := { c.node with nodes := nodes }, pw := { c.pw with pump := pump } } := by
  have hnot : (c.pw.phase == .run) = false := beq_false_of_ne h
  unfold acceptSwing
  rw [hnot, if_neg Bool.false_ne_true]
  unfold applySwing
  split
  case isTrue hsame =>
    have hhigh : c.acq.highNow = high := beq_iff_eq.mp hsame
    subst hhigh
    exact ⟨c.node.nodes, c.pw.pump, c.acq.fallback, rfl⟩
  case isFalse => exact ⟨_, _, _, rfl⟩

section
variable {c : Core} {x : CmdCtx} {p : List Byte} (hsrc : x.src = c.hg.addr) (hp : p ≠ [])
include hsrc hp

/-- NODE_FIELDS: the record, the scales of every line, and the median windows (R133, R360). -/
theorem actFields_node : c.actFields 0x45 x p = { answered c x 0x45#8 0x00#8 false [] with
    prof := c.prof.withRecord 2 (c.fieldWrite 0x45 2 p)
    node := { c.node with
      lsbF := (List.range 24).map (c.prof.withRecord 2 (c.fieldWrite 0x45 2 p)).lsbF
      lsbC := (List.range 24).map (c.prof.withRecord 2 (c.fieldWrite 0x45 2 p)).lsbC
      nodes := c.node.nodes.map (fun n => { n with win := fitWindow (c.prof.withRecord 2 (c.fieldWrite 0x45 2 p)).medW n.win }) } } := by
  have hrec : fieldRecord 0x45 = some 2 := rfl
  rw [actFields, hrec]
  dsimp only
  rw [isEmpty_of_ne hp, if_neg Bool.false_ne_true, if_neg (by decide), if_pos (by decide), fitWindows_eq, ok, answer_own (by exact hsrc)]
  rfl

/-- FRAME_PLAN outside Run: the record, the swing, and invalid baselines where the lines in use change (R86, R136). -/
theorem actFields_plan (hrun : c.pw.phase ≠ .run) : ∃ acq node pump,
    acq.highNow = (c.prof.withRecord 1 (c.fieldWrite 0x40 1 p)).swingHigh ∧
    ((c.prof.withRecord 1 (c.fieldWrite 0x40 1 p)).nDrv ≠ c.prof.nDrv ∨ (c.prof.withRecord 1 (c.fieldWrite 0x40 1 p)).nSns ≠ c.prof.nSns →
      node.valid = false) ∧
    c.actFields 0x40 x p = { answered c x 0x40#8 0x00#8 false [] with
      prof := c.prof.withRecord 1 (c.fieldWrite 0x40 1 p), acq := acq, node := node, pw := { c.pw with pump := pump } } := by
  have hrec : fieldRecord 0x40 = some 1 := rfl
  obtain ⟨nodes, pump, back, hswing⟩ := acceptSwing_of_not_run (c := { c with prof := c.prof.withRecord 1 (c.fieldWrite 0x40 1 p) })
    (by exact hrun) (c.prof.withRecord 1 (c.fieldWrite 0x40 1 p)).swingHigh false
  rw [actFields, hrec]
  dsimp only
  rw [isEmpty_of_ne hp, if_neg Bool.false_ne_true, if_pos (by decide), hswing]
  dsimp only
  split
  · refine ⟨_, _, pump, ?_, ?_, (answer_own (by exact hsrc) _ _ _).trans rfl⟩
    · rfl
    · exact fun _ => rfl
  case isFalse hsame =>
    refine ⟨_, _, pump, ?_, ?_, (answer_own (by exact hsrc) _ _ _).trans rfl⟩
    · rfl
    · intro hlines
      refine absurd ?_ hsame
      simp only [Bool.or_eq_true, bne_iff_ne]
      exact hlines.imp Ne.symm Ne.symm

end

/-! ### SENSE_LINES (R146, R147, R359) -/

/-- `d` is `c` but for its sense record and its nodes. -/
def OnlySense (c d : Core) : Prop := d = { c with prof := { c.prof with sense := d.prof.sense }, node := d.node }

/-- No profile's settings wait on a line. -/
def noLineWaits (c : Core) : Prop := ∀ k l, c.pending k ≠ some (.line l)

/-- `d` follows `c` where lines take GAIN and RANGE: where no profile's settings wait, the baselines stand. -/
structure SenseLines (c d : Core) : Prop where
  only : OnlySense c d
  waits : c.noLineWaits → d.noLineWaits
  stand : c.noLineWaits → d.node.selfs = c.node.selfs ∧ d.node.valid = c.node.valid

namespace SenseLines

theorem refl (c : Core) : SenseLines c c := ⟨rfl, id, fun _ => ⟨rfl, rfl⟩⟩

theorem trans {a b c : Core} (h : SenseLines a b) (k : SenseLines b c) : SenseLines a c where
  only := by
    have h1 := h.only
    have k1 := k.only
    unfold OnlySense at *
    rw [k1, h1]
  waits := fun w => k.waits (h.waits w)
  stand := fun w => by
    obtain ⟨hselfs, hvalid⟩ := h.stand w
    obtain ⟨kselfs, kvalid⟩ := k.stand (h.waits w)
    exact ⟨kselfs.trans hselfs, kvalid.trans hvalid⟩

end SenseLines

theorem setPending_pending (c : Core) (k j : Nat) (p : Option RangePend) :
    (c.setPending k p).pending j = if k = j ∧ j < c.node.pend.length then p else c.pending j := by
  simp only [pending, setPending, modNode, List.getD_eq_getElem?_getD, List.getElem?_set]
  by_cases hk : k = j
  · subst hk
    by_cases hj : k < c.node.pend.length
    · simp [hj]
    · simp [hj]
  · simp [hk]

/-- What is set to wait on a line is no profile's settings. -/
theorem setPending_lines (c : Core) (k : Nat) {p : Option RangePend} (hp : ∀ l, p ≠ some (.line l)) : SenseLines c (c.setPending k p) where
  only := rfl
  waits := fun h j l => by
    rw [setPending_pending]
    split
    · exact hp l
    · exact h j l
  stand := fun _ => ⟨rfl, rfl⟩

theorem requestSense_lines (c : Core) (k gain : Nat) (coarse forced : Bool) : SenseLines c (c.requestSense k gain coarse forced) := by
  unfold requestSense
  split
  · split
    · exact c.setPending_lines k nofun
    · exact .refl c
  · exact c.setPending_lines k nofun

theorem applySense_lines (c : Core) (k : Nat) (p : SensePend) : SenseLines c (c.applySense k p) := ⟨rfl, id, fun _ => ⟨rfl, rfl⟩⟩

theorem applyCodes_lines (c : Core) (k : Nat) (p : CodesPend) : SenseLines c (c.applyCodes k p) := ⟨rfl, id, fun _ => ⟨rfl, rfl⟩⟩

theorem applyLineSettings_only (c : Core) (k : Nat) (p : LinePend) : OnlySense c (c.applyLineSettings k p) := by
  unfold applyLineSettings
  dsimp only
  split <;> split <;> rfl

theorem applyLine_lines (c : Core) (k : Nat) : SenseLines c (c.applyLine k) := by
  have hset : SenseLines c (c.setPending k none) := c.setPending_lines k nofun
  unfold applyLine
  split
  · exact .refl c
  case h_2 p hpend =>
    cases p with
    | sense q =>
      dsimp only
      split
      · exact .refl c
      · exact hset.trans (applySense_lines _ k q)
    | codes q =>
      dsimp only
      split
      · exact .refl c
      · exact hset.trans (applyCodes_lines _ k q)
    | line q =>
      dsimp only
      split
      · exact .refl c
      · refine ⟨?_, fun h => absurd hpend (h k q), fun h => absurd hpend (h k q)⟩
        exact applyLineSettings_only (c.setPending k none) k q

theorem pending_of_none {c : Core} (h : c.node.pend = List.replicate 24 none) (k : Nat) : c.pending k = none := by
  rw [pending, h, List.getD_eq_getElem?_getD, List.getElem?_replicate]
  split <;> rfl

theorem noLineWaits_of_pend {c : Core} (h : c.node.pend = List.replicate 24 none) : c.noLineWaits := by
  intro k l
  rw [pending_of_none h]
  exact nofun

/-- Lines one after another. -/
theorem foldl_lines {α : Type} {f : Core × Bool → α → Core × Bool} (hf : ∀ s a, SenseLines s.1 (f s a).1) (l : List α) (s : Core × Bool) :
    SenseLines s.1 (l.foldl f s).1 := by
  induction l generalizing s with
  | nil => exact .refl _
  | cons a l ih => exact (hf s a).trans (ih _)

/-- One line of a SENSE_LINES write: SEAM_MAP and PHASE at once, GAIN and RANGE as a range change. -/
def senseLine (p : List Byte) (s : Core × Bool) (e : List Byte × Nat) : Core × Bool :=
  let k := (byteAt p 0).toNat + e.2
  let nums := ints (e.1.map (fun b => b.toNat))
  let sense := patch (patch s.1.prof.sense (624 + 3 * k) ((nums.drop 2).take 3)) (48 + 24 * k) (nums.drop 5)
  let d := (({ s.1 with prof := { s.1.prof with sense := sense } }).requestSense k (fldN nums 0) (fld nums 1 == 1) ((byteAt p 2).getLsbD 0)).applyLine k
  (d, s.2 || d.isDeferred k)

theorem senseLine_lines (p : List Byte) (s : Core × Bool) (e : List Byte × Nat) : SenseLines s.1 (senseLine p s e).1 := by
  unfold senseLine
  refine SenseLines.trans (SenseLines.trans ?_ (requestSense_lines _ _ _ _ _)) (applyLine_lines _ _)
  exact ⟨rfl, id, fun _ => ⟨rfl, rfl⟩⟩

/-- SENSE_LINES changes the sense record and the nodes, and answers. -/
theorem actSenseLines_spec {c : Core} {x : CmdCtx} {p : List Byte} (hsrc : x.src = c.hg.addr) (hp : p ≠ []) : ∃ d later,
    SenseLines c d ∧ c.actSenseLines x p = answered d x 0x41#8 0x00#8 false (le 1 (bit later)) := by
  have hact : c.actSenseLines x p = (((chunks 29 (p.drop 3)).zipIdx.foldl (senseLine p) (c, false)).1).ok x 0x41#8
      (le 1 (bit ((chunks 29 (p.drop 3)).zipIdx.foldl (senseLine p) (c, false)).2)) := by
    rw [actSenseLines, isEmpty_of_ne hp, if_neg Bool.false_ne_true]
    rfl
  have hlines := foldl_lines (senseLine_lines p) (chunks 29 (p.drop 3)).zipIdx (c, false)
  exact ⟨_, _, hlines, hact.trans (answer_own (by rw [hlines.only]; exact hsrc) _ _ _)⟩

/-! ### COMP_CODES (R146 to R148, R359) -/

/-- The codes a COMP_CODES asks for that are not in force, with their drive lines; a dead drive line's stays (R391). -/
def newCodes (c : Core) (k : Nat) (p : List Byte) : List (Nat × Nat) :=
  ((p.drop 2).zipIdx.map (fun e => (e.2, e.1.toNat))).filter (fun x => (c.lineCodes k).getD x.1 0 != x.2 && !c.deadDrive x.1)

theorem applyCodes_only (c : Core) (k : Nat) (q : CodesPend) : c.applyCodes k q = { c with node := (c.applyCodes k q).node } := rfl

theorem applyCodes_codes (c : Core) (k : Nat) (q : CodesPend) :
    (c.applyCodes k q).node.codes = c.node.codes.set k (q.codes.foldl (fun l x => l.set x.1 x.2) (c.lineCodes k)) := rfl

theorem applyCodes_pend (c : Core) (k : Nat) (q : CodesPend) : (c.applyCodes k q).node.pend = c.node.pend := rfl

/-- A line's codes where nothing waits and outside Run: the new ones are in force at once. -/
theorem codes_applied {c : Core} {k : Nat} {p : List Byte} {forced : Bool} (hrun : c.pw.phase ≠ .run) (hpend : c.node.pend = List.replicate 24 none)
    (hk : k < 24) (hcodes : c.node.codes.length = 24) :
    ∃ node, (c.requestCodes k ((p.drop 2).zipIdx.map (fun e => (e.2, e.1.toNat))) forced).applyLine k = { c with node := node } ∧
      node.codes = c.node.codes.set k ((c.newCodes k p).foldl (fun l x => l.set x.1 x.2) (c.lineCodes k)) ∧
      node.pend = c.node.pend := by
  have hnone := pending_of_none hpend k
  unfold requestCodes
  dsimp only
  split
  case isTrue hsame =>
    have hnew : c.newCodes k p = [] := List.isEmpty_iff.mp hsame
    rw [hnone]
    dsimp only
    rw [applyLine, hnone]
    refine ⟨c.node, rfl, ?_, rfl⟩
    rw [hnew, List.foldl_nil, lineCodes, List.getD_eq_getElem _ _ (by rw [hcodes]; exact hk), List.set_getElem_self]
  case isFalse =>
    have hlen : k < c.node.pend.length := by rw [hpend]; exact hk
    have hset := (c.setPending_pending k k (some (.codes { codes := c.newCodes k p, forced := forced }))).trans (if_pos ⟨rfl, hlen⟩)
    have hgo : (c.setPending k (some (.codes { codes := c.newCodes k p, forced := forced }))).lineWaits k forced = false := by
      rw [lineWaits, Bool.and_eq_false_iff]
      exact .inl (beq_false_of_ne hrun)
    show ∃ node, (c.setPending k (some (.codes { codes := c.newCodes k p, forced := forced }))).applyLine k = _ ∧ _
    rw [applyLine, hset]
    dsimp only
    rw [hgo, if_neg Bool.false_ne_true]
    refine ⟨_, applyCodes_only _ _ _, applyCodes_codes _ _ _, ?_⟩
    rw [applyCodes_pend]
    show (c.node.pend.set k _).set k none = c.node.pend
    rw [List.set_set, hpend, List.set_replicate_self]

/-- Setting places of a list, those of `xs` from `n` on that are kept. -/
def setKept (keep : Nat × Nat → Bool) (xs : List Byte) (n : Nat) (l : List Nat) : List Nat :=
  (((xs.zipIdx n).map (fun e => (e.2, e.1.toNat))).filter keep).foldl (fun l x => l.set x.1 x.2) l

section
variable (keep : Nat × Nat → Bool)

theorem setKept_cons (x : Byte) (xs : List Byte) (n : Nat) (l : List Nat) :
    setKept keep (x :: xs) n l = setKept keep xs (n + 1) (if keep (n, x.toNat) then l.set n x.toNat else l) := by
  unfold setKept
  rw [List.zipIdx_cons, List.map_cons, List.filter_cons]
  split <;> rfl

theorem setKept_length (xs : List Byte) (n : Nat) (l : List Nat) : (setKept keep xs n l).length = l.length := by
  induction xs generalizing n l with
  | nil => rfl
  | cons x xs ih =>
    rw [setKept_cons, ih]
    split
    · exact List.length_set ..
    · rfl

theorem setKept_below (xs : List Byte) (n : Nat) (l : List Nat) {j : Nat} (hj : j < n) : (setKept keep xs n l)[j]? = l[j]? := by
  induction xs generalizing n l with
  | nil => rfl
  | cons x xs ih =>
    rw [setKept_cons, ih (n + 1) _ (Nat.lt_succ_of_lt hj)]
    split
    · exact List.getElem?_set_ne (Nat.ne_of_gt hj)
    · rfl

theorem setKept_at (xs : List Byte) (n : Nat) (l : List Nat) (i : Nat) (hi : i < xs.length) (hl : n + i < l.length) :
    (setKept keep xs n l)[n + i]? = some (if keep (n + i, xs[i].toNat) then xs[i].toNat else l[n + i]) := by
  induction xs generalizing n l i with
  | nil => exact absurd hi (Nat.not_lt_zero i)
  | cons x xs ih =>
    rw [setKept_cons]
    cases i with
    | zero =>
      have hhead := setKept_below keep xs (n + 1) (if keep (n, x.toNat) then l.set n x.toNat else l) (Nat.lt_succ_self n)
      refine hhead.trans ?_
      simp only [Nat.add_zero, List.getElem_cons_zero] at hl ⊢
      split
      · rw [List.getElem?_set_self hl]
      · exact List.getElem?_eq_getElem hl
    | succ i =>
      have hplace : n + (i + 1) = n + 1 + i := by omega
      have hlen : n + 1 + i < (if keep (n, x.toNat) then l.set n x.toNat else l).length := by
        split
        · rw [List.length_set]; omega
        · omega
      have hold : (if keep (n, x.toNat) then l.set n x.toNat else l)[n + 1 + i] = l[n + 1 + i] := by
        split
        · exact List.getElem_set_ne (by omega) _
        · rfl
      have hrest := ih (n + 1) _ i (Nat.lt_of_succ_lt_succ hi) hlen
      rw [hold] at hrest
      simpa only [hplace, List.getElem_cons_succ] using hrest

end

/-- The codes of a line after COMP_CODES, drive line by drive line. -/
theorem newCodes_applied {c : Core} {k : Nat} {p : List Byte} (hlen : (c.lineCodes k).length = 32) (hp : p.length = 34) :
    (c.newCodes k p).foldl (fun l x => l.set x.1 x.2) (c.lineCodes k) =
      (c.lineCodes k).zipIdx.map (fun v => if c.deadDrive v.2 = true then v.1 else (byteAt p (2 + v.2)).toNat) := by
  have hbytes : (p.drop 2).length = 32 := by rw [List.length_drop, hp]
  show setKept _ (p.drop 2) 0 (c.lineCodes k) = _
  refine List.ext_getElem? fun j => ?_
  by_cases hj : j < 32
  · have hat := setKept_at (fun x => (c.lineCodes k).getD x.1 0 != x.2 && !c.deadDrive x.1) (p.drop 2) 0 (c.lineCodes k) j (by omega) (by omega)
    have hbyte : (p.drop 2)[j]'(by omega) = byteAt p (2 + j) := by
      rw [List.getElem_drop, byteAt, List.getD_eq_getElem]
    simp only [Nat.zero_add, hbyte] at hat
    rw [hat, List.getElem?_map, List.getElem?_zipIdx, List.getElem?_eq_getElem (by omega)]
    simp only [Option.map_some, Nat.zero_add, List.getD_eq_getElem _ _ (show j < (c.lineCodes k).length by omega), Bool.and_eq_true,
      bne_iff_ne, ne_eq, Bool.not_eq_true', Option.some.injEq]
    cases hdead : c.deadDrive j
    · by_cases hsame : (c.lineCodes k)[j] = (byteAt p (2 + j)).toNat
      · simp [hsame]
      · simp [hsame]
    · simp
  · have hleft : (setKept (fun x => (c.lineCodes k).getD x.1 0 != x.2 && !c.deadDrive x.1) (p.drop 2) 0 (c.lineCodes k)).length = 32 :=
      (setKept_length _ _ _ _).trans hlen
    rw [List.getElem?_eq_none (by omega), List.getElem?_eq_none (by rw [List.length_map, List.length_zipIdx]; omega)]

/-- COMP_CODES of a line on which nothing waits, outside Run. -/
theorem actCompCodes_spec {c : Core} {x : CmdCtx} {p : List Byte} {k : Nat} (hsrc : x.src = c.hg.addr) (hk : k < 24) (hlen : p.length = 34)
    (hbyte : byteAt p 0 = BitVec.ofNat 8 k) (hrun : c.pw.phase ≠ .run) (hpend : c.node.pend = List.replicate 24 none)
    (hcodes : c.node.codes.length = 24) (hline : (c.lineCodes k).length = 32) :
    ∃ node, c.actCompCodes x p = { answered c x 0x42#8 0x00#8 false [0#8] with node := node } ∧
      node.codes = c.node.codes.set k ((c.lineCodes k).zipIdx.map (fun v => if c.deadDrive v.2 = true then v.1 else (byteAt p (2 + v.2)).toNat)) := by
  have hne : p.isEmpty = false := isEmpty_of_ne (List.ne_nil_of_length_pos (by omega))
  have hnat : (byteAt p 0).toNat = k := by rw [hbyte, BitVec.toNat_ofNat, Nat.mod_eq_of_lt (by omega)]
  obtain ⟨node, heq, hnew, hpendNew⟩ := codes_applied (p := p) (forced := (byteAt p 1).getLsbD 0) hrun hpend hk hcodes
  have hdone : ({ c with node := node } : Core).isDeferred k = false := by
    rw [isDeferred, pending_of_none (c := { c with node := node }) (hpendNew.trans hpend)]
    rfl
  refine ⟨node, ?_, hnew.trans (by rw [newCodes_applied hline hlen])⟩
  rw [actCompCodes, hne, if_neg Bool.false_ne_true]
  dsimp only
  rw [hnat, heq, hdone]
  exact answer_own (by exact hsrc) _ _ _

/-- A line's codes after a change of one line's. -/
theorem lineCodes_set {c : Core} {node : Node} {k : Nat} {new : List Nat} (hnew : node.codes = c.node.codes.set k new)
    (hk : k < c.node.codes.length) : ({ c with node := node } : Core).lineCodes k = new ∧
      ∀ j, j ≠ k → ({ c with node := node } : Core).lineCodes j = c.lineCodes j := by
  refine ⟨?_, fun j hj => ?_⟩
  · show node.codes.getD k [] = new
    rw [hnew, List.getD_eq_getElem?_getD, List.getElem?_set_self hk]
    rfl
  · show node.codes.getD j [] = c.node.codes.getD j []
    rw [hnew, List.getD_eq_getElem?_getD, List.getElem?_set_ne hj.symm, List.getD_eq_getElem?_getD]

/-! ### ZONES, TEMPLATES and SWING -/

section
variable {c : Core} {x : CmdCtx} {p : List Byte} (hsrc : x.src = c.hg.addr) (hp : p ≠ [])
include hsrc hp

theorem actEntries_zones : c.actEntries 0x30 x p = { answered c x 0x30#8 0x00#8 false [] with
    prof := { c.prof with zones := patch c.prof.zones (16 * (byteAt p 0).toNat) ((entriesOf 0x30 p).flatMap zoneKept) } } := by
  rw [actEntries, isEmpty_of_ne hp, if_neg Bool.false_ne_true]
  exact answer_own (by exact hsrc) _ _ _

theorem actEntries_templates : c.actEntries 0x31 x p = { answered c x 0x31#8 0x00#8 false [] with
    prof := { c.prof with templates := patch c.prof.templates (5 * (byteAt p 0).toNat) ((entriesOf 0x31 p).flatMap templateKept) } } := by
  rw [actEntries, isEmpty_of_ne hp, if_neg Bool.false_ne_true]
  exact answer_own (by exact hsrc) _ _ _

/-- SWING outside Run: the swing is as asked, and none waits (R85, R359). -/
theorem actSwing_of_not_run (hrun : c.pw.phase ≠ .run) : ∃ acq nodes pump, acq.highNow = (byteAt p 0 == 1#8) ∧ acq.swingPend = none ∧
    c.actSwing x p = { answered c x 0x47#8 0x00#8 false [0#8] with
      acq := acq, node := { c.node with nodes := nodes }, pw := { c.pw with pump := pump } } := by
  have hgo : (c.pw.phase != .run || (c.acq.swingPend.isNone && c.acq.swingAnn.isNone && !c.acq.fallback && c.acq.highNow != (byteAt p 0 == 1#8)))
      = true := by
    rw [show (c.pw.phase != .run) = true by simpa using hrun, Bool.true_or]
  obtain ⟨nodes, pump, back, hswing⟩ := acceptSwing_of_not_run hrun (byteAt p 0 == 1#8) ((byteAt p 1).getLsbD 0)
  refine ⟨{ c.acq with swingPend := none, swingAnn := none, highNow := (byteAt p 0 == 1#8), fallback := back }, nodes, pump, rfl, rfl, ?_⟩
  rw [actSwing, isEmpty_of_ne hp, if_neg Bool.false_ne_true]
  dsimp only
  rw [hgo, if_pos rfl, hswing]
  dsimp only
  rw [bne_self_eq_false, Bool.false_and]
  exact answer_own (by exact hsrc) _ _ _

end

end Core

theorem length_of_passes {c : Core} {op : Byte} {x : CmdCtx} {p : List Byte} {later : Bool} (h : Passes c op x p later) (hp : p ≠ []) :
    lenOk op.toNat c.prof.nSns p = true := by
  obtain ⟨-, -, -, -, -, i, -, hlen, -⟩ := h
  exact hlen.resolve_right fun hread => hp hread.2

/-- Settles O37: each setting is kept for its boundary, and its turn is its act. -/
theorem deferredSettingsComplete : Obligations.DeferredSettingsComplete := by
  intro s x p hp
  refine ⟨fun h => defers_of_passes rfl h (.inl (by decide)) ?_, fun h => defers_of_passes rfl h (.inl (by decide)) ?_,
    fun h => defers_of_passes rfl h (.inl (by decide)) ?_, fun h => defers_of_passes rfl h (.inl (by decide)) ?_,
    fun h => defers_of_passes rfl h (.inl (by decide)) ?_, fun h hquiet => defers_of_passes rfl h (.inl (by decide)) ?_,
    fun h => defers_of_passes rfl h (.inl (by decide)) ?_, fun h => defers_of_passes rfl h (.inl (by decide)) ?_,
    fun h => defers_of_passes rfl h (.inl (by decide)) ?_,
    fun k hk h hbyte hquiet hpend hcodes hline => defers_of_passes rfl h (.inl (by decide)) ?_,
    fun h hquiet => defers_of_passes rfl h (.inr (by rw [hquiet]; decide)) ?_⟩
  all_goals have hsrc := src_of_passes h
  · exact Core.actFields_of_keys (op := 0x32) (rec := 6) hsrc rfl (by decide) hp
  · exact Core.actFields_of_keys (op := 0x33) (rec := 7) hsrc rfl (by decide) hp
  · exact Core.actFields_of_keys (op := 0x46) (rec := 3) hsrc rfl (by decide) hp
  · exact Core.actFields_of_keys (op := 0x48) (rec := 12) hsrc rfl (by decide) hp
  · have hact : s.core.actOf (0x45#8 : Byte).toNat x p = _ := Core.actFields_node hsrc hp
    rw [hact]
    exact ⟨rfl, rfl, rfl, rfl, rfl⟩
  · obtain ⟨acq, node, pump, hswing, hlines, heq⟩ := Core.actFields_plan hsrc hp (by rw [hquiet]; decide)
    have hact : s.core.actOf (0x40#8 : Byte).toNat x p = _ := heq
    rw [hact]
    exact ⟨rfl, hswing, hlines, rfl⟩
  · have hact : s.core.actOf (0x30#8 : Byte).toNat x p = _ := Core.actEntries_zones hsrc hp
    rw [hact]
    exact ⟨rfl, rfl⟩
  · have hact : s.core.actOf (0x31#8 : Byte).toNat x p = _ := Core.actEntries_templates hsrc hp
    rw [hact]
    exact ⟨rfl, rfl⟩
  · obtain ⟨d, later, hlines, heq⟩ := Core.actSenseLines_spec hsrc hp
    have hact : s.core.actOf (0x41#8 : Byte).toNat x p = _ := heq
    have honly := hlines.only
    rw [hact]
    refine ⟨⟨later, ?_⟩, ?_, fun hpend => hlines.stand (Core.noLineWaits_of_pend hpend)⟩
    · show d.host.outRsp ++ _ = _
      rw [honly]
    · unfold Core.OnlySense at honly
      rw [honly]
      rfl
  · obtain ⟨node, heq, hnew⟩ := Core.actCompCodes_spec hsrc hk (beq_iff_eq.mp (length_of_passes h hp)) hbyte (by rw [hquiet]; decide)
      hpend hcodes hline
    have hact : s.core.actOf (0x42#8 : Byte).toNat x p = _ := heq
    rw [hact]
    obtain ⟨hself, hother⟩ := Core.lineCodes_set hnew (by rw [hcodes]; exact hk)
    exact ⟨rfl, hself, hother⟩
  · obtain ⟨acq, nodes, pump, hhigh, hpend, heq⟩ := Core.actSwing_of_not_run hsrc hp (by rw [hquiet]; decide)
    have hact : s.core.actOf (0x47#8 : Byte).toNat x p = _ := heq
    rw [hact]
    exact ⟨hhigh, hpend, rfl, rfl⟩

end Sys2Proof.Machine

/-!
PROOFS. Frame-deferred requests and coppice (chapters 04, 11 and 12, R80, R137, R142, R152, R349, R373, R374, R376, R383, R388, R393).
-/
namespace Sys2Proof.Machine

/-! ### What a write of NVM does on the way, step by step (R374, R375, R397) -/

/-- One thing that the rows of a write may do beside its record. -/
inductive RowStep (c : Core) : Core → Prop
  /-- Rows are erased and programmed, copies are marked, spare rows are taken. -/
  | marks (rows : List RowInfo) (spares : Nat) (copies : Copies) (older : Records) (free : Nat) :
      RowStep c { c with nvm := { c.nvm with rows := rows, sparesUsed := spares, copies := copies, older := older }, free := free }
  /-- An event is raised. -/
  | told {d : Core} (h : OnlyRecords c d) : RowStep c d
  /-- The grade is computed again. -/
  | regraded : RowStep c c.regrade
  /-- Spare kinds are told as exhausted. -/
  | exhausted (kinds : List Byte) : RowStep c { c with rep := { c.rep with sparesOut := kinds } }
  /-- A retired row's entry waits to be written. -/
  | waits (r : RepairEntry) (h : r.kind.toNat = rowRepair) : RowStep c { c with nvm := { c.nvm with mapPending := c.nvm.mapPending ++ [r] } }
  /-- A retired row's entry finds the map full. -/
  | beyond (r : RepairEntry) (h : r.kind.toNat = rowRepair) (kinds : List Byte) :
      RowStep c { c with rep := { c.rep with extra := c.rep.extra ++ [r], sparesOut := kinds } }
  /-- The waiting entries stand in NVM. -/
  | flushed : RowStep c c.flushMap

/-- A relation that holds across each such step holds across them all. -/
structure AcrossSteps (R : Core → Core → Prop) : Prop where
  refl : ∀ c, R c c
  trans : ∀ {a b c}, R a b → R b c → R a c
  step : ∀ {c d}, RowStep c d → R c d

namespace AcrossSteps

variable {R : Core → Core → Prop} (h : AcrossSteps R)
include h

theorem then_event {c d : Core} (hd : R c d) (n : Nat) (b : List Byte) : R c (d.repairEvent n b) := h.trans hd (h.step (.told (d.repairEvent_only n b)))

theorem then_regrade {c d : Core} (hd : R c d) : R c d.regrade := h.trans hd (h.step .regraded)

theorem sparesOut (c : Core) (k : Byte) : R c (c.sparesOut k) := by
  unfold Core.sparesOut
  split
  · exact h.refl c
  · exact h.then_event (h.step (.exhausted _)) 0x48 [k]

theorem noteRepair (c : Core) {r : RepairEntry} (hr : r.kind.toNat = rowRepair) : R c (c.noteRepair r) := by
  unfold Core.noteRepair
  split
  · exact h.then_event (h.step (.beyond r hr _)) 0x48 [0xFF#8]
  · exact h.step (.waits r hr)

theorem retire (c : Core) (row : Nat) : R c (c.retire row).1 := by
  unfold Core.retire
  split
  · exact h.sparesOut c _
  · refine h.then_regrade (h.then_event (h.trans ?_ (h.noteRepair (c.takeSpare row) rfl)) 0x4A _)
    exact h.step (.marks _ _ _ _ _)

theorem programFrom (n : Nat) (c : Core) (row : Nat) : R c (Core.programFrom n c row).1 := by
  induction n generalizing c with
  | zero => exact h.refl c
  | succ n ih =>
    unfold Core.programFrom
    have hrow : R c ((c.noteErase row).verifies).1 := h.step (.marks _ _ _ _ _)
    dsimp only
    split
    · exact hrow
    · split
      · exact h.trans (h.trans hrow (h.retire _ row)) (ih _)
      · exact h.trans hrow (h.retire _ row)

theorem programRows (c : Core) (rows : List Nat) : R c (c.programRows rows).1 := by
  unfold Core.programRows
  generalize true = b
  induction rows generalizing c b with
  | nil => exact h.refl c
  | cons r rows ih => exact h.trans (h.programFrom 17 c r) (ih _ _)

theorem writeCopy (c : Core) (r : RecId) : R c (c.writeCopy r).1 := by
  unfold Core.writeCopy
  split
  · exact h.refl c
  · have hrows := h.programRows c (r.rows (c.pair r).targetsB)
    dsimp only
    split
    · exact h.trans hrows (h.step (.marks _ _ _ _ _))
    · exact h.then_regrade (h.trans hrows (h.step (.marks _ _ _ _ _)))

theorem saveMap (c : Core) : R c c.saveMap := by
  unfold Core.saveMap
  split
  · exact h.refl c
  · dsimp only
    split
    · exact h.trans (h.writeCopy c .repair) (h.step .flushed)
    · exact h.writeCopy c .repair

end AcrossSteps

/-! What stands across a write: no repair but of rows comes in force, and a grade of 6 stays. -/

/-- Every repair in force in `d`, but of rows, is in force in `c`. -/
def NoneNew (c d : Core) : Prop := ∀ r ∈ d.repairs, r.kind.toNat ≠ rowRepair → r ∈ c.repairs

namespace NoneNew

theorem of_repairs {c d : Core} (h : d.repairs = c.repairs) : NoneNew c d := fun r hr _ => by rwa [← h]

theorem trans {a b c : Core} (h : NoneNew a b) (k : NoneNew b c) : NoneNew a c := fun r hr hne => h r (k r hr hne) hne

theorem of_records {c d : Core} (h : OnlyRecords c d) : NoneNew c d := .of_repairs (by rw [h]; rfl)

theorem regrade (c : Core) : NoneNew c c.regrade := by
  unfold Core.regrade Core.regradeNow
  split
  · exact .of_repairs rfl
  · dsimp only
    split
    · exact .of_repairs rfl
    · refine NoneNew.trans ?_ (.of_records ((Core.repairEvent_only _ _ _).trans (Core.attn_only _ _)))
      exact .of_repairs rfl

/-- One more repair, of a row. -/
theorem of_row {c d : Core} {r : RepairEntry} (hr : r.kind.toNat = rowRepair) (h : ∀ e ∈ d.repairs, e ∈ c.repairs ∨ e = r) : NoneNew c d := by
  intro e he hne
  refine (h e he).resolve_right ?_
  rintro rfl
  exact hne hr

theorem across : AcrossSteps NoneNew where
  refl := fun _ => .of_repairs rfl
  trans := .trans
  step := by
    intro c d h
    cases h with
    | marks => exact .of_repairs rfl
    | told h => exact .of_records h
    | regraded => exact .regrade c
    | exhausted => exact .of_repairs rfl
    | waits r hr =>
      refine .of_row hr fun e he => ?_
      simp only [Core.repairs, Core.fieldRepairs, List.mem_append, List.mem_singleton] at he ⊢
      tauto
    | beyond r hr =>
      refine .of_row hr fun e he => ?_
      simp only [Core.repairs, Core.fieldRepairs, List.mem_append, List.mem_singleton] at he ⊢
      tauto
    | flushed => exact .of_repairs (by simp [Core.flushMap, Core.repairs, Core.fieldRepairs])

end NoneNew

namespace Core

/-- The condition of grade 6 (Table REPAIR-2). -/
def sixHolds (c : Core) : Bool :=
  decide (c.prof.nSns < 4 * ((List.range c.prof.nSns).filter c.deadSense).length) ||
  decide (c.prof.nDrv < 4 * ((List.range c.prof.nDrv).filter c.deadDrive).length) ||
  c.rep.slices.any (fun s => decide (2 ≤ s.failed.length)) || c.rep.clearTest

theorem gradeNow_of_six {c : Core} (hbist : c.rep.bistf = false) (h : c.sixHolds = true) : c.gradeNow = 6 := by
  unfold gradeNow
  dsimp only
  rw [hbist, if_neg Bool.false_ne_true]
  exact if_pos h

theorem six_of_gradeNow {c : Core} (h : c.gradeNow = 6) : c.rep.bistf = false ∧ c.sixHolds = true := by
  have hbist : c.rep.bistf = false := by
    cases hb : c.rep.bistf
    · rfl
    · simp [gradeNow, hb] at h
  refine ⟨hbist, ?_⟩
  cases hsix : c.sixHolds
  · have hnot : ¬ (decide (c.prof.nSns < 4 * ((List.range c.prof.nSns).filter c.deadSense).length) ||
      decide (c.prof.nDrv < 4 * ((List.range c.prof.nDrv).filter c.deadDrive).length) ||
      c.rep.slices.any (fun s => decide (2 ≤ s.failed.length)) || c.rep.clearTest) = true := by
      show ¬ c.sixHolds = true
      rw [hsix]
      exact Bool.false_ne_true
    unfold gradeNow at h
    dsimp only at h
    rw [hbist, if_neg Bool.false_ne_true, if_neg hnot] at h
    split_ifs at h <;> omega
  · rfl

end Core

/-- `d` follows `c` where a write of NVM leaves a grade of 6 whose condition holds. -/
structure SixStays (c d : Core) : Prop where
  only : OnlyNvm c d
  same : SameRepairs c d
  stays : c.rep.bistf = false → c.sixHolds = true → c.rep.grade = 6#3 → d.rep.grade = 6#3

namespace SixStays

variable {a b c d : Core}

theorem holds (h : SixStays c d) : d.sixHolds = c.sixHolds := by
  have hsense : d.deadSense = c.deadSense := funext fun k => h.same 4 k (by decide)
  have hdrive : d.deadDrive = c.deadDrive := funext fun k => h.same 5 k (by decide)
  unfold Core.sixHolds
  rw [hsense, hdrive, h.only]

theorem trans (h : SixStays a b) (k : SixStays b c) : SixStays a c where
  only := h.only.trans k.only
  same := h.same.trans k.same
  stays := fun hbist hsix hgrade => k.stays (by rw [h.only]; exact hbist) (h.holds.trans hsix) (h.stays hbist hsix hgrade)

theorem of_grade (honly : OnlyNvm c d) (hsame : SameRepairs c d) (hgrade : d.rep.grade = c.rep.grade) : SixStays c d :=
  ⟨honly, hsame, fun _ _ h => hgrade.trans h⟩

theorem of_row {r : RepairEntry} (honly : OnlyNvm c d) (hgrade : d.rep.grade = c.rep.grade) (hr : r.kind.toNat = rowRepair)
    (h : ∀ f : RepairEntry → Bool, d.repairs.any f = (c.repairs.any f || f r)) : SixStays c d := by
  refine .of_grade honly (fun kind index hk => ?_) hgrade
  have hnot : (r.kind.toNat == kind && r.index.toNat == index) = false := by rw [hr, beq_false_of_ne (Ne.symm hk), Bool.false_and]
  rw [Core.hasRepair, h, hnot, Bool.or_false]
  rfl

theorem regrade (c : Core) : SixStays c c.regrade where
  only := c.regrade_only
  same := c.regrade_sameRepairs
  stays := by
    intro hbist hsix hgrade
    unfold Core.regrade Core.regradeNow
    split
    · exact hgrade
    · dsimp only
      rw [Core.gradeNow_of_six hbist hsix, hgrade, if_pos (by decide)]
      exact hgrade

theorem across : AcrossSteps SixStays where
  refl := fun c => .of_grade (.refl c) (.refl c) rfl
  trans := .trans
  step := by
    intro c d h
    cases h with
    | marks => exact .of_grade rfl (.of_repairs rfl) rfl
    | told h => exact .of_grade (.of_records (.refl c) h) (.of_records h) (by rw [h])
    | regraded => exact .regrade c
    | exhausted => exact .of_grade rfl (.of_repairs rfl) rfl
    | waits r hr =>
      exact .of_row rfl rfl hr fun f => by simp [Core.repairs, Core.fieldRepairs, List.any_append, Bool.or_comm, Bool.or_left_comm]
    | beyond r hr =>
      exact .of_row rfl rfl hr fun f => by simp [Core.repairs, Core.fieldRepairs, List.any_append, Bool.or_assoc]
    | flushed => exact .of_grade rfl (.of_repairs (by simp [Core.flushMap, Core.repairs, Core.fieldRepairs])) rfl

end SixStays

end Sys2Proof.Machine

/-!
PROOFS. Coppice (chapter 12, R373, R374, R376, R390 to R393): repairs put in force and taken back, and what they leave unchanged.
-/
namespace Sys2Proof.Machine

/-- `d` is `c` but for the front end, the nodes, the fault list and what a write to NVM changes. -/
def OnlyMended (c d : Core) : Prop := Core.OnlyFaults { c with acq := d.acq, node := d.node } d

namespace OnlyMended

theorem refl (c : Core) : OnlyMended c c := rfl

theorem trans {a b c : Core} (h : OnlyMended a b) (k : OnlyMended b c) : OnlyMended a c := by
  unfold OnlyMended Core.OnlyFaults OnlyNvm at *
  rw [k, h]

theorem of_faults {c d : Core} (h : Core.OnlyFaults c d) : OnlyMended c d := by
  unfold OnlyMended Core.OnlyFaults OnlyNvm at *
  rw [h]

theorem of_nvm {c d : Core} (h : OnlyNvm c d) : OnlyMended c d := .of_faults (.of_nvm h)

theorem of_front {c d : Core} (h : d = { c with acq := d.acq, node := d.node }) : OnlyMended c d := by
  unfold OnlyMended Core.OnlyFaults OnlyNvm
  rw [h]

end OnlyMended

/-- `d` follows `c` where repairs are put in force: the repairs stand, and only the front end, the nodes and NVM change. -/
structure Mends (c d : Core) : Prop where
  only : OnlyMended c d
  stand : RepairsStand c d

namespace Mends

theorem refl (c : Core) : Mends c c := ⟨.refl c, .refl c⟩

theorem trans {a b c : Core} (h : Mends a b) (k : Mends b c) : Mends a c := ⟨h.only.trans k.only, h.stand.trans k.stand⟩

theorem of_front {c d : Core} (h : d = { c with acq := d.acq, node := d.node }) : Mends c d :=
  ⟨.of_front h, .of_same (by rw [h]; rfl) (by rw [h])⟩

end Mends

namespace Core

theorem setFaults_mends (c : Core) (l : List FaultEntry) : Mends c (c.setFaults l) := ⟨.of_faults (c.setFaults_only l), c.setFaults_stand l⟩

theorem addFault_mends (c : Core) (kind index sign state derate : Nat) : Mends c (c.addFault kind index sign state derate) :=
  c.setFaults_mends _

theorem freshDerates_mends (c : Core) : Mends c c.freshDerates := c.setFaults_mends _

theorem addRepair_mends (c : Core) (r : RepairEntry) : Mends c (c.addRepair r) ∧ r ∈ (c.addRepair r).repairs := by
  obtain ⟨honly, hmem⟩ := c.addRepair_spec r
  exact ⟨⟨.of_nvm honly, (c.noteRepair_stand r).1.trans (saveMap_stand _)⟩, hmem⟩

theorem regrade_mends (c : Core) : Mends c c.regrade := ⟨.of_nvm c.regrade_only, c.regrade_stand⟩

theorem sparesOut_mends (c : Core) (k : Byte) : Mends c (c.sparesOut k) := ⟨.of_nvm (c.sparesOut_only k), c.sparesOut_stand k⟩

theorem startLine_mends (c : Core) (kind index : Nat) : Mends c (c.startLine kind index) := by
  unfold startLine
  split
  · exact .of_front rfl
  · split
    · exact .of_front rfl
    · exact .refl c

theorem hasRepair_of_mem {c : Core} {kind index : Nat} {d o : Byte} (h : ⟨BitVec.ofNat 8 kind, BitVec.ofNat 8 index, d, o⟩ ∈ c.repairs)
    (hk : kind < 256) (hi : index < 256) : c.hasRepair kind index = true := by
  refine List.any_eq_true.mpr ⟨_, h, ?_⟩
  simp [Nat.mod_eq_of_lt hk, Nat.mod_eq_of_lt hi]

theorem hasRepair_mono {c d : Core} (h : RepairsStand c d) {kind index : Nat} (hc : c.hasRepair kind index = true) :
    d.hasRepair kind index = true := by
  obtain ⟨r, hr, hnamed⟩ := List.any_eq_true.mp hc
  exact List.any_eq_true.mpr ⟨r, h.stand r hr, hnamed⟩

/-- The repair of a line put in force (R391, R392). -/
def coppiceLine (c : Core) (kind index sign origin : Nat) : Core :=
  let d := (c.addRepair ⟨BitVec.ofNat 8 kind, BitVec.ofNat 8 index, 0#8, BitVec.ofNat 8 origin⟩).startLine kind index
  (d.addFault kind index sign 2 (d.derating kind index)).freshDerates

theorem coppiceLine_mends (c : Core) (kind index sign origin : Nat) (hk : kind < 256) (hi : index < 256) :
    Mends c (c.coppiceLine kind index sign origin) ∧ (c.coppiceLine kind index sign origin).hasRepair kind index = true := by
  obtain ⟨hadd, hmem⟩ := c.addRepair_mends ⟨BitVec.ofNat 8 kind, BitVec.ofNat 8 index, 0#8, BitVec.ofNat 8 origin⟩
  have hrest : Mends (c.addRepair ⟨BitVec.ofNat 8 kind, BitVec.ofNat 8 index, 0#8, BitVec.ofNat 8 origin⟩)
      (c.coppiceLine kind index sign origin) :=
    ((startLine_mends _ kind index).trans (addFault_mends _ _ _ _ _ _)).trans (freshDerates_mends _)
  exact ⟨hadd.trans hrest, hasRepair_of_mem (hrest.stand.stand _ hmem) hk hi⟩

/-- A dead line is interpolated (R391). -/
theorem coppice_line (c : Core) {kind : Nat} (index detail sign origin : Nat) (h2 : kind ≠ 2) (h3 : kind ≠ 3) :
    (c.coppice kind index detail sign origin).1 = c.coppiceLine kind index sign origin := by
  unfold coppice
  rw [if_neg (by simpa using h2), if_neg (by simpa using h3)]
  rfl

/-- A leg is disabled (R390). -/
theorem coppice_leg (c : Core) (index detail sign origin : Nat) (hi : index < 256) :
    Mends c (c.coppice 3 index detail sign origin).1 ∧ (c.coppice 3 index detail sign origin).1.hasRepair 3 index = true := by
  obtain ⟨hadd, hmem⟩ := c.addRepair_mends ⟨3#8, BitVec.ofNat 8 index, BitVec.ofNat 8 detail, BitVec.ofNat 8 origin⟩
  have hrest : Mends (c.addRepair ⟨3#8, BitVec.ofNat 8 index, BitVec.ofNat 8 detail, BitVec.ofNat 8 origin⟩)
      (c.coppice 3 index detail sign origin).1 := by
    refine Mends.trans ?_ (addFault_mends _ _ _ _ _ _)
    exact .of_front rfl
  exact ⟨hadd.trans hrest, hasRepair_of_mem (kind := 3) (hrest.stand.stand _ hmem) (by decide) hi⟩

/-- A dead channel takes a spare, or with none left its line is interpolated (R392, R393). -/
theorem coppice_channel (c : Core) (index detail sign origin : Nat) (hi : index < 256) :
    Mends c (c.coppice 2 index detail sign origin).1 ∧ ((c.coppice 2 index detail sign origin).1.hasRepair 2 index = true ∨
      ∃ k < 24, c.acq.route.getD k 0 = index ∧ (c.coppice 2 index detail sign origin).1.hasRepair 4 k = true) := by
  unfold coppice
  dsimp only
  rw [if_pos (by rfl)]
  split
  case h_1 =>
    obtain ⟨hadd, hmem⟩ := c.addRepair_mends ⟨2#8, BitVec.ofNat 8 index, BitVec.ofNat 8 index, BitVec.ofNat 8 origin⟩
    have hrest := (c.addRepair ⟨2#8, BitVec.ofNat 8 index, BitVec.ofNat 8 index, BitVec.ofNat 8 origin⟩).addFault_mends 2 index sign 2 0
    exact ⟨hadd.trans hrest, .inl (hasRepair_of_mem (kind := 2) (hrest.stand.stand _ hmem) (by decide) hi)⟩
  case h_2 k hfind =>
    have hroute : c.acq.route.getD k 0 = index := beq_iff_eq.mp (List.find?_some (p := fun k => c.acq.route.getD k 0 == index) hfind)
    have hk : k < 24 := List.mem_range.mp (List.mem_of_find?_eq_some hfind)
    split
    case h_1 ch _ =>
      obtain ⟨hadd, hmem⟩ := c.addRepair_mends ⟨2#8, BitVec.ofNat 8 index, BitVec.ofNat 8 ch, BitVec.ofNat 8 origin⟩
      have hmove : Mends (c.addRepair ⟨2#8, BitVec.ofNat 8 index, BitVec.ofNat 8 ch, BitVec.ofNat 8 origin⟩)
        ((c.addRepair ⟨2#8, BitVec.ofNat 8 index, BitVec.ofNat 8 ch, BitVec.ofNat 8 origin⟩).moveLine k ch) := .of_front rfl
      have hrest := hmove.trans (addFault_mends _ 2 index sign 2 0)
      exact ⟨hadd.trans hrest, .inl (hasRepair_of_mem (kind := 2) (hrest.stand.stand _ hmem) (by decide) hi)⟩
    case h_2 =>
      split
      case isTrue hdead => exact ⟨.refl c, .inr ⟨k, hk, hroute, hdead⟩⟩
      case isFalse =>
        obtain ⟨hline, hhas⟩ := (c.sparesOut 2#8).coppiceLine_mends 4 k sign origin (by decide) (by omega)
        exact ⟨(c.sparesOut_mends 2#8).trans hline, .inr ⟨k, hk, hroute, hhas⟩⟩

/-- COPPICE_SET: nothing where the repair is in force, else the coppice; the grade, and the answer. -/
theorem actCoppiceSet_eq (c : Core) (x : CmdCtx) (p : List Byte) {kind index leg : Nat} (hkind : coppiceKind (byteAt p 0).toNat = kind)
    (hindex : (if kind == 3 then (byteAt p 1).toNat % 128 else (byteAt p 1).toNat) = index)
    (hleg : (if kind == 3 then (byteAt p 1).toNat / 128 else 0) = leg) :
    c.actCoppiceSet x p = ((if c.repairs.any (fun r => r.kind.toNat == kind && r.index.toNat == index && (kind != 3 || r.detail.toNat == leg)) then c
      else (c.coppice kind index leg 0 3).1).regrade).ok x 0x81#8 [] := by
  subst hkind hindex hleg
  rfl

theorem hasRepair_of_there {c : Core} {kind index leg : Nat}
    (h : c.repairs.any (fun r => r.kind.toNat == kind && r.index.toNat == index && (kind != 3 || r.detail.toNat == leg)) = true) :
    c.hasRepair kind index = true := by
  obtain ⟨r, hr, hnamed⟩ := List.any_eq_true.mp h
  exact List.any_eq_true.mpr ⟨r, hr, ((Bool.and_eq_true _ _).mp hnamed).1⟩

/-- COPPICE_SET of a line or a leg puts its repair in force, and answers (R393). -/
theorem actCoppiceSet_spec {c : Core} {x : CmdCtx} {p : List Byte} (hsrc : x.src = c.hg.addr) {kind index : Nat}
    (h : byteAt p 0 = 1#8 ∧ kind = 4 ∧ index = (byteAt p 1).toNat ∨ byteAt p 0 = 2#8 ∧ kind = 5 ∧ index = (byteAt p 1).toNat ∨
      byteAt p 0 = 3#8 ∧ kind = 3 ∧ index = (byteAt p 1).toNat % 128) :
    ∃ d, Mends c d ∧ d.hasRepair kind index = true ∧ c.actCoppiceSet x p = answered d x 0x81#8 0x00#8 false [] := by
  have hbyte := (byteAt p 1).isLt
  have hfound : ∀ leg, ∃ d, Mends c d ∧ d.hasRepair kind index = true ∧
      ((if c.repairs.any (fun r => r.kind.toNat == kind && r.index.toNat == index && (kind != 3 || r.detail.toNat == leg)) then c
        else (c.coppice kind index leg 0 3).1).regrade) = d := by
    intro leg
    suffices hd : ∀ d, Mends c d ∧ d.hasRepair kind index = true → Mends c d.regrade ∧ d.regrade.hasRepair kind index = true by
      split
      case isTrue hthere =>
        obtain ⟨hm, hhas⟩ := hd c ⟨.refl c, hasRepair_of_there hthere⟩
        exact ⟨_, hm, hhas, rfl⟩
      case isFalse =>
        have hset : Mends c (c.coppice kind index leg 0 3).1 ∧ (c.coppice kind index leg 0 3).1.hasRepair kind index = true := by
          rcases h with ⟨-, rfl, rfl⟩ | ⟨-, rfl, rfl⟩ | ⟨-, rfl, rfl⟩
          · rw [c.coppice_line _ leg 0 3 (by decide) (by decide)]
            exact c.coppiceLine_mends 4 _ 0 3 (by decide) hbyte
          · rw [c.coppice_line _ leg 0 3 (by decide) (by decide)]
            exact c.coppiceLine_mends 5 _ 0 3 (by decide) hbyte
          · exact c.coppice_leg _ leg 0 3 (by omega)
        obtain ⟨hm, hhas⟩ := hd _ hset
        exact ⟨_, hm, hhas, rfl⟩
    intro d ⟨hm, hhas⟩
    exact ⟨hm.trans d.regrade_mends, hasRepair_mono d.regrade_stand hhas⟩
  have hact : ∃ leg, c.actCoppiceSet x p =
      ((if c.repairs.any (fun r => r.kind.toNat == kind && r.index.toNat == index && (kind != 3 || r.detail.toNat == leg)) then c
        else (c.coppice kind index leg 0 3).1).regrade).ok x 0x81#8 [] := by
    rcases h with ⟨hb, rfl, rfl⟩ | ⟨hb, rfl, rfl⟩ | ⟨hb, rfl, rfl⟩
    · exact ⟨_, c.actCoppiceSet_eq x p (by rw [hb]; rfl) rfl rfl⟩
    · exact ⟨_, c.actCoppiceSet_eq x p (by rw [hb]; rfl) rfl rfl⟩
    · exact ⟨_, c.actCoppiceSet_eq x p (by rw [hb]; rfl) rfl rfl⟩
  obtain ⟨leg, hleg⟩ := hact
  obtain ⟨d, hm, hhas, hd⟩ := hfound leg
  refine ⟨d, hm, hhas, ?_⟩
  rw [hleg, hd]
  exact answer_own (by rw [hm.only]; exact hsrc) _ _ _

/-- COPPICE_SET of a channel. -/
theorem actCoppiceSet_channel {c : Core} {x : CmdCtx} {p : List Byte} (hsrc : x.src = c.hg.addr) (hb : byteAt p 0 = 0#8) :
    ∃ d, Mends c d ∧ (d.hasRepair 2 (byteAt p 1).toNat = true ∨
      ∃ k < 24, c.acq.route.getD k 0 = (byteAt p 1).toNat ∧ d.hasRepair 4 k = true) ∧
      c.actCoppiceSet x p = answered d x 0x81#8 0x00#8 false [] := by
  have hbyte := (byteAt p 1).isLt
  rw [c.actCoppiceSet_eq x p (kind := 2) (index := (byteAt p 1).toNat) (leg := 0) (by rw [hb]; rfl) rfl rfl]
  split
  case isTrue hthere =>
    exact ⟨_, c.regrade_mends, .inl (hasRepair_mono c.regrade_stand (hasRepair_of_there hthere)),
      answer_own (by rw [c.regrade_only]; exact hsrc) _ _ _⟩
  case isFalse =>
    obtain ⟨hm, hhas⟩ := c.coppice_channel (byteAt p 1).toNat 0 0 3 hbyte
    have hreg := regrade_mends (c.coppice 2 (byteAt p 1).toNat 0 0 3).1
    refine ⟨_, hm.trans hreg, ?_, answer_own (by rw [(hm.trans hreg).only]; exact hsrc) _ _ _⟩
    rcases hhas with hhas | ⟨k, hk, hroute, hhas⟩
    · exact .inl (hasRepair_mono hreg.stand hhas)
    · exact .inr ⟨k, hk, hroute, hasRepair_mono hreg.stand hhas⟩

/-! ### COPPICE_CLEAR (R376, R393) -/

theorem isNamed_iff {kind index detail : Nat} {r : RepairEntry} : isNamed kind index detail r = true ↔ r.index.toNat = index ∧
    (r.kind.toNat = kind ∨ (kind = 4 ∧ r.kind.toNat = 6)) ∧ (kind = 3 → r.detail.toNat = detail) := by
  simp only [isNamed, Bool.and_eq_true, Bool.or_eq_true, beq_iff_eq, bne_iff_ne, ne_eq, and_assoc, ← imp_iff_not_or]

/-- No repair that a COPPICE_CLEAR names is of a row. -/
theorem isNamed_not_row {kind index detail : Nat} {r : RepairEntry} (hk : kind ≠ rowRepair) (h : isNamed kind index detail r = true) :
    r.kind.toNat ≠ rowRepair := by
  obtain ⟨-, hkind, -⟩ := isNamed_iff.mp h
  rcases hkind with hkind | ⟨-, hkind⟩
  · rwa [hkind]
  · rw [hkind]
    decide

/-- `d` is `c` but for what taking a repair back may change: the maps, the front end, the nodes, a self-test that falls due, and NVM. -/
def OnlyCleared (c d : Core) : Prop :=
  OnlyMended { c with rep := { c.rep with factory := d.rep.factory, testDue := d.rep.testDue, clearTest := d.rep.clearTest, bgDue := d.rep.bgDue } } d

theorem OnlyCleared.trans {a b c : Core} (h : OnlyCleared a b) (k : OnlyCleared b c) : OnlyCleared a c := by
  unfold OnlyCleared OnlyMended OnlyFaults OnlyNvm at *
  rw [k, h]

theorem OnlyCleared.of_mended {c d : Core} (h : OnlyMended c d) : OnlyCleared c d := by
  unfold OnlyCleared OnlyMended OnlyFaults OnlyNvm at *
  rw [h]

theorem strike_only (c : Core) (kind index detail : Nat) : OnlyCleared c (c.strike kind index detail) := rfl

theorem strike_repairs {c : Core} {kind index detail : Nat} {r : RepairEntry} (h : r ∈ (c.strike kind index detail).repairs) :
    isNamed kind index detail r = false := by
  simp only [strike, modRep, repairs, fieldRepairs, List.mem_append, List.mem_filter, Bool.not_eq_true'] at h
  tauto

/-- The front end and the filters without a repair: a line on its default channel, a leg enabled again (R393). -/
def restoreFront (c : Core) (kind index detail : Nat) : Core :=
  if kind == 2 then
    match (List.range 24).find? (fun k => defaultChannel k == index) with
    | some k => if c.acq.route.getD k 0 == index then c else (c.moveLine k index).reseedSense k
    | none => c
  else if kind == 3 then
    let leg : BitVec 2 := if detail == 0 then 1#2 else 2#2
    c.modAcq (fun a => { a with legs := modifyAt a.legs index (fun l => l ||| leg) })
  else if kind == 4 then c.reseedSense index
  else c.reseedDrive index

/-- A full self-test falls due (R376). -/
def dueClearTest (c : Core) : Core := c.modRep (fun r => { r with testDue := true, clearTest := true, bgDue := r.bgDue ||| 2#5 })

theorem restore_eq (c : Core) (kind index detail : Nat) : c.restore kind index detail =
    (if c.rep.grade == 6#3 then (c.restoreFront kind index detail).freshDerates.sparesBack.dueClearTest
      else (c.restoreFront kind index detail).freshDerates.sparesBack) := rfl

theorem restoreFront_only (c : Core) (kind index detail : Nat) :
    c.restoreFront kind index detail = { c with
      acq := (c.restoreFront kind index detail).acq, node := (c.restoreFront kind index detail).node } := by
  unfold restoreFront
  split
  · split
    · split <;> rfl
    · rfl
  · split
    · rfl
    · split <;> rfl

theorem setFaults_noneNew (c : Core) (l : List FaultEntry) : NoneNew c (c.setFaults l) := by
  unfold setFaults
  split
  · exact .of_repairs rfl
  · exact NoneNew.trans (.of_repairs (by rfl)) (NoneNew.across.saveMap _)

theorem freshDerates_noneNew (c : Core) : NoneNew c c.freshDerates := c.setFaults_noneNew _

theorem sparesBack_only (c : Core) : OnlyNvm c c.sparesBack := rfl

/-- What follows the striking of a repair brings no other in force, but of rows. -/
theorem restore_spec (c : Core) (kind index detail : Nat) :
    OnlyCleared c (c.restore kind index detail) ∧ NoneNew c (c.restore kind index detail) ∧
    (c.rep.grade = 6#3 → (c.restore kind index detail).rep.testDue = true ∧ (c.restore kind index detail).rep.clearTest = true) := by
  have hfront := c.restoreFront_only kind index detail
  generalize hd : (c.restoreFront kind index detail).freshDerates.sparesBack = d
  have honly : OnlyCleared c d := by
    rw [← hd]
    exact .of_mended ((OnlyMended.of_front hfront).trans ((freshDerates_mends _).only.trans (.of_nvm (sparesBack_only _))))
  have hnew : NoneNew c d := by
    rw [← hd]
    refine NoneNew.trans (NoneNew.trans (.of_repairs ?_) (freshDerates_noneNew _)) (.of_repairs (by rfl))
    rw [hfront]
    rfl
  rw [restore_eq, hd]
  split
  · exact ⟨honly.trans rfl, hnew.trans (.of_repairs rfl), fun _ => ⟨rfl, rfl⟩⟩
  case isFalse hsix => exact ⟨honly, hnew, fun h => absurd (beq_iff_eq.mpr h) hsix⟩

theorem flushMap_only (c : Core) : OnlyNvm c c.flushMap := rfl

/-- A repair taken back, where its record is written (R80, R393). -/
theorem uncoppice_of_written {c : Core} {kind index detail : Nat} (hmine : c.repairs.any (isNamed kind index detail) = true)
    (h : (c.writeCopy .repair).2 = true) :
    c.uncoppice kind index detail = (((c.writeCopy .repair).1.flushMap.strike kind index detail).restore kind index detail, true) := by
  have hwrite : c.write .repair (fun c => c.strike kind index detail) = ((c.writeCopy .repair).1.flushMap.strike kind index detail, true) := by
    simp [write, h]
  rw [uncoppice, if_pos hmine, hwrite]
  rfl

theorem uncoppice_of_failed {c : Core} {kind index detail : Nat} (hmine : c.repairs.any (isNamed kind index detail) = true)
    (h : (c.writeCopy .repair).2 = false) : c.uncoppice kind index detail = ((c.writeCopy .repair).1, false) := by
  have hwrite : c.write .repair (fun c => c.strike kind index detail) = ((c.writeCopy .repair).1, false) := by
    simp [write, h]
  rw [uncoppice, if_pos hmine, hwrite]
  rfl

theorem uncoppice_of_none {c : Core} {kind index detail : Nat} (hmine : c.repairs.any (isNamed kind index detail) = false) :
    c.uncoppice kind index detail = (c, true) := by
  rw [uncoppice, hmine, if_neg Bool.false_ne_true]

/-- What a repair taken back leaves: no repair that it named, and where the grade was 6, a full self-test due. -/
structure TakenBack (c d : Core) (kind index detail : Nat) : Prop where
  only : OnlyCleared c d
  gone : d.repairs.any (isNamed kind index detail) = false
  six : c.gradeNow = 6 → c.rep.grade = 6#3 → d.rep.testDue = true ∧ d.rep.clearTest = true

theorem takenBack_of_written {c : Core} {kind index detail : Nat} (hk : kind ≠ rowRepair) :
    TakenBack c (((c.writeCopy .repair).1.flushMap.strike kind index detail).restore kind index detail) kind index detail := by
  have hwrite := SixStays.across.writeCopy c .repair
  obtain ⟨honly, hnew, hdue⟩ := restore_spec ((c.writeCopy .repair).1.flushMap.strike kind index detail) kind index detail
  refine ⟨?_, ?_, fun hnow hgrade => ?_⟩
  · have hstruck : OnlyCleared c ((c.writeCopy .repair).1.flushMap.strike kind index detail) :=
      (OnlyCleared.of_mended (.of_nvm (hwrite.only.trans (flushMap_only _)))).trans (strike_only _ _ _ _)
    exact hstruck.trans honly
  · rw [List.any_eq_false]
    intro r hr hnamed
    have hstruck := hnew r hr (isNamed_not_row hk hnamed)
    rw [strike_repairs hstruck] at hnamed
    exact Bool.false_ne_true hnamed
  · obtain ⟨hbist, hsix⟩ := six_of_gradeNow hnow
    exact hdue (hwrite.stays hbist hsix hgrade)

/-- Outside Run a grade of 6 that is due stands after it has been computed again. -/
theorem regrade_grade_of_six {c : Core} (hrun : c.pw.phase ≠ .run) (hbist : c.rep.bistf = false) (hsix : c.sixHolds = true) :
    c.regrade.rep.grade = 6#3 := by
  have hnot : (c.pw.phase == .run) = false := beq_false_of_ne hrun
  unfold regrade
  rw [hnot, if_neg Bool.false_ne_true]
  unfold regradeNow
  dsimp only
  rw [gradeNow_of_six hbist hsix]
  split
  case isTrue h => exact BitVec.eq_of_toNat_eq (beq_iff_eq.mp h)
  case isFalse =>
    rw [attn_rep, repairEvent_only]

theorem testWake_moves (c : Core) : OnlyMoves c c.testWake := by
  unfold testWake
  split
  · exact c.goAwake_moves .run
  · exact .refl c

end Core
end Sys2Proof.Machine

/-!
PROOFS. Frame-deferred requests (chapters 04, 11 and 12, R80, R137, R142, R152, R349, R373, R374, R376, R383, R388, R393).
-/
namespace Sys2Proof.Machine

namespace Core

theorem ofLe_lt (b : List Byte) : ofLe b < 256 ^ b.length := by
  induction b with
  | nil => decide
  | cons x xs ih =>
    have hx : x.toNat < 256 := x.isLt
    rw [ofLe, List.length_cons, Nat.pow_succ]
    omega

theorem leAt_lt (b : List Byte) (i n : Nat) : leAt b i n < 256 ^ n :=
  Nat.lt_of_lt_of_le (ofLe_lt _) (Nat.pow_le_pow_right (by decide) (List.length_take_le n _))

/-! ### Captures (R137, R152) -/

theorem testBit_ofNat {w x i : Nat} (hi : i < w) : (BitVec.ofNat w x).getLsbD i = x.testBit i := by
  rw [BitVec.getLsbD_ofNat, decide_eq_true hi, Bool.true_and]

theorem bne_zero_iff {w x : Nat} (hx : x < 2 ^ w) : (BitVec.ofNat w x != 0#w) = true ↔ x ≠ 0 := by
  rw [bne_iff_ne, not_iff_not, ← BitVec.toNat_inj, BitVec.toNat_ofNat, Nat.mod_eq_of_lt hx, BitVec.toNat_ofNat, Nat.zero_mod]

/-- The node at a place is one that a BASELINE_CAPTURE names (R137). -/
@[reducible] def namesNode (c : Core) (p : List Byte) (i : Nat) : Prop :=
  (leAt p 0 3).testBit (nodeLine i) ∧ (leAt p 3 4).testBit (nodeDrive i) ∧ (nodeLane i = c.colour ∨ (byteAt p 7).getLsbD (nodeLane i) = true)

/-- The self line is one that a BASELINE_CAPTURE's nodes lie on (R152). -/
@[reducible] def namesSelf (p : List Byte) (i : Nat) : Prop :=
  (i < 24 ∧ (leAt p 0 3).testBit i ∧ leAt p 3 4 ≠ 0) ∨ (24 ≤ i ∧ (leAt p 3 4).testBit (i - 24) ∧ leAt p 0 3 ≠ 0)

theorem namesNode_iff (c : Core) (p : List Byte) (i : Nat) :
    ((BitVec.ofNat 24 (leAt p 0 3)).getLsbD (nodeLine i) && (BitVec.ofNat 32 (leAt p 3 4)).getLsbD (nodeDrive i) &&
      (nodeLane i == c.colour || (byteAt p 7).getLsbD (nodeLane i))) = true ↔ c.namesNode p i := by
  have hline : nodeLine i < 24 := Nat.mod_lt _ (by decide)
  have hdrive : nodeDrive i < 32 := Nat.mod_lt _ (by decide)
  rw [testBit_ofNat hline, testBit_ofNat hdrive, Bool.and_eq_true, Bool.and_eq_true, Bool.or_eq_true, beq_iff_eq, and_assoc]

theorem namesSelf_iff (p : List Byte) (i : Nat) :
    (if i < 24 then (BitVec.ofNat 24 (leAt p 0 3)).getLsbD i && BitVec.ofNat 32 (leAt p 3 4) != 0#32
      else (BitVec.ofNat 32 (leAt p 3 4)).getLsbD (i - 24) && BitVec.ofNat 24 (leAt p 0 3) != 0#24) = true ↔ namesSelf p i := by
  have hsense : leAt p 0 3 < 2 ^ 24 := leAt_lt p 0 3
  have hdrive : leAt p 3 4 < 2 ^ 32 := leAt_lt p 3 4
  unfold namesSelf
  by_cases hi : i < 24
  · rw [if_pos hi, Bool.and_eq_true, testBit_ofNat hi, bne_zero_iff hdrive]
    constructor
    · exact fun h => .inl ⟨hi, h⟩
    · exact fun h => (h.resolve_right fun hr => absurd hi (Nat.not_lt.mpr hr.1)).2
  · have hbit : (BitVec.ofNat 32 (leAt p 3 4)).getLsbD (i - 24) = (leAt p 3 4).testBit (i - 24) := by
      by_cases hlow : i - 24 < 32
      · exact testBit_ofNat hlow
      · have hpow : 2 ^ 32 ≤ 2 ^ (i - 24) := Nat.pow_le_pow_right (by decide) (Nat.not_lt.mp hlow)
        rw [BitVec.getLsbD_ofNat, decide_eq_false hlow, Bool.false_and, Nat.testBit_lt_two_pow (Nat.lt_of_lt_of_le hdrive hpow)]
    rw [if_neg hi, Bool.and_eq_true, hbit, bne_zero_iff hsense]
    constructor
    · exact fun h => .inr ⟨Nat.not_lt.mp hi, h⟩
    · exact fun h => (h.resolve_left fun hl => hi hl.1).2

/-- The places that a test picks, by what the test means. -/
theorem mapPlaces_congr {α : Type} {l : List (α × Nat)} {pick : Nat → Bool} {P : Nat → Prop} [DecidablePred P] (f : α → α)
    (h : ∀ i, pick i = true ↔ P i) :
    l.map (fun x => if pick x.2 then f x.1 else x.1) = l.map (fun x => if P x.2 then f x.1 else x.1) :=
  List.map_congr_left fun x _ => if_congr (h x.2) rfl rfl

theorem actBaseline_own {c : Core} {x : CmdCtx} {p : List Byte} (hsrc : x.src = c.hg.addr) : c.actBaseline x p =
    answered (c.markCapture (BitVec.ofNat 24 (leAt p 0 3)) (BitVec.ofNat 32 (leAt p 3 4)) (byteAt p 7)) x 0x44#8 0x00#8 false [] := by
  rw [actBaseline, ok]
  exact answer_own (by exact hsrc) _ _ _

/-! ### Self-tests (R388) -/

theorem foldl_addFault_only (l : List (Byte × Byte × Byte)) (c : Core) :
    OnlyFaults c (l.foldl (fun c f => c.addFault f.1.toNat f.2.1.toNat f.2.2.toNat 1 0) c) :=
  foldl_keeps OnlyFaults .refl (fun _ _ _ => .trans) _ (fun c _ => c.addFault_only _ _ _ _ _) l c

/-- A failing SRAM column in the fault list, with its event (R374). -/
def marched (c : Core) (b : Fin 6) (col : Fin 16) : Core :=
  (c.draw.1.repairEvent 0x49 [BitVec.ofNat 8 b.val, BitVec.ofNat 8 col.val]).addFault 0 (b.val * 16 + col.val) 0 1 0

theorem marched_only (c : Core) (b : Fin 6) (col : Fin 16) : OnlyFaults c (c.marched b col) := by
  refine OnlyFaults.trans (.trans (b := c.draw.1) (.of_nvm (by rfl)) (.of_records (repairEvent_only _ _ _))) (addFault_only _ _ _ _ _ _)

/-- A march that fails is mapped in, or tells that no spare column is left; its entry is of an SRAM column. -/
theorem sramMarch_of_fault {c : Core} {b : Fin 6} {col : Fin 16} (h : Config.marchFault c.free = some (b, col)) :
    ∃ d, OnlyNvm (c.marched b col) d ∧ c.sramMarch =
      (d, (c.marched b col).nvm.faults.filter (fun f => f.kind == 0#8 && f.index.toNat == b.val * 16 + col.val && f.sign == 0#8)) := by
  have hmarch : c.sramMarch = (if (c.marched b col).bankSpares b.val < 2 then
      ((c.marched b col).addRepair ⟨0#8, BitVec.ofNat 8 (b.val * 16 + col.val), BitVec.ofNat 8 ((c.marched b col).bankSpares b.val), 2#8⟩,
        (c.marched b col).nvm.faults.filter (fun f => f.kind == 0#8 && f.index.toNat == b.val * 16 + col.val && f.sign == 0#8))
      else ((c.marched b col).sparesOut 0#8,
        (c.marched b col).nvm.faults.filter (fun f => f.kind == 0#8 && f.index.toNat == b.val * 16 + col.val && f.sign == 0#8))) := by
    unfold sramMarch draw
    dsimp only
    rw [h]
    rfl
  rw [hmarch]
  split
  · exact ⟨_, (addRepair_spec _ _).1, rfl⟩
  · exact ⟨_, sparesOut_only _ _, rfl⟩

/-- A march of SRAM answers entries of the fault list, of SRAM columns. -/
theorem sramMarch_spec (c : Core) : OnlyFaults c c.sramMarch.1 ∧ (∀ e ∈ c.sramMarch.2, e ∈ c.sramMarch.1.nvm.faults ∧ e.kind = 0#8) ∧
    (Config.marchFault c.free = none → c.sramMarch = ({ c with free := c.free + 1 }, [])) := by
  cases h : Config.marchFault c.free with
  | none =>
    have hmarch : c.sramMarch = ({ c with free := c.free + 1 }, []) := by
      unfold sramMarch draw
      dsimp only
      rw [h]
    rw [hmarch]
    exact ⟨rfl, nofun, fun _ => rfl⟩
  | some f =>
    obtain ⟨d, hd, hmarch⟩ := sramMarch_of_fault h
    rw [hmarch]
    refine ⟨(c.marched_only _ _).trans (.of_nvm hd), fun e he => ?_, nofun⟩
    obtain ⟨hin, his⟩ := List.mem_filter.mp he
    simp only [Bool.and_eq_true, beq_iff_eq, and_assoc] at his
    have hfaults : d.nvm.faults = (c.marched f.1 f.2).nvm.faults := by rw [hd]
    exact ⟨by rw [hfaults]; exact hin, his.1⟩

/-- What an engine signature or a margin scan finds stands in the fault list. -/
theorem foundFaults_spec (c : Core) : OnlyFaults c c.foundFaults.1 ∧
    (∀ e ∈ c.foundFaults.2, e ∈ c.foundFaults.1.nvm.faults ∧ (e.kind, e.index, e.sign) ∈ Config.testFaults c.free) ∧
    (Config.testFaults c.free = [] → c.foundFaults = ({ c with free := c.free + 1 }, [])) := by
  refine ⟨?_, fun e he => ?_, fun h => ?_⟩
  · exact OnlyFaults.trans (.of_nvm (by rfl)) (foldl_addFault_only _ _)
  · obtain ⟨hin, hnew⟩ := List.mem_filter.mp he
    obtain ⟨f, hf, his⟩ := List.any_eq_true.mp hnew
    simp only [Bool.and_eq_true, beq_iff_eq, and_assoc] at his
    obtain ⟨hkind, hindex, hsign⟩ := his
    refine ⟨hin, ?_⟩
    rw [hkind, hindex, hsign]
    exact hf
  · unfold foundFaults
    rw [h]
    exact Prod.ext rfl (List.filter_eq_nil_iff.mpr fun _ _ => Bool.false_ne_true)

/-! ### COPPICE_CLEAR -/

/-- What COPPICE_CLEAR does, with the repair it names. -/
theorem actCoppiceClear_eq (c : Core) (x : CmdCtx) (p : List Byte) :
    let kind := coppiceKind (byteAt p 0).toNat
    let r := c.uncoppice kind (if kind == 3 then (byteAt p 1).toNat % 128 else (byteAt p 1).toNat) (if kind == 3 then (byteAt p 1).toNat / 128 else 0)
    c.actCoppiceClear x p = if r.2 then (r.1.regrade.ok x 0x82#8 []).testWake else r.1.answer x 0x82#8 stNvmFail [] := rfl

theorem coppiceKind_not_row (k : Nat) : coppiceKind k ≠ rowRepair := by
  unfold coppiceKind rowRepair
  split <;> decide

/-- What COPPICE_CLEAR leaves where it has answered OK: the repair it names is not in force, and the power state moves only for a self-test
in Quiet at grade 6 (R376, R393). -/
theorem cleared_spec {c e : Core} {x : CmdCtx} {kind index detail : Nat} (honly : OnlyCleared c e)
    (hgone : e.repairs.any (isNamed kind index detail) = false) :
    let d := (answered e.regrade x 0x82#8 0x00#8 false []).testWake
    d.repairs.any (isNamed kind index detail) = false ∧ d.host.outRsp = c.host.outRsp ++ rspItems x 0x82#8 0x00#8 false [] ∧
    (c.pw.phase ≠ .quiet ∨ d.rep.grade ≠ 6#3 → d.pw = c.pw ∧ d.hg = c.hg ∧ d.lnk = c.lnk ∧ d.hp = c.hp ∧ d.prof = c.prof ∧ d.trk = c.trk ∧
      d.keys = c.keys) := by
  have hmoves := testWake_moves (answered e.regrade x 0x82#8 0x00#8 false [])
  have hgraded : OnlyCleared c e.regrade := honly.trans (.of_mended (.of_nvm e.regrade_only))
  have hrepairs : (answered e.regrade x 0x82#8 0x00#8 false []).testWake.repairs = e.repairs := by
    have hreg : e.regrade.repairs = e.repairs := by
      unfold regrade regradeNow
      split
      · rfl
      · dsimp only
        split
        · rfl
        · rw [(repairEvent_only _ _ _).trans (attn_only _ _)]
          rfl
    rw [hmoves, ← hreg]
    rfl
  refine ⟨by rw [hrepairs]; exact hgone, ?_, fun hstay => ?_⟩
  · rw [hmoves]
    show e.regrade.host.outRsp ++ _ = _
    rw [hgraded]
  · have hnot : (answered e.regrade x 0x82#8 0x00#8 false []).testWake = answered e.regrade x 0x82#8 0x00#8 false [] := by
      refine testWake_of_not ?_
      rcases hstay with hphase | hgrade
      · refine .inr (.inl ?_)
        show e.regrade.pw.phase ≠ .quiet
        rw [hgraded]
        exact hphase
      · refine .inl ?_
        rw [hmoves] at hgrade
        exact hgrade
    rw [hnot]
    show e.regrade.pw = _ ∧ e.regrade.hg = _ ∧ e.regrade.lnk = _ ∧ e.regrade.hp = _ ∧ e.regrade.prof = _ ∧ e.regrade.trk = _ ∧ e.regrade.keys = _
    rw [hgraded]
    exact ⟨rfl, rfl, rfl, rfl, rfl, rfl, rfl⟩

/-- A repair taken back at grade 6 takes the tile from Quiet into Run for its self-test (R376). -/
theorem cleared_wakes {c e : Core} {x : CmdCtx} {kind index detail : Nat} (hback : TakenBack c e kind index detail)
    (hgrade : c.rep.grade = 6#3) (hnow : c.gradeNow = 6) (hquiet : c.pw.phase = .quiet) (hentry : c.pw.entry = none)
    (hslot : c.slot.isSome = true) (hbist : c.rep.bistf = false) (hjoin : c.hg.joinRefused = false) :
    let d := (answered e.regrade x 0x82#8 0x00#8 false []).testWake
    d.pw.phase = .run ∧ d.rep.testDue = true ∧ d.rep.grade = 6#3 := by
  obtain ⟨htest, hclear⟩ := hback.six hnow hgrade
  have hpw : e.pw = c.pw := by rw [hback.only]
  have hsix : e.sixHolds = true := by
    unfold sixHolds
    rw [hclear, Bool.or_true]
  have hgraded := e.regrade_only
  have hstands : e.regrade.rep.grade = 6#3 :=
    regrade_grade_of_six (by rw [hpw, hquiet]; decide) (by rw [hback.only]; exact hbist) hsix
  have htested : e.regrade.rep.testDue = true := by rw [hgraded]; exact htest
  have hall : OnlyCleared c e.regrade := hback.only.trans (.of_mended (.of_nvm hgraded))
  have hmoves := enterRun_moves (answered e.regrade x 0x82#8 0x00#8 false [])
  rw [testWake_of_due (c := answered e.regrade x 0x82#8 0x00#8 false []) hstands htested
    (by show e.regrade.pw.phase = _; rw [hall]; exact hquiet) (by show e.regrade.pw.entry = _; rw [hall]; exact hentry)
    (by show e.regrade.slot.isSome = _; rw [hall]; exact hslot) (by show e.regrade.rep.bistf = _; rw [hall]; exact hbist)
    (by show e.regrade.hg.joinRefused = _; rw [hall]; exact hjoin)]
  refine ⟨enterRun_phase _, ?_, ?_⟩
  · rw [hmoves]
    exact htested
  · rw [hmoves]
    exact hstands

/-- A repair in force is one that a COPPICE_CLEAR names (R393). -/
def clearNames (c : Core) (p : List Byte) : Prop :=
  let kind := coppiceKind (byteAt p 0).toNat
  let index := if kind = 3 then (byteAt p 1).toNat % 128 else (byteAt p 1).toNat
  ∃ r ∈ c.repairs, r.index.toNat = index ∧ (r.kind.toNat = kind ∨ (kind = 4 ∧ r.kind.toNat = 6)) ∧
    (kind = 3 → r.detail.toNat = (byteAt p 1).toNat / 128)

theorem clearNames_iff (c : Core) (p : List Byte) : c.clearNames p ↔ c.repairs.any (isNamed (coppiceKind (byteAt p 0).toNat)
    (if coppiceKind (byteAt p 0).toNat == 3 then (byteAt p 1).toNat % 128 else (byteAt p 1).toNat)
    (if coppiceKind (byteAt p 0).toNat == 3 then (byteAt p 1).toNat / 128 else 0)) = true := by
  simp only [clearNames, List.any_eq_true, isNamed_iff, beq_iff_eq]
  refine exists_congr fun r => and_congr_right fun _ => and_congr_right fun _ => and_congr_right fun _ => ?_
  refine forall_congr' fun hkind => ?_
  rw [if_pos hkind]

theorem actCoppiceClear_spec {c : Core} {x : CmdCtx} {p : List Byte} (hsrc : x.src = c.hg.addr) :
    let d := c.actCoppiceClear x p
    (¬ c.clearNames p ∨ (c.writeCopy .repair).2 = true →
      ¬ d.clearNames p ∧ d.host.outRsp = c.host.outRsp ++ rspItems x 0x82#8 0x00#8 false []) ∧
    (c.clearNames p → (c.writeCopy .repair).2 = false →
      d.clearNames p ∧ d.host.outRsp = c.host.outRsp ++ rspItems x 0x82#8 0x09#8 false []) ∧
    (c.pw.phase ≠ .quiet ∨ d.rep.grade ≠ 6#3 → d.pw = c.pw ∧ d.hg = c.hg ∧ d.lnk = c.lnk ∧ d.hp = c.hp ∧ d.prof = c.prof ∧ d.trk = c.trk ∧
      d.keys = c.keys) ∧
    (c.clearNames p → (c.writeCopy .repair).2 = true → c.rep.grade = 6#3 → c.gradeNow = 6 → c.pw.phase = .quiet → c.pw.entry = none →
      c.slot.isSome = true → c.rep.bistf = false → c.hg.joinRefused = false → d.pw.phase = .run ∧ d.rep.testDue = true ∧ d.rep.grade = 6#3) := by
  have hrow := coppiceKind_not_row (byteAt p 0).toNat
  simp only [clearNames_iff, actCoppiceClear_eq]
  generalize coppiceKind (byteAt p 0).toNat = kind at *
  generalize (if kind == 3 then (byteAt p 1).toNat % 128 else (byteAt p 1).toNat) = index
  generalize (if kind == 3 then (byteAt p 1).toNat / 128 else 0) = leg
  cases hmine : c.repairs.any (isNamed kind index leg)
  · have hsame : OnlyCleared c c := .of_mended (.refl c)
    obtain ⟨hgone, hout, hframe⟩ := cleared_spec (x := x) hsame hmine
    rw [uncoppice_of_none hmine]
    dsimp only
    rw [if_pos rfl, ok, answer_own (by rw [c.regrade_only]; exact hsrc)]
    exact ⟨fun _ => ⟨Bool.eq_false_iff.mp hgone, hout⟩, nofun, hframe, nofun⟩
  · cases hw : (c.writeCopy .repair).2
    · have hwrite := c.writeCopy_only .repair
      rw [uncoppice_of_failed hmine hw]
      dsimp only
      rw [if_neg Bool.false_ne_true, answer_own (by rw [hwrite]; exact hsrc)]
      refine ⟨fun h => absurd h (by simp), fun _ _ => ⟨?_, ?_⟩, fun _ => ?_, nofun⟩
      · obtain ⟨r, hr, hnamed⟩ := List.any_eq_true.mp hmine
        exact List.any_eq_true.mpr ⟨r, (c.writeCopy_stand .repair).stand r hr, hnamed⟩
      · show (c.writeCopy .repair).1.host.outRsp ++ _ = _
        rw [hwrite]
        rfl
      · rw [hwrite]
        exact ⟨rfl, rfl, rfl, rfl, rfl, rfl, rfl⟩
    · have hback := takenBack_of_written (c := c) (kind := kind) (index := index) (detail := leg) hrow
      rw [uncoppice_of_written hmine hw]
      generalize ((c.writeCopy .repair).1.flushMap.strike kind index leg).restore kind index leg = e at *
      obtain ⟨hgone, hout, hframe⟩ := cleared_spec (x := x) hback.only hback.gone
      dsimp only
      rw [if_pos rfl, ok, answer_own (by rw [e.regrade_only, hback.only]; exact hsrc)]
      exact ⟨fun _ => ⟨Bool.eq_false_iff.mp hgone, hout⟩, nofun, hframe,
        fun _ _ hgrade hnow hquiet hentry hslot hbist hjoin => cleared_wakes hback hgrade hnow hquiet hentry hslot hbist hjoin⟩

end Core

/-- The answer of a self-test that found nothing. -/
theorem noEntries : le 1 (bit (!([] : List FaultEntry).isEmpty)) ++ ([] : List FaultEntry).flatMap FaultEntry.bytes = [0#8] := by
  decide

/-- Settles O38: each request is kept for its boundary, and its turn is its act. -/
theorem deferredRequestsComplete : Obligations.DeferredRequestsComplete := by
  intro s x p
  refine ⟨fun h => defers_of_passes rfl h (.inl (by decide)) ?_, fun h => defers_of_passes rfl h (.inl (by decide)) ?_,
    fun h => defers_of_passes rfl h (.inl (by decide)) ?_, fun h => defers_of_passes rfl h (.inl (by decide)) ?_,
    fun h => defers_of_passes rfl h (.inl (by decide)) ?_, fun h => defers_of_passes rfl h (.inl (by decide)) ?_,
    fun h => defers_of_passes rfl h (.inl (by decide)) ?_, fun k hk h => defers_of_passes rfl h (.inl (by decide)) ?_,
    fun h hok => defers_of_passes rfl h (.inl (by decide)) ?_, fun h hok => defers_of_passes rfl h (.inl (by decide)) ?_,
    fun kind index h hnamed => defers_of_passes rfl h (.inl (by decide)) ?_, fun h hb => defers_of_passes rfl h (.inl (by decide)) ?_,
    fun h => defers_of_passes rfl h (.inl (by decide)) ?_⟩
  all_goals have hsrc := src_of_passes h
  · exact ⟨rfl, _, rfl, rfl, rfl⟩
  · have hact : s.core.actOf (0x44#8 : Byte).toNat x p = _ := Core.actBaseline_own hsrc
    rw [hact]
    exact ⟨rfl, Core.mapPlaces_congr (fun n : SelfSt => { n with recap := true }) (Core.namesSelf_iff p), Core.mapPlaces_congr (fun n : NodeSt => { n with recap := true }) (s.core.namesNode_iff p)⟩
  · have hact : s.core.actOf (0x50#8 : Byte).toNat x p = s.core.actNodeMap x p := rfl
    rw [hact, Core.actNodeMap, Core.answerFrag_own hsrc]
    refine ⟨_, rfl, fun hkind => ?_⟩
    rw [hkind]
    rfl
  · exact ⟨_, Core.answer_own hsrc _ _ _⟩
  · exact ⟨_, Core.answer_own hsrc _ _ _⟩
  · rfl
  · obtain ⟨honly, hentries, hnone⟩ := s.core.sramMarch_spec
    have hact : s.core.actOf (0x53#8 : Byte).toNat x [1#8] = answered s.core.sramMarch.1 x 0x53#8 0x00#8 false
      (le 1 (bit (!s.core.sramMarch.2.isEmpty)) ++ s.core.sramMarch.2.flatMap FaultEntry.bytes) := by
      show s.core.sramMarch.1.answer x 0x53#8 stOk _ = _
      exact Core.answer_own (by rw [honly]; exact hsrc) _ _ _
    rw [hact]
    refine ⟨s.core.sramMarch.2, ?_, hentries, fun hfault => ?_⟩
    · show s.core.sramMarch.1.host.outRsp ++ _ = _
      rw [honly]
    · rw [hnone hfault]
      refine ⟨rfl, ?_⟩
      dsimp only
      rw [noEntries]
      rfl
  · obtain ⟨honly, hentries, hnone⟩ := s.core.foundFaults_spec
    have hact : s.core.actOf (0x53#8 : Byte).toNat x [k] = answered s.core.foundFaults.1 x 0x53#8 0x00#8 false
      (le 1 (bit (!s.core.foundFaults.2.isEmpty)) ++ s.core.foundFaults.2.flatMap FaultEntry.bytes) := by
      rcases hk with rfl | rfl
      all_goals
        show s.core.foundFaults.1.answer x 0x53#8 stOk _ = _
        exact Core.answer_own (by rw [honly]; exact hsrc) _ _ _
    rw [hact]
    refine ⟨s.core.foundFaults.2, ?_, hentries, fun hfault => ?_, ?_⟩
    · show s.core.foundFaults.1.host.outRsp ++ _ = _
      rw [honly]
    · rw [hnone hfault]
      refine ⟨rfl, ?_⟩
      dsimp only
      rw [noEntries]
      rfl
    · rw [honly]
      exact ⟨rfl, rfl, rfl, rfl, rfl, rfl, rfl, rfl⟩
  · have hact : s.core.actOf (0x83#8 : Byte).toNat x p = s.core.actFingerprint x := rfl
    rw [hact, Core.actFingerprint, hok, if_neg Bool.false_ne_true]
    exact Core.answer_own hsrc _ _ _
  · have hact : s.core.actOf (0x83#8 : Byte).toNat x p = s.core.actFingerprint x := rfl
    rw [hact, Core.actFingerprint, hok, if_pos rfl]
    rfl
  · obtain ⟨d, hm, hhas, heq⟩ := Core.actCoppiceSet_spec hsrc hnamed
    have hact : s.core.actOf (0x81#8 : Byte).toNat x p = _ := heq
    have honly := hm.only
    rw [hact]
    refine ⟨hhas, ?_, ?_⟩
    · show d.host.outRsp ++ _ = _
      rw [honly]
    · rw [honly]
      exact ⟨rfl, rfl, rfl, rfl, rfl, rfl, rfl⟩
  · obtain ⟨d, hm, hhas, heq⟩ := Core.actCoppiceSet_channel hsrc hb
    have hact : s.core.actOf (0x81#8 : Byte).toNat x p = _ := heq
    have honly := hm.only
    rw [hact]
    refine ⟨hhas, ?_⟩
    show d.host.outRsp ++ _ = _
    rw [honly]
  · exact Core.actCoppiceClear_spec hsrc

end Sys2Proof.Machine

/-!
PROOFS. PLL_LOCK and REFRDY (chapter 02, R55, R57, R64, R67, R78, R193, R195, R396, R445): a boot that ends bare, a wake that ends in
Quiet, and the first run of the system sequence.
-/
namespace Sys2Proof.Machine

theorem gives_refrdy (s : State) : Gives .refrdy s s.core.refReady := rfl

theorem firstBlank_uid (o : Otp) (a : KeyArea) : (Core.firstBlank o a).uid = o.uid := by
  unfold Core.firstBlank
  split <;> rfl

theorem spoilOtp_uid (o : Otp) (k : Option KeyProg) : (Core.spoilOtp o k).uid = o.uid := by
  unfold Core.spoilOtp
  split
  · exact firstBlank_uid o .spoiled
  · rfl

theorem exec_pllLock_boot {s : State} {bist : List BistFault} (h : s.core.pw.phase = .boot) :
    exec (.pllLock bist) s = .next { s with
      otp := Core.spoilOtp s.otp s.core.keyProg
      core := s.core.after ((s.core.readOtp (Core.spoilOtp s.otp s.core.keyProg)).bootRest
        (Core.bootFaults (Core.spoilOtp s.otp s.core.keyProg) bist)) } := by
  have hrun : exec (.pllLock bist) s = .next (pllLock bist s) := rfl
  rw [hrun, pllLock, h]

theorem gives_pllLock_wake {s : State} {bist : List BistFault} (hasleep : s.core.pw.phase = .doze ∨ s.core.pw.phase = .watch)
    (hwaking : s.core.pw.waking = true) : Gives (.pllLock bist) s s.core.finishWake := by
  have hrun : exec (.pllLock bist) s = .next (pllLock bist s) := rfl
  rw [Gives, hrun, pllLock]
  rcases hasleep with h | h
  all_goals rw [h]; dsimp only; rw [if_pos hwaking]

/-! What boot reads of NVM (R396). -/

theorem foldl_take (l : List RecId) (n : Nvm) :
    let m := l.foldl (fun n r => n.take r Records.factory) n
    m.slotA = n.slotA ∧ m.slotB = n.slotB ∧
      m.tenants = (if .tenant ∈ l then Records.factory.tenants else n.tenants) ∧
      m.faults = (if .repair ∈ l then Records.factory.faults else n.faults) := by
  induction l generalizing n with
  | nil => exact ⟨rfl, rfl, rfl, rfl⟩
  | cons r l ih =>
    obtain ⟨hA, hB, ht, hf⟩ := ih (n.take r Records.factory)
    refine ⟨hA.trans ?_, hB.trans ?_, ht.trans ?_, hf.trans ?_⟩
    all_goals cases r <;> simp [Nvm.take]

/-- What boot may change of `c` once the profile is loaded: the repair manager, its records, and what a write of NVM changes. -/
def OnlyRepair (c d : Core) : Prop :=
  d = { c with
    nvm := { c.nvm with
      fieldMap := d.nvm.fieldMap, mapPending := d.nvm.mapPending, faultsSaved := d.nvm.faultsSaved, rows := d.nvm.rows
      sparesUsed := d.nvm.sparesUsed, copies := d.nvm.copies, older := d.nvm.older }
    qs := d.qs, host := { c.host with attnsrc := d.host.attnsrc }, free := d.free, rep := d.rep }

namespace OnlyRepair

theorem refl (c : Core) : OnlyRepair c c := rfl

theorem trans {a b c : Core} (h : OnlyRepair a b) (k : OnlyRepair b c) : OnlyRepair a c := by
  unfold OnlyRepair at *
  rw [k, h]

theorem of_nvm {a b : Core} (h : OnlyNvm a b) : OnlyRepair a b := by
  unfold OnlyNvm at h
  unfold OnlyRepair
  rw [h]

theorem of_records {a b : Core} (h : OnlyRecords a b) : OnlyRepair a b := by
  unfold OnlyRecords at h
  unfold OnlyRepair
  rw [h]

theorem foldl {α : Type} {f : Core → α → Core} (hf : ∀ c a, OnlyRepair c (f c a)) (l : List α) (c : Core) : OnlyRepair c (l.foldl f c) :=
  Core.foldl_keeps OnlyRepair refl (fun _ _ _ => trans) f hf l c

end OnlyRepair

/-- The converter is busy once something of the system sequence waits (R198). -/
theorem Sar.start_busy {s : Sar} (h : s.sysQ ≠ []) : (s.start true).cur.isSome = true := by
  unfold Sar.start
  split
  case h_1 v hcur => rw [hcur]; rfl
  case h_2 =>
    split
    · rfl
    · rw [if_pos rfl]
      obtain ⟨e, rest, he⟩ := List.exists_cons_of_ne_nil h
      rw [he]
      rfl

namespace Core

theorem restoreRow_eq (c : Core) :
    c.restoreRow = { c with nvm := { c.nvm with rows := c.restoreRow.nvm.rows, refreshBuf := c.restoreRow.nvm.refreshBuf } } := by
  unfold restoreRow
  split
  · rfl
  · split <;> rfl

theorem mem_lostRecords (c : Core) (r : RecId) : r ∈ c.lostRecords ↔ ((c.pair r).a.sound || (c.pair r).b.sound) = false := by
  have hall : r ∈ RecId.all := by cases r <;> decide
  simp [lostRecords, hall]

theorem ite_lost {α : Type} (c : Core) (r : RecId) (x y : α) :
    (if r ∈ c.lostRecords then x else y) = if (c.pair r).a.sound || (c.pair r).b.sound then y else x := by
  cases h : (c.pair r).a.sound || (c.pair r).b.sound
  · rw [if_pos ((c.mem_lostRecords r).mpr h)]
    rfl
  · rw [if_neg (fun hm => by rw [(c.mem_lostRecords r).mp hm] at h; exact Bool.false_ne_true h)]
    rfl

theorem readNvm_spec (c : Core) :
    c.readNvm = { c with nvm := c.readNvm.nvm, ten := c.readNvm.ten } ∧
    c.readNvm.nvm.slotA = c.nvm.slotA ∧ c.readNvm.nvm.slotB = c.nvm.slotB ∧
    c.readNvm.nvm.tenants = (if (c.pair .tenant).a.sound || (c.pair .tenant).b.sound then c.nvm.tenants else Records.factory.tenants) ∧
    c.readNvm.nvm.faults = (if (c.pair .repair).a.sound || (c.pair .repair).b.sound then c.nvm.faults else Records.factory.faults) := by
  have hrow := c.restoreRow_eq
  unfold readNvm
  dsimp only
  generalize c.restoreRow.nvm.rows = rows at hrow
  generalize c.restoreRow.nvm.refreshBuf = buf at hrow
  rw [hrow]
  obtain ⟨hA, hB, ht, hf⟩ := foldl_take c.lostRecords { c.nvm with rows := rows, refreshBuf := buf }
  rw [c.ite_lost] at ht hf
  exact ⟨rfl, hA, hB, ht, hf⟩

/-- A repair that boot applies acts on the front end and on the slices (R84, R90, R379). -/
theorem applyRepair_only (c : Core) (r : RepairEntry) :
    c.applyRepair r = { c with rep := (c.applyRepair r).rep, acq := (c.applyRepair r).acq } := by
  unfold applyRepair
  split <;> rfl

theorem foldl_applyRepair (l : List RepairEntry) (c : Core) :
    l.foldl applyRepair c = { c with rep := (l.foldl applyRepair c).rep, acq := (l.foldl applyRepair c).acq } :=
  foldl_keeps (fun a b : Core => b = { a with rep := b.rep, acq := b.acq }) (fun _ => rfl)
    (fun a b c h k => by rw [k, h]) applyRepair applyRepair_only l c

/-- What boot reads of OTP and NVM, without the maps it applies (R327, R372, R396). -/
theorem readOtp_spec (c : Core) (o : Otp) :
    let d := c.readOtp o
    d.pw = c.pw ∧ d.hg.uid = o.uid ∧ d.otpc.custodian = custodianKey o ∧ d.keyProg = none ∧ d.nvm = c.readNvm.nvm := by
  obtain ⟨hread, -⟩ := c.readNvm_spec
  have hpw : c.readNvm.pw = c.pw := by rw [hread]
  unfold readOtp
  dsimp only
  rw [foldl_applyRepair]
  exact ⟨hpw, rfl, rfl, rfl, rfl⟩

theorem fitWindows_only (c : Core) : c.fitWindows = { c with node := c.fitWindows.node } := by
  unfold fitWindows
  dsimp only
  split <;> rfl

theorem loadProfile_only (c : Core) (p : Profile) :
    c.loadProfile p = { c with prof := p, sar := (c.loadProfile p).sar, node := (c.loadProfile p).node, acq := (c.loadProfile p).acq } := by
  unfold loadProfile
  rw [fitWindows_only]

theorem loadLinks_only (c : Core) : c.loadLinks = { c with lnk := c.loadLinks.lnk } := by
  unfold loadLinks
  split <;> rfl

theorem loadRecords_only (c : Core) : OnlyRecords c c.loadRecords := foldl_only _ (fun c _ => c.repairEvent_only _ _) _ c

theorem bistFault_only (c : Core) (f : BistFault) : OnlyRepair c (c.bistFault f) := by
  unfold bistFault
  split
  · exact .of_nvm (addRepair_spec _ _).1
  · dsimp only
    have hspare : OnlyRepair c (if f.cls == 1#8 then c.sparesOut 0#8 else c) := by
      split
      · exact .of_nvm (c.sparesOut_only _)
      · exact .refl c
    generalize (if f.cls == 1#8 then c.sparesOut 0#8 else c) = d at *
    have hbist : OnlyRepair d { d with rep := { d.rep with bistf := true } } := rfl
    exact (hspare.trans hbist).trans (.of_records ((attnIf_only _ _ _).trans (eventCustodian_only _ _ _)))

/-- A slot without a marker is not valid (R78). -/
theorem profile_of_unmarked {s : Slot} (h : s.marker = none) (x : CheckCtx) : s.profile x = none := by
  have hmarked : s.marked = false := by
    unfold Slot.marked
    split
    case h_1 hm => rw [h] at hm; exact nomatch hm
    case h_2 => rfl
  rw [Slot.profile, hmarked]
  rfl

theorem selectSlot_of_unmarked {c : Core} (hA : c.nvm.slotA.marker = none) (hB : c.nvm.slotB.marker = none) : c.selectSlot = none := by
  rw [selectSlot, profile_of_unmarked hA, profile_of_unmarked hB]

/-- `c` with the factory profile loaded and its port ready, before boot tells of the reset (steps B6 and B7, R78). -/
def bareStart (c : Core) : Core :=
  let ret := if c.ret.valid then c.ret else { Retention.none with valid := true, cause := c.pw.cause }
  let c := { c with ret := ret, hg := { c.hg with requested := ret.addr } }
  let c := { c.loadProfile Profile.factory with slot := none, gen := 0, image := [] }
  let c := { c with ret := { c.ret with slot := none } }
  ((c.loadLinks).modPw (fun p => { p with ready := true, refbuf := true })).attnIf c.pw.provPin 14

theorem bareStart_spec (c : Core) :
    let d := c.bareStart
    d.pw = { c.pw with ready := true, refbuf := true } ∧ d.prof = Profile.factory ∧ d.slot = none ∧ d.hg.uid = c.hg.uid ∧
      d.otpc = c.otpc ∧ d.keyProg = c.keyProg ∧ d.ret.valid = true ∧ d.nvm = c.nvm := by
  unfold bareStart
  dsimp only
  rw [attnIf_eq, loadLinks_only, loadProfile_only]
  refine ⟨rfl, rfl, rfl, rfl, rfl, rfl, ?_, rfl⟩
  show (if c.ret.valid then c.ret else _).valid = true
  split
  · assumption
  · rfl

/-- What a boot in BARE has told of the reset, the records and the faults it found (R69, R375, R396, Table POWER-6). -/
def bareTold (c : Core) (faults : List BistFault) : Core :=
  ((faults.foldl bistFault ((c.bareStart.tileReset (if c.ret.valid then c.ret.lost else List.replicate 16 0#8)).loadRecords)
    ).eventCustodian 0x03 []).regrade.latchRpr

theorem bareTold_only (c : Core) (faults : List BistFault) : OnlyRepair c.bareStart (c.bareTold faults) := by
  refine OnlyRepair.trans ?_ ((OnlyRepair.of_nvm (regrade_only _)).trans rfl)
  refine OnlyRepair.trans ?_ (.of_records (eventCustodian_only _ _ _))
  refine OnlyRepair.trans ?_ (.foldl bistFault_only _ _)
  exact .of_records ((tileReset_only _ _).trans (loadRecords_only _))

/-- A boot without a valid slot ends bare (R55, R78). -/
theorem bootRest_of_bare {c : Core} (faults : List BistFault) (hA : c.nvm.slotA.marker = none) (hB : c.nvm.slotB.marker = none) :
    c.bootRest faults = (c.bareTold faults).setPhase .bare := by
  have hbare : (c.bareTold faults).isBare = true := by
    rw [isBare, show (c.bareTold faults).slot = none by rw [c.bareTold_only faults]; exact c.bareStart_spec.2.2.1]
    rfl
  have hrun : c.bootRest faults = if (c.bareTold faults).isBare then (c.bareTold faults).setPhase .bare else (c.bareTold faults).enterStanding := by
    unfold bootRest
    extract_lets ok lost ret₀ c₁ hg₁ c₂ sel
    have hsel : sel = none := selectSlot_of_unmarked hA hB
    clear_value sel
    subst hsel
    rfl
  rw [hrun, if_pos hbare]

theorem goAwake_quiet {c : Core} (hbare : c.isBare = false) (hrun : c.pw.phase ≠ .run) : c.goAwake .quiet = c.setPhase .quiet := by
  have hnot : (c.pw.phase == Phase.run) = false := beq_eq_false_iff_ne.mpr hrun
  rw [goAwake, hbare, hnot]
  rfl

/-- The tile is in Quiet, with physical presence as it is sampled (R52, R219). -/
theorem awakeQuiet (c : Core) (pin keys : Bool) : ∃ w, (c.setPhase .quiet).setPresence pin keys =
    { c with pw := { c.pw with phase := .quiet, provPin := pin, provKeys := keys }, host := { c.host with attnsrc := w } } := by
  unfold setPresence setPhase
  rw [attnIf_eq, attnIf_eq]
  exact ⟨_, rfl⟩

/-- An empty relay buffer has nothing to drop (R273). -/
theorem dropOld_of_empty {c : Core} (h : c.hg.relay = []) : c.dropOld = c := by
  unfold dropOld
  rw [h, List.filter_nil, List.filter_nil, List.foldl_nil]
  exact congrArg (fun r => { c with hg := { c.hg with relay := r } }) h.symm

/-- The end of a wake to Quiet (R55, R57). -/
theorem finishWake_quiet {c : Core} (hphase : c.pw.phase ≠ .run) (htarget : c.pw.wakeTarget = .quiet) (hfloor : c.pw.floor = 2#4)
    (hslot : c.slot.isSome = true) (hbist : c.rep.bistf = false) (hcs : c.pw.csWoke = false) (hrelay : c.hg.relay = []) :
    OnlyRecords { c with pw := { c.pw with
      phase := .quiet, provPin := c.pw.provLow, waking := false, refbuf := true, refrdy := false, reqState := false
      wakecnt := if c.pw.wakecnt = 0xFFFF#16 then 0xFFFF#16 else c.pw.wakecnt + 1#16 } } c.finishWake := by
  have hgo : higher c.pw.wakeTarget c.floorPhase = .quiet := by
    rw [htarget, floorPhase, hfloor]
    rfl
  unfold finishWake
  extract_lets p₀ cs t c₁ c₂ c₃ c₄
  have hquiet : c₂.goAwake .quiet = c₂.setPhase .quiet :=
    goAwake_quiet (show c.isBare = false by rw [isBare, Option.isNone_eq_false_iff.mpr hslot, hbist]; rfl) hphase
  have hawake : c₃ = (c₂.goAwake .quiet).setPresence c.pw.provLow c.pw.provKeys := by
    rw [← hgo]
    rfl
  obtain ⟨w, hw⟩ := c₂.awakeQuiet c.pw.provLow c.pw.provKeys
  rw [hquiet, hw] at hawake
  have hsame : c₄ = c₃ := dropOld_of_empty (by rw [hawake]; exact hrelay)
  rw [show cs = false from hcs, if_neg Bool.false_ne_true, hsame, hawake, ← incSat_eq, hcs]
  rfl

/-- A run that is due with a monitor burst begins, and takes the burst with it (R195). -/
theorem sysRun_of_burst {c : Core} (hrdy : c.pw.refrdy = true) (hburst : c.sar.burstDue = true) :
    c.sysRun = { c with sar := c.sysRun.sar } ∧ c.sysRun.sar.cur.isSome = true ∧ c.sysRun.sar.burstDue = false ∧
      c.sysRun.sar.urgent = c.sar.urgent := by
  refine ⟨rfl, ?_, ?_, ?_⟩
  all_goals
    unfold sysRun sarStart modSar
    rw [hburst]
    dsimp only
    rw [hrdy, Bool.true_or, if_pos rfl]
  · refine Sar.start_busy fun hnone => ?_
    exact absurd (List.append_eq_nil_iff.mp (List.append_eq_nil_iff.mp hnone).2).2 (by decide)
  · rw [Sar.start_frame]
  · rw [Sar.start_frame]

end Core

/-- Settles O3: a boot without a marked slot ends bare, a wake ends at what it named, and REFRDY starts the system sequence. -/
theorem lockAndReferenceComplete : Obligations.LockAndReferenceComplete := by
  refine ⟨fun s bist hboot hA hB => ⟨_, exec_pllLock_boot hboot, ?_⟩,
    fun s bist hasleep hwaking htarget hfloor hslot hbist hcs hrelay => ⟨_, gives_pllLock_wake hasleep hwaking,
      Core.finishWake_quiet (by rcases hasleep with h | h <;> rw [h] <;> decide) htarget hfloor hslot hbist hcs hrelay⟩,
    fun s hbuf hrdy => ⟨_, gives_refrdy s, ?_⟩⟩
  · obtain ⟨hreadA, hreadSlotA, hreadSlotB, hten, hfaults⟩ := s.core.readNvm_spec
    obtain ⟨hpw, huid, hkey, hprog, hnvm⟩ := s.core.readOtp_spec (Core.spoilOtp s.otp s.core.keyProg)
    generalize s.core.readOtp (Core.spoilOtp s.otp s.core.keyProg) = c at *
    rw [Core.bootRest_of_bare _ (by rw [hnvm, hreadSlotA, hA]) (by rw [hnvm, hreadSlotB, hB])]
    have honly := c.bareTold_only (Core.bootFaults (Core.spoilOtp s.otp s.core.keyProg) bist)
    obtain ⟨hpw', hprof, hslot, huid', hotpc, hprog', hvalid, hnvm'⟩ := c.bareStart_spec
    generalize c.bareTold (Core.bootFaults (Core.spoilOtp s.otp s.core.keyProg) bist) = d at *
    have hend : d.setPhase .bare = { d with pw := { d.pw with phase := .bare }, host := { d.host with attnsrc := (d.setPhase .bare).host.attnsrc } } :=
      Core.attnIf_eq _ _ _
    simp only [Core.after_pw, Core.after_prof, Core.after_slot, Core.after_hg, Core.after_otpc, Core.after_keyProg, Core.after_ret, Core.after_nvm]
    rw [hend, honly]
    dsimp only
    rw [hpw', hnvm', hnvm]
    exact ⟨rfl, rfl, rfl, hprof, hslot, huid'.trans (huid.trans (spoilOtp_uid _ _)), (congrArg _ hotpc).trans hkey, hprog'.trans hprog, hvalid, hten, hfaults⟩
  · have hrun : s.core.refReady = (({ s.core with
        pw := { s.core.pw with refrdy := true }
        host := { s.core.host with attnsrc := if s.core.pw.ready then s.core.host.attnsrc ||| 0x0080#16 else s.core.host.attnsrc }
        keys := { s.core.keys with ladders := s.core.keys.ladders.map (fun l => { l with seen := false }) }
        sar := { s.core.sar with burstDue := true } } : Core)).sysRun := by
      unfold Core.refReady
      rw [hbuf, hrdy]
      have hattn : ∀ b, ((s.core.modPw (fun p => { p with refrdy := b })).attn 7) = { s.core with
          pw := { s.core.pw with refrdy := b }
          host := { s.core.host with attnsrc := if s.core.pw.ready then s.core.host.attnsrc ||| 0x0080#16 else s.core.host.attnsrc } } := by
        intro b
        unfold Core.attn Core.modPw
        dsimp only
        split <;> rfl
      rw [Bool.not_false, Bool.and_true, Core.when_true, hattn]
      rfl
    rw [hrun]
    exact Core.sysRun_of_burst rfl rfl

end Sys2Proof.Machine

/-!
PROOFS. Frames that arrive on a port (chapter 08, R253, R274, R277): what taking one leaves unchanged, and that an acknowledged frame which
is next in order is acknowledged and acts.
-/
namespace Sys2Proof.Machine

/-- `d` is `c` but for frames that wait on its ports or leave those handed on. -/
structure OnlyLines (c d : Core) : Prop where
  only : d = { c with lnk := d.lnk }
  ports : ∀ q : Port, d.port q = { c.port q with txq := (d.port q).txq, delivered := (d.port q).delivered }
  length : d.lnk.length = c.lnk.length
  kept : ∀ (q : Port), ∀ f ∈ (c.port q).txq, f ∈ (d.port q).txq

namespace OnlyLines

theorem refl (c : Core) : OnlyLines c c := ⟨rfl, fun _ => rfl, rfl, fun _ _ h => h⟩

theorem trans {a b c : Core} (h : OnlyLines a b) (k : OnlyLines b c) : OnlyLines a c := by
  refine ⟨?_, fun q => by rw [k.ports, h.ports], k.length.trans h.length, fun q f hf => k.kept q f (h.kept q f hf)⟩
  rw [k.only, h.only]

theorem of_queued {c d : Core} (h : Queued c d) : OnlyLines c d :=
  ⟨h.only.1, fun q => by rw [h.only.2 q], h.length, h.kept⟩

theorem hport {c d : Core} (h : OnlyLines c d) (p : Port) : d.hport p = c.hport p := by rw [h.only]; rfl
theorem hg {c d : Core} (h : OnlyLines c d) : d.hg = c.hg := by rw [h.only]
theorem pw {c d : Core} (h : OnlyLines c d) : d.pw = c.pw := by rw [h.only]
theorem nvm {c d : Core} (h : OnlyLines c d) : d.nvm = c.nvm := by rw [h.only]
theorem prof {c d : Core} (h : OnlyLines c d) : d.prof = c.prof := by rw [h.only]
theorem trk {c d : Core} (h : OnlyLines c d) : d.trk = c.trk := by rw [h.only]
theorem hp {c d : Core} (h : OnlyLines c d) : d.hp = c.hp := by rw [h.only]
theorem cfg {c d : Core} (h : OnlyLines c d) (p : Port) : (d.port p).cfg = (c.port p).cfg := by rw [h.ports p]

theorem isTile {c d : Core} (h : OnlyLines c d) (p : Port) : d.isTile p = c.isTile p := by rw [Core.isTile, h.cfg]; rfl
theorem isWire {c d : Core} (h : OnlyLines c d) (p : Port) : d.isWire p = c.isWire p := by rw [Core.isWire, h.cfg]; rfl

theorem linkUp {c d : Core} (h : OnlyLines c d) (p : Port) : d.linkUp p = c.linkUp p := by
  rw [Core.linkUp, h.hport, h.ports p]
  rfl

/-- With the frames that wait a core differs from another by lines and hedge sides only. -/
theorem of_hp {c d : Core} {hp : List HedgePort} (h : OnlyLines { c with hp := hp } d) : d = { c with lnk := d.lnk, hp := d.hp } := by
  rw [h.only]

end OnlyLines

/-- A port's hedge side once a valid frame has come (R274, R277). -/
def HedgePort.heard (h : HedgePort) : HedgePort := { h with asleep := false, present := true, wakeTry := none }

/-- A port's hedge side once an acknowledged frame of number `n` is accepted (R253, R274). -/
def HedgePort.taken (n : BitVec 4) (h : HedgePort) : HedgePort := { h.heard with lseqRx := n + 1#4 }

namespace Core

/-- A hedge side after a change of one. -/
theorem modHp_hport (c : Core) (p q : Port) (f : HedgePort → HedgePort) :
    (c.modHp p f).hport q = if p = q ∧ q.val < c.hp.length then f (c.hport q) else c.hport q := by
  simp only [hport, modHp, modifyAt_getD, Fin.ext_iff]

theorem modHp_hport_of_ne (c : Core) {p q : Port} (h : q ≠ p) (f : HedgePort → HedgePort) : (c.modHp p f).hport q = c.hport q := by
  rw [modHp_hport, if_neg (fun hpq => h hpq.1.symm)]

/-- What a change of a hedge side leaves as it is stays on every port. -/
theorem modHp_keeps {α : Type} {f : HedgePort → HedgePort} {g : HedgePort → α} (hg : ∀ h, g (f h) = g h) (c : Core) (p q : Port) :
    g ((c.modHp p f).hport q) = g (c.hport q) := by
  rw [modHp_hport]
  split
  · exact hg _
  · rfl

theorem modHp_modHp (c : Core) (p : Port) (f g : HedgePort → HedgePort) : (c.modHp p f).modHp p g = c.modHp p (fun h => g (f h)) :=
  congrArg (fun l => { c with hp := l }) (modifyAt_modifyAt c.hp p.val f g)

/-- A hedge side that is not as at reset is one of the tile's. -/
theorem lt_length_of_hport {c : Core} {p : Port} {P : HedgePort → Prop} (h : P (c.hport p)) (hreset : ¬ P HedgePort.reset) :
    p.val < c.hp.length := by
  by_contra hout
  exact hreset (by simpa [hport, List.getElem?_eq_none (Nat.le_of_not_lt hout)] using h)

/-- The line side of a port on which a frame has come (R235). -/
theorem heard_port (c : Core) (p q : Port) (body : LinkBody) (n : BitVec 4) : (c.heard p body n).port q =
    { c.port q with delivered := ((c.heard p body n).port q).delivered } := by
  have hport : (c.heard p body n).port q = (c.modPort p (fun l => { l with delivered := l.delivered.eraseP (fun d => d.bytes == body.frame n) })).port q := rfl
  rw [hport, modPort_port]
  split <;> rfl

theorem heard_lines (c : Core) (p : Port) (body : LinkBody) (n : BitVec 4) : OnlyLines (c.modHp p HedgePort.heard) (c.heard p body n) := by
  refine ⟨rfl, fun q => ?_, modifyAt_length _ _ _, fun q f hf => ?_⟩
  · rw [c.heard_port]
    rfl
  · rw [c.heard_port]
    exact hf

theorem heard_hport (c : Core) (p q : Port) (body : LinkBody) (n : BitVec 4) :
    (c.heard p body n).hport q = (c.modHp p HedgePort.heard).hport q := rfl

/-- An acknowledged frame is accepted, and its ACK waits (R253). -/
def taken (c : Core) (p : Port) (body : LinkBody) (n : BitVec 4) : Core :=
  ((c.heard p body n).modHp p (fun h => { h with lseqRx := n + 1#4 })).sendFrame p (.ack n)

theorem taken_lines (c : Core) (p : Port) (body : LinkBody) (n : BitVec 4) :
    OnlyLines (c.modHp p (HedgePort.taken n)) (c.taken p body n) := by
  refine OnlyLines.trans ?_ (.of_queued (sendFrame_queued _ _ _))
  have hheard := c.heard_lines p body n
  have hhp : (c.heard p body n).modHp p (fun h => { h with lseqRx := n + 1#4 }) =
      { (c.modHp p (HedgePort.taken n)) with lnk := (c.heard p body n).lnk } :=
    congrArg (fun l => { c with lnk := (c.heard p body n).lnk, hp := l })
      (modifyAt_modifyAt c.hp p.val HedgePort.heard (fun h => { h with lseqRx := n + 1#4 }))
  rw [hhp]
  exact ⟨rfl, hheard.ports, hheard.length, hheard.kept⟩

/-- An accepted frame's ACK waits (R253). -/
theorem exists_ack {c : Core} {p : Port} (hp : p.val < c.lnk.length) (body : LinkBody) (n : BitVec 4) :
    ∃ f ∈ ((c.taken p body n).port p).txq, f.body = .ack n :=
  exists_sent _ p (.ack n) ((c.heard_lines p body n).length.trans_gt hp)

/-- A frame that is next in order acts (R253). -/
theorem accepted_of_next {c : Core} {p : Port} (hears : c.hears p = true) (body : LinkBody) (act : Core → Core) :
    c.accepted p (c.hport p).lseqRx body act = act (c.taken p body (c.hport p).lseqRx) := by
  have hdue : ((c.heard p body (c.hport p).lseqRx).hport p).lseqRx = (c.hport p).lseqRx :=
    modHp_keeps (f := HedgePort.heard) (g := HedgePort.lseqRx) (fun _ => rfl) c p p
  unfold accepted
  rw [hears]
  dsimp only
  rw [if_neg (by decide), hdue, beq_self_eq_true, if_pos rfl]
  rfl

/-- Neither hearing a frame nor taking one changes whether a port is MISWIRED (R257). -/
theorem wired_taken (c : Core) (p q : Port) (body : LinkBody) (n : BitVec 4) : (c.taken p body n).wired q = c.wired q := by
  rw [wired, (c.taken_lines p body n).hport]
  exact congrArg not (modHp_keeps (f := HedgePort.taken n) (g := HedgePort.miswired) (fun _ => rfl) c p q)

/-! What is sent out leaves this tile's counts as they are (R271). -/

theorem sendOut_hg (c : Core) (b : List Byte) (arrival : Option Port) :
    (c.sendOut b arrival).hg = { c.hg with relay := (c.sendOut b arrival).hg.relay } := by
  unfold sendOut
  split
  · rw [(foldl_onlyTxq _ (fun c p => c.sendPacketOn_only p b none false) _ c).1]
  · split
    · rfl
    · rfl

/-- A packet of the hedge layer takes one number (R261). -/
theorem hedgeSend_ownSeq (c : Core) (dst : Addr) (op : Nat) (payload : List Byte) :
    (c.hedgeSend dst op payload).hg.ownSeq = c.hg.ownSeq + 1#16 := by
  have hpacket : (c.hedgePacket dst op payload).1.hg.ownSeq = c.hg.ownSeq + 1#16 := by
    unfold hedgePacket
    dsimp only
    split <;> rfl
  unfold hedgeSend
  rw [← hpacket]
  dsimp only
  rw [sendOut_hg]
  split <;> rfl

end Core

end Sys2Proof.Machine

/-!
PROOFS. HELLO, JOIN and ADMIT (chapters 01, 02 and 08, R24, R70, R71, R253, R256, R257, R267).
-/
namespace Sys2Proof.Machine

theorem gives_hello (p : Port) (n : BitVec 4) (h : Hello) (s : State) : Gives (.hello p n h) s (s.core.takeHello p n h) := rfl
theorem gives_helloPeriodic (s : State) : Gives .helloPeriodic s (s.core.when s.core.fast Core.helloAll) := rfl
theorem gives_join (p : Port) (n : BitVec 4) (h : Hello) (a : Addr) (s : State) : Gives (.join p n h a) s (s.core.takeJoin p n h a) := rfl
theorem gives_admission (p : Port) (n : BitVec 4) (a : Admission) (s : State) : Gives (.admission p n a) s (s.core.takeAdmit p n a) := rfl

namespace Core

theorem onlyRecords_modHp {c d : Core} (h : OnlyRecords c d) (p : Port) (f : HedgePort → HedgePort) :
    OnlyRecords (c.modHp p f) (d.modHp p f) := by
  unfold OnlyRecords at *
  rw [h]
  rfl

/-- The check of the wiring on a TILE port (R24, R257). -/
def isMiswired (c : Core) (p : Port) (h : Hello) : Bool := c.isTile p && h.port.toNat != (p.val + 3) % 6

theorem checkWiring_only (c : Core) (p : Port) (h : Hello) :
    OnlyRecords (c.modHp p (fun x => { x with miswired := c.isMiswired p h })) (c.checkWiring p h) := by
  unfold checkWiring isMiswired
  cases c.isTile p
  · exact .refl _
  · have hport : (oppositePort p).val = (p.val + 3) % 6 := rfl
    dsimp only
    rw [Bool.not_true, if_neg Bool.false_ne_true, hport, Bool.true_and]
    refine onlyRecords_modHp ?_ _ _
    split
    · exact c.eventCustodian_only _ _
    · exact .refl c

theorem leaveAlone_of_not {c : Core} (h : c.hg.wireJoined = false) (p : Port) : c.leaveAlone p = c := by
  rw [leaveAlone, h]
  rfl

theorem rejoin_only (c : Core) (p : Option Port) : OnlyTxq c (c.rejoin p) := by
  unfold rejoin
  split
  · exact when_keeps OnlyTxq OnlyTxq.refl _ _ _ (c.sendFrame_only _ _)
  · exact .refl c

/-- A tile with a confirmed address does not ask for admission (R267). -/
theorem tryJoin_of_confirmed {c : Core} (h : c.hg.confirmed = true) : c.tryJoin = c := by
  rw [tryJoin, askJoin, h, Bool.true_or, if_pos rfl, ite_self]

/-- The hedge side of a port after a HELLO (R253, R256, R257). -/
def helloSide (c : Core) (p : Port) (n : BitVec 4) (h : Hello) (x : HedgePort) : HedgePort :=
  { x.taken n with miswired := c.isMiswired p h, partner := some h }

/-- A HELLO to a tile that has its place is kept (R253, R256, R257). -/
theorem takeHello_of_confirmed {c : Core} {p : Port} (hears : c.hears p = true) (hconf : c.hg.confirmed = true) (hrelay : c.hg.relay = [])
    (halone : c.hg.wireJoined = false) (n : BitVec 4) (h : Hello) :
    OnlyRecords { c with lnk := (c.takeHello p n h).lnk, hp := modifyAt c.hp p.val (c.helloSide p n h) } (c.takeHello p n h) := by
  have htaken := c.taken_lines p (.hello h) n
  have hmis : (c.taken p (.hello h) n).isMiswired p h = c.isMiswired p h := by rw [isMiswired, htaken.isTile]; rfl
  have hwiring := (c.taken p (.hello h) n).checkWiring_only p h
  have hrun : c.takeHello p n h =
      let d := (((c.taken p (.hello h) n).checkWiring p h).modHp p (fun x => { x with partner := some h })).leaveAlone p
      (if (d.hg.roster.byUid h.uid).any (fun t => t.lost) then d.rejoin (some p) else d.tryJoin).relayRetry := by
    unfold takeHello
    rw [hears]
    rfl
  rw [hmis] at hwiring
  rw [hrun]
  generalize (c.taken p (.hello h) n).checkWiring p h = d at *
  have hhg : d.hg = c.hg := hwiring.hg.trans htaken.hg
  have hd : OnlyRecords { c with lnk := d.lnk, hp := modifyAt c.hp p.val (c.helloSide p n h) } (d.modHp p (fun x => { x with partner := some h })) := by
    have hsame : ({ c with lnk := d.lnk, hp := modifyAt c.hp p.val (c.helloSide p n h) } : Core) =
        (((c.taken p (.hello h) n).modHp p (fun x => { x with miswired := c.isMiswired p h })).modHp p (fun x => { x with partner := some h })) := by
      rw [modHp_modHp, modHp, htaken.hp, hwiring.lnk]
      show _ = ({ c.taken p (.hello h) n with hp := modifyAt (modifyAt c.hp p.val (HedgePort.taken n)) p.val _ } : Core)
      rw [modifyAt_modifyAt]
      generalize c.taken p (.hello h) n = e at *
      rw [htaken.only]
      rfl
    rw [hsame]
    exact onlyRecords_modHp hwiring _ _
  generalize he : d.modHp p (fun x => { x with partner := some h }) = e at *
  have hehg : e.hg = c.hg := hd.hg
  have hsend : OnlyTxq e (if (e.hg.roster.byUid h.uid).any (fun t => t.lost) then e.rejoin (some p) else e.tryJoin) := by
    split
    · exact e.rejoin_only _
    · rw [tryJoin_of_confirmed (by rw [hehg, hconf])]
      exact .refl e
  dsimp only
  rw [leaveAlone_of_not (by rw [hehg, halone])]
  generalize (if (e.hg.roster.byUid h.uid).any (fun t => t.lost) then e.rejoin (some p) else e.tryJoin) = f at *
  have hf := hsend.1
  rw [relayRetry_of_empty (by rw [hf]; exact (congrArg Hedge.relay hehg).trans hrelay)]
  unfold OnlyRecords at *
  rw [hf, hd]

theorem lowestKnown_blind {c d : Core} (h : OnlyTxq c d) : d.lowestKnown = c.lowestKnown := by
  have htile : ∀ p, d.isTile p = c.isTile p := fun p => by rw [isTile, h.2 p]; rfl
  have hport : ∀ p, d.hport p = c.hport p := fun p => by rw [h.1]; rfl
  have hhg : d.hg = c.hg := by rw [h.1]
  simp only [lowestKnown, hhg, htile, hport]

/-- The frames that wait do not change what HELLO says. -/
theorem helloBody_blind : TxqBlind (fun c p => LinkBody.hello (c.helloBody p)) := by
  intro c d p h
  have hhg : d.hg = c.hg := by rw [h.1]
  have hpw : d.pw = c.pw := by rw [h.1]
  simp only [helloBody, hhg, hpw, lowestKnown_blind h]

/-- JOIN at a sponsor that is not the root goes on to it (R267). -/
theorem takeJoin_of_next {c : Core} {p : Port} (hears : c.hears p = true) (hwired : (c.hport p).miswired = false)
    (hconf : c.hg.confirmed = true) (hroot : c.hg.panelRoot = false) (h : Hello) (a : Addr) :
    ∃ d op payload, OnlyLines (c.modHp p (HedgePort.taken (c.hport p).lseqRx)) d ∧ c.takeJoin p (c.hport p).lseqRx h a =
      (d.modHg (fun x => { x with joinWait := x.joinWait.filter (fun w => w.2 != h.uid) ++ [(p, h.uid)] })).hedgeSend 0x3FE#10 op payload := by
  have htaken := c.taken_lines p (.join h a) (c.hport p).lseqRx
  have hw : (c.taken p (.join h a) (c.hport p).lseqRx).wired p = true := by rw [wired_taken, wired, hwired]; rfl
  unfold takeJoin
  rw [accepted_of_next hears]
  dsimp only
  generalize c.taken p (.join h a) (c.hport p).lseqRx = d at *
  have hhg : d.hg = c.hg := htaken.hg
  rw [hw, hhg, hconf, Bool.true_and, if_pos rfl, toRoot, if_neg (by show ¬ d.hg.panelRoot = true; rw [hhg, hroot]; exact Bool.false_ne_true)]
  exact ⟨d, _, _, htaken, rfl⟩

/-- The address, the position and the panel that a grant gives (R71, R267). -/
def granted (c : Core) (g : JoinGrant) (root : Uid) : Core :=
  ((c.takeAddress g.addr g.u g.v).modHg (fun h =>
    { h with panel := g.panel, epoch := g.epoch, joinRefused := false, handoverDue := decide (h.uid.toNat < root.toNat), lowestRoot := root })).syncRet

theorem noteRoot_hg (c : Core) (uid : Uid) :
    c.noteRoot uid = { c with hg := { c.hg with lowestRoot := (c.noteRoot uid).hg.lowestRoot, rootAddr := (c.noteRoot uid).hg.rootAddr } } := by
  unfold noteRoot
  split
  · split
    · rfl
    · rfl
  · rfl

theorem takeAdmission_grant {c : Core} {p : Port} {g : JoinGrant} (huid : g.uid = c.hg.uid) (hroot : c.hg.panelRoot = false)
    (hconf : c.hg.confirmed = false) (hpos : c.hg.posConflict = false) (hmode : c.isWire p = false) :
    ∃ root, c.takeAdmission p (.grant g) = (c.granted g root).noteRoot root := by
  unfold takeAdmission
  dsimp only
  rw [huid, hroot, hconf, hpos, beq_self_eq_true]
  have hwire : ∀ f : Hedge → Hedge, ((c.takeAddress g.addr g.u g.v).modHg f).isWire p = false := fun _ => hmode
  rw [if_pos (by rfl), hwire]
  exact ⟨_, rfl⟩

theorem takeAdmission_refuse {c : Core} (p : Port) (r : RefuseReason) (hconf : c.hg.confirmed = false) :
    c.takeAdmission p (.refuse c.hg.uid r) = c.modHg (fun h => { h with joinRefused := true }) := by
  unfold takeAdmission
  dsimp only
  rw [hconf, beq_self_eq_true]
  rfl

theorem takeAdmit_of_next {c : Core} {p : Port} (hears : c.hears p = true) (hwired : (c.hport p).miswired = false) (a : Admission) :
    c.takeAdmit p (c.hport p).lseqRx a = (c.taken p (.admission a) (c.hport p).lseqRx).takeAdmission p a := by
  unfold takeAdmit
  rw [accepted_of_next hears, wired_taken, wired, hwired]
  rfl

end Core

/-- Settles O18: a HELLO is kept on its port, a JOIN goes on to the root, and an ADMIT gives or refuses a place. -/
theorem helloAndAdmissionComplete : Obligations.HelloAndAdmissionComplete := by
  refine ⟨fun s p n h hears hconf hrelay halone hp => ⟨_, gives_hello p n h s, ?_⟩,
    fun s hfast => ⟨_, gives_helloPeriodic s, ?_⟩,
    fun s p h a hears hwired hconf hroot => ⟨_, gives_join p _ h a s, ?_⟩,
    fun s p g hears hwired hmode hconf hroot hpos huid => ⟨_, gives_admission p _ _ s, ?_⟩,
    fun s p r hears hwired hconf => ⟨_, gives_admission p _ _ s, ?_⟩⟩
  · have hkept := Core.takeHello_of_confirmed hears hconf hrelay halone n h
    have hhp : (s.core.takeHello p n h).hp = modifyAt s.core.hp p.val (s.core.helloSide p n h) := hkept.hp
    have hport : ∀ q, (s.core.takeHello p n h).hport q = (s.core.modHp p (s.core.helloSide p n h)).hport q := fun q => by
      rw [Core.hport, hhp]
      rfl
    have hself := Core.modHp_hport_self hp (s.core.helloSide p n h)
    refine ⟨by rw [hhp]; exact hkept, ?_, ?_, ?_, ?_, ?_, fun q hq => by rw [hport, Core.modHp_hport_of_ne _ hq]⟩
    all_goals rw [hport, hself]; rfl
  · rw [hfast, Core.when_true]
    refine ⟨s.core.helloAll_only, fun p hp hhello => ?_⟩
    exact Core.exists_sendEach Core.helloPort_blind Core.helloBody_blind Core.ports s.core (Core.mem_ports p) hhello hp
  · obtain ⟨d, op, payload, hd, hrun⟩ := Core.takeJoin_of_next hears hwired hconf hroot h a
    rw [hrun]
    generalize hw : d.modHg (fun x => { x with joinWait := x.joinWait.filter (fun w => w.2 != h.uid) ++ [(p, h.uid)] }) = e
    have hsent := e.hedgeSend_posted 0x3FE#10 op payload
    have hseq := e.hedgeSend_ownSeq 0x3FE#10 op payload
    generalize e.hedgeSend 0x3FE#10 op payload = f at *
    have hhg := hsent.hg
    have hehg : e.hg = { s.core.hg with joinWait := s.core.hg.joinWait.filter (fun w => w.2 != h.uid) ++ [(p, h.uid)] } := by
      have hdhg : d.hg = s.core.hg := hd.hg
      rw [← hw, ← hdhg]
      rfl
    have hrest := hsent.only
    rw [hseq, hehg, hrest]
    subst hw
    rw [hehg]
    exact ⟨rfl, rfl, hd.pw, hd.nvm, hd.trk, hd.prof, rfl, rfl⟩
  · have htaken := s.core.taken_lines p (.admission (.grant g)) (s.core.hport p).lseqRx
    rw [Core.takeAdmit_of_next hears hwired]
    generalize s.core.taken p (.admission (.grant g)) (s.core.hport p).lseqRx = d at *
    have hdhg : d.hg = s.core.hg := htaken.hg
    obtain ⟨root, hroot'⟩ := Core.takeAdmission_grant (c := d) (p := p) (g := g) (by rw [hdhg, huid]) (by rw [hdhg, hroot])
      (by rw [hdhg, hconf]) (by rw [hdhg, hpos]) (by rw [htaken.isWire]; exact beq_eq_false_iff_ne.mpr hmode)
    rw [hroot', Core.noteRoot_hg]
    exact ⟨rfl, rfl, rfl, rfl, rfl, rfl, rfl, rfl, rfl, rfl, rfl, rfl, htaken.pw, htaken.nvm, htaken.prof, htaken.trk⟩
  · have htaken := s.core.taken_lines p (.admission (.refuse s.core.hg.uid r)) (s.core.hport p).lseqRx
    rw [Core.takeAdmit_of_next hears hwired]
    generalize s.core.taken p (.admission (.refuse s.core.hg.uid r)) (s.core.hport p).lseqRx = d at *
    have hdhg : d.hg = s.core.hg := htaken.hg
    have hrun := Core.takeAdmission_refuse (c := d) p r (by rw [hdhg, hconf])
    rw [hdhg] at hrun
    rw [hrun, htaken.only]
    rfl

end Sys2Proof.Machine

/-!
PROOFS. Frames between partners and the delay measurement (chapters 07 and 08, R249, R250, R252, R259, R274, R275, R277).
-/
namespace Sys2Proof.Machine

theorem gives_ka (p : Port) (st : Byte) (s : State) : Gives (.ka p st) s (s.core.takeKa p st) := rfl
theorem gives_keepaliveSend (p : Port) (s : State) : Gives (.keepaliveSend p) s (s.core.sendKa p) := rfl
theorem gives_keepaliveLoss (p : Port) (s : State) : Gives (.keepaliveLoss p) s (s.core.keepaliveLoss p) := rfl
theorem gives_doze (p : Port) (n : BitVec 4) (st : Byte) (s : State) : Gives (.doze p n st) s (s.core.takeDoze p n st) := rfl
theorem gives_echoReq (p : Port) (n : BitVec 4) (s : State) : Gives (.echoReq p n) s (s.core.takeEchoReq p n) := rfl
theorem gives_quickset (p : Port) (s : State) : Gives (.quickset p) s (s.core.takeQuickset p) := rfl
theorem gives_ready (p : Port) (s : State) : Gives (.ready p) s (s.core.takeReady p) := rfl
theorem gives_wakeThroughTimeout (p : Port) (s : State) : Gives (.wakeThroughTimeout p) s (s.core.wakeTimeout p) := rfl
theorem gives_delayMeasure (p : Port) (s : State) : Gives (.delayMeasure p) s (s.core.measureDelay p) := rfl
theorem gives_delayProbe (p : Port) (edge : Nat) (s : State) :
    Gives (.delayProbe p edge) s (s.core.takeProbe p edge (s.core.port p).cfg.echoD) := rfl

namespace Core

theorem isWire_of_mode {c : Core} {p : Port} (h : (c.port p).cfg.mode = 2#2) : c.isWire p = true := by rw [isWire, h]; rfl

/-- What a lost partner leaves of its hedge side, and of the tile beside the hedge layer (R275, R277). -/
theorem partnerLost_spec {c : Core} {p : Port} (hp : p.val < c.hp.length) {cause : LossCause} (hcause : cause ≠ .severed) :
    (c.partnerLost p cause).hport p = lostSide (c.hport p) false ∧ (c.partnerLost p cause).pw = c.pw ∧
      (c.partnerLost p cause).prof = c.prof ∧ (c.partnerLost p cause).trk = c.trk ∧ (c.partnerLost p cause).acq = c.acq := by
  have hlost := c.partnerLost_hedge p cause
  have hpw := Sent.pw hlost
  have hprof := Sent.prof hlost
  have htrk := Sent.trk hlost
  have hacq := Sent.acq hlost
  have hnot : (cause == .severed) = false := beq_eq_false_iff_ne.mpr hcause
  rw [partnerLost_hport hp, hnot, Bool.and_false]
  exact ⟨rfl, hpw, hprof, htrk, hacq⟩

theorem takeKa_of_hears {c : Core} {p : Port} (hears : c.hears p = true) (hwire : c.isWire p = true) (st : Byte) :
    c.takeKa p st = (c.heard p (.ka st) 0#4).modHp p (fun h => { h with partner := h.partner.map (fun g => { g with state := BitVec.ofNat 4 st.toNat }) }) := by
  rw [takeKa, hears, hwire]
  rfl

/-- A hedge side after a frame has come, and a change of it. -/
theorem heard_modHp {c : Core} {p : Port} (hp : p.val < c.hp.length) (body : LinkBody) (n : BitVec 4) (f : HedgePort → HedgePort) :
    let d := (c.heard p body n).modHp p f
    d = { c with lnk := d.lnk, hp := d.hp } ∧ d.hport p = f (c.hport p).heard := by
  refine ⟨?_, ?_⟩
  · rw [(c.heard_lines p body n).only]
    rfl
  · have hself := modHp_hport_self (c := c.heard p body n) (p := p) (by rw [(c.heard_lines p body n).hp]; simpa [modHp] using hp) f
    rw [hself, heard_hport, modHp_hport_self hp]

theorem takeEchoReq_of_short {c : Core} {p : Port} (hears : c.hears p = true)
    (hshort : c.isWire p = true → (c.port p).cfg.lead.toNat ≤ 12 ∧ (c.port p).cfg.tail.toNat ≤ 12) :
    c.takeEchoReq p (c.hport p).lseqRx = (c.taken p .echoReq (c.hport p).lseqRx).modPort p (fun l => { l with pendOp := some 3#2 }) := by
  have hno : (c.isWire p && (decide (12 < (c.port p).cfg.lead.toNat) || decide (12 < (c.port p).cfg.tail.toNat))) = false := by
    cases hw : c.isWire p
    · rfl
    · obtain ⟨hlead, htail⟩ := hshort hw
      simp only [decide_eq_false (Nat.not_lt.mpr hlead), decide_eq_false (Nat.not_lt.mpr htail)]
      rfl
  unfold takeEchoReq
  dsimp only
  rw [Bool.and_assoc, hno, Bool.and_false, if_neg Bool.false_ne_true, accepted_of_next hears]

theorem takeEchoReq_of_long {c : Core} {p : Port} (hears : c.hears p = true) (hwire : c.isWire p = true)
    (hlead : 12 < (c.port p).cfg.lead.toNat) :
    c.takeEchoReq p (c.hport p).lseqRx =
      ((c.heard p .echoReq (c.hport p).lseqRx).modHp p (fun h => { h with lseqRx := (c.hport p).lseqRx + 1#4 })).sendFrame p
        (.nak (c.hport p).lseqRx 1#8) := by
  unfold takeEchoReq
  dsimp only
  rw [hears, hwire, decide_eq_true hlead, beq_self_eq_true]
  rfl

/-- The sixteenth echo ends a delay measurement (R259). -/
theorem takeProbe_last {c : Core} {p : Port} (hears : c.hears p = true) {sum : Int} {at0 : Nat}
    (hrun : (c.hport p).delayRun = some { left := 0, sum := sum, got := 15, launch := some at0 }) (edge echoD : Nat) :
    c.takeProbe p edge echoD = (c.heard p .probe 0#4).modHp p (fun h =>
      { h with delayRun := none, delay := meanDelay (sum + ((edge : Int) - at0 - echoD - 4)) 16 }) := by
  have hheard : ((c.heard p .probe 0#4).hport p).delayRun = some { left := 0, sum := sum, got := 15, launch := some at0 } := by
    rw [heard_hport, ← hrun]
    exact modHp_keeps (f := HedgePort.heard) (g := HedgePort.delayRun) (fun _ => rfl) c p p
  unfold takeProbe
  rw [hears]
  dsimp only
  rw [if_neg (by decide), hheard]
  rfl

end Core

/-- Settles O19: what a partner sends is kept on its port, and answered where it asks. -/
theorem partnerFramesComplete : Obligations.PartnerFramesComplete := by
  refine ⟨fun s p st g hears hmode hpartner => ⟨_, gives_ka p st s, ?_⟩,
    fun s p hfast hmode hup hawake hp => ⟨_, gives_keepaliveSend p s, ?_⟩,
    fun s p hfast hmode hup hpresent hawake => ⟨_, gives_keepaliveLoss p s, ?_⟩,
    fun s p st hears hp => ⟨_, gives_doze p _ st s, ?_⟩,
    fun s p hears hshort hp => ⟨_, gives_echoReq p _ s, ?_⟩,
    fun s p hears hmode hlead hp => ⟨_, gives_echoReq p _ s, ?_⟩,
    fun s p hears hp => ⟨_, gives_quickset p s, ?_⟩,
    fun s p hears hp => ⟨_, gives_ready p s, ?_⟩,
    fun s p n hfast htry hn hp => ⟨_, gives_wakeThroughTimeout p s, ?_⟩,
    fun s p n hfast htry hn => ⟨_, gives_wakeThroughTimeout p s, ?_⟩,
    fun s p hfast hup hp => ⟨_, gives_delayMeasure p s, ?_⟩,
    fun s p edge at0 sum hears hrun => ⟨_, gives_delayProbe p edge s, ?_⟩⟩
  · have hp : p.val < s.core.hp.length :=
      Core.lt_length_of_hport (P := fun h => h.partner = some g) hpartner nofun
    rw [Core.takeKa_of_hears hears (Core.isWire_of_mode hmode)]
    obtain ⟨honly, hport⟩ := Core.heard_modHp hp (.ka st) 0#4 (fun h => { h with partner := h.partner.map (fun g => { g with state := BitVec.ofNat 4 st.toNat }) })
    refine ⟨honly, ?_, ?_, ?_⟩
    all_goals rw [hport]
    · show (s.core.hport p).partner.map _ = _
      rw [hpartner]
      rfl
    · rfl
    · rfl
  · rw [Core.sendKa, hfast, Core.isWire_of_mode hmode, hup, hawake]
    exact ⟨s.core.sendFrame_only p _, s.core.exists_sent p _ hp⟩
  · have hp : p.val < s.core.hp.length :=
      Core.lt_length_of_hport (P := fun h => h.present = true) hpresent (by decide)
    obtain ⟨hport, hpw, hprof, htrk, hacq⟩ := s.core.partnerLost_spec hp (cause := .keepalive) (by decide)
    rw [Core.keepaliveLoss, hfast, Core.isWire_of_mode hmode, hup, hpresent, hawake]
    show (((s.core.partnerLost p .keepalive).hport p).partner = none ∧ _ ∧ _)
    rw [show (s.core.when _ fun c => c.partnerLost p .keepalive) = s.core.partnerLost p .keepalive from rfl, hport]
    exact ⟨rfl, rfl, rfl, Bool.or_false _, Bool.or_false _, hpw, hprof, htrk, hacq⟩
  · have hlines := s.core.taken_lines p (.doze st) (s.core.hport p).lseqRx
    rw [Core.takeDoze, Core.accepted_of_next hears]
    refine ⟨?_, ?_⟩
    · rw [hlines.only]
      rfl
    · rw [Core.modHp_hport_self (by rw [hlines.hp]; simpa [Core.modHp] using hp), hlines.hport, Core.modHp_hport_self hp]
      exact ⟨rfl, rfl⟩
  · have hlines := s.core.taken_lines p .echoReq (s.core.hport p).lseqRx
    rw [Core.takeEchoReq_of_short hears (fun hw => hshort (beq_iff_eq.mp hw))]
    refine ⟨?_, ?_, ?_⟩
    · rw [hlines.only]
      rfl
    · rw [Core.modPort_port_self (by rw [hlines.length]; exact hp)]
    · rw [Core.modPort_port_self (by rw [hlines.length]; exact hp)]
      exact Core.exists_ack hp .echoReq _
  · rw [Core.takeEchoReq_of_long hears (Core.isWire_of_mode hmode) hlead]
    have hheard := s.core.heard_lines p .echoReq (s.core.hport p).lseqRx
    have hport := s.core.heard_port p p .echoReq (s.core.hport p).lseqRx
    generalize s.core.heard p .echoReq (s.core.hport p).lseqRx = d at *
    have hsent := (d.modHp p (fun h => { h with lseqRx := (s.core.hport p).lseqRx + 1#4 })).sendFrame_only p (.nak (s.core.hport p).lseqRx 1#8)
    refine ⟨?_, ?_, Core.exists_sent _ p _ (hheard.length.trans_gt hp)⟩
    · rw [hsent.1, hheard.only]
      rfl
    · rw [hsent.2 p]
      show (d.port p).pendOp = _
      rw [hport]
  · rw [Core.takeQuickset, hears, Core.when_true]
    have hheard := s.core.heard_lines p .quickset 0#4
    exact ⟨(hheard.trans (.of_queued (Core.sendFrame_queued _ _ _))).of_hp, Core.exists_sent _ p .ready (by rw [hheard.length]; exact hp)⟩
  · have hside := Core.modHp_hport_self hp HedgePort.heard
    rw [Core.takeReady, hears, Core.when_true]
    refine ⟨(s.core.heard_lines p .ready 0#4).of_hp, ?_⟩
    rw [Core.heard_hport, hside]
    exact ⟨rfl, rfl, rfl⟩
  · rw [Core.wakeTimeout, htry]
    dsimp only
    rw [hfast, Core.when_true, if_neg (by omega)]
    exact ⟨Core.sendFrame_only _ p _, Core.exists_sent _ p _ hp⟩
  · have hp : p.val < s.core.hp.length :=
      Core.lt_length_of_hport (P := fun h => h.wakeTry = some n) htry nofun
    obtain ⟨hport, hpw, hprof, htrk, hacq⟩ := s.core.partnerLost_spec hp (cause := .wakeFail) (by decide)
    rw [Core.wakeTimeout, htry]
    dsimp only
    rw [hfast, Core.when_true, if_pos (by omega), hport]
    exact ⟨rfl, rfl, hpw, hprof⟩
  · rw [Core.measureDelay, hfast, hup]
    exact ⟨Core.sendFrame_only _ p _, Core.exists_sent _ p _ hp⟩
  · have hp : p.val < s.core.hp.length :=
      Core.lt_length_of_hport (P := fun h => h.delayRun = some { left := 0, sum := sum, got := 15, launch := some at0 }) hrun nofun
    rw [Core.takeProbe_last hears hrun]
    obtain ⟨honly, hport⟩ := Core.heard_modHp hp .probe 0#4 (fun h =>
      { h with delayRun := none, delay := meanDelay (sum + ((edge : Int) - at0 - (s.core.port p).cfg.echoD - 4)) 16 })
    refine ⟨honly, ?_, ?_⟩
    all_goals rw [hport]

end Sys2Proof.Machine

/-!
PROOFS. DATA, ACK, NAK and the two repeats (chapters 08 and 11, R253 to R255, R273, R347).
-/
namespace Sys2Proof.Machine

theorem gives_data (p : Port) (n : BitVec 4) (b : List Byte) (s : State) : Gives (.data p n b) s (s.core.takeData p n b) := rfl
theorem gives_ack (p : Port) (n : BitVec 4) (s : State) :
    Gives (.ack p n) s (s.core.when (s.core.hears p) (fun c => (c.heard p (.ack n) n).acknowledge p n .acked)) := rfl
theorem gives_nak (p : Port) (n : BitVec 4) (reason : Byte) (s : State) :
    Gives (.nak p n reason) s (s.core.when (s.core.hears p) (fun c => (c.heard p (.nak n reason) n).nakked p n reason)) := rfl
theorem gives_ackTimeout (p : Port) (s : State) : Gives (.ackTimeout p) s (s.core.ackTimeout p) := rfl
theorem gives_nakBusyRepeat (p : Port) (s : State) : Gives (.nakBusyRepeat p) s (s.core.nakRepeat p) := rfl

namespace Core

/-- A packet for which the relay buffer has room is taken as next in order (R253). -/
theorem takeData_of_room {c : Core} {p : Port} (hears : c.hears p = true) {b : List Byte} (hroom : c.relayRoom b.length = true)
    (hwired : (c.hport p).miswired = false) :
    c.takeData p (c.hport p).lseqRx b = (c.taken p (.data b) (c.hport p).lseqRx).arrive b p := by
  unfold takeData
  rw [hroom, Bool.not_true, Bool.and_false, if_neg Bool.false_ne_true, accepted_of_next hears, wired_taken, wired, hwired]
  rfl

/-- A packet for which the relay buffer has no room is refused (R255, R273). -/
theorem takeData_of_full {c : Core} {p : Port} (hears : c.hears p = true) {b : List Byte} (hroom : c.relayRoom b.length = false) :
    c.takeData p (c.hport p).lseqRx b = (c.heard p (.data b) (c.hport p).lseqRx).sendFrame p (.nak (c.hport p).lseqRx 0#8) := by
  unfold takeData
  rw [hears, hroom, beq_self_eq_true]
  rfl

/-- An RSP for this tile is presented in PKTOUT (R347). -/
theorem arrive_rsp {c : Core} {b : List Byte} (hintact : pkIntact b = true) (hkind : pkKind b = 2) (hdst : pkDst b = c.hg.addr)
    (haddr : c.hg.addr ≠ 0x3FF#10) (p : Port) : c.arrive b p = c.present (.foreign (pkUrg b) b) := by
  have hvia : c.grantVia b = none := by
    rw [grantVia, isPanelGrant, hkind]
    rfl
  have hme : c.forMe b = true := by
    rw [forMe, hvia, hdst, beq_self_eq_true, Option.isNone_none, Bool.or_true]
    rfl
  unfold arrive
  rw [hintact, hme, hdst, beq_eq_false_iff_ne.mpr haddr]
  rw [if_neg (by decide), if_neg (by decide), if_pos rfl, takePacket, hkind]
  rfl

/-- A frame is covered by the acknowledgement of its own number (R253). -/
theorem covers_own {n : BitVec 4} {f : TxFrame} (h : f.lseq = some n) : covers n f = true := by
  rw [covers, h, Option.any_some, BitVec.sub_self]
  rfl

/-- The only frame that waits for its ACK ends with it (R253). -/
theorem acknowledge_only {c : Core} {p : Port} {n : BitVec 4} {f : TxFrame} {h : Hello} (hout : (c.hport p).outstanding = [f])
    (hempty : (c.port p).txq = []) (hseq : f.lseq = some n) (hcarries : f.carries = none) (hbody : f.body = .hello h) :
    c.acknowledge p n .acked = (c.modHp p (fun h => { h with outstanding := h.outstanding.filter (fun f => !covers n f) })).modPort p
      (fun l => { l with txq := l.txq.filter (fun f => !covers n f) }) := by
  unfold acknowledge
  rw [hout, hempty, List.append_nil]
  dsimp only
  rw [if_neg (by simp [hseq]), List.filter_singleton, covers_own hseq, cond_true]
  show Core.settled _ p f _ = _
  rw [settled, hcarries, hbody]

/-- BUSY asks for a repeat of a frame that waits for its ACK (R255). -/
theorem nakked_busy {c : Core} {p : Port} {n : BitVec 4} {f : TxFrame} (hf : f ∈ (c.hport p).outstanding) (hseq : f.lseq = some n) :
    c.nakked p n 0#8 = c.modHp p (fun h => { h with nakWait := true }) := by
  have hany : (c.hport p).outstanding.any (fun f => f.lseq == some n) = true := List.any_eq_true.mpr ⟨f, hf, by rw [hseq, beq_self_eq_true]⟩
  rw [nakked, hany]
  rfl

/-- A frame repeated three times is given up (R254); a HELLO has nothing that follows. -/
theorem ackTimeout_givenUp {c : Core} {p : Port} {f : TxFrame} {rest : List TxFrame} {h : Hello} (hfast : c.fast = true)
    (hout : (c.hport p).outstanding = f :: rest) (htries : 3 ≤ f.tries) (hcarries : f.carries = none) (hbody : f.body = .hello h) :
    c.ackTimeout p = c.modHp p (fun h => { h with outstanding := rest }) := by
  rw [ackTimeout, hfast, when_true, hout]
  dsimp only
  rw [if_pos htries, settled, hcarries, hbody]

theorem ackTimeout_again {c : Core} {p : Port} {f : TxFrame} {rest : List TxFrame} (hfast : c.fast = true)
    (hout : (c.hport p).outstanding = f :: rest) (htries : f.tries < 3) :
    c.ackTimeout p = c.sendAgain p ((f :: rest).map (fun g => { g with tries := g.tries + 1 })) := by
  rw [ackTimeout, hfast, when_true, hout]
  dsimp only
  rw [if_neg (Nat.not_le.mpr htries)]

end Core

/-- Settles O17: what is next in order acts, what has no room is refused, and what is not acknowledged goes out again. -/
theorem acknowledgementCompletes : Obligations.AcknowledgementCompletes := by
  refine ⟨fun s p n b hears hn hroom hwired hintact hkind hdst haddr => ⟨_, gives_data p n b s, ?_⟩,
    fun s p n b hears hn hroom => ⟨_, gives_data p n b s, ?_⟩,
    fun s p n f h hears hout hempty hseq hcarries hbody => ⟨_, gives_ack p n s, ?_⟩,
    fun s p n f hears hf hseq => ⟨_, gives_nak p n 0#8 s, ?_⟩,
    fun s p f rest hfast hout htries => (gives_ackTimeout p s).congr (Core.ackTimeout_again hfast hout htries),
    fun s p f rest h hfast hout htries hcarries hbody => (gives_ackTimeout p s).congr (Core.ackTimeout_givenUp hfast hout htries hcarries hbody),
    fun s p hfast hwait => (gives_nakBusyRepeat p s).congr (by rw [Core.nakRepeat, hfast, hwait]; rfl)⟩
  · subst hn
    have hlines := s.core.taken_lines p (.data b) (s.core.hport p).lseqRx
    rw [Core.takeData_of_room hears hroom hwired, Core.arrive_rsp hintact hkind (by rw [hlines.hg]; exact hdst) (by rw [hlines.hg]; exact haddr)]
    refine ⟨?_, fun hp => ?_, fun hp => Core.exists_ack hp (.data b) _⟩
    · rw [hlines.only]
      rfl
    · show ((s.core.taken p (.data b) (s.core.hport p).lseqRx).hport p).lseqRx = _
      rw [hlines.hport, Core.modHp_hport_self hp]
      rfl
  · subst hn
    have hlines := s.core.heard_lines p (.data b) (s.core.hport p).lseqRx
    have hsent := hlines.trans (.of_queued (Core.sendFrame_queued _ p (.nak (s.core.hport p).lseqRx 0#8)))
    rw [Core.takeData_of_full hears hroom]
    refine ⟨hsent.of_hp, ?_, fun hp => Core.exists_sent _ p _ (hlines.length.trans_gt hp)⟩
    rw [hsent.hport]
    exact Core.modHp_keeps (f := HedgePort.heard) (g := HedgePort.lseqRx) (fun _ => rfl) s.core p p
  · have hp : p.val < s.core.hp.length := Core.lt_length_of_hport (P := fun h => h.outstanding = [f]) hout nofun
    have hlines := s.core.heard_lines p (.ack n) n
    have hport := s.core.heard_port p p (.ack n) n
    have hside : (s.core.heard p (.ack n) n).hport p = (s.core.hport p).heard := Core.modHp_hport_self hp HedgePort.heard
    rw [hears, Core.when_true]
    generalize s.core.heard p (.ack n) n = d at *
    have hack := Core.acknowledge_only (c := d) (by rw [hside]; exact hout) (by rw [hport]; exact hempty) hseq hcarries hbody
    rw [hack]
    have hend := Core.modHp_hport_self (c := d) (p := p) (by rw [hlines.hp]; simpa [Core.modHp] using hp)
      (fun h => { h with outstanding := h.outstanding.filter (fun f => !Core.covers n f) })
    refine ⟨?_, ?_⟩
    · rw [hlines.only]
      rfl
    · show ((d.modHp p _).hport p).outstanding = [] ∧ ((d.modHp p _).hport p).present = true ∧ ((d.modHp p _).hport p).lseqTx = _
      rw [hend, hside]
      refine ⟨?_, rfl, rfl⟩
      show (s.core.hport p).outstanding.filter _ = []
      rw [hout, List.filter_singleton, Core.covers_own hseq]
      rfl
  · have hp : p.val < s.core.hp.length := Core.lt_length_of_hport (P := fun h => f ∈ h.outstanding) hf nofun
    have hlines := s.core.heard_lines p (.nak n 0#8) n
    have hside : (s.core.heard p (.nak n 0#8) n).hport p = (s.core.hport p).heard := Core.modHp_hport_self hp HedgePort.heard
    rw [hears, Core.when_true]
    generalize s.core.heard p (.nak n 0#8) n = d at *
    rw [Core.nakked_busy (c := d) (by rw [hside]; exact hf) hseq]
    refine ⟨?_, ?_⟩
    · rw [hlines.only]
      rfl
    · rw [Core.modHp_hport_self (by rw [hlines.hp]; simpa [Core.modHp] using hp), hside]
      exact ⟨rfl, rfl⟩

end Sys2Proof.Machine

/-!
PROOFS. SYNC at a tile that does not scan, and SYNC_SEND (chapter 08, R257, R278, R279, R281, R286, R295).
-/
namespace Sys2Proof.Machine

theorem gives_sync (p : Port) (edge : Int) (b : SyncBody) (s : State) : Gives (.sync p edge b) s (s.core.takeSync p edge b) := rfl
theorem gives_syncSend (s : State) : Gives .syncSend s s.core.sendSync := rfl

namespace Core

theorem ports_any (P : Port → Bool) : ports.any P = true ↔ ∃ q, P q = true := by
  rw [List.any_eq_true]
  exact ⟨fun ⟨q, _, h⟩ => ⟨q, h⟩, fun ⟨q, h⟩ => ⟨q, mem_ports q, h⟩⟩

/-- The step of the choice of a parent (R278). -/
def betterParent (c : Core) (b : Option (Port × Nat)) (p : Port) : Option (Port × Nat) :=
  match (if c.isTile p && c.linkUp p then (c.hport p).syncD else none) with
  | none => b
  | some d => match b with
    | none => some (p, d.toNat)
    | some x => if d.toNat < x.2 then some (p, d.toNat) else b

theorem bestParent_eq (c : Core) : c.bestParent = ports.foldl c.betterParent none := rfl

theorem betterParent_of_none {c : Core} {q : Port} (h : (c.hport q).syncD = none) (b : Option (Port × Nat)) : c.betterParent b q = b := by
  rw [betterParent, h, ite_self]

/-- The only neighbour that reports is the parent (R278). -/
theorem bestParent_only {c : Core} {p : Port} {d : BitVec 4} (hup : (c.isTile p && c.linkUp p) = true) (hself : (c.hport p).syncD = some d)
    (hrest : ∀ q, q ≠ p → (c.hport q).syncD = none) : c.bestParent = some (p, d.toNat) := by
  have hp : ∀ b, (b = none ∨ b = some (p, d.toNat)) → c.betterParent b p = some (p, d.toNat) := by
    intro b hb
    rw [betterParent, hup, if_pos rfl, hself]
    rcases hb with rfl | rfl
    · rfl
    · exact if_neg (Nat.lt_irrefl _)
  have hfold : ∀ (l : List Port) b, (b = none ∨ b = some (p, d.toNat)) →
      l.foldl c.betterParent b = if p ∈ l then some (p, d.toNat) else b := by
    intro l
    induction l with
    | nil => exact fun b _ => rfl
    | cons q l ih =>
      intro b hb
      by_cases hq : q = p
      · subst hq
        rw [List.foldl_cons, hp b hb, ih _ (.inr rfl), if_pos List.mem_cons_self, ite_self]
      · rw [List.foldl_cons, betterParent_of_none (hrest q hq), ih b hb]
        simp only [List.mem_cons, Ne.symm hq, false_or]
  rw [bestParent_eq, hfold _ _ (.inl rfl), if_pos (mem_ports p)]

/-- The parent is chosen, and the depth is one more than its (R278, R282). -/
theorem chooseParent_of_shallow {c : Core} {p : Port} {d : BitVec 4} (hbest : c.bestParent = some (p, d.toNat)) (hd : d.toNat < 14) :
    ∃ x phi n, c.chooseParent = { c with hg := { c.hg with
      p := x, phi := phi, lockedFor := n, parent := some p, depth := d + 1#4, tooDeep := false } } := by
  have hdeep : decide (14 ≤ d.toNat) = false := decide_eq_false (Nat.not_le.mpr hd)
  have hdepth : BitVec.ofNat 4 (d.toNat + 1) = d + 1#4 := by bv_omega
  unfold chooseParent
  rw [hbest]
  simp only [Option.any_some, hdeep, Bool.false_and, Bool.false_eq_true, if_false, Option.map_some, Bool.false_or, Option.isNone_some,
    Bool.and_false, hdepth]
  split
  · exact ⟨_, _, _, rfl⟩
  · exact ⟨_, _, _, rfl⟩

/-- The hop set that a SYNC announces (R106). -/
def hopPending (c : Core) (b : SyncBody) : Option (BitVec 3 × BitVec 32) :=
  if b.hopCur ≠ c.acq.hop then some (b.hopCur, b.fc + 1#32)
  else if b.changeIn = 0#8 then none else some (b.hopNext, b.fc + b.changeIn.zeroExtend 32)

/-- What the parent's SYNC says is taken (R106, R281). -/
theorem takeSyncBody_spec (c : Core) (b : SyncBody) :
    OnlyRecords { c with
      acq := { c.acq with hopPend := c.hopPending b, hopEdge := decide (b.hopCur ≠ c.acq.hop) }
      hg := { c.hg with
        epoch := b.epoch, rootAddr := b.tkAddr, planMismatch := decide (planDigest c.prof ≠ b.digest)
        grants := c.hg.grants ++ (b.grants.filter (fun g => g.tile == c.hg.addr)).map (fun g => g.id), syncBody := some b, fc := b.fc } }
      (c.takeSyncBody b b.fc) := by
  have hbne : ∀ {n : Nat} (x y : BitVec n), (x != y) = decide (x ≠ y) := fun x y => by simp [bne, Bool.beq_eq_decide_eq]
  have hevent : OnlyRecords c (if (planDigest c.prof != b.digest && !c.hg.planMismatch) = true then
      c.eventCustodian 0x08 ([0xFF#8] ++ bvLe 2 b.digest) else c) := by
    split
    · exact c.eventCustodian_only _ _
    · exact .refl c
  unfold takeSyncBody
  dsimp only
  generalize (if (planDigest c.prof != b.digest && !c.hg.planMismatch) = true then
      c.eventCustodian 0x08 ([0xFF#8] ++ bvLe 2 b.digest) else c) = d at *
  unfold OnlyRecords at *
  rw [hevent]
  simp only [hopPending, hbne, modHg, modAcq, decide_eq_true_eq, beq_iff_eq]

/-- A hedge side without the SYNC its partner delivered (R278, R295). -/
def unsynced (h : HedgePort) : HedgePort := { h with syncD := none }

theorem map_hport (c : Core) {f : HedgePort → HedgePort} (hf : f HedgePort.reset = HedgePort.reset) (q : Port) :
    ({ c with hp := c.hp.map f } : Core).hport q = f (c.hport q) := by
  simp only [hport, List.getD_eq_getElem?_getD, List.getElem?_map]
  cases c.hp[q.val]? with
  | none => exact hf.symm
  | some h => rfl

/-- The hedge sides as a SYNC of the epoch found, or of another, leaves them to be chosen from (R278, R295). -/
def forEpoch (c : Core) (b : SyncBody) : Core :=
  if b.epoch == c.hg.epoch then c else { c with hp := c.hp.map unsynced }

theorem forEpoch_spec (c : Core) (b : SyncBody) :
    c.forEpoch b = { c with hp := (c.forEpoch b).hp } ∧ (c.forEpoch b).hp.length = c.hp.length ∧
      ∀ q, ((c.forEpoch b).hport q).miswired = (c.hport q).miswired ∧ ((c.hport q).syncD = none → ((c.forEpoch b).hport q).syncD = none) := by
  unfold forEpoch
  split
  · exact ⟨rfl, rfl, fun q => ⟨rfl, id⟩⟩
  · refine ⟨rfl, List.length_map _, fun q => ?_⟩
    rw [c.map_hport rfl]
    exact ⟨rfl, fun _ => rfl⟩

/-- The parent chosen from what the ports heard, once this SYNC is one of them (R278). -/
theorem syncParent {c : Core} {p : Port} {b : SyncBody} (htile : c.isTile p = true) (hup : c.linkUp p = true) (hdepth : b.depth.toNat < 14)
    (hp : p.val < c.hp.length) (hothers : ∀ q : Port, q ≠ p → (c.hport q).syncD = none) :
    ∃ l x phi n, ((c.forEpoch b).modHp p (fun h => { h with syncD := some b.depth, syncAge := 0 })).chooseParent =
      { c with hp := l, hg := { c.hg with
        p := x, phi := phi, lockedFor := n, parent := some p, depth := b.depth + 1#4, tooDeep := false } } := by
  obtain ⟨honly, hlen, hsides⟩ := c.forEpoch_spec b
  generalize c.forEpoch b = d at *
  have hnone : ∀ q, q ≠ p → ((d.modHp p (fun h => { h with syncD := some b.depth, syncAge := 0 })).hport q).syncD = none := fun q hq => by
    rw [modHp_hport_of_ne d hq]
    exact (hsides q).2 (hothers q hq)
  have hself : ((d.modHp p (fun h => { h with syncD := some b.depth, syncAge := 0 })).hport p).syncD = some b.depth := by
    rw [modHp_hport_self (by rw [hlen]; exact hp)]
  have hlink : ((d.modHp p (fun h => { h with syncD := some b.depth, syncAge := 0 })).isTile p &&
      (d.modHp p (fun h => { h with syncD := some b.depth, syncAge := 0 })).linkUp p) = true := by
    have hmis := (modHp_keeps (f := fun h => { h with syncD := some b.depth, syncAge := 0 }) (g := HedgePort.miswired) (fun _ => rfl) d p p).trans
      (hsides p).1
    have hport : (d.modHp p (fun h => { h with syncD := some b.depth, syncAge := 0 })).port p = c.port p := by
      show d.port p = c.port p
      rw [honly]
      rfl
    rw [isTile, linkUp, hport, hmis]
    exact (congrArg₂ and htile hup).trans rfl
  obtain ⟨x, phi, n, hchoose⟩ := chooseParent_of_shallow (bestParent_only hlink hself hnone) hdepth
  rw [hchoose, honly]
  exact ⟨_, _, _, _, rfl⟩

/-- A tile that does not scan takes the SYNC of its only reporting neighbour (R278, R281). -/
theorem takeSync_only {c : Core} {p : Port} (edge : Int) {b : SyncBody} (hears : c.hears p = true) (hscan : c.scanning = false)
    (htile : c.isTile p = true) (hup : c.linkUp p = true) (hroot : c.hg.panelRoot = false) (hdepth : b.depth.toNat < 14)
    (hp : p.val < c.hp.length) (hothers : ∀ q : Port, q ≠ p → (c.hport q).syncD = none) :
    ∃ k l x phi n, c.takeSync p edge b = ({ c with lnk := k, hp := l, hg := { c.hg with
        p := x, phi := phi, lockedFor := n, parent := some p, depth := b.depth + 1#4, tooDeep := false
        everSync := true, framesNoSync := 0, syncThis := true } } : Core).takeSyncBody b b.fc := by
  have hheard := c.heard_lines p (.sync b) 0#4
  have hkeep : ∀ q, ((c.heard p (.sync b) 0#4).hport q).syncD = (c.hport q).syncD := fun q =>
    modHp_keeps (f := HedgePort.heard) (g := HedgePort.syncD) (fun _ => rfl) c p q
  have hmis := modHp_keeps (f := HedgePort.heard) (g := HedgePort.miswired) (fun _ => rfl) c p p
  have hupd : (c.heard p (.sync b) 0#4).linkUp p = true := by
    rw [hheard.linkUp, linkUp, hmis]
    exact hup
  have htiled : (c.heard p (.sync b) 0#4).isTile p = true := by
    rw [hheard.isTile]
    exact htile
  unfold takeSync
  rw [hears]
  dsimp only
  rw [if_neg (by decide)]
  have honly := hheard.only
  have hlen : p.val < (c.heard p (.sync b) 0#4).hp.length := by rw [hheard.hp]; simpa [modHp] using hp
  generalize c.heard p (.sync b) 0#4 = d at *
  have hheld : ports.any (fun q => q != p && (d.hport q).syncD.isSome) = false := by
    rw [← Bool.not_eq_true, ports_any]
    rintro ⟨q, hq⟩
    obtain ⟨hne, hsome⟩ := Bool.and_eq_true_iff.mp hq
    rw [hkeep q, hothers q (bne_iff_ne.mp hne)] at hsome
    exact Bool.false_ne_true hsome
  have hdroot : d.hg.panelRoot = false := by rw [hheard.hg]; exact hroot
  obtain ⟨l, x, phi, n, hparent⟩ := syncParent htiled hupd hdepth hlen (fun q hq => (hkeep q).trans (hothers q hq))
  rw [htiled, hupd, hdroot, hheld, Bool.and_false]
  show ∃ k l x phi n, (if (((d.forEpoch b).modHp p (fun h => { h with syncD := some b.depth, syncAge := 0 })).chooseParent.hg.parent != some p) = true
      then _ else if ((d.forEpoch b).modHp p (fun h => { h with syncD := some b.depth, syncAge := 0 })).chooseParent.scanning = true then _
      else (((d.forEpoch b).modHp p (fun h => { h with syncD := some b.depth, syncAge := 0 })).chooseParent.modHg
        (fun h => { h with everSync := true, framesNoSync := 0, syncThis := true })).takeSyncBody b b.fc) = _
  rw [hparent, honly, if_neg (by simp), if_neg (by show ¬ c.scanning = true; rw [hscan]; exact Bool.false_ne_true)]
  exact ⟨_, _, _, _, _, rfl⟩

/-- A SYNC of a lower epoch is only heard where another neighbour reports (R295). -/
theorem takeSync_lower {c : Core} {p : Port} (edge : Int) {b : SyncBody} (hears : c.hears p = true) (hlow : b.epoch.toNat < c.hg.epoch.toNat)
    (hother : ∃ q : Port, q ≠ p ∧ (c.hport q).syncD ≠ none) : c.takeSync p edge b = c.heard p (.sync b) 0#4 := by
  have hheld : ports.any (fun q => q != p && ((c.heard p (.sync b) 0#4).hport q).syncD.isSome) = true := by
    obtain ⟨q, hne, hsome⟩ := hother
    have hkeep := modHp_keeps (f := HedgePort.heard) (g := HedgePort.syncD) (fun _ => rfl) c p q
    rw [← Option.isSome_iff_ne_none, ← hkeep] at hsome
    exact (ports_any _).mpr ⟨q, by rw [bne_iff_ne.mpr hne]; exact hsome⟩
  unfold takeSync
  rw [hears]
  dsimp only
  rw [if_neg (by decide), hheld, (c.heard_lines p (.sync b) 0#4).hg]
  exact if_pos (by rw [show decide (b.epoch.toNat < (c.modHp p HedgePort.heard).hg.epoch.toNat) = true from decide_eq_true hlow, Bool.and_true, Bool.or_true])

/-! SYNC_SEND (R279). -/

/-- The SYNC as this tile sends it on a port, in the place of one that still waits (R274, R279). -/
def sendSyncOn (b : LinkBody) (c : Core) (q : Port) : Core := (c.dropSync q).sendFrame q b

theorem dropSync_only (c : Core) (q : Port) : OnlyTxq c (c.dropSync q) := by
  refine ⟨rfl, fun r => ?_⟩
  unfold dropSync
  rw [modPort_port]
  split <;> rfl

theorem sendSyncOn_only (b : LinkBody) (c : Core) (q : Port) : OnlyTxq c (sendSyncOn b c q) := (c.dropSync_only q).trans (sendFrame_only _ _ _)

theorem sendSyncOn_port_of_ne (b : LinkBody) (c : Core) {p q : Port} (h : q ≠ p) : (sendSyncOn b c q).port p = c.port p := by
  show (((c.modPort q _).modPort q _).port p) = _
  rw [modPort_port, if_neg (fun hq => h hq.1), modPort_port, if_neg (fun hq => h hq.1)]

theorem sendSyncOn_length (b : LinkBody) (c : Core) (q : Port) : (sendSyncOn b c q).lnk.length = c.lnk.length :=
  (modifyAt_length _ _ _).trans (modifyAt_length _ _ _)

/-- What is sent on every port of a list waits on each (R279). -/
theorem exists_sync (b : LinkBody) {p : Port} (l : List Port) (c : Core) (hp : p.val < c.lnk.length)
    (h : p ∈ l ∨ ∃ f ∈ (c.port p).txq, f.body = b) : ∃ f ∈ ((l.foldl (sendSyncOn b) c).port p).txq, f.body = b := by
  induction l generalizing c with
  | nil => exact h.resolve_left List.not_mem_nil
  | cons q l ih =>
    refine ih _ (by rw [sendSyncOn_length]; exact hp) ?_
    by_cases hq : q = p
    · subst hq
      exact .inr (exists_sent _ q b (by rw [show (c.dropSync q).lnk.length = c.lnk.length from modifyAt_length _ _ _]; exact hp))
    · rw [sendSyncOn_port_of_ne b c hq]
      exact h.imp_left fun hm => (List.mem_cons.mp hm).resolve_left (Ne.symm hq)

/-- Sending does not change the depth that a SYNC names (R279). -/
theorem foldl_sendSyncOn (b : SyncBody) (l : List Port) (c : Core) :
    l.foldl (fun c q => (c.dropSync q).sendFrame q (.sync { b with depth := c.hg.depth })) c =
      l.foldl (sendSyncOn (.sync { b with depth := c.hg.depth })) c := by
  induction l generalizing c with
  | nil => rfl
  | cons q l ih => exact ih _

theorem sendSync_of_held {c : Core} {b : SyncBody} (hfast : c.fast = true) (hbody : c.hg.syncBody = some b)
    (hmay : if c.hg.panelRoot then c.acq.running = true ∨ c.hg.tk.timing = true else c.hg.depth ≠ 15#4 ∧ c.hg.syncThis = true) :
    c.sendSync = (ports.filter (fun q => c.isTile q && c.linkUp q)).foldl (sendSyncOn (.sync { b with depth := c.hg.depth })) c := by
  have hmay' : (if c.hg.panelRoot then c.acq.running || c.hg.tk.timing else c.hg.depth != 15#4 && c.hg.syncThis) = true := by
    cases hroot : c.hg.panelRoot
    · rw [hroot] at hmay
      obtain ⟨hdepth, hthis⟩ := hmay
      exact Bool.and_eq_true_iff.mpr ⟨bne_iff_ne.mpr hdepth, hthis⟩
    · rw [hroot] at hmay
      exact Bool.or_eq_true_iff.mpr hmay
  unfold sendSync
  dsimp only
  rw [hfast, hmay', hbody]
  exact foldl_sendSyncOn b _ c

end Core

/-- Settles O20: the only neighbour that reports is the parent, and what it says is taken and sent on. -/
theorem syncCompletes : Obligations.SyncCompletes := by
  refine ⟨fun s p edge b hears hscan htile hup hroot hdepth hp hothers => ⟨_, gives_sync p edge b s, ?_⟩,
    fun s p edge b hears hlow hother => ⟨_, gives_sync p edge b s, ?_⟩,
    fun s b hfast hbody hmay => ⟨_, gives_syncSend s, ?_⟩⟩
  · obtain ⟨k, l, x, phi, n, hrun⟩ := Core.takeSync_only edge hears hscan htile hup hroot hdepth hp hothers
    rw [hrun]
    have hbody := Core.takeSyncBody_spec ({ s.core with lnk := k, hp := l, hg := { s.core.hg with
        p := x, phi := phi, lockedFor := n, parent := some p, depth := b.depth + 1#4, tooDeep := false
        everSync := true, framesNoSync := 0, syncThis := true } } : Core) b
    have hhg := hbody.hg
    generalize Core.takeSyncBody _ b b.fc = d at *
    rw [hhg]
    refine ⟨?_, rfl, rfl, rfl, rfl, rfl, rfl, rfl, rfl, rfl, rfl, rfl, rfl, rfl, rfl, rfl⟩
    unfold OnlyRecords at *
    rw [hbody]
    rfl
  · rw [Core.takeSync_lower edge hears hlow hother]
    refine ⟨(s.core.heard_lines p (.sync b) 0#4).of_hp, fun q => ?_⟩
    exact Core.modHp_keeps (f := HedgePort.heard) (g := HedgePort.syncD) (fun _ => rfl) s.core p q
  · rw [Core.sendSync_of_held hfast hbody hmay]
    refine ⟨Core.foldl_onlyTxq _ (Core.sendSyncOn_only _) _ _, fun p hp htile hup => ?_⟩
    exact Core.exists_sync _ _ _ hp (.inl (List.mem_filter.mpr ⟨Core.mem_ports p, by rw [htile, hup]; rfl⟩))

end Sys2Proof.Machine

/-!
PROOFS. The allocations (R80, R263): a change of them is in force at once, in NVM or waiting for it; and the roles that a tile takes
(chapter 08, R269, R284, R288, R295).
-/
namespace Sys2Proof.Machine

/-- `d` is `c` but for the allocations and what a write to NVM changes. -/
def OnlyAlloc (c d : Core) : Prop :=
  OnlyNvm { c with nvm := { c.nvm with alloc := d.nvm.alloc, allocPending := d.nvm.allocPending } } d

namespace OnlyAlloc

theorem refl (c : Core) : OnlyAlloc c c := rfl

theorem trans {a b c : Core} (h : OnlyAlloc a b) (k : OnlyAlloc b c) : OnlyAlloc a c := by
  unfold OnlyAlloc OnlyNvm at *
  rw [k, h]

theorem of_nvm {c d : Core} (h : OnlyNvm c d) : OnlyAlloc c d := by
  unfold OnlyAlloc OnlyNvm at *
  rw [h]

theorem hg {c d : Core} (h : OnlyAlloc c d) : d.hg = c.hg := by unfold OnlyAlloc OnlyNvm at h; rw [h]
theorem hp {c d : Core} (h : OnlyAlloc c d) : d.hp = c.hp := by unfold OnlyAlloc OnlyNvm at h; rw [h]
theorem lnk {c d : Core} (h : OnlyAlloc c d) : d.lnk = c.lnk := by unfold OnlyAlloc OnlyNvm at h; rw [h]
theorem pw {c d : Core} (h : OnlyAlloc c d) : d.pw = c.pw := by unfold OnlyAlloc OnlyNvm at h; rw [h]
theorem ret {c d : Core} (h : OnlyAlloc c d) : d.ret = c.ret := by unfold OnlyAlloc OnlyNvm at h; rw [h]
theorem acq {c d : Core} (h : OnlyAlloc c d) : d.acq = c.acq := by unfold OnlyAlloc OnlyNvm at h; rw [h]
theorem prof {c d : Core} (h : OnlyAlloc c d) : d.prof = c.prof := by unfold OnlyAlloc OnlyNvm at h; rw [h]

/-- What changes with the allocations is of the hedge layer. -/
theorem hedge {c d : Core} (h : OnlyAlloc c d) : OnlyHedge c d := by
  unfold OnlyAlloc OnlyNvm at h
  unfold OnlyHedge
  rw [h]

/-- A change of the hedge part beside a change of the allocations. -/
theorem modHg {c d : Core} (h : OnlyAlloc c d) (f : Hedge → Hedge) : OnlyAlloc (c.modHg f) (d.modHg f) := by
  unfold OnlyAlloc OnlyNvm at *
  rw [h]
  rfl

end OnlyAlloc

namespace OnlyHedge

theorem refl (c : Core) : OnlyHedge c c := rfl

theorem trans {a b c : Core} (h : OnlyHedge a b) (k : OnlyHedge b c) : OnlyHedge a c := by
  unfold OnlyHedge at *
  rw [k, h]

theorem of_records {c d : Core} (h : OnlyRecords c d) : OnlyHedge c d := (Sent.of_records h).hedge

end OnlyHedge

namespace Core

theorem alloc_of_nvm {c d : Core} (h : OnlyNvm c d) : d.alloc = c.alloc := by
  unfold OnlyNvm at h
  rw [h]
  rfl

/-- A change of the allocations is in force, written or waiting (R80, R263). -/
theorem modAlloc_spec (c : Core) (f : Alloc → Alloc) : OnlyAlloc c (c.modAlloc f) ∧ (c.modAlloc f).alloc = f c.alloc := by
  have hstart : OnlyAlloc c { c with nvm := { c.nvm with allocPending := some (f c.alloc) } } := rfl
  unfold modAlloc saveAlloc
  dsimp only
  generalize hc : ({ c with nvm := { c.nvm with allocPending := some (f c.alloc) } } : Core) = e at *
  have he : e.alloc = f c.alloc := by rw [← hc]; rfl
  cases hw : (e.writeCopy .alloc).2
  · obtain ⟨d, hd, heq⟩ := write_not_done (fun e => { e with nvm := { e.nvm with alloc := f c.alloc, allocPending := none } }) hw
    rw [heq]
    exact ⟨hstart.trans (.of_nvm hd), (alloc_of_nvm hd).trans he⟩
  · obtain ⟨d, hd, heq⟩ := write_done (c := e) (r := .alloc)
      (f := fun e => { e with nvm := { e.nvm with alloc := f c.alloc, allocPending := none } }) (by decide) (fun _ _ => rfl) hw
    rw [heq]
    refine ⟨(hstart.trans (.of_nvm hd)).trans ?_, rfl⟩
    rfl

/-! The SYNC of the timekeeper (R110, R286). -/

theorem decideHop_only (c : Core) :
    c.decideHop = { c with acq := { c.acq with hopPend := c.decideHop.acq.hopPend }, hg := { c.hg with tk := c.decideHop.hg.tk } } := by
  unfold decideHop
  dsimp only
  split <;> rfl

theorem grantOne_only (c : Core) (a : Addr) (out : List IdGrant) :
    (c.grantOne a out).1 = { c with hg := { c.hg with tk := (c.grantOne a out).1.hg.tk } } := by
  unfold grantOne
  split
  · rfl
  · split <;> rfl

theorem grantIds_only (c : Core) : c.grantIds.1 = { c with hg := { c.hg with tk := c.grantIds.1.hg.tk } } := by
  have hfold : ∀ (l : List Addr) (x : Core × List IdGrant), (l.foldl (fun (x : Core × List IdGrant) a => x.1.grantOne a x.2) x).1 =
      { x.1 with hg := { x.1.hg with tk := (l.foldl (fun (x : Core × List IdGrant) a => x.1.grantOne a x.2) x).1.hg.tk } } := by
    intro l
    induction l with
    | nil => exact fun x => rfl
    | cons a l ih =>
      intro x
      rw [List.foldl_cons, ih, grantOne_only]
  exact hfold _ _

/-- A SYNC composed changes the hop set to come, the timekeeper's part and the grants (R110, R286). -/
theorem composeSync_only (c : Core) : c.composeSync = { c with
    acq := { c.acq with hopPend := c.composeSync.acq.hopPend }
    hg := { c.hg with tk := c.composeSync.hg.tk, grants := c.composeSync.hg.grants, syncBody := c.composeSync.hg.syncBody } } := by
  obtain ⟨g, b, hrun⟩ : ∃ g b, c.composeSync = c.decideHop.grantIds.1.modHg (fun h => { h with grants := g, syncBody := b }) := ⟨_, _, rfl⟩
  rw [hrun, grantIds_only, decideHop_only]
  rfl

/-! The roles of another tile (R269, R295). -/

/-- What a tile is once it has taken the roles of another (R269, R295). -/
def withRoles (c : Core) (blocks : List Addr) : Core :=
  (c.modHg (fun h => { h with
    panelRoot := true, handoverDue := false, epoch := h.epoch + 1#8, depth := 0#4, parent := none, rootAddr := h.addr, lowestRoot := h.uid
    p := 0, phi := 0, tk := Timekeeper.reset, framesNoSync := 0, blocks := blocks, planMismatch := false })).syncRet

theorem takeRoles_spec (c : Core) : ∃ d blocks, OnlyAlloc c d ∧ OnlyRecords (d.withRoles blocks) c.takeRoles := by
  obtain ⟨halloc, -⟩ := c.modAlloc_spec (fun a =>
    { a with ownBlocks := if c.hg.provisional then a.ownBlocks else if c.hg.blocks.isEmpty then c.rosterBlocks else c.hg.blocks
             ownSingles := c.hg.singles })
  exact ⟨_, _, halloc, eventCustodian_only _ _ _⟩

/-- A tile takes the roles of another, and composes its SYNC (R269, R286, R295). -/
theorem takesRoles (c : Core) :
    let d := c.takeRoles.composeSync
    OnlyHedge { c with acq := d.acq } d ∧ d.acq = { c.acq with hopPend := d.acq.hopPend } ∧
      d.hg = { c.hg with
        panelRoot := true, handoverDue := false, epoch := c.hg.epoch + 1#8, depth := 0#4, parent := none, rootAddr := c.hg.addr
        lowestRoot := c.hg.uid, p := 0, phi := 0, tk := d.hg.tk, framesNoSync := 0, blocks := d.hg.blocks, planMismatch := false
        grants := d.hg.grants, syncBody := d.hg.syncBody } ∧
      d.ret.panelRoot = true ∧ d.lnk = c.lnk ∧ d.hp = c.hp := by
  obtain ⟨e, blocks, halloc, hroles⟩ := c.takeRoles_spec
  have hsync := c.takeRoles.composeSync_only
  dsimp only
  generalize c.takeRoles.composeSync = d at *
  generalize c.takeRoles = f at *
  unfold OnlyAlloc OnlyNvm at halloc
  unfold OnlyRecords at hroles
  rw [hsync, hroles, halloc]
  exact ⟨rfl, rfl, rfl, rfl, rfl, rfl⟩

/-- XTRIM moves against the sum of the corrections (R284). -/
theorem adjustXtrim_of_due {c : Core} (hfast : c.fast = true) (hroot : c.hg.panelRoot = false) (hframes : 64 ≤ c.hg.corrFrames)
    (hsum : c.hg.corrSum ≠ 0) : c.adjustXtrim = { c with
      free := c.free + 1
      hg := { c.hg with corrSum := 0, corrFrames := 0
                        xtrim := xtrimMoved c.hg.xtrim c.hg.corrSum (max 1 (Config.xtrimAmount c.free c.hg.xtrim c.hg.corrSum)) } } := by
  rw [adjustXtrim, hfast, hroot, decide_eq_true hframes]
  show (if (c.hg.corrSum == 0) = true then _ else _) = _
  rw [if_neg (by simpa using hsum)]
  rfl

end Core

theorem gives_syncLost (s : State) : Gives .syncLost s s.core.syncLost := rfl
theorem gives_timekeeperClaim (s : State) : Gives .timekeeperClaim s s.core.claim := rfl
theorem gives_rootHandover (s : State) : Gives .rootHandover s s.core.handover := rfl
theorem gives_xtrimAdjust (s : State) : Gives .xtrimAdjust s s.core.adjustXtrim := rfl

/-- Settles O21: claim and handover take the roles, and what the corrections sum to moves the crystal. -/
theorem successionAndTrimComplete : Obligations.SuccessionAndTrimComplete := by
  refine ⟨fun s hscan hroot hframes => (gives_syncLost s).congr ?_, fun s hscan hroot hlive hframes => ⟨_, gives_timekeeperClaim s, ?_⟩,
    fun s hfast hdue hroot => ⟨_, gives_rootHandover s, ?_⟩,
    fun s hfast hroot hframes => ⟨fun hsum => (gives_xtrimAdjust s).congr ?_, fun hsum => (gives_xtrimAdjust s).congr ?_⟩⟩
  · rw [Core.syncLost, hscan, hroot, decide_eq_true hframes]
    rfl
  · have hown : s.core.hg.roster.live.any (fun t => t.uid == s.core.hg.uid) = true := by
      obtain ⟨t, ht, huid⟩ := hlive
      exact List.any_eq_true.mpr ⟨t, ht, beq_iff_eq.mpr huid⟩
    obtain ⟨honly, hacq, hhg, hret, hlnk, hhp⟩ := s.core.takesRoles
    have hrun : s.core.claim = s.core.takeRoles.composeSync := by
      rw [Core.claim, hscan, hroot, hown, decide_eq_true hframes]
      rfl
    rw [hrun]
    refine ⟨honly, hacq, ?_⟩
    rw [hhg]
    exact ⟨rfl, rfl, rfl, rfl, rfl, rfl, hret, rfl, rfl, rfl, hlnk, hhp⟩
  · obtain ⟨honly, hacq, hhg, hret, hlnk, hhp⟩ := s.core.takesRoles
    have hrun : s.core.handover = s.core.takeRoles.composeSync := by
      rw [Core.handover, hfast, hdue, hroot]
      rfl
    rw [hrun]
    refine ⟨honly, hacq, ?_⟩
    rw [hhg]
    exact ⟨rfl, rfl, rfl, rfl, rfl, rfl, hret, rfl, hlnk, hhp⟩
  · rw [Core.adjustXtrim, hfast, hroot, decide_eq_true hframes]
    show (if (s.core.hg.corrSum == 0) = true then _ else _) = _
    rw [hsum]
    rfl
  · exact Core.adjustXtrim_of_due hfast hroot hframes hsum

end Sys2Proof.Machine

/-!
PROOFS. Seam frames outside COMPUTE, and WAKE (chapters 01, 04 and 08, R33, R35, R129, R253, R276, R280, R290, R293, R296).
-/
namespace Sys2Proof.Machine

theorem gives_seamH (p : Port) (n : BitVec 4) (b : SeamH) (s : State) : Gives (.seamH p n b) s
    (s.core.accepted p n (.seamH b) (fun c => if c.wired p && c.isTile p then c.takeSeamH p b else c)) := rfl
theorem gives_seamD (p : Port) (n : BitVec 4) (b : SeamD) (s : State) : Gives (.seamD p n b) s
    (s.core.accepted p n (.seamD b) (fun c => if c.wired p && c.isTile p then c.takeSeamD p b else c)) := rfl
theorem gives_seamX (p : Port) (n : BitVec 4) (b : SeamX) (s : State) : Gives (.seamX p n b) s
    (s.core.accepted p n (.seamX b) (fun c => if c.wired p && c.isTile p then c.takeSeamX p b else c)) := rfl
theorem gives_wake (p : Port) (n : BitVec 4) (t : Byte) (number : Word) (scope : Byte) (s : State) :
    Gives (.wake p n t number scope) s (s.core.takeWake p n t number scope) := rfl

namespace Core

/-- A seam frame that is next in order acts on a TILE port that is not MISWIRED (R253, R257). -/
theorem accepted_seam {c : Core} {p : Port} (hears : c.hears p = true) (hwired : (c.hport p).miswired = false) (htile : c.isTile p = true)
    (body : LinkBody) (act : Core → Core) :
    c.accepted p (c.hport p).lseqRx body (fun c => if c.wired p && c.isTile p then act c else c) =
      act (c.taken p body (c.hport p).lseqRx) := by
  rw [accepted_of_next hears, wired_taken, wired, hwired, (c.taken_lines p body _).isTile]
  exact if_pos (Bool.and_eq_true_iff.mpr ⟨rfl, htile⟩)

/-- The hedge sides after an accepted frame and a change of its port's. -/
theorem taken_modHp {c : Core} {p : Port} (hp : p.val < c.hp.length) (body : LinkBody) (n : BitVec 4) (f : HedgePort → HedgePort) :
    let d := (c.taken p body n).modHp p f
    d = { c with lnk := d.lnk, hp := d.hp } ∧ d.hport p = f ((c.hport p).taken n) ∧ ∀ q, q ≠ p → d.hport q = c.hport q := by
  have hlines := c.taken_lines p body n
  refine ⟨?_, ?_, fun q hq => ?_⟩
  · rw [hlines.only]
    rfl
  · rw [modHp_hport_self (by rw [hlines.hp]; simpa [modHp] using hp), hlines.hport, modHp_hport_self hp]
  · rw [modHp_hport_of_ne _ hq, hlines.hport, modHp_hport_of_ne _ hq]

theorem tryTrack_of_not {c : Core} (h : c.trk.phase ≠ .waitD) : c.tryTrack = c := by
  rw [tryTrack, beq_eq_false_iff_ne.mpr h]
  rfl

theorem tryFinish_of_not {c : Core} (h : c.trk.phase ≠ .waitX) : c.tryFinish = c := by
  rw [tryFinish, beq_eq_false_iff_ne.mpr h]
  rfl

theorem onlyRecords_of_ports {c m e : Core} (hm : m = { c with lnk := m.lnk, hp := m.hp }) (h : OnlyRecords m e) :
    OnlyRecords { c with lnk := e.lnk, hp := e.hp } e := by
  unfold OnlyRecords at *
  rw [h, hm]

/-- SEAM_H outside COMPUTE is kept, and its digest compared (R280, R290). -/
theorem takeSeamH_only {c : Core} (h : c.trk.phase ≠ .waitD) (p : Port) (b : SeamH) :
    OnlyRecords (c.modHp p (fun h => { h with inH := some b, digestBad := decide (b.digest ≠ seamDigest c.prof), swingNext := b.swing }))
      (c.takeSeamH p b) := by
  have hbad : (b.digest != seamDigest c.prof) = decide (b.digest ≠ seamDigest c.prof) := by simp [bne, Bool.beq_eq_decide_eq]
  unfold takeSeamH
  dsimp only
  have hevent : OnlyRecords c (if ((b.digest != seamDigest c.prof) && !(c.hport p).digestBad) = true then
      c.eventCustodian 0x08 ([BitVec.ofNat 8 p.val] ++ bvLe 2 b.digest) else c) := by
    split
    · exact c.eventCustodian_only _ _
    · exact .refl c
  rw [← hbad]
  generalize (if ((b.digest != seamDigest c.prof) && !(c.hport p).digestBad) = true then
      c.eventCustodian 0x08 ([BitVec.ofNat 8 p.val] ++ bvLe 2 b.digest) else c) = d at *
  rw [if_neg (by show ¬ (d.trk.phase == ComputePhase.waitD) = true; rw [hevent.trk]; simpa using h)]
  exact onlyRecords_modHp hevent _ _

/-- The entry to Run (R56, R153, R200). -/
theorem enterRun_only (c : Core) : c.enterRun = { c with
    pw := { c.pw with phase := .run, pump := c.acq.highNow, idleDue := false }
    host := { c.host with attnsrc := c.enterRun.host.attnsrc }, node := c.enterRun.node, sar := c.enterRun.sar
    hg := { c.hg with p := 0, phi := 0, lockedFor := 0, everSync := false, framesNoSync := 0 }, acq := { c.acq with joining := true } } := by
  unfold enterRun
  dsimp only
  rw [urgent_eq, setPhase, attnIf_eq]
  rfl

/-- A WAKE that names Run takes a tile from Quiet to Run (R35, R276). -/
theorem wakeTo_run {c : Core} (hquiet : c.pw.phase = .quiet) (hbare : c.isBare = false) (hmay : c.mayRun = true) :
    c.wakeTo 5#8 = ((c.abortEntry).modPw (fun p => { p with reqState := false })).enterRun := by
  have hcond : (Phase.ofCode (5#8 : Byte).toNat == .run && c.pw.phase == .quiet) = true := by rw [hquiet]; decide
  unfold wakeTo
  dsimp only
  rw [hcond, if_pos rfl, goAwake]
  show (if c.isBare = true then _ else if (_ && c.mayRun) = true then (if (c.pw.phase == .run) = true then _ else _) else _) = _
  rw [hbare, hmay, hquiet]
  rfl

theorem takeWake_tile {c : Core} {p : Port} (hears : c.hears p = true) (hwired : (c.hport p).miswired = false) (t : Byte) (n : Word) :
    c.takeWake p (c.hport p).lseqRx t n 0#8 = (c.taken p (.wake t n 0#8) (c.hport p).lseqRx).wakeTo t := by
  rw [takeWake, accepted_of_next hears, wired_taken, wired, hwired]
  rfl

/-- A WAKE of scope PANEL whose number has been seen has no further effect (R276). -/
theorem takeWake_seen {c : Core} {p : Port} (hears : c.hears p = true) {n : Word} (hseen : n ∈ c.hg.wakesSeen) (t : Byte) :
    c.takeWake p (c.hport p).lseqRx t n 1#8 = c.taken p (.wake t n 1#8) (c.hport p).lseqRx := by
  have hcontains : (c.taken p (.wake t n 1#8) (c.hport p).lseqRx).hg.wakesSeen.contains n = true := by
    rw [(c.taken_lines p (.wake t n 1#8) _).hg]
    exact List.contains_iff_mem.mpr hseen
  rw [takeWake, accepted_of_next hears]
  dsimp only
  rw [hcontains, if_pos rfl, beq_self_eq_true, if_pos rfl, ite_self]

end Core

/-- Settles O22: what comes over a seam is kept on its port, and a WAKE acts once. -/
theorem seamFramesAndWakeComplete : Obligations.SeamFramesAndWakeComplete := by
  refine ⟨fun s p b hears hwired htile hphase hp => ⟨_, gives_seamH p _ b s, ?_⟩,
    fun s p b hears hwired htile hphase hp => ⟨_, gives_seamD p _ b s, ?_⟩,
    fun s p b hears hwired htile hX hdone hp => ⟨_, gives_seamX p _ b s, ?_⟩,
    fun s p n hears hwired hquiet hbare hmay => ⟨_, gives_wake p _ 5#8 n 0#8 s, ?_⟩,
    fun s p t n hears hseen => ⟨_, gives_wake p _ t n 1#8 s, ?_⟩⟩
  · rw [Core.accepted_seam hears hwired htile]
    have hlines := s.core.taken_lines p (.seamH b) (s.core.hport p).lseqRx
    have hkept := Core.takeSeamH_only (c := s.core.taken p (.seamH b) (s.core.hport p).lseqRx) (by rw [hlines.trk]; exact hphase) p b
    obtain ⟨honly, hside, hrest⟩ := Core.taken_modHp hp (.seamH b) (s.core.hport p).lseqRx
      (fun h => { h with inH := some b, digestBad := decide (b.digest ≠ seamDigest s.core.prof), swingNext := b.swing })
    rw [hlines.prof] at hkept
    generalize (s.core.taken p (.seamH b) (s.core.hport p).lseqRx).takeSeamH p b = e at *
    have hport : ∀ q, e.hport q = ((s.core.taken p (.seamH b) (s.core.hport p).lseqRx).modHp p
        (fun h => { h with inH := some b, digestBad := decide (b.digest ≠ seamDigest s.core.prof), swingNext := b.swing })).hport q := fun q => by
      rw [Core.hport, hkept.hp]
      rfl
    refine ⟨?_, ?_, ?_, ?_, ?_, fun q hq => (hport q).trans (hrest q hq)⟩
    · exact Core.onlyRecords_of_ports honly hkept
    · rw [hport, hside]
    · rw [hport, hside]
    · rw [hport, hside]
    · rw [hport, hside]
      rfl
  · rw [Core.accepted_seam hears hwired htile, Core.takeSeamD]
    obtain ⟨honly, hside, hrest⟩ := Core.taken_modHp hp (.seamD b) (s.core.hport p).lseqRx
      (fun h => { h with inD := h.inD.filter (fun d => d.fc == b.fc && d.part != b.part) ++ [b] })
    rw [Core.tryTrack_of_not (by rw [honly]; exact hphase), hside]
    exact ⟨honly, rfl, hrest⟩
  · rw [Core.accepted_seam hears hwired htile, Core.takeSeamX]
    have hlines := s.core.taken_lines p (.seamX b) (s.core.hport p).lseqRx
    have hpart : ((s.core.taken p (.seamX b) (s.core.hport p).lseqRx).hport p).inXPart = (s.core.hport p).inXPart := by
      rw [hlines.hport, Core.modHp_hport_self hp]
      rfl
    rw [hpart]
    dsimp only
    generalize Core.joinX (s.core.hport p).inXPart b = x
    cases hmore : x.more
    · obtain ⟨honly, hside, hrest⟩ := Core.taken_modHp hp (.seamX b) (s.core.hport p).lseqRx
        (fun h => { h with inXPart := none, lastX := some x, inX := if h.xOver then h.inX else some x })
      have hphase : ∀ f, ((s.core.taken p (.seamX b) (s.core.hport p).lseqRx).modHp p f).trk.phase = s.core.trk.phase := fun f => by
        show (s.core.taken p (.seamX b) (s.core.hport p).lseqRx).trk.phase = _
        rw [hlines.trk]
        rfl
      rw [if_neg Bool.false_ne_true, hphase, beq_eq_false_iff_ne.mpr hdone, if_neg Bool.false_ne_true,
        Core.tryFinish_of_not (by rw [hphase]; exact hX), ite_self, hside]
      exact ⟨honly, nofun, fun _ => ⟨rfl, rfl, rfl⟩⟩
    · obtain ⟨honly, hside, hrest⟩ := Core.taken_modHp hp (.seamX b) (s.core.hport p).lseqRx (fun h => { h with inXPart := some x })
      rw [if_pos rfl, hside]
      exact ⟨honly, fun _ => ⟨rfl, rfl, rfl⟩, nofun⟩
  · have hlines := s.core.taken_lines p (.wake 5#8 n 0#8) (s.core.hport p).lseqRx
    rw [Core.takeWake_tile hears hwired]
    have honly := hlines.of_hp
    generalize s.core.taken p (.wake 5#8 n 0#8) (s.core.hport p).lseqRx = d at *
    rw [Core.wakeTo_run (by rw [honly]; exact hquiet) (by rw [honly]; exact hbare) (by rw [honly]; exact hmay), Core.enterRun_only, honly]
    exact ⟨rfl, rfl, rfl, rfl, rfl, rfl, rfl, rfl, rfl, rfl⟩
  · rw [Core.takeWake_seen hears hseen]
    exact (s.core.taken_lines p (.wake t n 1#8) (s.core.hport p).lseqRx).of_hp

end Sys2Proof.Machine

/-!
PROOFS. Grants to a panel and the two elections (chapters 02 and 08, R70, R262 to R265).
-/
namespace Sys2Proof.Machine

/-- `d` is `c` but for what renumbering its tiles and computing its routes again may change of the hedge layer (R264, R272): its blocks, its
panel number and its roles stay. -/
structure Renumbered (c d : Core) : Prop where
  only : OnlyHedge c d
  hg : d.hg = { c.hg with
    roster := d.hg.roster, hasRoster := d.hg.hasRoster, relay := d.hg.relay, seen := d.hg.seen, ownSeq := d.hg.ownSeq
    ownFresh := d.hg.ownFresh, addr := d.hg.addr, u := d.hg.u, v := d.hg.v, posValid := d.hg.posValid, confirmed := d.hg.confirmed
    rootAddr := d.hg.rootAddr, hedgeRootUid := d.hg.hedgeRootUid, routes := d.hg.routes }
  own : d.alloc.ownBlocks = c.alloc.ownBlocks ∧ d.alloc.ownSingles = c.alloc.ownSingles

namespace Renumbered

theorem refl (c : Core) : Renumbered c c := ⟨rfl, rfl, rfl, rfl⟩

theorem trans {a b c : Core} (h : Renumbered a b) (k : Renumbered b c) : Renumbered a c := by
  have hhg := h.hg
  have khg := k.hg
  exact ⟨h.only.trans k.only, by rw [khg, hhg], k.own.1.trans h.own.1, k.own.2.trans h.own.2⟩

theorem of_sent {c d : Core} (h : Sent c d) : Renumbered c d := by
  refine ⟨h.hedge, ?_, by rw [h.alloc], by rw [h.alloc]⟩
  have hhg := h.hg
  rw [hhg]

theorem of_alloc {c d : Core} (h : OnlyAlloc c d) (hblocks : d.alloc.ownBlocks = c.alloc.ownBlocks)
    (hsingles : d.alloc.ownSingles = c.alloc.ownSingles) : Renumbered c d :=
  ⟨h.hedge, by rw [h.hg], hblocks, hsingles⟩

end Renumbered

namespace Core

theorem noteGrant_spec (c : Core) (a : Addr) (uid : Uid) : OnlyAlloc c (c.noteGrant a uid) ∧
    (c.noteGrant a uid).alloc = { c.alloc with byAddr := c.alloc.byAddr.filter (fun y => y.1 != a) ++ [(a, uid)] } :=
  c.modAlloc_spec _

theorem noteGrant_renumbered (c : Core) (a : Addr) (uid : Uid) : Renumbered c (c.noteGrant a uid) := by
  obtain ⟨honly, halloc⟩ := c.noteGrant_spec a uid
  exact .of_alloc honly (by rw [halloc]) (by rw [halloc])

theorem publish_renumbered (c : Core) (tiles : List RosterTile) : Renumbered c (c.publish tiles) :=
  Renumbered.trans (b := c.modHg (fun h => { h with roster := { version := h.roster.version + 1#16, tiles := tiles }, hasRoster := true }))
    ⟨rfl, rfl, rfl, rfl⟩ (.of_sent (c.publish_sent tiles))

theorem takeAddress_renumbered (c : Core) (a : Addr) (u v : BitVec 8) : Renumbered c (c.takeAddress a u v) := ⟨rfl, rfl, rfl, rfl⟩

/-- Routes computed again change the route table, and beside it what is sent (R272). -/
theorem reroute_sent (c : Core) : ∃ r, Sent (c.modHg (fun h => { h with routes := r })) c.reroute := by
  unfold reroute
  dsimp only
  split
  · exact ⟨c.hg.routes, .refl c⟩
  · refine ⟨c.routeTable, ?_⟩
    refine Sent.trans ?_ (relayRetry_sent _)
    refine Sent.trans ?_ (foldl_sent _ (fun c q => .of_records (c.eventAll_only _ _)) _ _)
    exact hedgeSend_sent _ _ _ _

/-- A panel with the number, the blocks and the single addresses that a grant gives, noted in NVM (R263, R264). -/
def withGrant (c : Core) (g : PanelGrant) : Core :=
  (c.modHg (fun h => { h with panel := g.panel, blocks := g.blocks, singles := g.singles, provisional := false, panelRefused := false })).modAlloc
    (fun a => { a with ownBlocks := g.blocks, ownSingles := g.singles })

/-- What a grant does to the hedge root this root knows, and to its routes, once its tiles have their addresses (R265, R272). -/
def afterGrant (c : Core) : Core :=
  let root := c.hedgeRootNow
  let changed := c.hg.hedgeRootUid != some root.1
  let c := (c.modHg (fun h => { h with rootAddr := h.addr, hedgeRootUid := some root.1 })).syncRet
  let c := if changed then c.eventCustodian 0x1C (bvLe 2 root.2) else c
  c.reroute

/-- A tile of the panel takes the next free address (R264). -/
def readdressOne (x : Core × List RosterTile) (t : RosterTile) : Core × List RosterTile :=
  match x.1.newAddr t.uid with
  | none => x
  | some a => (x.1.noteGrant a t.uid, x.2.map (fun y => if y.uid == t.uid then { y with addr := a } else y))

/-- The tiles whose addresses the panel does not hold (R264). -/
def homeless (c : Core) : List RosterTile := c.hg.roster.tiles.filter (fun t => !c.ownAddrs.contains t.addr)

/-- The panel once every tile has an address that it holds, as the roster tells it (R264). -/
def readdressed (c : Core) : Core :=
  let x := c.homeless.foldl readdressOne (c, c.hg.roster.tiles)
  if c.homeless.isEmpty then x.1 else x.1.publish x.2

/-- This tile takes the address that the roster gives it (R264). -/
def ownReaddressed (c : Core) : Core :=
  match c.hg.roster.byUid c.hg.uid with
  | some t => if t.addr == c.hg.addr then c else c.takeAddress t.addr t.u t.v
  | none => c

theorem takeGrant_of_given {c : Core} {g : PanelGrant} (h : g.refused = false) : c.takeGrant g = (c.withGrant g).readdressed.ownReaddressed.afterGrant := by
  unfold takeGrant
  rw [h, if_neg Bool.false_ne_true]
  rfl

theorem readdressOne_renumbered (x : Core × List RosterTile) (t : RosterTile) : Renumbered x.1 (readdressOne x t).1 := by
  unfold readdressOne
  split
  · exact .refl _
  · exact x.1.noteGrant_renumbered _ _

theorem readdressed_renumbered (c : Core) : Renumbered c c.readdressed := by
  have hfold : ∀ (l : List RosterTile) (x : Core × List RosterTile), Renumbered x.1 (l.foldl readdressOne x).1 := by
    intro l
    induction l with
    | nil => exact fun x => .refl x.1
    | cons t l ih => exact fun x => (readdressOne_renumbered x t).trans (ih _)
  unfold readdressed
  dsimp only
  split
  · exact hfold _ (c, c.hg.roster.tiles)
  · exact (hfold _ (c, c.hg.roster.tiles)).trans (publish_renumbered _ _)

theorem ownReaddressed_renumbered (c : Core) : Renumbered c c.ownReaddressed := by
  unfold ownReaddressed
  split
  · split
    · exact .refl c
    · exact c.takeAddress_renumbered _ _ _
  · exact .refl c

/-- This root with the hedge root it knows, and its own address as the panel's (R265, R70). -/
def knowsRoot (c : Core) : Core := (c.modHg (fun h => { h with rootAddr := h.addr, hedgeRootUid := some c.hedgeRootNow.1 })).syncRet

theorem afterGrant_sent (c : Core) : ∃ r, Sent (c.knowsRoot.modHg (fun h => { h with routes := r })) c.afterGrant := by
  have hevent : OnlyRecords c.knowsRoot (if (c.hg.hedgeRootUid != some c.hedgeRootNow.1) = true then
      c.knowsRoot.eventCustodian 0x1C (bvLe 2 c.hedgeRootNow.2) else c.knowsRoot) := by
    split
    · exact eventCustodian_only _ _ _
    · exact .refl _
  have hrun : c.afterGrant = (if (c.hg.hedgeRootUid != some c.hedgeRootNow.1) = true then
      c.knowsRoot.eventCustodian 0x1C (bvLe 2 c.hedgeRootNow.2) else c.knowsRoot).reroute := rfl
  rw [hrun]
  generalize (if (c.hg.hedgeRootUid != some c.hedgeRootNow.1) = true then
      c.knowsRoot.eventCustodian 0x1C (bvLe 2 c.hedgeRootNow.2) else c.knowsRoot) = d at *
  obtain ⟨r, hr⟩ := d.reroute_sent
  refine ⟨r, Sent.trans (.of_records ?_) hr⟩
  unfold OnlyRecords at *
  rw [hevent]
  rfl

theorem afterGrant_renumbered (c : Core) : Renumbered c c.afterGrant := by
  obtain ⟨r, hr⟩ := c.afterGrant_sent
  exact Renumbered.trans (b := c.knowsRoot.modHg (fun h => { h with routes := r })) ⟨rfl, rfl, rfl, rfl⟩ (.of_sent hr)

/-- What a grant gives (R263, R264). -/
theorem takeGrant_spec {c : Core} {g : PanelGrant} (h : g.refused = false) :
    let d := c.takeGrant g
    OnlyHedge c d ∧
      (d.hg.panel = g.panel ∧ d.hg.blocks = g.blocks ∧ d.hg.singles = g.singles ∧ d.hg.provisional = false) ∧
      (d.hg.panelRoot = c.hg.panelRoot ∧ d.hg.hedgeRoot = c.hg.hedgeRoot ∧ d.hg.panelNumbers = c.hg.panelNumbers ∧
        d.hg.adverts = c.hg.adverts) ∧
      (d.alloc.ownBlocks = g.blocks ∧ d.alloc.ownSingles = g.singles) ∧
      d.ret.panel = g.panel ∧ d.ret.hedgeRoot = c.hg.hedgeRoot := by
  obtain ⟨hgiven, halloc⟩ := (c.modHg (fun h => { h with
    panel := g.panel, blocks := g.blocks, singles := g.singles, provisional := false, panelRefused := false })).modAlloc_spec
      (fun a => { a with ownBlocks := g.blocks, ownSingles := g.singles })
  have hnumber := (c.withGrant g).readdressed_renumbered.trans (ownReaddressed_renumbered _)
  dsimp only
  rw [takeGrant_of_given h]
  have hgrant : OnlyHedge c (c.withGrant g) := OnlyHedge.trans (b := c.modHg _) rfl hgiven.hedge
  have hghg : (c.withGrant g).hg = _ := hgiven.hg
  have hown : (c.withGrant g).alloc = _ := halloc
  generalize (c.withGrant g).readdressed.ownReaddressed = e at *
  obtain ⟨r, hr⟩ := e.afterGrant_sent
  have hafter := hnumber.trans e.afterGrant_renumbered
  have hhg := hafter.hg
  have hret := hr.ret
  have hehg := hnumber.hg
  rw [hghg] at hhg hehg
  refine ⟨hgrant.trans hafter.only, ?_, ?_, ?_, ?_, ?_⟩
  · rw [hhg]
    exact ⟨rfl, rfl, rfl, rfl⟩
  · rw [hhg]
    exact ⟨rfl, rfl, rfl, rfl⟩
  · rw [hafter.own.1, hafter.own.2, hown]
    exact ⟨rfl, rfl⟩
  · rw [hret]
    show e.hg.panel = _
    rw [hehg]
    rfl
  · rw [hret]
    show e.hg.hedgeRoot = _
    rw [hehg]
    rfl

end Core

end Sys2Proof.Machine

/-!
PROOFS. The two elections (chapters 02 and 08, R70, R262 to R265).
-/
namespace Sys2Proof.Machine

theorem gives_panelRootElection (s : State) : Gives .panelRootElection s s.core.electPanelRoot := rfl
theorem gives_hedgeRootElection (s : State) : Gives .hedgeRootElection s s.core.electHedgeRoot := rfl

namespace Core

/-- No address is granted, and none is held: every address is free (R263). -/
theorem addrFree_of_nothing {c : Core} (hby : c.alloc.byAddr = []) (hsingles : c.alloc.singles = []) (hadverts : c.hg.adverts = [])
    (htiles : c.hg.roster.tiles = []) (uid : Uid) (a : Addr) : c.addrFree uid a = true := by
  simp [addrFree, grantedTo, hby, hsingles, hadverts, htiles]

/-- A root without a block takes the first provisional one, and its first address (R264). -/
theorem allocate_first {c : Core} (hblocks : c.hg.blocks = []) (hones : c.hg.singles = []) (hprov : c.hg.provisional = true)
    (hby : c.alloc.byAddr = []) (hsingles : c.alloc.singles = []) (hadverts : c.hg.adverts = []) (htiles : c.hg.roster.tiles = [])
    (uid : Uid) (a : Addr) :
    c.allocate uid a = ((c.modHg (fun h => { h with blocks := [0x008#10] })).noteGrant 0x008#10 uid, some 0x008#10) := by
  have hown : c.ownAddrs = [] := by rw [ownAddrs, hblocks, hones]; rfl
  have hnone : c.newAddr uid = none := by rw [newAddr, hown]; rfl
  have hnext : c.nextProvisional = some 0x008#10 := by rw [nextProvisional, hblocks]; rfl
  have hnew : (c.modHg (fun h => { h with blocks := h.blocks ++ [0x008#10] })).newAddr uid = some 0x008#10 := by
    rw [newAddr, ownAddrs]
    show List.find? _ ((c.hg.blocks ++ [0x008#10]).flatMap blockAddrs ++ c.hg.singles) = _
    rw [hblocks, hones]
    exact List.find?_cons_of_pos (addrFree_of_nothing hby hsingles hadverts htiles uid _)
  have hput : c.modHg (fun h => { h with blocks := h.blocks ++ [0x008#10] }) = c.modHg (fun h => { h with blocks := [0x008#10] }) := by
    unfold modHg
    dsimp only
    rw [hblocks]
    rfl
  unfold allocate
  dsimp only
  rw [hown, hnone, hprov, hnext]
  dsimp only
  rw [hnew, hput]
  rfl

/-- This tile as the panel root it becomes, before it has an address (R262, R263). -/
def asRoot (c : Core) : Core :=
  c.modHg (fun h => { h with
    panelRoot := true, depth := 0#4, parent := none, lowestRoot := h.uid, blocks := c.alloc.ownBlocks, singles := c.alloc.ownSingles
    provisional := c.alloc.ownBlocks.isEmpty, tk := Timekeeper.reset })

/-- This tile as the panel root it has become at an address (R262, R263, R70). -/
def rootAt (c : Core) (a : Addr) : Core :=
  let e := c.takeAddress a (if c.hg.confirmed then c.hg.u else 0#8) (if c.hg.confirmed then c.hg.v else 0#8)
  (e.modHg (fun h => { h with rootAddr := a })).syncRet

theorem becomeRoot_of_allocated {c e : Core} {a : Addr} (h : c.asRoot.allocate c.hg.uid c.hg.requested = (e, some a)) :
    c.becomeRoot = (e.rootAt a).publish [(e.rootAt a).ownEntry] := by
  have hrun : c.becomeRoot = match c.asRoot.allocate c.hg.uid c.hg.requested with
    | (c, none) => c
    | (c, some a) => (c.rootAt a).publish [(c.rootAt a).ownEntry] := rfl
  rw [hrun, h]

/-! The election of the hedge root (R265). -/

/-- The blocks of a panel with those the hedge root grants it for the ones it cannot keep (R263, R264). -/
def takeBlock (a : PanelAdvert) (x : Core × List Addr) (b : Addr) : Core × List Addr :=
  let mine := x.1.alloc.granted.any (fun g => g.1 == b && g.2 == a.rootUid)
  let foreign := x.1.alloc.granted.any (fun g => g.1 == b && g.2 != a.rootUid)
  let give := fun (c : Core) (b : Addr) => c.modAlloc (fun x => { x with granted := x.granted ++ [(b, a.rootUid)] })
  if mine || (foreign && !a.provisional) then (x.1, x.2 ++ [b])
  else if foreign then
    match x.1.freeBlock a.blocks with
    | some f => (give x.1 f, x.2 ++ [f])
    | none => x
  else (give x.1 b, x.2 ++ [b])

/-- The addresses granted to a panel where it needs more (R263). -/
def moreFor (a : PanelAdvert) (x : Core × List Addr) : Core × List Addr × List Addr :=
  let need := decide ((x.2.flatMap blockAddrs ++ a.singles).length ≤ a.tileCount.toNat)
  if x.2.isEmpty || need then
    match x.1.freeBlock a.blocks with
    | some f => (x.1.modAlloc (fun y => { y with granted := y.granted ++ [(f, a.rootUid)] }), x.2 ++ [f], a.singles)
    | none =>
      match x.1.freeSingle a.rootUid with
      | some f => (x.1.modAlloc (fun y => { y with singles := y.singles ++ [(f, a.rootUid)] }), x.2, a.singles ++ [f])
      | none => (x.1, x.2, a.singles)
  else (x.1, x.2, a.singles)

theorem modAlloc_only (c : Core) (f : Alloc → Alloc) : OnlyAlloc c (c.modAlloc f) := (c.modAlloc_spec f).1

theorem takeBlock_alloc (a : PanelAdvert) (x : Core × List Addr) (b : Addr) : OnlyAlloc x.1 (takeBlock a x b).1 := by
  unfold takeBlock
  dsimp only
  split
  · exact OnlyAlloc.refl x.1
  · split
    · split
      · dsimp only; exact x.1.modAlloc_only _
      · exact OnlyAlloc.refl x.1
    · dsimp only; exact x.1.modAlloc_only _

theorem foldl_takeBlock_alloc (a : PanelAdvert) (l : List Addr) (x : Core × List Addr) : OnlyAlloc x.1 (l.foldl (takeBlock a) x).1 := by
  induction l generalizing x with
  | nil => exact .refl x.1
  | cons b l ih => exact (takeBlock_alloc a x b).trans (ih _)

theorem moreFor_alloc (a : PanelAdvert) (x : Core × List Addr) : OnlyAlloc x.1 (moreFor a x).1 := by
  unfold moreFor
  dsimp only
  split
  · split
    · dsimp only; exact x.1.modAlloc_only _
    · split
      · dsimp only; exact x.1.modAlloc_only _
      · exact OnlyAlloc.refl x.1
  · exact OnlyAlloc.refl x.1

/-- The hedge root answers its own panel, which has no number yet (R265). -/
theorem answerOne_own {c : Core} {a : PanelAdvert} (hown : a.rootUid = c.hg.uid) (hnumbers : c.hg.panelNumbers = []) {n : BitVec 5}
    (hn : c.panelNumberOf a = some n) : ∃ d g, OnlyAlloc c d ∧ g.refused = false ∧ g.panel = n ∧
      c.answerOne a = (d.modHg (fun h => { h with panelNumbers := [(c.hg.uid, n)] })).takeGrant g := by
  have halloc := (foldl_takeBlock_alloc a a.blocks (c, [])).trans (moreFor_alloc a (a.blocks.foldl (takeBlock a) (c, [])))
  have hrun : c.answerOne a = match c.panelNumberOf a with
    | none => _
    | some n =>
      let y := moreFor a (a.blocks.foldl (takeBlock a) (c, []))
      let known := y.1.hg.panelNumbers.any (fun x => x.1 == a.rootUid)
      let d := if known then y.1 else y.1.modHg (fun h => { h with panelNumbers := h.panelNumbers.filter (fun x => x.2 != n) ++ [(a.rootUid, n)] })
      if known && !a.provisional && y.2.1 == a.blocks && y.2.2 == a.singles && a.panel == n then d
      else
        let g : PanelGrant := { panel := n, blocks := y.2.1, singles := y.2.2, refused := false }
        if a.rootUid == d.hg.uid then d.takeGrant g else d.hedgeSend a.rootAddr 8 g.bytes := rfl
  rw [hrun, hn]
  dsimp only
  generalize moreFor a (a.blocks.foldl (takeBlock a) (c, [])) = y at *
  have hhg : y.1.hg = c.hg := halloc.hg
  have hput : y.1.modHg (fun h => { h with panelNumbers := h.panelNumbers.filter (fun x => x.2 != n) ++ [(a.rootUid, n)] }) =
      y.1.modHg (fun h => { h with panelNumbers := [(c.hg.uid, n)] }) := by
    unfold modHg
    dsimp only
    rw [hhg, hnumbers, hown]
    rfl
  rw [hhg, hnumbers, List.any_nil, if_neg Bool.false_ne_true, Bool.false_and, Bool.false_and, Bool.false_and, Bool.false_and,
    if_neg Bool.false_ne_true, hput]
  refine ⟨y.1, { panel := n, blocks := y.2.1, singles := y.2.2, refused := false }, halloc, rfl, rfl, if_pos ?_⟩
  show (a.rootUid == y.1.hg.uid) = true
  rw [hhg, hown, beq_self_eq_true]

/-- The number of the hedge root's own panel (R265). -/
theorem panelNumberOf_own {c : Core} (hnumbers : c.hg.panelNumbers = []) :
    c.panelNumberOf c.advert = some (if c.hg.provisional then 0#5 else c.hg.panel) := by
  have hprov : c.advert.provisional = c.hg.provisional := rfl
  have hpanel : c.advert.panel = c.hg.panel := rfl
  rw [panelNumberOf, hnumbers, hprov, hpanel]
  cases c.hg.provisional
  · rfl
  · rfl

/-- A panel root without other panels becomes hedge root by answering itself (R265). -/
theorem becomeHedgeRoot_alone {c : Core} (hadverts : c.hg.adverts = []) (hnumbers : c.hg.panelNumbers = []) :
    ∃ d g, OnlyAlloc ((c.modHg (fun h => { h with hedgeRoot := true })).syncRet) d ∧ g.refused = false ∧
      g.panel = (if c.hg.provisional then 0#5 else c.hg.panel) ∧
      c.becomeHedgeRoot = (d.modHg (fun h => { h with panelNumbers := [(c.hg.uid, g.panel)] })).takeGrant g := by
  have hstart : (c.modHg (fun h => { h with hedgeRoot := true, adverts := c.hg.adverts.filter (fun a => decide (c.hg.uid.toNat < a.rootUid.toNat)) })).syncRet =
      (c.modHg (fun h => { h with hedgeRoot := true })).syncRet := by
    unfold modHg
    rw [hadverts, List.filter_nil]
    rw [← hadverts]
  generalize hc : (c.modHg (fun h => { h with hedgeRoot := true })).syncRet = e at *
  have hen : e.hg.panelNumbers = [] := by rw [← hc]; exact hnumbers
  obtain ⟨d, g, hd, hg, hpanel, hrun⟩ := answerOne_own (c := e) (a := e.advert) rfl hen (panelNumberOf_own hen)
  have hprov : (if e.hg.provisional then 0#5 else e.hg.panel) = if c.hg.provisional then 0#5 else c.hg.panel := by rw [← hc]; rfl
  refine ⟨d, g, hd, hg, hpanel.trans hprov, ?_⟩
  have hkeep : (d.modHg (fun h => { h with panelNumbers := [(c.hg.uid, g.panel)] })).takeGrant g = e.answerOne e.advert := by
    rw [hrun, hpanel, ← hc]
    rfl
  obtain ⟨-, -, ⟨-, -, -, hempty⟩, -⟩ := takeGrant_spec (c := d.modHg (fun h => { h with panelNumbers := [(c.hg.uid, g.panel)] })) hg
  have hnone : (e.answerOne e.advert).hg.adverts = [] := by
    rw [← hkeep, hempty]
    show d.hg.adverts = []
    rw [hd.hg, ← hc]
    exact hadverts
  have hpanel : e.answerPanel e.advert = e.answerOne e.advert := by
    unfold answerPanel
    dsimp only
    rw [hnone]
    rfl
  unfold becomeHedgeRoot
  dsimp only
  rw [hstart, hpanel, hadverts, hkeep]
  rfl

end Core

/-- Settles O23: the first address of the first block, and a grant to the hedge root itself. -/
theorem electionsComplete : Obligations.ElectionsComplete := by
  refine ⟨fun s hfast hroot hroster hlow hblocks hones hby hsingles hadverts htiles hrelay => ⟨_, gives_panelRootElection s, ?_⟩,
    fun s hfast hroot hnot hadverts hnumbers => ⟨_, gives_hedgeRootElection s, ?_⟩,
    fun s hroot => (gives_panelRootElection s).congr ?_, fun s hroot => (gives_hedgeRootElection s).congr ?_⟩
  · have halloc := Core.allocate_first (c := s.core.asRoot) hblocks hones (by show s.core.alloc.ownBlocks.isEmpty = true; rw [hblocks]; rfl)
      hby hsingles hadverts htiles s.core.hg.uid s.core.hg.requested
    have hrun : s.core.electPanelRoot = s.core.becomeRoot := by
      rw [Core.electPanelRoot, hfast, hroot, hroster, hlow, beq_self_eq_true]
      rfl
    rw [hrun, Core.becomeRoot_of_allocated halloc]
    obtain ⟨hgrant, hbyAddr⟩ := Core.noteGrant_spec (s.core.asRoot.modHg (fun h => { h with blocks := [0x008#10] })) 0x008#10 s.core.hg.uid
    generalize (s.core.asRoot.modHg (fun h => { h with blocks := [0x008#10] })).noteGrant 0x008#10 s.core.hg.uid = e at *
    have hpub := (e.rootAt 0x008#10).publish_sent [(e.rootAt 0x008#10).ownEntry]
    have hhg := hpub.hg
    have hret := hpub.ret
    have hhp := hpub.hp
    have halloc' := hpub.alloc
    have honly : OnlyHedge s.core ((e.rootAt 0x008#10).publish [(e.rootAt 0x008#10).ownEntry]) :=
      ((OnlyHedge.trans (b := s.core.asRoot.modHg _) rfl hgrant.hedge).trans (b := e) (c := (e.rootAt 0x008#10).modHg _) rfl).trans hpub.hedge
    have hehg := hgrant.hg
    beta_reduce
    rw [hhp, hret, halloc', hhg]
    refine ⟨honly, hgrant.hp, ?_⟩
    show e.hg.panelRoot = true ∧ e.hg.depth = 0#4 ∧ e.hg.parent = none ∧ e.hg.lowestRoot = s.core.hg.uid ∧ 0x008#10 = 0x008#10 ∧
      0x008#10 = 0x008#10 ∧ true = true ∧ e.hg.blocks = [0x008#10] ∧ e.hg.provisional = true ∧
      (if e.hg.confirmed then e.hg.u else 0#8) = _ ∧ (if e.hg.confirmed then e.hg.v else 0#8) = _ ∧
      e.hg.roster.version + 1#16 = _ ∧ [(e.hg.uid, 0x008#10)] = _ ∧ e.alloc.byAddr = _ ∧ e.hg.panelRoot = true ∧ 0x008#10 = 0x008#10
    rw [hehg, hbyAddr]
    refine ⟨rfl, rfl, rfl, rfl, rfl, rfl, rfl, rfl, ?_, rfl, rfl, rfl, rfl, ?_, rfl, rfl⟩
    · show s.core.alloc.ownBlocks.isEmpty = true
      rw [hblocks]
      rfl
    · show s.core.alloc.byAddr.filter _ ++ _ = _
      rw [hby]
      rfl
  · have hrun : s.core.electHedgeRoot = s.core.becomeHedgeRoot := by
      rw [Core.electHedgeRoot, hfast, hroot, hnot]
      rfl
    obtain ⟨d, g, hd, hg, hpanel, hbecome⟩ := Core.becomeHedgeRoot_alone hadverts hnumbers
    rw [hrun, hbecome]
    have hroles : d.hg = { s.core.hg with hedgeRoot := true } := hd.hg
    obtain ⟨honly, ⟨hgpanel, hgblocks, hgsingles, hgprov⟩, ⟨hproot, hhroot, hpn, -⟩, ⟨hob, hos⟩, hrpanel, hrroot⟩ :=
      Core.takeGrant_spec (c := d.modHg (fun h => { h with panelNumbers := [(s.core.hg.uid, g.panel)] })) hg
    have hstart : OnlyHedge s.core (d.modHg (fun h => { h with panelNumbers := [(s.core.hg.uid, g.panel)] })) :=
      (OnlyHedge.trans (b := (s.core.modHg (fun h => { h with hedgeRoot := true })).syncRet) rfl hd.hedge).trans rfl
    beta_reduce
    rw [hgpanel, hgblocks, hgsingles, hob, hos, hrpanel, hrroot, hproot, hhroot, hpn]
    refine ⟨hstart.trans honly, ?_, ?_, hpanel, hgprov, rfl, rfl, rfl, ?_, rfl⟩
    · exact congrArg Hedge.hedgeRoot hroles
    · exact (congrArg Hedge.panelRoot hroles).trans hroot
    · exact congrArg Hedge.hedgeRoot hroles
  · rw [Core.electPanelRoot, hroot, Bool.not_true, Bool.and_false]
    rfl
  · rw [Core.electHedgeRoot, hroot, Bool.and_false]
    rfl

end Sys2Proof.Machine

/-!
PROOFS. Admission at the root and what comes back (chapters 01 and 08, R28, R258, R263, R264, R267, R270).
-/
namespace Sys2Proof.Machine

theorem gives_joinReq (sponsor : Addr) (h : Hello) (a : Addr) (p : BitVec 3) (s : State) :
    Gives (.joinReq sponsor h a p) s (s.core.atRoot (fun c => c.rootJoin sponsor h a p)) := rfl
theorem gives_joinGrant (g : JoinGrant) (s : State) : Gives (.joinGrant g) s (s.core.when s.core.fast (fun c => c.admitBack (.grant g))) := rfl
theorem gives_joinRefuse (u : Uid) (r : RefuseReason) (s : State) :
    Gives (.joinRefuse u r) s (s.core.when s.core.fast (fun c => c.admitBack (.refuse u r))) := rfl
theorem gives_joinRetry (s : State) : Gives .joinRetry s s.core.joinRetry := rfl
theorem gives_hedgeRoster (r : Roster) (s : State) : Gives (.hedgeRoster r) s (s.core.when s.core.fast (fun c => c.takeRoster r)) := rfl

/-- The tile that an answer to a JOIN names. -/
def admitUid : Admission → Uid
  | .grant g => g.uid
  | .refuse u _ => u

namespace Core

theorem atRoot_of_root {c : Core} (hfast : c.fast = true) (hroot : c.hg.panelRoot = true) (f : Core → Core) : c.atRoot f = f c := by
  rw [atRoot, hfast, hroot]
  rfl

/-! The sponsor passes the answer on (R267). -/

theorem admitBack_eq (c : Core) (a : Admission) : c.admitBack a = match c.hg.joinWait.find? (fun w => w.2 == (admitUid a)) with
    | none => c
    | some w => (c.modHg (fun h => { h with joinWait := h.joinWait.filter (fun x => x.2 != (admitUid a)) })).sendFrame w.1 (.admission a) := by
  cases a <;> rfl

theorem admitBack_of_waiting {c : Core} {a : Admission} {p : Port} (h : c.hg.joinWait = [(p, (admitUid a))]) :
    c.admitBack a = (c.modHg (fun h => { h with joinWait := [] })).sendFrame p (.admission a) := by
  have hput : c.modHg (fun h => { h with joinWait := h.joinWait.filter (fun x => x.2 != (admitUid a)) }) = c.modHg (fun h => { h with joinWait := [] }) := by
    unfold modHg
    dsimp only
    rw [h]
    simp
  have hfind : c.hg.joinWait.find? (fun w => w.2 == admitUid a) = some (p, admitUid a) := by rw [h]; simp
  rw [admitBack_eq, hput, hfind]

/-- An answer passed on changes who waits for one, and the frames that wait (R267). -/
theorem admitBack_only (c : Core) (a : Admission) : ∃ w, OnlyTxq (c.modHg (fun h => { h with joinWait := w })) (c.admitBack a) := by
  rw [admitBack_eq]
  split
  · exact ⟨c.hg.joinWait, .refl c⟩
  · exact ⟨_, sendFrame_only _ _ _⟩

/-- What an answer of the root to a sponsor changes: who waits for one, and what is sent. -/
structure Replied (c d : Core) : Prop where
  only : ∃ w, d = { c with
    lnk := d.lnk, hg := { c.hg with joinWait := w, relay := d.hg.relay, seen := d.hg.seen, ownSeq := d.hg.ownSeq, ownFresh := d.hg.ownFresh } }

theorem Replied.hedge {c d : Core} (h : Replied c d) : OnlyHedge c d := by
  obtain ⟨w, hw⟩ := h.only
  unfold OnlyHedge
  rw [hw]

/-- What an answer leaves as it was. -/
theorem Replied.same {c d : Core} (h : Replied c d) : d.hp = c.hp ∧ d.nvm = c.nvm ∧ d.ret = c.ret ∧ d.hg.roster = c.hg.roster ∧
    d.hg.addr = c.hg.addr ∧ d.hg.panel = c.hg.panel ∧ d.hg.blocks = c.hg.blocks := by
  obtain ⟨w, hw⟩ := h.only
  rw [hw]
  exact ⟨rfl, rfl, rfl, rfl, rfl, rfl, rfl⟩

theorem admitBack_replied (c : Core) (a : Admission) : Replied c (c.admitBack a) := by
  obtain ⟨w, hw⟩ := c.admitBack_only a
  have honly := hw.1
  exact ⟨w, by rw [honly]; rfl⟩

theorem hedgeSend_replied (c : Core) (dst : Addr) (op : Nat) (payload : List Byte) : Replied c (c.hedgeSend dst op payload) := by
  have honly := (c.hedgeSend_posted dst op payload).only
  exact ⟨c.hg.joinWait, by rw [honly]⟩

theorem sendGrant_replied (c : Core) (sponsor : Addr) (g : JoinGrant) : Replied c (c.sendGrant sponsor g) := by
  unfold sendGrant
  split
  · exact c.admitBack_replied _
  · exact c.hedgeSend_replied _ _ _

theorem refuseJoin_replied (c : Core) (sponsor : Addr) (uid : Uid) (r : RefuseReason) :
    ∃ d, OnlyRecords c d ∧ Replied d (c.refuseJoin sponsor uid r) := by
  refine ⟨c.eventCustodian 0x19 (bvLe 6 uid ++ [r.code]), c.eventCustodian_only _ _, ?_⟩
  unfold refuseJoin
  dsimp only
  split
  · exact admitBack_replied _ _
  · exact hedgeSend_replied _ _ _ _

/-! The root admits, or refuses (R28, R263, R267). -/

/-- A tile of the panel that the roster does not hold yet, at a free place. -/
def NewPlace (c : Core) (h : Hello) : Prop :=
  c.hg.roster.byUid h.uid = none ∧ h.posValid = true ∧ ∀ t ∈ c.hg.roster.live, ¬ (t.u = h.u ∧ t.v = h.v)

/-- The entry of a newly admitted tile. -/
def newEntry (h : Hello) (a : Addr) : RosterTile :=
  { uid := h.uid, addr := a, u := h.u, v := h.v, mask := 0#6, state := h.state, lost := false }

theorem noClash {c : Core} {h : Hello} (hfree : ∀ t ∈ c.hg.roster.live, ¬ (t.u = h.u ∧ t.v = h.v)) :
    c.hg.roster.live.any (fun t => t.uid != h.uid && t.u == h.u && t.v == h.v) = false := by
  rw [List.any_eq_false]
  intro t ht hclash
  simp only [Bool.and_eq_true, beq_iff_eq] at hclash
  exact hfree t ht ⟨hclash.1.2, hclash.2⟩

theorem rootJoin_full {c : Core} {h : Hello} (hnew : c.NewPlace h) (hfull : 64 ≤ c.hg.roster.live.length) (sponsor a : Addr) (p : BitVec 3) :
    c.rootJoin sponsor h a p = c.refuseJoin sponsor h.uid .panelFull := by
  obtain ⟨hknown, hpos, hfree⟩ := hnew
  unfold rootJoin
  dsimp only
  rw [hknown, hpos]
  dsimp only [Option.map_none, Option.getD_none]
  rw [if_neg (by rw [noClash hfree, Bool.and_false]; exact Bool.false_ne_true), decide_eq_true hfull]
  exact if_pos (by rfl)

theorem allocate_requested {c : Core} {uid : Uid} {a : Addr} (hin : a ∈ c.hg.blocks.flatMap blockAddrs) (hfree : c.addrFree uid a = true) :
    c.allocate uid a = (c.noteGrant a uid, some a) := by
  have hown : c.ownAddrs.contains a = true := List.contains_iff_mem.mpr (List.mem_append_left _ hin)
  unfold allocate
  dsimp only
  rw [hown, hfree]
  rfl

theorem rootJoin_admits {c : Core} {h : Hello} (hnew : c.NewPlace h) (hroom : c.hg.roster.live.length < 64) (hhedge : c.hedgeTiles < 1021)
    {a : Addr} (hin : a ∈ c.hg.blocks.flatMap blockAddrs) (haddr : c.addrFree h.uid a = true) (sponsor : Addr) (p : BitVec 3) :
    ∃ g, c.rootJoin sponsor h a p = ((((c.noteGrant a h.uid).modHg (fun h => { h with wireJoined := false })).publish
      (linkNeighbours (c.noteGrant a h.uid).hg.roster.tiles (newEntry h a))).sendGrant sponsor g) := by
  obtain ⟨hknown, hpos, hfree⟩ := hnew
  unfold rootJoin
  dsimp only
  rw [hknown, hpos]
  dsimp only [Option.map_none, Option.getD_none]
  rw [if_neg (by rw [noClash hfree, Bool.and_false]; exact Bool.false_ne_true),
    if_neg (by rw [decide_eq_false (Nat.not_le.mpr hroom), Bool.and_false]; exact Bool.false_ne_true),
    if_neg (by rw [decide_eq_false (Nat.not_le.mpr hhedge), Bool.and_false]; exact Bool.false_ne_true), allocate_requested hin haddr]
  exact ⟨_, rfl⟩

/-- A tile that the roster does not hold joins it as one more entry (R258, R270). -/
theorem linkNeighbours_new {l : List RosterTile} {n : RosterTile} (h : ∀ t ∈ l, t.uid ≠ n.uid) :
    (linkNeighbours l n).length = l.length + 1 ∧
      ∃ t ∈ linkNeighbours l n, t.uid = n.uid ∧ t.addr = n.addr ∧ t.u = n.u ∧ t.v = n.v ∧ t.state = n.state ∧ t.lost = n.lost := by
  have hall : l.filter (fun t => t.uid != n.uid) = l := List.filter_eq_self.mpr fun t ht => bne_iff_ne.mpr (h t ht)
  unfold linkNeighbours
  dsimp only
  refine ⟨?_, _, List.mem_append_right _ (List.mem_singleton.mpr rfl), rfl, rfl, rfl, rfl, rfl, rfl⟩
  rw [List.length_append, List.length_map, hall]
  rfl

theorem ne_of_byUid_none {r : Roster} {u : Uid} (h : r.byUid u = none) : ∀ t ∈ r.tiles, t.uid ≠ u := by
  intro t ht hu
  exact absurd (List.find?_eq_none.mp h t ht) (by simp [hu])

/-! A refused tile asks again (R258, R267). -/

theorem sendJoin_plain {c : Core} {p : Port} (hconf : c.hg.confirmed = false) (hnone : c.implied p = none) :
    c.sendJoin p = c.sendFrame p (.join (c.helloBody p) c.hg.requested) := by
  rw [sendJoin, hnone, hconf]
  rfl

theorem sendJoin_placed {c : Core} {p : Port} (hconf : c.hg.confirmed = false) {x : Int × Int} (hx : c.implied p = some x) :
    c.sendJoin p = c.sendFrame p (.join
      { c.helloBody p with u := BitVec.ofInt 8 x.1, v := BitVec.ofInt 8 x.2, posValid := true } c.hg.requested) := by
  rw [sendJoin, hx, hconf]
  rfl

theorem askJoin_of_agreed {c : Core} {p : Port} (hconf : c.hg.confirmed = false) (hroot : c.hg.panelRoot = false) (hsponsor : c.sponsor = some p)
    (hagree : c.implied p = none ∨ ∀ q y, c.implied q = some y → c.implied p = some y) :
    c.askJoin = (c.modHg (fun h => { h with posConflict := false })).sendJoin p := by
  have hclash : ((ports.filterMap c.implied).any (fun x => some x != c.implied p) && (c.implied p).isSome) = false := by
    rcases hagree with hnone | hsame
    · rw [hnone, Option.isSome_none, Bool.and_false]
    · rw [List.any_eq_false.mpr, Bool.false_and]
      intro y hy
      obtain ⟨q, -, hq⟩ := List.mem_filterMap.mp hy
      rw [hsame q y hq]
      simp
  unfold askJoin
  rw [hconf, hroot, hsponsor]
  dsimp only
  rw [if_neg (by decide), if_neg (by rw [hclash]; exact Bool.false_ne_true)]

theorem joinRetry_of_refused {c : Core} (hfast : c.fast = true) (href : c.hg.joinRefused = true) : c.joinRetry = c.askJoin := by
  rw [joinRetry, hfast, href]
  rfl

/-! A roster arrives (R264, R270, R297). -/

theorem takeRoster_refused {c : Core} {r : Roster} (hroot : c.hg.panelRoot = true) (h : r.byUid c.hg.uid = none) : c.takeRoster r = c := by
  have hout : r.live.any (fun t => t.uid == c.hg.uid) = false := List.any_eq_false.mpr fun t ht => by
    simpa using ne_of_byUid_none h t (List.mem_filter.mp ht).1
  rw [takeRoster, hroot, hout]
  rfl

theorem live_of_byUid {r : Roster} {u : Uid} {t : RosterTile} (h : r.byUid u = some t) (hlive : t.lost = false) :
    r.live.any (fun t => t.uid == u) = true :=
  List.any_eq_true.mpr ⟨t, List.mem_filter.mpr ⟨List.mem_of_find?_eq_some h, by rw [hlive]; rfl⟩, by simpa using List.find?_some h⟩

/-- The root that a tile knows of after a roster (R262). -/
def followRoot (c : Core) (r : Roster) : Core :=
  let c := if c.hg.panelRoot || r.live.any (fun t => t.uid == c.hg.lowestRoot) then c
    else match r.lowest with
      | some t => c.modHg (fun h => { h with lowestRoot := t.uid })
      | none => c
  if c.hg.panelRoot then c else c.noteRoot c.hg.lowestRoot

theorem followRoot_of_root {c : Core} (h : c.hg.panelRoot = true) (r : Roster) : c.followRoot r = c := by
  rw [followRoot, h, Bool.true_or, if_pos rfl, h, if_pos rfl]

theorem followRoot_only (c : Core) (r : Roster) :
    c.followRoot r = { c with hg := { c.hg with lowestRoot := (c.followRoot r).hg.lowestRoot, rootAddr := (c.followRoot r).hg.rootAddr } } := by
  have hfirst : ∃ u, (if (c.hg.panelRoot || r.live.any (fun t => t.uid == c.hg.lowestRoot)) = true then c
      else match r.lowest with
        | some t => c.modHg (fun h => { h with lowestRoot := t.uid })
        | none => c) = c.modHg (fun h => { h with lowestRoot := u }) := by
    split
    · exact ⟨c.hg.lowestRoot, rfl⟩
    · split
      · exact ⟨_, rfl⟩
      · exact ⟨c.hg.lowestRoot, rfl⟩
  obtain ⟨u, hu⟩ := hfirst
  unfold followRoot
  dsimp only
  rw [hu]
  split
  · rfl
  · rw [noteRoot_hg]
    rfl

/-- What this tile makes of its own entry (R264, R297). -/
def ownEntryTaken (c : Core) (r : Roster) : Core :=
  match r.byUid c.hg.uid with
  | none => c
  | some t =>
    if t.lost then c.rejoin c.sponsor
    else if (t.addr == c.hg.addr && t.u == c.hg.u && t.v == c.hg.v) || !c.hg.confirmed then c
    else c.takeAddress t.addr t.u t.v

/-- The tile with a new roster. -/
def rostered (c : Core) (r : Roster) : Core := c.modHg (fun h => { h with roster := r, hasRoster := true })

theorem takeRoster_of_live {c : Core} {r : Roster} {t : RosterTile} (h : r.byUid c.hg.uid = some t) (hlive : t.lost = false) :
    c.takeRoster r = (((c.rostered r).followRoot r).ownEntryTaken r).relayRetry := by
  have hpass : (c.hg.panelRoot && !r.live.any (fun t => t.uid == c.hg.uid)) = false := by
    rw [live_of_byUid h hlive]
    exact Bool.and_false _
  unfold takeRoster
  rw [if_neg (by rw [hpass]; exact Bool.false_ne_true)]
  rfl

/-- This tile's entry says where it is (R264). -/
theorem ownEntryTaken_spec {c : Core} {r : Roster} {t : RosterTile} (h : r.byUid c.hg.uid = some t) (hlive : t.lost = false)
    (hconf : c.hg.confirmed = true) :
    ((t.addr = c.hg.addr ∧ t.u = c.hg.u ∧ t.v = c.hg.v) → c.ownEntryTaken r = c) ∧
    (¬ (t.addr = c.hg.addr ∧ t.u = c.hg.u ∧ t.v = c.hg.v) → c.ownEntryTaken r = c.takeAddress t.addr t.u t.v) := by
  have hsame : ((t.addr == c.hg.addr && t.u == c.hg.u && t.v == c.hg.v) || !c.hg.confirmed) = true ↔
      t.addr = c.hg.addr ∧ t.u = c.hg.u ∧ t.v = c.hg.v := by
    rw [hconf]
    simp [and_assoc]
  unfold ownEntryTaken
  rw [h]
  dsimp only
  rw [hlive, if_neg Bool.false_ne_true]
  exact ⟨fun he => if_pos (hsame.mpr he), fun he => if_neg (fun hc => he (hsame.mp hc))⟩

end Core

/-- Settles O24: the root admits where the place is free, the sponsor passes on, and a roster is taken whole. -/
theorem admissionAtRootCompletes : Obligations.AdmissionAtRootCompletes := by
  refine ⟨fun s sponsor h a p hfast hroot hin haddr hknown hpos hfree hroom hhedge => ⟨_, gives_joinReq sponsor h a p s, ?_⟩,
    fun s sponsor h a p hfast hroot hknown hpos hfree hfull => ⟨_, gives_joinReq sponsor h a p s, ?_⟩,
    fun s g p hfast hwait hp => ⟨_, gives_joinGrant g s, ?_⟩, fun s u r p hfast hwait hp => ⟨_, gives_joinRefuse u r s, ?_⟩,
    fun s p hfast href hconf hroot hsponsor htile hp => ⟨_, gives_joinRetry s, ?_⟩,
    fun s p x hfast href hconf hroot hsponsor himp hsame hp => ⟨_, gives_joinRetry s, ?_⟩,
    fun s r hroot hnone => (gives_hedgeRoster r s).congr ?_,
    fun s r t hfast hroot hown hlive haddr hu hv hrelay => (gives_hedgeRoster r s).congr ?_,
    fun s r t hfast hconf hown hlive => ⟨_, gives_hedgeRoster r s, ?_⟩⟩
  · obtain ⟨g, hrun⟩ := Core.rootJoin_admits ⟨hknown, hpos, hfree⟩ hroom hhedge hin haddr sponsor p
    obtain ⟨hgrant, halloc⟩ := s.core.noteGrant_spec a h.uid
    obtain ⟨hlen, hentry⟩ := Core.linkNeighbours_new (l := (s.core.noteGrant a h.uid).hg.roster.tiles) (n := Core.newEntry h a)
      (by rw [hgrant.hg]; exact Core.ne_of_byUid_none hknown)
    rw [Core.atRoot_of_root hfast hroot, hrun]
    generalize hl : linkNeighbours (s.core.noteGrant a h.uid).hg.roster.tiles (Core.newEntry h a) = l at *
    have hhg := hgrant.hg
    have hhp := hgrant.hp
    have hret := hgrant.ret
    have hhedge := hgrant.hedge
    generalize s.core.noteGrant a h.uid = e at *
    have hpub := (e.modHg (fun h => { h with wireJoined := false })).publish_sent l
    have hreply := ((e.modHg (fun h => { h with wireJoined := false })).publish l).sendGrant_replied sponsor g
    have hpubAlloc := hpub.alloc
    have hpubHg := hpub.hg
    have hpubRet := hpub.ret
    have hpubHp := hpub.hp
    have hpubOnly := hpub.hedge
    generalize (e.modHg (fun h => { h with wireJoined := false })).publish l = d at *
    generalize d.sendGrant sponsor g = f at *
    obtain ⟨hfhp, hfnvm, hfret, hfroster, hfaddr, hfpanel, hfblocks⟩ := hreply.same
    have hfalloc : f.alloc = d.alloc := by rw [Core.alloc, hfnvm]; rfl
    have halloc' : d.alloc = e.alloc := hpubAlloc
    rw [hfhp, hfret, hfroster, hfaddr, hfpanel, hfblocks, hfalloc, halloc', halloc, hpubHp, hpubRet, hpubHg]
    have hwire : OnlyHedge e (e.modHg (fun h => { h with wireJoined := false })) := rfl
    refine ⟨((hhedge.trans hwire).trans (OnlyHedge.trans (b := Core.modHg _ _) rfl hpubOnly)).trans hreply.hedge, hhp, ?_, ?_, ?_, rfl, rfl, ?_, ?_, ?_, hret⟩
    · show e.hg.roster.version + 1#16 = _
      rw [hhg]
    · show l.length = _
      rw [hlen, hhg]
    · exact hentry
    · show e.hg.addr = _
      rw [hhg]
    · show e.hg.panel = _
      rw [hhg]
    · show e.hg.blocks = _
      rw [hhg]
  · rw [Core.atRoot_of_root hfast hroot, Core.rootJoin_full ⟨hknown, hpos, hfree⟩ hfull]
    obtain ⟨d, hevent, hreply⟩ := s.core.refuseJoin_replied sponsor h.uid .panelFull
    obtain ⟨hhp, hnvm, hret, hroster, haddr, -, -⟩ := hreply.same
    rw [hhp, hnvm, hret, hroster, haddr]
    exact ⟨(OnlyHedge.of_records hevent).trans hreply.hedge, hevent.hp, hevent.nvm, by rw [hevent.hg], by rw [hevent.hg], hevent.ret⟩
  · rw [hfast, Core.when_true, Core.admitBack_of_waiting (a := .grant g) hwait]
    exact ⟨Core.sendFrame_only _ p _, Core.exists_sent _ p _ hp⟩
  · rw [hfast, Core.when_true, Core.admitBack_of_waiting (a := .refuse u r) hwait]
    exact ⟨Core.sendFrame_only _ p _, Core.exists_sent _ p _ hp⟩
  · have hnone : s.core.implied p = none := by rw [Core.implied, htile]; rfl
    rw [Core.joinRetry_of_refused hfast href, Core.askJoin_of_agreed hconf hroot hsponsor (.inl hnone),
      Core.sendJoin_plain (by exact hconf) (by exact hnone)]
    exact ⟨Core.sendFrame_only _ p _, rfl, Core.exists_sent _ p _ hp⟩
  · rw [Core.joinRetry_of_refused hfast href, Core.askJoin_of_agreed hconf hroot hsponsor
      (.inr fun q y hq => by rw [himp, hsame q y hq]), Core.sendJoin_placed (by exact hconf) (by exact himp)]
    exact ⟨Core.sendFrame_only _ p _, rfl, Core.exists_sent _ p _ hp⟩
  · exact Core.when_keeps (fun a b => b = a) (fun _ => rfl) s.core _ _ (Core.takeRoster_refused hroot hnone)
  · rw [hfast, Core.when_true, Core.takeRoster_of_live hown hlive]
    have hkeep : (s.core.rostered r).followRoot r = s.core.rostered r :=
      Core.followRoot_of_root (c := s.core.rostered r) hroot r
    rw [hkeep]
    have htaken : (s.core.rostered r).ownEntryTaken r = s.core.rostered r := by
      rw [Core.ownEntryTaken, show r.byUid (s.core.rostered r).hg.uid = some t from hown]
      dsimp only
      rw [hlive, if_neg Bool.false_ne_true, if_pos]
      show ((t.addr == s.core.hg.addr && t.u == s.core.hg.u && t.v == s.core.hg.v) || _) = true
      rw [haddr, hu, hv, beq_self_eq_true, beq_self_eq_true, beq_self_eq_true]
      rfl
    rw [htaken]
    exact Core.relayRetry_of_empty hrelay
  · have hroot := Core.followRoot_only (s.core.rostered r) r
    rw [hfast, Core.when_true, Core.takeRoster_of_live hown hlive]
    generalize (s.core.rostered r).followRoot r = e at *
    obtain ⟨hstay, hmove⟩ := Core.ownEntryTaken_spec (c := e) (r := r) (by rw [hroot]; exact hown) hlive (by rw [hroot]; exact hconf)
    have hsent := (e.ownEntryTaken r).relayRetry_sent
    have hhg := hsent.hg
    have hhp := hsent.hp
    have hret := hsent.ret
    have honly := hsent.hedge
    have hehedge : OnlyHedge s.core e := by rw [hroot]; rfl
    have hehg : e.hg = { s.core.hg with roster := r, hasRoster := true, lowestRoot := e.hg.lowestRoot, rootAddr := e.hg.rootAddr } :=
      congrArg Core.hg hroot
    have hehp : e.hp = s.core.hp := by rw [hroot]; rfl
    beta_reduce
    rw [hhg, hhp, hret]
    by_cases hplace : t.addr = e.hg.addr ∧ t.u = e.hg.u ∧ t.v = e.hg.v
    · rw [hstay hplace] at honly ⊢
      obtain ⟨haddr, hu, hv⟩ := hplace
      refine ⟨hehedge.trans honly, ?_, ?_, haddr.symm, hu.symm, hv.symm, hehp, fun hmoved => absurd ?_ hmoved⟩
      · show e.hg.roster = r
        rw [hehg]
      · show e.hg.hasRoster = true
        rw [hehg]
      · rw [haddr, hu, hv, hehg]
        exact ⟨rfl, rfl, rfl⟩
    · rw [hmove hplace] at honly ⊢
      refine ⟨(hehedge.trans (OnlyHedge.trans (b := e.takeAddress t.addr t.u t.v) rfl honly)), ?_, ?_, rfl, rfl, rfl, hehp, fun _ => ⟨rfl, rfl, rfl⟩⟩
      · show e.hg.roster = r
        rw [hehg]
      · show e.hg.hasRoster = true
        rw [hehg]

end Sys2Proof.Machine

/-!
PROOFS. What the root and the timekeeper keep of their tiles (chapters 05 and 08, R165, R286, R287, R294).
-/
namespace Sys2Proof.Machine

theorem gives_tileReport (src : Addr) (r : TileReport) (s : State) : Gives (.tileReport src r) s (s.core.atRoot (fun c => c.takeReport src r)) := rfl
theorem gives_frameTimingStop (s : State) : Gives .frameTimingStop s s.core.timingStop := rfl
theorem gives_loss (src : Addr) (r : LossReport) (s : State) : Gives (.loss src r) s (s.core.atRoot (fun c => c.rootLoss src r)) := rfl
theorem gives_lossDecision (s : State) : Gives .lossDecision s (s.core.atRoot (fun c => c.decideFirst)) := rfl
theorem gives_contactIdFree (a : Addr) (s : State) : Gives (.contactIdFree a) s (s.core.freeIds a) := rfl

namespace Core

/-- The timekeeper's part with a tile's report (R165, R286, R287). -/
def reported (c : Core) (src : Addr) (r : TileReport) : Timekeeper :=
  let back := fun (g : Addr × BitVec 6 × BitVec 32) => g.1 == src && decide (g.2.2.toNat ≤ r.fc.toNat)
  { c.hg.tk with
    tiles := c.hg.tk.tiles.filter (fun t => t.addr != src) ++ [{ addr := src, inUse := r.inUse, wanted := r.idsReq.toNat, fc := r.fc }]
    freed := c.hg.tk.freed ++ (bitIds (r.returned &&& c.idsOf src)).map (fun i => { id := i, fc := r.fc })
    figures := r.surveys.foldl (fun l s => noteFigure l s.1.toNat s.2 r.fc) c.hg.tk.figures
    framesQuiet := 0, granted := c.hg.tk.granted.filter (fun g => !back g)
    adopted := if c.hg.tk.adopted.isNone then some (r.frameTicks, r.digest) else c.hg.tk.adopted }

/-- A report of a tile that is not LOST changes the timekeeper's part only (R286). -/
theorem takeReport_of_live {c : Core} {src : Addr} (r : TileReport) (hrun : c.pw.phase = .run)
    (hlive : ∀ t ∈ c.hg.roster.tiles, t.addr = src → t.lost = false) :
    c.takeReport src r = c.modHg (fun h => { h with tk := c.reported src r }) := by
  have hrun' : c.takeReport src r = (fun d : Core => match d.hg.roster.byAddr src with
      | some t => if t.lost then (d.tileBack t 0xFF#8 true).publish (linkNeighbours d.hg.roster.tiles { t with lost := false }) else d
      | none => d) (if c.pw.phase == .run || !c.pw.phase.isAwake then c.modHg (fun h => { h with tk := c.reported src r })
        else (c.modHg (fun h => { h with tk := c.reported src r })).modHg (fun h => { h with tk := { h.tk with timing := true } })) := rfl
  rw [hrun', if_pos (by rw [hrun]; rfl)]
  dsimp only
  split
  case h_1 t ht =>
    have hmem : t ∈ c.hg.roster.tiles := List.mem_of_find?_eq_some ht
    have haddr : t.addr = src := by simpa using List.find?_some ht
    rw [hlive t hmem haddr]
    rfl
  case h_2 => rfl

/-! LOSS_DECISION (R294). -/

/-- The tiles that a decision finds out of reach (R294). -/
def goneTiles (c : Core) (uid : Uid) : List RosterTile :=
  c.hg.roster.tiles.filter (fun t => !t.lost && !c.reachable.contains t.addr && t.addr != c.hg.addr &&
    !(c.hg.lossReports.filter (fun r => r.uid != uid)).any (fun r => r.uid == t.uid))

/-- The cause that a report gives for a tile out of reach, that of the first report else (R294). -/
def goneCause (c : Core) (uid : Uid) (t : RosterTile) : LossCause :=
  let reports := c.hg.lossReports.filter (fun r => r.uid == uid)
  ((reports.find? (fun r => r.uid == t.uid)).map (fun r => r.cause)).getD ((reports.head?.map (fun r => r.cause)).getD .severed)

/-- The tiles out of reach are marked LOST (R294). -/
def marked (c : Core) (uid : Uid) : Core := (c.goneTiles uid).foldl (fun d t => d.markLost t (c.goneCause uid t)) c

/-- The links of the tiles still in reach that a decision loses (R294). -/
def linksLost (c : Core) (uid : Uid) (d : Core) : Core :=
  ((c.hg.lossReports.filter (fun r => r.uid == uid)).filter (fun r => !(d.hg.roster.byUid r.uid).any (fun t => t.lost))).foldl
    (fun e r => e.eventCustodian 0x15 ([r.port.zeroExtend 8] ++ bvLe 2 r.partner)) d

theorem decideLosses_eq (c : Core) (uid : Uid) (h : (c.hg.lossReports.filter (fun r => r.uid == uid)).isEmpty = false) :
    c.decideLosses uid =
      let d := c.linksLost uid (c.marked uid)
      let e := (d.modHg (fun h => { h with lossReports := c.hg.lossReports.filter (fun r => r.uid != uid) })).publish d.hg.roster.tiles
      if (c.hg.lossReports.filter (fun r => r.uid == uid)).any (fun r => (e.hg.roster.byUid r.uid).isNone) then e.sendAdvert.reroute else e := by
  unfold decideLosses
  dsimp only
  rw [h, if_neg Bool.false_ne_true]
  rfl

/-- A tile's entry marked LOST (R294). -/
def markEntry (u : Uid) (x : RosterTile) : RosterTile := if x.uid == u then { x with lost := true, mask := 0#6 } else x

theorem markEntry_uid (u : Uid) (x : RosterTile) : (markEntry u x).uid = x.uid := by
  unfold markEntry
  split <;> rfl

/-- An entry stays LOST whatever else is marked, and the one marked becomes LOST. -/
theorem markEntry_lost (u : Uid) (x : RosterTile) : (markEntry u x).lost = (x.uid == u || x.lost) := by
  unfold markEntry
  cases hx : x.uid == u
  · rfl
  · rfl

/-- Every tenant is told of a lost tile and its ids (R294, R368). -/
def toldLost (c : Core) (t : RosterTile) (cause : LossCause) : Core :=
  let a := eventBytes 0x10 (bvLe 2 t.addr ++ bvLe 6 t.uid ++ [cause.code]) c.hg.addr c.frame16
  let b := eventBytes 0x11 (bvLe 8 (c.idsOf t.addr)) c.hg.addr c.frame16
  (c.everyTenant.foldl (fun c n => c.placePair n a b c.hg.fc c.hg.addr) c).modTele (fun x => { x with events := x.events + 2 })

theorem toldLost_only (c : Core) (t : RosterTile) (cause : LossCause) : OnlyRecords c (c.toldLost t cause) := by
  unfold toldLost
  exact OnlyRecords.trans (foldl_only _ (fun d n => d.placePair_only n _ _ _ _) _ c) (modTele_only _ _)

theorem markLost_eq (c : Core) (t : RosterTile) (cause : LossCause) : c.markLost t cause = (c.toldLost t cause).modHg (fun h => { h with
    lost := h.lost ++ [(t.addr, c.idsOf t.addr)]
    tk := { h.tk with tiles := h.tk.tiles.filter (fun x => x.addr != t.addr), granted := h.tk.granted.filter (fun g => g.1 != t.addr) }
    roster := { h.roster with tiles := h.roster.tiles.map (markEntry t.uid) } }) := rfl

/-- A tile marked LOST is so in the roster (R294). -/
theorem markLost_spec (c : Core) (t : RosterTile) (cause : LossCause) : OnlyHedge c (c.markLost t cause) ∧ (c.markLost t cause).hp = c.hp ∧
    (c.markLost t cause).hg.roster = { c.hg.roster with tiles := c.hg.roster.tiles.map (markEntry t.uid) } := by
  have htold := c.toldLost_only t cause
  rw [markLost_eq]
  refine ⟨(OnlyHedge.of_records htold).trans rfl, htold.hp, ?_⟩
  show ({ (c.toldLost t cause).hg.roster with tiles := (c.toldLost t cause).hg.roster.tiles.map (markEntry t.uid) } : Roster) = _
  rw [htold.hg]

/-- Tiles marked LOST one after another. -/
theorem foldl_markLost (cause : RosterTile → LossCause) (l : List RosterTile) (c : Core) :
    let d := l.foldl (fun d t => d.markLost t (cause t)) c
    OnlyHedge c d ∧ d.hp = c.hp ∧ d.hg.roster.version = c.hg.roster.version ∧
      (∀ x ∈ d.hg.roster.tiles, ∃ y ∈ c.hg.roster.tiles, x.uid = y.uid ∧ (x.lost = false → y.lost = false ∧ ∀ t ∈ l, y.uid ≠ t.uid)) := by
  induction l generalizing c with
  | nil => exact ⟨rfl, rfl, rfl, fun x hx => ⟨x, hx, rfl, fun h => ⟨h, fun _ ht => absurd ht List.not_mem_nil⟩⟩⟩
  | cons t l ih =>
    obtain ⟨honly, hhp, hroster⟩ := c.markLost_spec t (cause t)
    obtain ⟨iho, ihp, ihv, iht⟩ := ih (c.markLost t (cause t))
    refine ⟨honly.trans iho, ihp.trans hhp, ihv.trans (by rw [hroster]), fun x hx => ?_⟩
    obtain ⟨y, hy, hxy, hlost⟩ := iht x hx
    rw [hroster] at hy
    obtain ⟨z, hz, rfl⟩ := List.mem_map.mp hy
    rw [markEntry_uid] at hxy hlost
    refine ⟨z, hz, hxy, fun hx' => ?_⟩
    obtain ⟨hzlost, hrest⟩ := hlost hx'
    rw [markEntry_lost, Bool.or_eq_false_iff] at hzlost
    exact ⟨hzlost.2, List.forall_mem_cons.mpr ⟨by simpa using hzlost.1, hrest⟩⟩

theorem linksLost_only (c : Core) (uid : Uid) (d : Core) : OnlyRecords d (c.linksLost uid d) :=
  foldl_only _ (fun e _ => e.eventCustodian_only _ _) _ d

/-- The tile once a decision has marked tiles and told of links, its reports cleared (R294). -/
def decided (c : Core) (uid : Uid) : Core :=
  (c.linksLost uid (c.marked uid)).modHg (fun h => { h with lossReports := c.hg.lossReports.filter (fun r => r.uid != uid) })

/-- The decision publishes the roster, and tells the other panels where a WIRE partner is lost (R294). -/
theorem decideLosses_spec {c : Core} {uid : Uid} (h : (c.hg.lossReports.filter (fun r => r.uid == uid)).isEmpty = false) :
    OnlyHedge (c.decided uid) (c.decideLosses uid) ∧ (c.decideLosses uid).hp = (c.decided uid).hp ∧
      (c.decideLosses uid).hg.roster = { version := (c.decided uid).hg.roster.version + 1#16, tiles := (c.decided uid).hg.roster.tiles } ∧
      (c.decideLosses uid).hg.lossReports = (c.decided uid).hg.lossReports ∧ (c.decideLosses uid).hg.lost = (c.decided uid).hg.lost ∧
      (c.decideLosses uid).hg.tk = (c.decided uid).hg.tk := by
  have hrun : c.decideLosses uid =
      if (c.hg.lossReports.filter (fun r => r.uid == uid)).any (fun r =>
          (((c.decided uid).publish (c.decided uid).hg.roster.tiles).hg.roster.byUid r.uid).isNone)
        then ((c.decided uid).publish (c.decided uid).hg.roster.tiles).sendAdvert.reroute
        else (c.decided uid).publish (c.decided uid).hg.roster.tiles := c.decideLosses_eq uid h
  rw [hrun]
  have hpub := (c.decided uid).publish_sent (c.decided uid).hg.roster.tiles
  have hput : OnlyHedge (c.decided uid) ((c.decided uid).modHg (fun h =>
      { h with roster := { version := h.roster.version + 1#16, tiles := (c.decided uid).hg.roster.tiles }, hasRoster := true })) := rfl
  split
  · have hadv := hpub.trans (sendAdvert_sent _)
    have hahg := hadv.hg
    have hahp := hadv.hp
    have hahedge := hput.trans hadv.hedge
    generalize ((c.decided uid).publish (c.decided uid).hg.roster.tiles).sendAdvert = d at *
    obtain ⟨r, hr⟩ := d.reroute_sent
    have hroutes : OnlyHedge d (d.modHg (fun h => { h with routes := r })) := rfl
    have hhg := hr.hg
    refine ⟨(hahedge.trans hroutes).trans hr.hedge, hr.hp.trans hahp, ?_⟩
    rw [hhg]
    show d.hg.roster = _ ∧ d.hg.lossReports = _ ∧ d.hg.lost = _ ∧ d.hg.tk = _
    rw [hahg]
    exact ⟨rfl, rfl, rfl, rfl⟩
  · have hhg := hpub.hg
    refine ⟨hput.trans hpub.hedge, hpub.hp, ?_⟩
    rw [hhg]
    exact ⟨rfl, rfl, rfl, rfl⟩

theorem decided_spec (c : Core) (uid : Uid) : OnlyHedge c (c.decided uid) ∧ (c.decided uid).hp = c.hp ∧
    (c.decided uid).hg.roster = (c.marked uid).hg.roster ∧ (c.decided uid).hg.lossReports = c.hg.lossReports.filter (fun r => r.uid != uid) ∧
    (c.goneTiles uid = [] → (c.decided uid).hg.roster = c.hg.roster ∧ (c.decided uid).hg.lost = c.hg.lost ∧ (c.decided uid).hg.tk = c.hg.tk) := by
  obtain ⟨honly, hhp, -, -⟩ := foldl_markLost (c.goneCause uid) (c.goneTiles uid) c
  have hlinks := c.linksLost_only uid (c.marked uid)
  have hhg : (c.linksLost uid (c.marked uid)).hg = (c.marked uid).hg := hlinks.hg
  have hput : OnlyHedge (c.linksLost uid (c.marked uid)) (c.decided uid) := rfl
  refine ⟨(OnlyHedge.trans honly (.of_records hlinks)).trans hput, hlinks.hp.trans hhp, ?_, rfl, fun hnone => ?_⟩
  · show (c.linksLost uid (c.marked uid)).hg.roster = _
    rw [hhg]
  · have hsame : c.marked uid = c := by rw [marked, hnone]; rfl
    rw [hsame] at hhg
    have hdec : c.decided uid = (c.linksLost uid c).modHg (fun h => { h with lossReports := c.hg.lossReports.filter (fun r => r.uid != uid) }) := by
      rw [decided, hsame]
    rw [hdec]
    show (c.linksLost uid c).hg.roster = _ ∧ (c.linksLost uid c).hg.lost = _ ∧ (c.linksLost uid c).hg.tk = _
    rw [hhg]
    exact ⟨rfl, rfl, rfl⟩

theorem reports_of_head {c : Core} {u : Uid} (h : c.hg.lossReports.head?.map (fun r => r.uid) = some u) :
    c.decideFirst = c.decideLosses u ∧ (c.hg.lossReports.filter (fun r => r.uid == u)).isEmpty = false := by
  cases hl : c.hg.lossReports with
  | nil => rw [hl] at h; exact nomatch h
  | cons r rest =>
    rw [hl] at h
    obtain rfl : r.uid = u := Option.some.inj h
    refine ⟨by rw [decideFirst, hl], ?_⟩
    rw [List.filter_cons, if_pos (by simp)]
    rfl

/-- The port's bit of a link that is lost, in the entries at its two ends (R294). -/
theorem rootLoss_eq (c : Core) (src : Addr) {r : LossReport} (hport : r.port.toNat < 6) : c.rootLoss src r = c.modHg (fun h => { h with
    lossReports := h.lossReports ++ [r]
    farLinks := h.farLinks.filter (fun x => x.1 != src || x.2.1 != r.port)
    roster := { h.roster with tiles := h.roster.tiles.map (fun t =>
      if t.addr = src then { t with mask := t.mask &&& ~~~(1#6 <<< r.port.toNat) }
      else if t.uid = r.uid then { t with mask := t.mask &&& ~~~(1#6 <<< ((r.port.toNat + 3) % 6)) } else t) } }) := by
  have hval : (Fin.ofNat 6 (r.port.toNat % 6) : Port).val = r.port.toNat := by
    show r.port.toNat % 6 % 6 = _
    omega
  have hopp : (oppositePort (Fin.ofNat 6 (r.port.toNat % 6))).val = (r.port.toNat + 3) % 6 := by
    show ((Fin.ofNat 6 (r.port.toNat % 6) : Port).val + 3) % 6 = _
    rw [hval]
  unfold rootLoss
  dsimp only
  rw [hval, hopp]
  simp only [beq_iff_eq]

end Core

/-- Settles O25: the timekeeper keeps a report, and a decision marks LOST what no link reaches. -/
theorem rootBookkeepingCompletes : Obligations.RootBookkeepingCompletes := by
  refine ⟨fun s src r hfast hroot hrun hlive => ⟨_, gives_tileReport src r s, ?_⟩,
    fun s htiming hquiet => (gives_frameTimingStop s).congr ?_,
    fun s src r hfast hroot hport => (gives_loss src r s).congr ?_,
    fun s hnone => (gives_lossDecision s).congr ?_,
    fun s u hfast hroot hhead hknown hreach => ⟨_, gives_lossDecision s, ?_⟩,
    fun s t hfast hroot hhead ht hout hown hlive => ⟨_, gives_lossDecision s, ?_⟩,
    fun s a hfast => (gives_contactIdFree a s).congr (by rw [Core.freeIds, hfast]; rfl)⟩
  · rw [Core.atRoot_of_root hfast hroot, Core.takeReport_of_live r hrun hlive]
    refine ⟨rfl, rfl, rfl, rfl, rfl, ?_⟩
    show (if s.core.hg.tk.adopted.isNone = true then _ else _) = _
    simp only [Option.isNone_iff_eq_none]
  · rw [Core.timingStop, htiming, decide_eq_true hquiet]
    rfl
  · rw [Core.atRoot_of_root hfast hroot, Core.rootLoss_eq _ _ hport]
    rfl
  · refine Core.when_keeps (fun a b => b = a) (fun _ => rfl) s.core _ _ ?_
    rw [Core.decideFirst, hnone]
  · obtain ⟨hfirst, hsome⟩ := Core.reports_of_head hhead
    have hnone : s.core.goneTiles u = [] := by
      refine List.filter_eq_nil_iff.mpr fun t ht hgone => ?_
      simp only [Bool.and_eq_true, Bool.not_eq_true', bne_iff_ne] at hgone
      obtain ⟨⟨⟨hlive, hfar⟩, hne⟩, -⟩ := hgone
      rcases hreach t ht hlive with hnear | hown
      · rw [List.contains_iff_mem.mpr hnear] at hfar
        exact Bool.false_ne_true hfar.symm
      · exact hne hown
    obtain ⟨honly, hhp, -, hreports, hquiet⟩ := s.core.decided_spec u
    obtain ⟨hroster, hlost, htk⟩ := hquiet hnone
    obtain ⟨hdonly, hdhp, hdroster, hdreports, hdlost, hdtk⟩ := Core.decideLosses_spec hsome
    rw [Core.atRoot_of_root hfast hroot, hfirst, hdhp, hdroster, hdreports, hdlost, hdtk, hhp, hroster, hreports, hlost, htk]
    exact ⟨honly.trans hdonly, rfl, rfl, rfl, rfl, rfl⟩
  · obtain ⟨hfirst, hsome⟩ := Core.reports_of_head hhead
    have hgone : t ∈ s.core.goneTiles t.uid := by
      refine List.mem_filter.mpr ⟨ht, ?_⟩
      simp only [Bool.and_eq_true, Bool.not_eq_true', bne_iff_ne]
      refine ⟨⟨⟨hlive, ?_⟩, hown⟩, ?_⟩
      · exact Bool.eq_false_iff.mpr fun hc => hout (List.contains_iff_mem.mp hc)
      · refine List.any_eq_false.mpr fun r hr hsame => ?_
        have hne := (List.mem_filter.mp hr).2
        rw [bne, hsame] at hne
        exact Bool.false_ne_true hne
    obtain ⟨-, -, -, hmarked⟩ := Core.foldl_markLost (s.core.goneCause t.uid) (s.core.goneTiles t.uid) s.core
    obtain ⟨honly, hhp, hroster, -, -⟩ := s.core.decided_spec t.uid
    obtain ⟨hdonly, hdhp, hdroster, -, -, -⟩ := Core.decideLosses_spec hsome
    rw [Core.atRoot_of_root hfast hroot, hfirst, hdhp, hdroster, hhp, hroster]
    refine ⟨honly.trans hdonly, rfl, fun x hx hxt => ?_⟩
    obtain ⟨y, -, hxy, hrest⟩ := hmarked x hx
    by_contra hxlost
    exact (hrest (Bool.eq_false_iff.mpr hxlost)).2 t hgone (hxy ▸ hxt)

end Sys2Proof.Machine

/-!
PROOFS. Panels: their adverts, grants and route tables (R263 to R266, R272, Tables HEDGE-3 and HEDGE-4).
-/
namespace Sys2Proof.Machine

theorem gives_panelAdvert (a : PanelAdvert) (s : State) : Gives (.panelAdvert a) s (s.core.when s.core.fast (fun c => c.takeAdvert a)) := rfl
theorem gives_panelAdvertPeriodic (s : State) : Gives .panelAdvertPeriodic s (s.core.atRoot Core.advertTime) := rfl
theorem gives_panelGrant (g : PanelGrant) (s : State) : Gives (.panelGrant g) s (s.core.atRoot (fun c => c.takeGrant g)) := rfl
theorem gives_panelRequestRetry (s : State) : Gives .panelRequestRetry s s.core.panelRetry := rfl
theorem gives_hedgeRoutes (l : List RouteEntry) (s : State) : Gives (.hedgeRoutes l) s (s.core.takeRoutes l) := rfl

/-- The destination of a packet is the one it was built with, whatever it carries. -/
theorem pkDst_buildPacket (h : PktHead) (p : List Byte) (a : Option (BitVec 32 × List Byte)) : pkDst (buildPacket h p a) = h.dst := by
  have hdst := h.dst.isLt
  have hfield : leAt (buildPacket h p a) 2 2 = (BitVec.ofNat 8 (h.dst.toNat + 4096 * h.ttl)).toNat +
      256 * (BitVec.ofNat 8 ((h.dst.toNat + 4096 * h.ttl) / 256)).toNat := by
    cases a <;> simp [buildPacket, leAt, le, ofLe, List.range_succ]
  rw [pkDst, hfield]
  exact ofNat_eq_of_mod (by simp only [BitVec.toNat_ofNat]; omega)

namespace Core

theorem hedgePacket_dst (c : Core) (dst : Addr) (op : Nat) (p : List Byte) : pkDst (c.hedgePacket dst op p).2 = dst := by
  unfold hedgePacket
  dsimp only
  split
  · dsimp only
    exact pkDst_buildPacket _ _ _
  · dsimp only
    exact pkDst_buildPacket _ _ _

/-- A broadcast takes one packet number and waits nowhere (R261, R271). -/
theorem sendAdvert_spec (c : Core) : OnlyTxq { c with hg := c.sendAdvert.hg } c.sendAdvert ∧
    c.sendAdvert.hg = { c.hg with ownSeq := c.hg.ownSeq + 1#16, ownFresh := c.sendAdvert.hg.ownFresh, seen := c.sendAdvert.hg.seen } := by
  have hposted := c.sendAdvert_posted
  have hseq : c.sendAdvert.hg.ownSeq = _ := c.hedgeSend_ownSeq _ _ _
  have hrelay : c.sendAdvert.hg.relay = c.hg.relay := by
    have hpacket := c.hedgePacket_dst 0x3FF#10 7 c.advert.bytes
    have hsame : (c.hedgePacket 0x3FF#10 7 c.advert.bytes).1.hg.relay = c.hg.relay := by
      unfold hedgePacket
      dsimp only
      split <;> rfl
    have hrun : c.sendAdvert = ((c.hedgePacket 0x3FF#10 7 c.advert.bytes).1.noteSeen (c.hedgePacket 0x3FF#10 7 c.advert.bytes).2).sendOut
      (c.hedgePacket 0x3FF#10 7 c.advert.bytes).2 none := rfl
    rw [hrun]
    generalize c.hedgePacket 0x3FF#10 7 c.advert.bytes = x at *
    unfold sendOut
    rw [hpacket, if_pos (by decide), (foldl_onlyTxq _ (fun c p => c.sendPacketOn_only p _ none false) _ _).1]
    exact hsame
  have hhg := hposted.hg
  rw [hseq, hrelay] at hhg
  have honly := hposted.only
  have hports := hposted.ports
  generalize c.sendAdvert = d at *
  refine ⟨⟨?_, hports⟩, hhg⟩
  rw [honly]

/-- A panel root notes the advert of another (R265). -/
def withAdvert (c : Core) (a : PanelAdvert) : Core :=
  c.modHg (fun h => { h with
    adverts := h.adverts.filter (fun x => x.rootUid != a.rootUid) ++ [a]
    advertAt := h.advertAt.filter (fun x => x.1 != a.rootUid) ++ [(a.rootUid, c.pw.rtc)] })

/-- The hedge root yields to a root of lower UID (R265). -/
def yieldsTo (c : Core) (a : PanelAdvert) : Core :=
  if a.rootUid.toNat < c.hg.uid.toNat && c.hg.hedgeRoot then
    (c.modHg (fun h => { h with hedgeRoot := false, hedgeRootUid := some a.rootUid })).syncRet.eventCustodian 0x1C (bvLe 2 a.rootAddr)
  else c

theorem takeAdvert_of_other {c : Core} {a : PanelAdvert} (hroot : c.hg.panelRoot = true) (hne : a.rootUid ≠ c.hg.uid)
    (hyield : ((c.withAdvert a).yieldsTo a).hg.hedgeRoot = false) : c.takeAdvert a = ((c.withAdvert a).yieldsTo a).reroute := by
  have hrun : c.takeAdvert a = if (!c.hg.panelRoot) = true then c.noteAdvert a else if (a.rootUid == c.hg.uid) = true then c else
    (if ((c.withAdvert a).yieldsTo a).hg.hedgeRoot = true then ((c.withAdvert a).yieldsTo a).answerPanel a
      else (c.withAdvert a).yieldsTo a).reroute := rfl
  rw [hrun, hroot, if_neg (by decide), if_neg (by simpa using hne), hyield, if_neg Bool.false_ne_true]

theorem yieldsTo_spec (c : Core) (a : PanelAdvert) (h : c.hg.hedgeRoot = false ∨ a.rootUid.toNat < c.hg.uid.toNat) :
    OnlyHedge c (c.yieldsTo a) ∧ (c.yieldsTo a).hp = c.hp ∧
      (c.yieldsTo a).hg = { c.hg with hedgeRoot := false, hedgeRootUid := (c.yieldsTo a).hg.hedgeRootUid } ∧
      (c.hg.hedgeRoot = true → (c.yieldsTo a).ret.hedgeRoot = false) := by
  unfold yieldsTo
  split
  case isTrue =>
    have hevent := eventCustodian_only (c.modHg (fun h => { h with hedgeRoot := false, hedgeRootUid := some a.rootUid })).syncRet
      0x1C (bvLe 2 a.rootAddr)
    generalize eventCustodian _ _ _ = d at *
    have honly : OnlyHedge (c.modHg (fun h => { h with hedgeRoot := false, hedgeRootUid := some a.rootUid })).syncRet d := .of_records hevent
    refine ⟨OnlyHedge.trans (b := (c.modHg _).syncRet) rfl honly, hevent.hp, ?_, fun _ => ?_⟩
    · rw [hevent.hg]
      rfl
    · rw [hevent]
      rfl
  case isFalse hkept =>
    have hhedge : c.hg.hedgeRoot = false := by
      by_contra hon
      rw [Bool.not_eq_false] at hon
      rcases h with h | h
      · exact Bool.false_ne_true (h.symm.trans hon)
      · exact hkept (by rw [hon, decide_eq_true h]; rfl)
    refine ⟨OnlyHedge.refl c, rfl, ?_, fun hon => absurd (hhedge.symm.trans hon) Bool.false_ne_true⟩
    rw [← hhedge]

/-- The roots not heard for 30 s (log 18). -/
def silentRoots (c : Core) : List Uid :=
  (c.hg.advertAt.filter (fun x => decide (983040 ≤ (c.pw.rtc - x.2).toNat))).map (fun x => x.1)

theorem silentRoots_contains (c : Core) (u : Uid) : c.silentRoots.contains u =
    c.hg.advertAt.any (fun x => x.1 == u && decide (983040 ≤ (c.pw.rtc - x.2).toNat)) := by
  rw [Bool.eq_iff_iff, List.contains_iff_mem, List.any_eq_true]
  simp only [silentRoots, List.mem_map, List.mem_filter, decide_eq_true_eq, Bool.and_eq_true, beq_iff_eq]
  exact ⟨fun ⟨x, ⟨hx, hold⟩, hu⟩ => ⟨x, hx, hu, hold⟩, fun ⟨x, hx, hu, hold⟩ => ⟨x, ⟨hx, hold⟩, hu⟩⟩

/-- The root with the silent ones forgotten (log 18). -/
def forgetSilent (c : Core) : Core :=
  if c.silentRoots.isEmpty then c
  else (c.modHg (fun h => { h with
    adverts := h.adverts.filter (fun a => !c.silentRoots.contains a.rootUid)
    advertAt := h.advertAt.filter (fun x => !c.silentRoots.contains x.1)
    panelNumbers := h.panelNumbers.filter (fun x => !c.silentRoots.contains x.1) })).reroute

theorem advertTime_eq (c : Core) : c.advertTime = c.forgetSilent.sendAdvert := rfl

theorem forgetSilent_spec (c : Core) : OnlyHedge c c.forgetSilent ∧
    c.forgetSilent.hg.adverts = c.hg.adverts.filter (fun a => !c.silentRoots.contains a.rootUid) ∧
    c.forgetSilent.hg.panelNumbers = c.hg.panelNumbers.filter (fun x => !c.silentRoots.contains x.1) := by
  unfold forgetSilent
  split
  case isTrue hnone =>
    rw [List.isEmpty_iff.mp hnone]
    exact ⟨OnlyHedge.refl c, (List.filter_eq_self.mpr fun _ _ => rfl).symm, (List.filter_eq_self.mpr fun _ _ => rfl).symm⟩
  case isFalse =>
    generalize hd : c.modHg _ = d
    have honly : OnlyHedge c d := by rw [← hd]; rfl
    obtain ⟨r, hr⟩ := d.reroute_sent
    refine ⟨(honly.trans (rfl : OnlyHedge d (d.modHg (fun h => { h with routes := r })))).trans hr.hedge, ?_, ?_⟩
    · rw [hr.hg, ← hd]
      rfl
    · rw [hr.hg, ← hd]
      rfl

/-- A grant that holds every tile's address, the root's own among them, moves no tile (R264). -/
theorem withGrant_at_home {c : Core} {g : PanelGrant}
    (hhome : ∀ t ∈ c.hg.roster.tiles, t.addr ∈ g.blocks.flatMap blockAddrs ++ g.singles)
    (hown : ∀ t ∈ c.hg.roster.tiles, t.uid = c.hg.uid → t.addr = c.hg.addr) :
    (c.withGrant g).readdressed.ownReaddressed = c.withGrant g := by
  have hhg : (c.withGrant g).hg = _ := (modAlloc_spec _ _).1.hg
  generalize c.withGrant g = d at *
  have hall : d.homeless = [] := by
    rw [homeless, ownAddrs, hhg]
    refine List.filter_eq_nil_iff.mpr fun t ht hout => ?_
    rw [Bool.not_eq_true'] at hout
    exact Bool.false_ne_true (hout.symm.trans (List.contains_iff_mem.mpr (hhome t ht)))
  have hstay : d.readdressed = d := by
    rw [readdressed, hall]
    rfl
  rw [hstay, ownReaddressed]
  split
  case h_1 t ht =>
    rw [hhg] at ht
    have huid : t.uid = c.hg.uid := by simpa using List.find?_some ht
    rw [if_pos]
    rw [hown t (List.mem_of_find?_eq_some ht) huid, hhg]
    exact beq_self_eq_true _
  case h_2 => rfl

end Core

/-- Settles O26: adverts are kept, grants taken and route tables held. -/
theorem panelsComplete : Obligations.PanelsComplete := by
  refine ⟨fun s a hfast hroot hne hyield => ⟨_, gives_panelAdvert a s, ?_⟩, fun s a hown => (gives_panelAdvert a s).congr ?_,
    fun s a hfast hroot hconf hown => (gives_panelAdvert a s).congr ?_,
    fun s hfast hroot => ⟨_, gives_panelAdvertPeriodic s, ?_⟩, fun s hfast hroot hheard => ⟨_, gives_panelAdvertPeriodic s, ?_⟩,
    fun s hfast hroot hrefused => ⟨_, gives_panelRequestRetry s, ?_⟩,
    fun s g hfast hroot hrefused => (gives_panelGrant g s).congr ?_,
    fun s g hfast hroot hgiven hhome hown => ⟨_, gives_panelGrant g s, ?_⟩,
    fun s l hfast hroot hnone => (gives_hedgeRoutes l s).congr ?_⟩
  · have hgot : OnlyHedge s.core (s.core.withAdvert a) := rfl
    obtain ⟨honly, hhp, hhg, hret⟩ := (s.core.withAdvert a).yieldsTo_spec a hyield
    have hquiet : ((s.core.withAdvert a).yieldsTo a).hg.hedgeRoot = false := by rw [hhg]
    rw [Core.when, if_pos hfast, Core.takeAdvert_of_other hroot hne hquiet]
    generalize (s.core.withAdvert a).yieldsTo a = d at *
    obtain ⟨r, hr⟩ := d.reroute_sent
    refine ⟨(hgot.trans honly).trans (OnlyHedge.trans (rfl : OnlyHedge d (d.modHg (fun h => { h with routes := r }))) hr.hedge), ?_⟩
    rw [hr.hp, hr.ret, hr.hg]
    show d.hp = _ ∧ d.hg.adverts = _ ∧ d.hg.hedgeRoot = _ ∧ d.hg.panelRoot = _ ∧ d.hg.panel = _ ∧ d.hg.blocks = _ ∧ d.hg.roster = _ ∧
      (_ → d.ret.hedgeRoot = _)
    rw [hhg]
    exact ⟨hhp, rfl, rfl, hroot, rfl, rfl, rfl, hret⟩
  · refine Core.when_keeps (fun a b => b = a) (fun _ => rfl) s.core _ _ ?_
    by_cases hroot : s.core.hg.panelRoot = true
    · rw [if_pos hroot] at hown
      rw [Core.takeAdvert, hroot, if_neg (by decide), if_pos (by rw [hown]; exact beq_self_eq_true _)]
    · rw [if_neg hroot] at hown
      rw [Core.takeAdvert, Bool.eq_false_iff.mpr hroot, if_pos (by rfl), Core.noteAdvert]
      refine if_neg fun h => ?_
      simp only [Bool.and_eq_true, beq_iff_eq] at h
      rcases hown with hother | hconf
      · exact hother h.1
      · exact Bool.false_ne_true (hconf.symm.trans h.2)
  · rw [Core.when, if_pos hfast, Core.takeAdvert, hroot, if_pos (by rfl), Core.noteAdvert, hown, hconf, if_pos (by simp)]
    rw [← hroot]
    rfl
  · obtain ⟨honly, hadverts, hnumbers⟩ := s.core.forgetSilent_spec
    have hsent := s.core.forgetSilent.sendAdvert_sent
    obtain ⟨-, hhg⟩ := s.core.forgetSilent.sendAdvert_spec
    rw [Core.atRoot_of_root hfast hroot, Core.advertTime_eq]
    refine ⟨honly.trans hsent.hedge, ?_, ?_⟩
    · rw [hhg]
      simp only [hadverts, Core.silentRoots_contains]
    · rw [hhg]
      simp only [hnumbers, Core.silentRoots_contains]
  · have hsilent : s.core.silentRoots = [] := by
      rw [Core.silentRoots, List.filter_eq_nil_iff.mpr, List.map_nil]
      intro x hx
      rw [decide_eq_true_eq]
      exact Nat.not_le.mpr (hheard x hx)
    have hkept : s.core.forgetSilent = s.core := by rw [Core.forgetSilent, hsilent]; rfl
    rw [Core.atRoot_of_root hfast hroot, Core.advertTime_eq, hkept]
    exact s.core.sendAdvert_spec
  · rw [Core.panelRetry, hfast, hroot, hrefused]
    exact s.core.sendAdvert_spec
  · rw [Core.atRoot_of_root hfast hroot, Core.takeGrant, hrefused, if_pos rfl]
    rfl
  · rw [Core.atRoot_of_root hfast hroot, Core.takeGrant_of_given hgiven, Core.withGrant_at_home hhome hown]
    obtain ⟨hgiven, halloc⟩ := (s.core.modHg (fun h => { h with
      panel := g.panel, blocks := g.blocks, singles := g.singles, provisional := false, panelRefused := false })).modAlloc_spec
        (fun a => { a with ownBlocks := g.blocks, ownSingles := g.singles })
    have honly : OnlyHedge s.core (s.core.withGrant g) := OnlyHedge.trans (b := s.core.modHg _) rfl hgiven.hedge
    have hhg : (s.core.withGrant g).hg = _ := hgiven.hg
    have hhp : (s.core.withGrant g).hp = s.core.hp := hgiven.hp
    have hret : (s.core.withGrant g).ret = s.core.ret := hgiven.ret
    have hheld : (s.core.withGrant g).alloc = _ := halloc
    generalize s.core.withGrant g = d at *
    obtain ⟨r, hr⟩ := d.afterGrant_sent
    have hknows : OnlyHedge d (d.knowsRoot.modHg (fun h => { h with routes := r })) := rfl
    have hlowest : d.hedgeRootNow = s.core.hedgeRootNow := by rw [Core.hedgeRootNow, hhg]; rfl
    refine ⟨(honly.trans hknows).trans hr.hedge, hr.hp.trans hhp, ?_⟩
    rw [hr.hg, hr.alloc, hr.ret]
    show d.hg.panel = _ ∧ d.hg.blocks = _ ∧ d.hg.singles = _ ∧ d.hg.provisional = _ ∧ d.hg.panelRefused = _ ∧ some d.hedgeRootNow.1 = _ ∧
      d.hg.addr = _ ∧ d.hg.addr = _ ∧ d.hg.roster = _ ∧ d.alloc = _ ∧ d.knowsRoot.ret = _
    rw [hlowest, hheld, Core.knowsRoot, Core.syncRet]
    show d.hg.panel = _ ∧ d.hg.blocks = _ ∧ d.hg.singles = _ ∧ d.hg.provisional = _ ∧ d.hg.panelRefused = _ ∧ _ ∧
      d.hg.addr = _ ∧ d.hg.addr = _ ∧ d.hg.roster = _ ∧ _ ∧ { d.ret with
        addr := d.hg.addr, u := d.hg.u, v := d.hg.v, panel := d.hg.panel, panelRoot := d.hg.panelRoot, hedgeRoot := d.hg.hedgeRoot } = _
    rw [hhg, hret]
    exact ⟨rfl, rfl, rfl, rfl, rfl, rfl, rfl, rfl, rfl, rfl, by rw [← hroot]; rfl⟩
  · rw [Core.takeRoutes, hfast, hroot]
    show Core.relayRetry _ = _
    exact Core.relayRetry_of_empty hnone

end Sys2Proof.Machine

/-!
PROOFS. Records on their way to their home tile (R21, R23, R271, R273, R367).
-/
namespace Sys2Proof.Machine

theorem gives_relayWaitExpiry (i : Nat) (s : State) : Gives (.relayWaitExpiry i) s (s.core.relayExpire i) := rfl
theorem gives_rptPacket (b : List Byte) (s : State) : Gives (.rptPacket b) s (s.core.takeReportPacket b) := rfl
theorem gives_rptSend (t : Tenant) (s : State) : Gives (.rptSend t) s (s.core.sendRecords t) := rfl

/-- What is put among what waits is there (R340). -/
theorem self_mem_urgPut {α : Type} (behind same : α → Bool) (urgent : Bool) (x : α) (q : List α) : x ∈ urgPut behind same urgent x q := by
  unfold urgPut
  split <;> simp

/-- Fixing records changes none of their bytes (R369). -/
theorem Queue.fix_bytes (q : Queue) (n : Nat) (withFull fixed : Bool) :
    (q.fix n withFull fixed).recs.map (fun e => e.bytes) = q.recs.map (fun e => e.bytes) := by
  have hsame : (fun e : QEnt => e.bytes) ∘ (fun e : QEnt => { e with fixed := fixed }) = fun e => e.bytes := rfl
  rw [Queue.fix, List.map_append, List.map_map, hsame, ← List.map_append, List.take_append_drop]

namespace Core

/-- The frame count of a record's generation agrees with its FRAME16 (R367). -/
theorem datedRecord_low (base : BitVec 32) (r : List Byte) : (datedRecord base r).2.toNat % 65536 = leAt r 14 2 % 65536 := by
  have hbase := base.isLt
  simp only [datedRecord, BitVec.toNat_add, BitVec.toNat_sub, BitVec.toNat_ofNat, BitVec.truncate_eq_setWidth, BitVec.toNat_setWidth]
  omega

theorem modTenantSt_tenantSt (c : Core) (t u : Tenant) (f : TenantSt → TenantSt) :
    (c.modTenantSt t f).tenantSt u = if t = u ∧ u.val < c.ten.length then f (c.tenantSt u) else c.tenantSt u := by
  simp only [tenantSt, modTenantSt, modifyAt_getD, Fin.ext_iff]

/-- A record for which there is room joins the end of its queue (R369). -/
theorem placeRec_queue {c : Core} {t : Tenant} (b : List Byte) (fc : BitVec 32) (o : Addr) (hdef : c.isDefined t = true)
    (hroom : (c.queue t).recs.length < 64) (hlen : t.val < c.qs.length) :
    ((c.placeRec t b fc o).queue t).recs = (c.queue t).recs ++ [{ bytes := b, fc := fc, origin := o, fixed := false }] := by
  have hplace : (c.queue t).place { bytes := b, fc := fc, origin := o, fixed := false } =
      { q := { c.queue t with recs := (c.queue t).recs ++ [{ bytes := b, fc := fc, origin := o, fixed := false }] }
        lost := false, qfull := false } := if_pos hroom
  rw [placeRec, if_pos hdef, hplace, takePlaced]
  dsimp only
  rw [if_neg Bool.false_ne_true, attnIf, if_neg Bool.false_ne_true, modQueue_queue, if_pos ⟨rfl, hlen⟩]

/-- A packet taken on waits at its port with what it carries (R273). -/
theorem exists_packetOn (c : Core) {p : Port} (b : List Byte) (k : Option (Tenant × Nat × Bool × Bool)) (again : Bool)
    (hlen : p.val < c.lnk.length) : ∃ f ∈ ((c.sendPacketOn p b k again).port p).txq, f.carries = k := by
  refine ⟨{ body := .data b, lseq := none, tries := 0, carries := k, again := again }, ?_, rfl⟩
  unfold sendPacketOn
  rw [modPort_port, if_pos ⟨rfl, hlen⟩]
  exact self_mem_urgPut _ _ _ _ _

/-- A tenant's records taken into a packet: the number of their class is used and they are fixed (R367, R369). -/
def packed (c : Core) (t : Tenant) (items : List QItem) : Core :=
  let evt := items.all (fun i => i.isEvent c.hg.addr)
  (c.modTenantSt t (fun s => if evt then { s with evtSeq := s.evtSeq + 1#16 } else { s with rptSeq := s.rptSeq + 1#16 })).modQueue t
    (fun q => q.fix (recCount items) (hasFull items) true)

/-- A queue away from its home tile sends its leading records in one packet (R21). -/
theorem sendRecords_of_away {c : Core} {t : Tenant} {p : Port} (hfast : c.fast = true) (hdef : c.isDefined t = true)
    (haway : c.isHome t = false) (hsome : leadRun c.hg.addr (c.queue t).items ≠ [])
    (hfree : ∀ i ∈ leadRun c.hg.addr (c.queue t).items, i.isFixed = false) (hhop : c.nextHop (c.tenantRec t).home = some p)
    (hkey : c.tenantKey t = none) :
    let items := leadRun c.hg.addr (c.queue t).items
    ∃ b, c.sendRecords t = (c.packed t items).sendPacketOn p b
      (some (t, recCount items, items.all (fun i => i.isEvent c.hg.addr), hasFull items)) false := by
  have hnone : (leadRun c.hg.addr (c.queue t).items).isEmpty = false := by simpa using hsome
  have hany : (leadRun c.hg.addr (c.queue t).items).any (fun i => i.isFixed) = false := by simpa using hfree
  intro items
  refine ⟨buildPacket (c.reportHead t (items.all (fun i => i.isEvent c.hg.addr)) items (c.tenantRec t).home 15)
    (reportPayload c.hg.addr items) none, ?_⟩
  have hseal : c.sealPacket (c.reportHead t (items.all (fun i => i.isEvent c.hg.addr)) items (c.tenantRec t).home 15) true
      (reportPayload c.hg.addr items) = (c, some (buildPacket (c.reportHead t (items.all (fun i => i.isEvent c.hg.addr)) items
        (c.tenantRec t).home 15) (reportPayload c.hg.addr items) none)) := by
    have hten : (if true = true then c.tenantKey (c.reportHead t (items.all (fun i => i.isEvent c.hg.addr)) items
      (c.tenantRec t).home 15).tenant else none) = none := hkey
    rw [sealPacket, hten]
  unfold sendRecords
  extract_lets
  rw [hfast, hdef, haway, hnone, hany]
  simp only [Bool.not_false, Bool.and_true, when_true]
  rw [hhop]
  dsimp only
  rw [originate, hseal]
  rfl

end Core

/-- Settles O27: what waits too long is dropped, and records travel until they are acknowledged. -/
theorem reportsOnTheirWayComplete : Obligations.ReportsOnTheirWayComplete := by
  refine ⟨fun s i x hfast hx hdrop => (gives_relayWaitExpiry i s).congr ?_,
    fun s i x hfast hx hheld hkind => ⟨_, gives_relayWaitExpiry i s, ?_⟩,
    fun s b r hfast hintact hkind hone hrec hdef hroom hlen => ⟨_, gives_rptPacket b s, ?_⟩,
    fun s t p hfast hdef haway hsome hfree hhop hkey hport hlen => ⟨_, gives_rptSend t s, ?_⟩⟩
  · rw [Core.relayExpire, hx]
    dsimp only
    rw [hfast, Core.when_true]
    split
    case isTrue => rfl
    case isFalse hnot =>
      rw [Bool.not_eq_true, Option.isSome_eq_false_iff, Option.isNone_iff_eq_none] at hnot
      rcases hdrop with hheld | ⟨hcmd, hrpt⟩
      · exact absurd hnot hheld
      · rw [Core.dropPacket, if_neg (by simpa using hcmd), if_neg (by simpa using hrpt)]
        rfl
  · rw [Core.relayExpire, hx]
    dsimp only
    rw [hfast, Core.when_true, hheld, Core.dropPacket, if_neg (by simp), if_neg (by rw [hkind]; decide), if_pos (by rw [hkind]; rfl)]
    refine ⟨Core.eventTo_only _ _ _ _, fun hdef hroom hlen => ⟨_, Core.placeRec_queue _ _ _ (by exact hdef) hroom hlen, rfl, rfl⟩⟩
  · have hgood : (s.core.fast && pkIntact b && (pkKind b == 3 || pkKind b == 4)) = true := by
      rw [hfast, hintact]
      simpa using hkind
    have hrun : s.core.takeRecords b = s.core.placeRec (pkTenant b) r
        (Core.datedRecord (BitVec.ofNat 32 (leAt (pkPayload b) 2 4)) r).2 (BitVec.ofNat 10 (leAt (pkPayload b) 0 2)) := by
      rw [Core.takeRecords, hone, hrec]
      rfl
    rw [Core.takeReportPacket, hgood, Core.when_true, hrun]
    exact ⟨Core.placeRec_only _ _ _ _ _, _, Core.placeRec_queue _ _ _ hdef hroom hlen, rfl, rfl, rfl, Core.datedRecord_low _ _⟩
  · dsimp only
    obtain ⟨b, hb⟩ := Core.sendRecords_of_away hfast hdef haway hsome hfree hhop hkey
    rw [hb]
    generalize hitems : leadRun s.core.hg.addr (s.core.queue t).items = items
    generalize hevt : items.all (fun i => i.isEvent s.core.hg.addr) = evt
    have hpacked : s.core.packed t items = (s.core.modTenantSt t (fun s => if evt then { s with evtSeq := s.evtSeq + 1#16 }
        else { s with rptSeq := s.rptSeq + 1#16 })).modQueue t (fun q => q.fix (recCount items) (hasFull items) true) := by
      rw [Core.packed, hevt]
    have hsent := (s.core.packed t items).sendPacketOn_only p b (some (t, recCount items, evt, hasFull items)) false
    have hwaits := (s.core.packed t items).exists_packetOn b (some (t, recCount items, evt, hasFull items)) false hport
    have hqueue : ∀ u, ((s.core.packed t items).sendPacketOn p b (some (t, recCount items, evt, hasFull items)) false).queue u =
      (s.core.packed t items).queue u := fun _ => rfl
    have hten : ∀ u, ((s.core.packed t items).sendPacketOn p b (some (t, recCount items, evt, hasFull items)) false).tenantSt u =
      (s.core.packed t items).tenantSt u := fun _ => rfl
    refine ⟨?_, ?_, fun u hu => ?_, hwaits, fun hheld => ?_⟩
    · obtain ⟨hcore, hports⟩ := hsent
      refine ⟨?_, hports⟩
      rw [hcore]
      rfl
    · rw [hqueue, hpacked, Core.modQueue_queue, if_pos ⟨rfl, hlen⟩, Queue.fix_bytes]
      rfl
    · rw [hqueue, hten, hpacked, Core.modQueue_queue, if_neg fun h => hu h.1.symm]
      refine ⟨rfl, ?_⟩
      show (s.core.modTenantSt t _).tenantSt u = _
      rw [Core.modTenantSt_tenantSt, if_neg fun h => hu h.1.symm]
    · rw [hten, hpacked]
      show ((s.core.modTenantSt t _).tenantSt t).rptSeq = _ ∧ ((s.core.modTenantSt t _).tenantSt t).evtSeq = _
      rw [Core.modTenantSt_tenantSt, if_pos ⟨rfl, hheld⟩]
      by_cases h : evt = true
      · exact ⟨by rw [if_pos h, if_pos h], by rw [if_pos h, if_pos h]⟩
      · exact ⟨by rw [if_neg h, if_neg h], by rw [if_neg h, if_neg h]⟩

end Sys2Proof.Machine

/-!
PROOFS. The slots of a normal frame: NOISE, MUTUAL and SELF (R83, R97, R101 to R103, R107, R111 to R113).
-/
namespace Sys2Proof.Machine

theorem gives_noiseSlot {w : List (List Samples)} {g : List (BitVec 16)} {s : State} (hshape : s.core.noiseShape w g = true) :
    Gives (.noiseSlot w g) s (s.core.noiseSlot w g) := by
  have hrun : exec (.noiseSlot w g) s = onCoreIf (!s.core.atSlot .sync || s.core.noiseShape w g) (fun c => c.noiseSlot w g) s := rfl
  rw [hshape, Bool.or_true, onCoreIf_true] at hrun
  exact gives_of_onCore hrun rfl

theorem gives_mutualSlot {m : ScanSamples} {sag : Bool} {s : State} (hshape : s.core.mutualShape m = true) :
    Gives (.mutualSlot m sag) s (s.core.mutualSlot m sag) := by
  have hrun : exec (.mutualSlot m sag) s = onCoreIf (!s.core.atSlot .noise || s.core.mutualShape m) (fun c => c.mutualSlot m sag) s := rfl
  rw [hshape, Bool.or_true, onCoreIf_true] at hrun
  exact gives_of_onCore hrun rfl

theorem gives_selfSlot {x : List (List Nat)} {s : State} (hshape : s.core.selfShape x = true) :
    Gives (.selfSlot x) s (s.core.selfSlot x) := by
  have hrun : exec (.selfSlot x) s = onCoreIf (!(s.core.atSlot .scan && decide (0 < s.core.prof.selfT)) || s.core.selfShape x)
    (fun c => c.selfSlot x) s := rfl
  rw [hshape, Bool.or_true, onCoreIf_true] at hrun
  exact gives_of_onCore hrun rfl

namespace Core

/-- A normal frame without a forced slot checks no channel (R388). -/
theorem checksChannels_of_normal {c : Core} (hmaint : c.acq.maint = none) (hgiven : c.acq.noiseGiven = false) : c.checksChannels = false := by
  rw [checksChannels, inSelftest, forcedTest, hmaint, hgiven]
  rfl

theorem noiseTele_only (c : Core) : c.noiseTele = { c with rep := { c.rep with tele := c.noiseTele.rep.tele } } := by
  unfold noiseTele
  split <;> rfl

/-- The NOISE slot of a normal frame surveys its sets (R107). -/
theorem noiseSlot_of_normal {c : Core} (hslot : c.atSlot .sync = true) (hmaint : c.acq.maint = none) (hgiven : c.acq.noiseGiven = false)
    (w : List (List Samples)) (g : List (BitVec 16)) : c.noiseSlot w g =
      (c.modAcq (fun a => { a with slot := some .noise, noiseViews := c.survey w, surveyPtr := a.surveyPtr + 2 })).noiseTele := by
  have hcheck : (c.modAcq (fun a => { a with slot := some .noise })).checksChannels = false := checksChannels_of_normal hmaint hgiven
  have hnone : (c.modAcq (fun a => { a with slot := some .noise })).acq.maint.isSome = false := by
    show c.acq.maint.isSome = false
    rw [hmaint]
    rfl
  have hkept : (c.modAcq (fun a => { a with slot := some .noise })).acq.noiseGiven = false := hgiven
  unfold noiseSlot
  rw [hslot, when_true]
  dsimp only
  rw [hcheck, if_neg Bool.false_ne_true, hnone, if_neg Bool.false_ne_true, hkept, if_neg Bool.false_ne_true]
  rfl

/-- What MUTUAL takes from the samples of a normal frame (R97, R102, R103). -/
def withScan (c : Core) (m : ScanSamples) (sag : Bool) : Acq :=
  { c.acq with
    slot := some .scan
    sums := (List.range 26).map (fun ch => (List.range 3).map (fun lane => c.stepSums m.steps ch lane))
    clip := (List.range 26).map (fun ch => (slotSamples m ch).any isClipped)
    sampleView := (List.range 26).map (fun ch => (slotSamples m ch).foldl (fun t x => t.add x.toInt) (Tracker.reset (-2048) 2047))
    sagged := c.acq.highNow && sag
    sagRun := if c.acq.highNow && sag then c.acq.sagRun + 1 else 0 }

/-- The MUTUAL slot of a normal frame, short of a third sagged one in a row (R88). -/
theorem mutualSlot_of_normal {c : Core} (hslot : c.atSlot .noise = true) (hmaint : c.acq.maint = none) (hsag : c.acq.sagRun < 2)
    (m : ScanSamples) (sag : Bool) : ∃ tele, c.mutualSlot m sag = { c with acq := c.withScan m sag, rep := { c.rep with tele := tele } } := by
  have hrun : ((if c.acq.highNow && sag then (c.modAcq (fun a => { a with slot := some .scan })).acq.sagRun + 1 else 0) == 3) = false := by
    rw [beq_eq_false_iff_ne]
    show (if c.acq.highNow && sag then c.acq.sagRun + 1 else 0) ≠ 3
    split <;> omega
  have hhigh : (c.modAcq (fun a => { a with slot := some .scan })).frameHigh = c.acq.highNow := by
    have hsame : (c.modAcq (fun a => { a with slot := some .scan })).acq.maint = none := hmaint
    rw [frameHigh, hsame]
    rfl
  unfold mutualSlot
  rw [hslot, when_true]
  dsimp only
  split
  case h_1 n hslice => exact absurd (hmaint.symm.trans hslice) nofun
  case h_2 =>
    rw [hhigh, if_neg fun hthree => Bool.false_ne_true (hrun.symm.trans hthree)]
    exact ⟨_, rfl⟩

/-- The SELF slot of a normal frame counts on every line that takes part (R111). -/
theorem selfSlot_of_normal {c : Core} (hslot : c.atSlot .scan = true) (hself : 0 < c.prof.selfT) (hmaint : c.acq.maint = none)
    (hgiven : c.acq.noiseGiven = false) (x : List (List Nat)) : c.selfSlot x = c.modAcq (fun a => { a with
      slot := some .self
      selfRan := true
      sc := (List.range 56).map (fun i => if c.selfUsed i then selfCount (2 ^ (4 + c.prof.scNlog)) (c.prof.selfT / 16 * 4) (x.getD i [])
        else c.acq.sc.getD i none) }) := by
  have hcounts : (c.modAcq (fun a => { a with slot := some .self })).countsSelf = true := by
    have hsame : (c.modAcq (fun a => { a with slot := some .self })).acq.maint = none := hmaint
    rw [countsSelf, hsame]
    rfl
  have hperiods : (c.modAcq (fun a => { a with slot := some .self })).selfPeriods = 2 ^ (4 + c.prof.scNlog) := by
    have hcheck : (c.modAcq (fun a => { a with slot := some .self })).checksChannels = false := checksChannels_of_normal hmaint hgiven
    rw [selfPeriods, hcheck]
    rfl
  unfold selfSlot
  rw [hslot, decide_eq_true hself, Bool.and_true, when_true]
  dsimp only
  rw [hcounts, if_neg (by decide), hperiods]
  rfl

end Core

end Sys2Proof.Machine

/-!
PROOFS. The frame boundary of a tile that no task waits in (R15, R17, R331).
-/
namespace Sys2Proof.Machine

theorem gives_frameBoundary (s : State) : Gives .frameBoundary s s.core.boundary := rfl

/-- `d` is `c` but for what a frame boundary renews of nodes, frame, contacts and hedge, in a tile without MAINT frames. -/
def OnlyFrame (c d : Core) : Prop :=
  d = { c with
    node := { d.node with seek := c.node.seek }, hp := d.hp, trk := d.trk
    acq := { d.acq with maintDue := c.acq.maintDue, swingAnn := c.acq.swingAnn, legs := c.acq.legs }
    hg := { d.hg with joinRefused := c.hg.joinRefused }
    qs := d.qs, host := { c.host with attnsrc := d.host.attnsrc }
    rep := { c.rep with grade := d.rep.grade, tele := d.rep.tele, task := d.rep.task } }

namespace OnlyFrame

theorem refl (c : Core) : OnlyFrame c c := rfl

theorem trans {a b c : Core} (h : OnlyFrame a b) (k : OnlyFrame b c) : OnlyFrame a c := by
  unfold OnlyFrame at *
  rw [k, h]

theorem of_records {c d : Core} (h : OnlyRecords c d) : OnlyFrame c d := by
  unfold OnlyRecords at h
  rw [h]
  rfl

/-- The grade follows from what a boundary leaves (R375). -/
theorem gradeNow {c d : Core} (h : OnlyFrame c d) : d.gradeNow = c.gradeNow := by
  unfold OnlyFrame at h
  rw [h]
  rfl

end OnlyFrame

/-- No task, change or command waits for the boundary of a tile in Run. -/
structure Calm (c : Core) : Prop where
  run : c.pw.phase = .run
  entry : c.pw.entry = none
  req : c.pw.req = 0#4
  idle : c.pw.idleDue = false
  grade : c.gradeNow < 6
  slices : ∀ r ∈ c.rep.slices, r.failDue = none
  joined : c.hg.joinRefused = false
  selftest : c.rep.selftest = none
  testDue : c.rep.testDue = false
  finger : c.rep.finger = none
  fingerWait : c.rep.fingerWait = none
  maintDue : c.acq.maintDue = []
  seek : c.node.seek = none
  newProf : c.newProf = none
  deferred : c.pk.deferred = []
  swingAnn : c.acq.swingAnn = none

theorem Calm.of_only {c d : Core} (hc : Calm c) (h : OnlyFrame c d) : Calm d := by
  have hgrade := h.gradeNow
  unfold OnlyFrame at h
  refine ⟨?_, ?_, ?_, ?_, by rw [hgrade]; exact hc.grade, ?_, ?_, ?_, ?_, ?_, ?_, ?_, ?_, ?_, ?_, ?_⟩ <;> rw [h]
  exacts [hc.run, hc.entry, hc.req, hc.idle, hc.slices, hc.joined, hc.selftest, hc.testDue, hc.finger, hc.fingerWait, hc.maintDue, hc.seek,
    hc.newProf, hc.deferred, hc.swingAnn]

/-- A step within a boundary that is counted already. -/
structure Within (c d : Core) : Prop where
  only : OnlyFrame c d
  fc : d.hg.fc = c.hg.fc
  ranFc : d.hg.ranFc = c.hg.ranFc
  sub : d.hg.sub = c.hg.sub
  out : d.trk.out = c.trk.out
  running : c.acq.running = true → d.acq.running = true
  grade : c.gradeNow < 6 → c.rep.grade ≠ 6#3 → d.rep.grade ≠ 6#3

namespace Within

theorem refl (c : Core) : Within c c := ⟨.refl c, rfl, rfl, rfl, rfl, id, fun _ h => h⟩

theorem trans {a b c : Core} (h : Within a b) (k : Within b c) : Within a c :=
  ⟨h.only.trans k.only, k.fc.trans h.fc, k.ranFc.trans h.ranFc, k.sub.trans h.sub, k.out.trans h.out, k.running ∘ h.running,
    fun hnow hgrade => k.grade (by rw [h.only.gradeNow]; exact hnow) (h.grade hnow hgrade)⟩

theorem of_records {c d : Core} (h : OnlyRecords c d) : Within c d := by
  refine ⟨.of_records h, ?_, ?_, ?_, ?_, ?_, ?_⟩ <;> unfold OnlyRecords at h <;> rw [h]
  · exact id
  · exact fun _ hgrade => hgrade

end Within

namespace Core

theorem modNode_within (c : Core) {f : Node → Node} (h : (f c.node).seek = c.node.seek) : Within c (c.modNode f) := by
  refine ⟨?_, rfl, rfl, rfl, rfl, id, fun _ h => h⟩
  unfold OnlyFrame
  rw [← h]
  rfl

theorem applyLineSettings_within (c : Core) (k : Nat) (p : LinePend) : Within c (c.applyLineSettings k p) := by
  unfold applyLineSettings
  extract_lets gain codes d e
  have hd : Within c d := by
    show Within c (if _ then c.excludeLine k else c.excludeCodes k codes)
    split
    · exact ⟨rfl, rfl, rfl, rfl, rfl, id, fun _ h => h⟩
    · exact ⟨rfl, rfl, rfl, rfl, rfl, id, fun _ h => h⟩
  clear_value d
  have hsense : Within d (d.setSense k p.gain p.coarse) := modNode_within d (by rfl)
  have he : Within (d.setSense k p.gain p.coarse) e := modNode_within _ (by rfl)
  clear_value e
  split
  · exact ((hd.trans hsense).trans he).trans (modNode_within e (by rfl))
  · exact (hd.trans hsense).trans he

theorem applyLine_within (c : Core) (k : Nat) : Within c (c.applyLine k) := by
  have hset : ∀ p, Within c (c.setPending k p) := fun p => ⟨rfl, rfl, rfl, rfl, rfl, id, fun _ h => h⟩
  unfold applyLine
  split
  · exact .refl c
  case h_2 p hpend =>
    cases p with
    | sense q =>
      dsimp only
      split
      · exact .refl c
      · exact ⟨rfl, rfl, rfl, rfl, rfl, id, fun _ h => h⟩
    | codes q =>
      dsimp only
      split
      · exact .refl c
      · exact ⟨rfl, rfl, rfl, rfl, rfl, id, fun _ h => h⟩
    | line q =>
      dsimp only
      split
      · exact .refl c
      · exact (hset none).trans (applyLineSettings_within _ k q)

theorem applyRanges_within (c : Core) : Within c c.applyRanges :=
  foldl_keeps Within Within.refl (fun _ _ _ => Within.trans) applyLine applyLine_within _ c

theorem regradeNow_grade (c : Core) (h : c.gradeNow < 6) : c.regradeNow.rep.grade ≠ 6#3 := by
  intro hsix
  have hnow : c.regradeNow.rep.grade.toNat = c.gradeNow := by
    unfold regradeNow
    dsimp only
    split
    case isTrue hsame => simpa using hsame
    case isFalse =>
      rw [attn_rep, repairEvent_only]
      exact (BitVec.toNat_ofNat _ _).trans (Nat.mod_eq_of_lt (by omega))
  rw [hsix] at hnow
  exact absurd h (by rw [← hnow]; decide)

theorem regradeNow_within (c : Core) : Within c c.regradeNow := by
  have hgrade := c.regradeNow_grade
  by_cases hsame : (c.rep.grade.toNat == c.gradeNow) = true
  · have hrun : c.regradeNow = c := if_pos hsame
    rw [hrun]
    exact .refl c
  · have hset : OnlyFrame c { c with rep := { c.rep with grade := BitVec.ofNat 3 c.gradeNow } } := rfl
    have hrun : c.regradeNow = ({ c with rep := { c.rep with grade := BitVec.ofNat 3 c.gradeNow } }.repairEvent 0x40
      [BitVec.ofNat 8 c.rep.grade.toNat, BitVec.ofNat 8 c.gradeNow]).attn 9 := if_neg hsame
    have hrest := Within.of_records ((repairEvent_only { c with rep := { c.rep with grade := BitVec.ofNat 3 c.gradeNow } } 0x40
      [BitVec.ofNat 8 c.rep.grade.toNat, BitVec.ofNat 8 c.gradeNow]).trans (attn_only _ 9))
    rw [hrun] at hgrade ⊢
    exact ⟨hset.trans hrest.only, hrest.fc, hrest.ranFc, hrest.sub, hrest.out, hrest.running, fun h _ => hgrade h⟩

theorem hopStep_within (c : Core) : Within c c.hopStep := by
  have hfirst : Within c (if c.prof.hopSets.contains c.acq.hop.toNat then c
      else c.modAcq (fun a => { a with hop := BitVec.ofNat 3 (c.prof.hopOrder 0), surveyPtr := 1 })) := by
    split
    · exact .refl c
    · exact ⟨rfl, rfl, rfl, rfl, rfl, id, fun _ h => h⟩
  unfold hopStep
  dsimp only
  generalize (if c.prof.hopSets.contains c.acq.hop.toNat = true then c else _) = d at *
  refine hfirst.trans ?_
  split
  · exact .refl d
  · split
    · exact .refl d
    · split <;> exact ⟨rfl, rfl, rfl, rfl, rfl, id, fun _ h => h⟩

theorem chooseParent_within (c : Core) : Within c c.chooseParent := by
  have hdeep : Within c (if c.bestParent.any (fun x => decide (14 ≤ x.2)) && !c.hg.tooDeep then
      c.eventCustodian 0x1A [BitVec.ofNat 8 ((c.bestParent.map (fun x => x.2 + 1)).getD 0)] else c) := by
    split
    · exact .of_records (eventCustodian_only _ _ _)
    · exact .refl c
  unfold chooseParent
  extract_lets best deep d pick parent depth e
  have hdrop : Within d e := by
    show Within d (if parent == d.hg.parent then d else _)
    split
    · exact .refl d
    · exact ⟨rfl, rfl, rfl, rfl, rfl, id, fun _ h => h⟩
  exact (Within.trans hdeep hdrop).trans ⟨rfl, rfl, rfl, rfl, rfl, id, fun _ h => h⟩

theorem ageParents_within (c : Core) : Within c c.ageParents := by
  unfold ageParents
  split
  · exact .refl c
  · exact Within.trans (b := { c with hp := c.hp.map HedgePort.ageSync }) ⟨rfl, rfl, rfl, rfl, rfl, id, fun _ h => h⟩ (chooseParent_within _)

theorem farSwing_within (c : Core) (p : Port) : Within c (c.farSwing p) := by
  unfold farSwing
  dsimp only
  split
  · exact .refl c
  · refine Within.trans (b := c.modHp p (fun h => { h with swingNow := h.swingNext })) ⟨rfl, rfl, rfl, rfl, rfl, id, fun _ h => h⟩ ?_
    exact foldl_keeps Within Within.refl (fun _ _ _ => Within.trans)
      (fun d l => d.excludeLane l ((List.range 24).filter (fun k => d.lanePort k l == some p))) (fun d l => ⟨rfl, rfl, rfl, rfl, rfl, id, fun _ h => h⟩) _ _

theorem freshFrame_spec (c : Core) : Within c c.freshFrame ∧
    c.freshFrame.acq.slot = some .sync ∧ c.freshFrame.acq.maint = none ∧ c.freshFrame.acq.sagged = false := by
  unfold freshFrame
  extract_lets d e f
  have hd : Within c d :=
    (foldl_keeps Within Within.refl (fun _ _ _ => Within.trans) farSwing farSwing_within _ c).trans
      (foldl_keeps Within Within.refl (fun _ _ _ => Within.trans) portFrame (fun d p => ⟨rfl, rfl, rfl, rfl, rfl, id, fun _ h => h⟩) _ _)
  clear_value d
  have he : Within d e := ⟨rfl, rfl, rfl, rfl, rfl, id, fun _ h => h⟩
  have hf : Within e f := ⟨rfl, rfl, rfl, rfl, rfl, id, fun _ h => h⟩
  exact ⟨((hd.trans he).trans hf).trans ⟨rfl, rfl, rfl, rfl, rfl, id, fun _ h => h⟩, rfl, rfl, rfl⟩

/-- Frames run from here on (R56). -/
theorem startFrames_spec (c : Core) : Within c c.startFrames ∧ c.startFrames.acq.running = true := by
  unfold startFrames
  split
  case isTrue h => exact ⟨.refl c, h⟩
  case isFalse =>
    dsimp only
    split
    · exact ⟨⟨rfl, rfl, rfl, rfl, rfl, fun _ => rfl, fun _ h => h⟩, rfl⟩
    · exact ⟨⟨rfl, rfl, rfl, rfl, rfl, fun _ => rfl, fun _ h => h⟩, rfl⟩

/-! The end of the frame before. -/

theorem endFrame_spec (c : Core) : OnlyFrame c c.endFrame ∧ c.endFrame.hg.fc = c.hg.fc ∧ c.endFrame.trk.out = [] ∧
    c.endFrame.pw = c.pw := by
  have hplaced : OnlyRecords c (c.placeOut c.trk.out) := c.placeOut_only _
  unfold endFrame
  extract_lets d back e f
  have hd : OnlyFrame c d := .of_records hplaced
  have hfc : d.hg.fc = c.hg.fc := congrArg Hedge.fc hplaced.hg
  have hpw : d.pw = c.pw := hplaced.pw
  clear_value d
  have hf : OnlyFrame d f := rfl
  split
  · exact ⟨(hd.trans hf).trans rfl, hfc, rfl, hpw⟩
  · exact ⟨hd.trans hf, hfc, rfl, hpw⟩

/-- No slice leaves service where none has failed (R374). -/
theorem dropSlices_of_calm {c : Core} (h : ∀ r ∈ c.rep.slices, r.failDue = none) : c.dropSlices = c := by
  have hsame : c.rep.slices.map SliceRot.dropFailed = c.rep.slices := by
    refine (List.map_congr_left fun r hr => ?_).trans (List.map_id _)
    rw [SliceRot.dropFailed, h r hr]
    rfl
  rw [dropSlices, modRep, hsame]

theorem concludeTest_of_none {c : Core} (h : c.rep.selftest = none) : c.concludeTest = c := by
  rw [concludeTest, runOver, h]
  rfl

/-- A tile that neither the host, nor idleness, nor its grade takes out of Run stays in it (R52, R376). -/
theorem leaveTo_of_calm {c : Core} (hc : Calm c) (hgrade : c.rep.grade ≠ 6#3) : c.leaveTo = none := by
  have hmay : c.mayRun = true := by
    rw [mayRun, hc.joined, bne_iff_ne.mpr hgrade]
    rfl
  rw [leaveTo, hc.req, hc.idle, hmay]
  rfl

/-! What a frame begins with. -/

theorem swingStep_of_none {c : Core} (h : c.acq.swingAnn = none) : c.swingStep = c := by rw [swingStep, h]

theorem profileStep_of_none {c : Core} (h : c.newProf = none) : c.profileStep = c := by rw [profileStep, h]

theorem applyDeferred_of_nil {c : Core} (h : c.pk.deferred = []) (b : Bool) : c.applyDeferred b = c := by
  rw [applyDeferred, h]
  exact withDeferred_self h

/-- Where no MAINT frame is due the frame is a normal one (R17). -/
theorem nextTurn_of_calm {c : Core} (hc : Calm c) : c.nextTurn = none := by
  have htest : c.testNow = false := by rw [testNow, hc.selftest, hc.testDue]
  rw [nextTurn, hc.seek, hc.finger, hc.maintDue, hc.fingerWait, htest, hc.selftest]
  simp

/-- A normal frame opens its SYNC slot (R15). -/
theorem startNormal_spec {c : Core} (hc : Calm c) : ∃ slices defer task given, c.startNormal = { c with
    rep := { c.rep with slices := slices, bgdefer := defer, task := task }, acq := { c.acq with noiseGiven := given } } := by
  unfold startNormal
  dsimp only
  split
  · exact ⟨_, _, _, _, rfl⟩
  · have hnone : (c.handSlices.rep.bgdefer.getLsbD 1 && c.handSlices.rep.testDue && c.handSlices.rep.selftest.isNone) = false := by
      have htest : c.handSlices.rep.testDue = false := hc.testDue
      rw [htest, Bool.and_false, Bool.false_and]
    rw [hnone, if_neg Bool.false_ne_true]
    exact ⟨_, _, _, _, rfl⟩

/-- The core when a frame has begun: its steps up to the fresh registers (R15, R19). -/
def frameOpened (c : Core) : Core := c.startFrames.applyRanges.regradeNow.hopStep.freshFrame

theorem frameOpened_spec {c : Core} (hc : Calm c) : Within c c.frameOpened ∧ c.frameOpened.rep.grade ≠ 6#3 ∧ c.frameOpened.acq.running = true ∧
    c.frameOpened.acq.slot = some .sync ∧ c.frameOpened.acq.maint = none ∧ c.frameOpened.acq.sagged = false := by
  obtain ⟨hstart, hrun⟩ := c.startFrames_spec
  have hranges := c.startFrames.applyRanges_within
  have hgrade := c.startFrames.applyRanges.regradeNow_within
  have hhop := c.startFrames.applyRanges.regradeNow.hopStep_within
  obtain ⟨hfresh, hslot, hmaint, hsag⟩ := c.startFrames.applyRanges.regradeNow.hopStep.freshFrame_spec
  have hbefore := hstart.trans hranges
  have hnow : c.startFrames.applyRanges.gradeNow < 6 := by rw [hbefore.only.gradeNow]; exact hc.grade
  have hsix := regradeNow_grade _ hnow
  have hafter := hhop.trans hfresh
  have hlow : c.startFrames.applyRanges.regradeNow.gradeNow < 6 := by rw [hgrade.only.gradeNow]; exact hnow
  exact ⟨(hbefore.trans hgrade).trans hafter, hafter.grade hlow hsix, (hranges.trans (hgrade.trans hafter)).running hrun, hslot, hmaint, hsag⟩

theorem beginFrame_of_calm {c : Core} (hc : Calm c) :
    c.beginFrame.hg.fc = c.hg.fc ∧ c.beginFrame.hg.ranFc = c.hg.ranFc ∧ c.beginFrame.hg.sub = c.hg.sub ∧ c.beginFrame.pw = c.pw ∧
      c.beginFrame.acq.running = true ∧ c.beginFrame.acq.slot = some .sync ∧ c.beginFrame.acq.maint = none ∧
      c.beginFrame.acq.sagged = false ∧ c.beginFrame.trk.out = c.trk.out ∧ c.beginFrame.prof = c.prof ∧ c.beginFrame.pk = c.pk := by
  have hstart := c.startFrames_spec.1
  have hranged := hstart.trans c.startFrames.applyRanges_within
  have hcalm := hc.of_only hranged.only
  obtain ⟨hopened, hsix, hrun, hslot, hmaint, hsag⟩ := frameOpened_spec hc
  have hfold : c.startFrames.applyRanges.regradeNow.hopStep.freshFrame = c.frameOpened := rfl
  have hkind : c.frameOpened.startKind = c.frameOpened.startNormal := by
    rw [startKind, nextTurn_of_calm (hc.of_only hopened.only)]
    dsimp only
    rw [if_neg (by simpa using hsix)]
  obtain ⟨slices, defer, task, given, hnormal⟩ := startNormal_spec (hc.of_only hopened.only)
  have honly := hopened.only
  have hpw : c.frameOpened.pw = c.pw := by unfold OnlyFrame at honly; rw [honly]
  have hprof : c.frameOpened.prof = c.prof := by unfold OnlyFrame at honly; rw [honly]
  have hpk : c.frameOpened.pk = c.pk := by unfold OnlyFrame at honly; rw [honly]
  rw [← hopened.fc, ← hopened.ranFc, ← hopened.sub, ← hopened.out, ← hpw, ← hprof, ← hpk]
  unfold beginFrame
  rw [swingStep_of_none (hc.of_only hstart.only).swingAnn, profileStep_of_none hcalm.newProf, applyDeferred_of_nil hcalm.deferred]
  dsimp only
  rw [hfold, hkind, hnormal]
  clear hfold hkind hnormal
  generalize c.frameOpened = d at *
  split
  · generalize hd : (modAcq _ _ : Core) = e
    have hlatch : ∀ x : Core, x.latchRpr = { x with rep := { x.rep with regs := x.rprLive } } := fun _ => rfl
    rw [hlatch, e.composeSync_only, ← hd]
    exact ⟨rfl, rfl, rfl, rfl, hrun, hslot, hmaint, hsag, rfl, rfl, rfl⟩
  · exact ⟨rfl, rfl, rfl, rfl, hrun, hslot, hmaint, hsag, rfl, rfl, rfl⟩

/-- The tile when its boundary is counted (R331). -/
def counted (c : Core) : Core := c.endFrame.regradeNow.countBoundary.ageParents

theorem counted_spec {c : Core} (hc : Calm c) : OnlyFrame c c.counted ∧ c.counted.rep.grade ≠ 6#3 ∧ c.counted.hg.fc = c.hg.fc + 1#32 ∧
    c.counted.hg.ranFc = c.hg.fc + 1#32 ∧ c.counted.hg.sub = 0#24 ∧ c.counted.trk.out = [] := by
  obtain ⟨hended, hfc, hout, -⟩ := c.endFrame_spec
  have hgraded := c.endFrame.regradeNow_within
  have hnow : c.endFrame.gradeNow < 6 := by rw [hended.gradeNow]; exact hc.grade
  have hsix := regradeNow_grade _ hnow
  have hcount : OnlyFrame c.endFrame.regradeNow c.endFrame.regradeNow.countBoundary := rfl
  have haged := c.endFrame.regradeNow.countBoundary.ageParents_within
  have hlow : c.endFrame.regradeNow.countBoundary.gradeNow < 6 := by rw [hcount.gradeNow, hgraded.only.gradeNow]; exact hnow
  refine ⟨((hended.trans hgraded.only).trans hcount).trans haged.only, haged.grade hlow hsix, haged.fc.trans ?_, haged.ranFc.trans ?_,
    haged.sub, haged.out.trans (hgraded.out.trans hout)⟩
  · exact congrArg (· + 1#32) (hgraded.fc.trans hfc)
  · exact congrArg (· + 1#32) (hgraded.fc.trans hfc)

/-- In a calm tile the boundary begins a normal frame (R15). -/
theorem boundary_of_calm {c : Core} (hc : Calm c) : c.boundary = c.counted.beginFrame := by
  obtain ⟨honly, hsix, -⟩ := counted_spec hc
  have hcounted := hc.of_only honly
  have hended := hc.of_only c.endFrame_spec.1
  have hconcluded : c.endFrame.dropSlices.concludeTest = c.endFrame := by
    rw [dropSlices_of_calm hended.slices, concludeTest_of_none hended.selftest]
  have hfold : c.endFrame.regradeNow.countBoundary.ageParents = c.counted := rfl
  rw [boundary, hc.run, if_pos (by rfl), runBoundary, hconcluded]
  dsimp only
  rw [hfold, hcounted.entry, if_neg (by decide), leaveTo_of_calm hcounted hsix]

end Core

/-- Settles O7: the boundary of a calm tile begins a normal frame, and its slots store what they measure. -/
theorem slotMeasurementsComplete : Obligations.SlotMeasurementsComplete := by
  refine ⟨fun s hrun hentry hreq hidle hgrade hslices hjoin htest hdue hfinger hwait hmaint hseek hprof hdefer hswing =>
      ⟨_, gives_frameBoundary s, ?_⟩,
    fun s w hslot hmaint hgiven hshape => ⟨_, gives_noiseSlot hshape, ?_⟩,
    fun s m sag hslot hmaint hshape hsag => ⟨_, gives_mutualSlot hshape, ?_⟩,
    fun s x hslot hself hmaint hgiven hlen => (gives_selfSlot ?_).congr ?_⟩
  · have hc : Calm s.core := ⟨hrun, hentry, hreq, hidle, hgrade, hslices, hjoin, htest, hdue, hfinger, hwait, hmaint, hseek, hprof, hdefer,
      hswing⟩
    obtain ⟨honly, -, hfc, hran, hsub, hout⟩ := Core.counted_spec hc
    obtain ⟨hbfc, hbran, hbsub, hpw, hrunning, hslot, hmaint, hsag, hbout, hbprof, hbpk⟩ := Core.beginFrame_of_calm (hc.of_only honly)
    unfold OnlyFrame at honly
    beta_reduce
    rw [Core.boundary_of_calm hc, hbfc, hbran, hbsub, hpw, hbout, hbprof, hbpk]
    refine ⟨hfc, hran, hsub, ?_, hrunning, hslot, hmaint, hsag, hout, ?_, ?_⟩
    · rw [honly]
      exact hrun
    · rw [honly]
    · rw [honly]
  · rw [Core.noiseSlot_of_normal hslot hmaint hgiven, Core.noiseTele_only]
    exact ⟨rfl, rfl⟩
  · obtain ⟨tele, hscan⟩ := Core.mutualSlot_of_normal hslot hmaint hsag m sag
    rw [hscan]
    exact ⟨rfl, rfl⟩
  · have hcounts : s.core.countsSelf = true := by rw [Core.countsSelf, hmaint]; rfl
    rw [Core.selfShape, hcounts, hlen]
    rfl
  · rw [Core.selfSlot_of_normal hslot hself hmaint hgiven]
    rfl

end Sys2Proof.Machine

/-!
PROOFS. COMPUTE and what it changes: nodes, contacts, wear and grants (R132, R150 to R153, R157 to R172, R190, R290).
-/
namespace Sys2Proof.Machine

/-- `d` is `c` but for what COMPUTE makes of nodes, contacts, wear and grants; lines keep GAIN, RANGE and codes. -/
def Computed (c d : Core) : Prop :=
  d = { c with
    node := { d.node with gain := c.node.gain, codes := c.node.codes, coarse := c.node.coarse }
    hg := { c.hg with grants := d.hg.grants }, trk := d.trk, rep := d.rep }

namespace Computed

theorem refl (c : Core) : Computed c c := rfl

theorem trans {a b c : Core} (h : Computed a b) (k : Computed b c) : Computed a c := by
  unfold Computed at *
  rw [k, h]

theorem foldl {α : Type} (f : Core → α → Core) (hf : ∀ c a, Computed c (f c a)) (l : List α) (c : Core) : Computed c (l.foldl f c) :=
  Core.foldl_keeps Computed Computed.refl (fun _ _ _ => Computed.trans) f hf l c

end Computed

/-- `d` is `c` but for what the frame's samples make of its nodes and self lines. -/
def OnlyNodes (c d : Core) : Prop :=
  d = { c with node := { d.node with gain := c.node.gain, codes := c.node.codes, coarse := c.node.coarse, valid := c.node.valid } }

namespace OnlyNodes

theorem refl (c : Core) : OnlyNodes c c := rfl

theorem trans {a b c : Core} (h : OnlyNodes a b) (k : OnlyNodes b c) : OnlyNodes a c := by
  unfold OnlyNodes at *
  rw [k, h]

theorem computed {c d : Core} (h : OnlyNodes c d) : Computed c d := by
  unfold OnlyNodes at h
  rw [h]
  rfl

end OnlyNodes

namespace Core

/-! The node engine (R132). -/

theorem learnL_only (c : Core) (k : Nat) (step : Int) : OnlyNodes c (c.learnL k step) := by
  unfold learnL modNode
  dsimp only
  split <;> rfl

theorem updateNodes_only (c : Core) (pick : Nat → Bool) : OnlyNodes c (c.updateNodes pick) := by
  unfold updateNodes
  extract_lets old new steps
  have hnew : OnlyNodes c (c.modNode (fun n => { n with nodes := new })) := rfl
  exact hnew.trans (foldl_keeps OnlyNodes OnlyNodes.refl (fun _ _ _ => OnlyNodes.trans) _ (fun d s => d.learnL_only s.1 s.2) steps _)

theorem settleStep_only (c : Core) : OnlyNodes c c.settleStep := by
  unfold settleStep modNode
  dsimp only
  split <;> rfl

theorem tempStep_only (c : Core) : OnlyNodes c c.tempStep := by
  unfold tempStep
  split
  · exact .refl c
  · dsimp only
    split <;> rfl

/-- What COMPUTE does to nodes before the contacts (R132). -/
theorem nodeFrame_only (c : Core) : OnlyNodes c c.nodeFrame := by
  have hself : OnlyNodes (c.settleStep.tempStep.updateNodes (fun _ => true)) (c.settleStep.tempStep.updateNodes (fun _ => true)).selfStep := rfl
  have hmost := ((c.settleStep_only.trans (tempStep_only _)).trans (updateNodes_only _ (fun _ => true))).trans hself
  exact hmost.trans rfl

/-! The track engine and the last acts (R157 to R172, R136 to R140, R389). -/

theorem wearStep_computed (c : Core) (ps : List Port) (peaks : List Peak) (o : Outcome') : Computed c (c.wearStep ps peaks o) := by
  unfold wearStep
  split <;> rfl

theorem modTele_computed (c : Core) (f : Tele → Tele) : Computed c (c.modTele f) := rfl
theorem modTrk_computed (c : Core) (f : Track → Track) : Computed c (c.modTrk f) := rfl
theorem grants_computed (c : Core) (g : List (BitVec 6)) : Computed c (c.modHg (fun h => { h with grants := g })) := rfl
theorem frozen_computed (c : Core) (f b : List Nat) : Computed c (c.modNode (fun n => { n with frozen := f, busy := b })) := rfl
theorem wetStep_computed (c : Core) (water : Bool) : Computed c (c.wetStep water) := c.modTrk_computed _

theorem trackStep_computed (c : Core) (ps : List Port) : Computed c (c.trackStep ps) := by
  unfold trackStep
  extract_lets
  refine Computed.trans ?_ (wetStep_computed _ _)
  refine Computed.trans ?_ (frozen_computed _ _ _)
  refine Computed.trans ?_ (grants_computed _ _)
  refine Computed.trans ?_ (modTrk_computed _ _)
  exact (c.wearStep_computed ps _ _).trans (modTele_computed _ _)

theorem adopt_computed (c : Core) (p : Port) : Computed c (c.adopt p) := by
  unfold adopt
  split
  · exact .refl c
  · refine Computed.foldl _ (fun d b => ?_) _ c
    split
    · exact .refl d
    · split <;> rfl

theorem suspectStep_computed (c : Core) : Computed c c.suspectStep := by
  unfold suspectStep
  split
  · exact .refl c
  · rfl

/-- The end of COMPUTE (R132). -/
theorem closeCompute_spec (c : Core) (ps : List Port) : Computed c (c.closeCompute ps) ∧ (c.closeCompute ps).trk.phase = .done := by
  unfold closeCompute
  extract_lets d
  have hd : Computed c d := Computed.foldl adopt adopt_computed _ c
  clear_value d
  have hbase : Computed d d.baselineStep := rfl
  exact ⟨((hd.trans hbase).trans d.baselineStep.suspectStep_computed).trans rfl, rfl⟩

theorem finish_spec (c : Core) : Computed c c.finish ∧ c.finish.trk.phase = .done := by
  obtain ⟨hclose, hdone⟩ := (c.trackStep c.mapped).closeCompute_spec c.mapped
  exact ⟨(c.trackStep_computed c.mapped).trans hclose, hdone⟩

/-- Nothing is handed over where no SEAM_X has come (R293). -/
theorem adopts_of_quiet {c : Core} (hnone : ∀ p, c.heardX p = none) (l : List Port) : l.foldl adopt c = c := by
  induction l with
  | nil => rfl
  | cons p l ih =>
    rw [List.foldl_cons, adopt, hnone p]
    exact ih

/-- The end of COMPUTE keeps contacts and records where nothing is handed over (R190). -/
theorem closeCompute_trk {c : Core} (hnone : ∀ p, c.heardX p = none) (ps : List Port) :
    (c.closeCompute ps).trk = { c.trk with phase := .done } ∧ (c.closeCompute ps).hg = c.hg := by
  have hkept : ∀ d : Core, d.suspectStep.trk = d.trk ∧ d.suspectStep.hg = d.hg := fun d => by
    unfold suspectStep
    split <;> exact ⟨rfl, rfl⟩
  obtain ⟨htrk, hhg⟩ := hkept c.baselineStep
  unfold closeCompute
  rw [adopts_of_quiet hnone]
  refine ⟨?_, hhg⟩
  show { c.baselineStep.suspectStep.trk with phase := .done } = _
  rw [htrk]
  rfl

/-! A tile without neighbours (R290). -/

theorem hport_of_alone {c : Core} (h : c.hp = List.replicate 6 HedgePort.reset) (p : Port) : c.hport p = HedgePort.reset := by
  rw [hport, h, List.getD_eq_getElem?_getD, List.getElem?_replicate]
  split <;> rfl

/-- A tile whose ports have no partner and await nothing. -/
structure Alone (c : Core) : Prop where
  seam : ∀ p, c.seamOf p = none
  waits : ∀ p, c.awaitsD p = false
  heard : ∀ p, c.heardX p = none
  kept : ∀ p, (c.hport p).takeover = false

theorem Alone.of_reset {c : Core} (h : c.hp = List.replicate 6 HedgePort.reset) : Alone c := by
  have hopen : ∀ p, c.seamOpen p = false := fun p => by
    rw [seamOpen, hport_of_alone h p]
    simp [HedgePort.reset]
  have hseam : ∀ p, c.seamOf p = none := fun p => by
    rw [seamOf, hopen p]
    rfl
  refine ⟨hseam, fun p => ?_, fun p => ?_, fun p => ?_⟩
  · rw [awaitsD, hseam p, hopen p]
    rfl
  · rw [heardX, hport_of_alone h p]
    rfl
  · rw [hport_of_alone h p]
    rfl

/-- What COMPUTE does to nodes leaves a tile alone. -/
theorem Alone.of_computed {c d : Core} (hc : c.hp = List.replicate 6 HedgePort.reset) (h : Computed c d) : Alone d := by
  have hp : d.hp = c.hp := by unfold Computed at h; rw [h]
  exact .of_reset (hp.trans hc)

theorem takeOvers_of_alone {c : Core} (h : Alone c) (l : List Port) : l.foldl takeOver c = c := by
  induction l with
  | nil => rfl
  | cons p l ih =>
    rw [List.foldl_cons, takeOver, h.kept p]
    exact ih

theorem sendDs_of_alone {c : Core} (h : Alone c) (l : List Port) : l.foldl sendD c = c := by
  induction l with
  | nil => rfl
  | cons p l ih =>
    rw [List.foldl_cons, sendD, h.seam p]
    exact ih

theorem sendXs_nil (c : Core) (ps : List Port) (peaks : List Peak) : c.sendXs ps peaks [] = c := rfl

theorem tryFinish_of_alone {c : Core} (h : Alone c) (hphase : c.trk.phase = .waitX) : c.tryFinish = c.finish := by
  have hnone : c.mapped = [] := List.filter_eq_nil_iff.mpr fun p _ => by rw [h.seam p]; exact Bool.false_ne_true
  have hsettled : c.xSettled = true := by rw [xSettled, hnone]; rfl
  rw [tryFinish, hphase, hsettled]
  rfl

/-- The track engine of a tile without neighbours awaits nothing (R290). -/
theorem tryTrack_of_alone {c : Core} (h : Alone c) (hphase : c.trk.phase = .waitD) :
    c.tryTrack = (c.modTrk (fun t => { t with phase := .waitX })).tryFinish := by
  have hseams : ports.filter (fun p => (c.seamOf p).isSome && c.haveD p) = [] :=
    List.filter_eq_nil_iff.mpr fun p _ => by rw [h.seam p]; exact Bool.false_ne_true
  have hwait : ports.any c.awaitsD = false := List.any_eq_false.mpr fun p _ => by rw [h.waits p]; exact Bool.false_ne_true
  unfold tryTrack
  rw [hphase, hwait, hseams]
  rfl

end Core

end Sys2Proof.Machine

/-!
PROOFS. The SEAM, COMPUTE and REPORT slots and the seam deadlines (R15, R17, R85, R86, R132, R147, R189, R190, R213, R216, R290).
-/
namespace Sys2Proof.Machine

theorem gives_seamSlot {l : List LegCheck} {s : State} (hshape : s.core.seamShape l = true) : Gives (.seamSlot l) s (s.core.seamSlot l) := by
  have hrun : exec (.seamSlot l) s = onCoreIf (!s.core.beforeSeam || s.core.seamShape l) (fun c => c.seamSlot l) s := rfl
  rw [hshape, Bool.or_true, onCoreIf_true] at hrun
  exact gives_of_onCore hrun rfl

theorem gives_computeSlot (s : State) : Gives .computeSlot s s.core.computeSlot := rfl
theorem gives_seamDDeadline (p : Port) (s : State) : Gives (.seamDDeadline p) s (s.core.dDeadline p) := rfl
theorem gives_seamXDeadline (p : Port) (s : State) : Gives (.seamXDeadline p) s (s.core.xDeadline p) := rfl
theorem gives_reportSlot (s : State) : Gives .reportSlot s s.core.reportSlot := rfl

namespace Core

/-! SEAM (R85, R86, R290). -/

/-- A pending swing change waits for a contact or an exclusion, unless it is forced (R86, R147). -/
def swingWaits (c : Core) (w : SwingPend) : Bool :=
  !w.forced && (c.hasContact || (List.range c.prof.nSns).any c.lineExcluded)

theorem decideSwing_eq (c : Core) : c.decideSwing = c.modAcq (fun a => { a with
    swingAnn := match a.swingPend with
      | some w => if c.swingWaits w then a.swingAnn else some w.high
      | none => a.swingAnn
    swingPend := a.swingPend.filter c.swingWaits }) := by
  unfold decideSwing
  have hacq : c.modAcq (fun a => a) = c := rfl
  split
  case h_1 w hw =>
    have hneg : (w.forced || (!c.hasContact && !(List.range c.prof.nSns).any c.lineExcluded)) = !c.swingWaits w := by
      rw [swingWaits]
      cases w.forced <;> cases c.hasContact <;> simp
    rw [hneg, modAcq, modAcq, hw]
    cases hwait : c.swingWaits w
    · simp [Option.filter, hwait]
    · simp [Option.filter, hwait, ← hw]
  case h_2 hnone =>
    rw [modAcq, hnone]
    simp [Option.filter, ← hnone]

theorem seamSlot_of_normal {c : Core} (hslot : c.beforeSeam = true) (hmaint : c.acq.maint = none) :
    OnlyTxq ((c.modAcq (fun a => { a with slot := some .seam })).decideSwing) (c.seamSlot []) := by
  have hsame : ((c.modAcq (fun a => { a with slot := some .seam })).decideSwing).acq.maint = none := by
    rw [decideSwing_eq]
    exact hmaint
  unfold seamSlot
  rw [hslot, when_true]
  dsimp only
  generalize (c.modAcq (fun a => { a with slot := some .seam })).decideSwing = d at *
  have hself : d.inSelftest = false := by rw [inSelftest, hsame]; rfl
  rw [hself, if_neg Bool.false_ne_true, hsame, if_pos (by rfl)]
  exact foldl_onlyTxq _ (fun e p => e.sendFrame_only p _) _ d

/-! COMPUTE of a tile without neighbours (R132, R190). -/

theorem clearInvalid_computed (c : Core) : Computed c c.clearInvalid := rfl

/-- The nodes have taken the frame; without valid baselines there is no contact (R136, R190). -/
def framed (c : Core) : Core := if c.nodeFrame.node.valid then c.nodeFrame else c.nodeFrame.clearInvalid

theorem framed_computed (c : Core) : Computed c c.framed := by
  have hnodes := c.nodeFrame_only.computed
  unfold framed
  split
  · exact hnodes
  · exact hnodes.trans (clearInvalid_computed _)

theorem computeNormal_of_alone {c : Core} (h : c.hp = List.replicate 6 HedgePort.reset) : c.computeNormal =
    if c.framed.acq.sagged || !c.framed.node.valid then c.framed.closeCompute []
    else (c.framed.modTrk (fun t => { t with phase := .waitD })).tryTrack := by
  have halone := Alone.of_reset h
  have hframed := Alone.of_computed h c.framed_computed
  have hports : ports.filter (fun p => (c.framed.seamOf p).isSome) = [] :=
    List.filter_eq_nil_iff.mpr fun p _ => by rw [hframed.seam p]; exact Bool.false_ne_true
  have hfold : (if c.nodeFrame.node.valid then c.nodeFrame else c.nodeFrame.clearInvalid) = c.framed := rfl
  unfold computeNormal
  rw [takeOvers_of_alone halone]
  dsimp only
  rw [hfold, sendDs_of_alone hframed, hports, sendXs_nil]

theorem computeNormal_spec {c : Core} (h : c.hp = List.replicate 6 HedgePort.reset) :
    Computed c c.computeNormal ∧ c.computeNormal.trk.phase = .done := by
  have hframed := c.framed_computed
  rw [computeNormal_of_alone h]
  split
  · obtain ⟨hclose, hdone⟩ := c.framed.closeCompute_spec []
    exact ⟨hframed.trans hclose, hdone⟩
  · have hwaitD := hframed.trans (c.framed.modTrk_computed (fun t => { t with phase := .waitD }))
    have hwaitX := hwaitD.trans (modTrk_computed _ (fun t => { t with phase := .waitX }))
    rw [tryTrack_of_alone (.of_computed h hwaitD) rfl, tryFinish_of_alone (.of_computed h hwaitX) rfl]
    obtain ⟨hfinish, hdone⟩ := finish_spec ((c.framed.modTrk (fun t => { t with phase := .waitD })).modTrk (fun t => { t with phase := .waitX }))
    exact ⟨hwaitX.trans hfinish, hdone⟩

theorem clearInvalid_trk (c : Core) : c.clearInvalid.trk = { c.dropContacts.trk with out := c.endRecs } := rfl
theorem clearInvalid_hg (c : Core) : c.clearInvalid.hg = c.hg := rfl

theorem dropContacts_congr {c d : Core} (h : d.trk = c.trk) : d.dropContacts.trk = c.dropContacts.trk := by
  unfold dropContacts
  dsimp only
  rw [h]

/-- Without valid baselines every contact ends (R190). -/
theorem computeNormal_of_invalid {c : Core} (h : c.hp = List.replicate 6 HedgePort.reset) (hvalid : c.node.valid = false) :
    c.computeNormal.trk = { c.dropContacts.trk with out := c.endRecs, phase := .done } ∧ c.computeNormal.hg = c.hg := by
  have hnodes := c.nodeFrame_only
  unfold OnlyNodes at hnodes
  have hinvalid : c.nodeFrame.node.valid = false := by rw [hnodes]; exact hvalid
  have hrecs : c.nodeFrame.endRecs = c.endRecs := by rw [hnodes]; rfl
  have hdrop : c.nodeFrame.dropContacts.trk = c.dropContacts.trk := dropContacts_congr (by rw [hnodes])
  have hsame : c.nodeFrame.hg = c.hg := by rw [hnodes]
  have hframed : c.framed = c.nodeFrame.clearInvalid := by rw [framed, hinvalid, if_neg Bool.false_ne_true]
  have hstill : c.framed.node.valid = false := by rw [hframed, ← hinvalid]; rfl
  obtain ⟨htrk, hhg⟩ := closeCompute_trk (Alone.of_computed h c.framed_computed).heard []
  rw [computeNormal_of_alone h, hstill, Bool.not_false, Bool.or_true, if_pos rfl, htrk, hhg, hframed, clearInvalid_trk,
    clearInvalid_hg, hrecs, hdrop, hsame]
  exact ⟨rfl, rfl⟩

theorem forcedCompute_of_normal {c : Core} (hgiven : c.acq.noiseGiven = false) : c.forcedCompute = c := by
  rw [forcedCompute, forcedTest, hgiven, Bool.and_false, Bool.false_and, if_neg Bool.false_ne_true]

theorem computeSlot_of_normal {c : Core} (hslot : c.atSlot .seam = true) (hmaint : c.acq.maint = none) (hgiven : c.acq.noiseGiven = false) :
    c.computeSlot = (c.modAcq (fun a => { a with slot := some .compute })).computeNormal := by
  have hsame : (c.modAcq (fun a => { a with slot := some .compute })).acq.maint = none := hmaint
  have hkept : (c.modAcq (fun a => { a with slot := some .compute })).acq.noiseGiven = false := hgiven
  unfold computeSlot
  rw [hslot, when_true]
  dsimp only
  rw [hsame]
  dsimp only
  rw [forcedCompute_of_normal hkept]

/-! The deadlines (R290, R293). -/

/-- A port's wait for SEAM_D rests on its own side alone. -/
theorem awaitsD_modHp_of_ne (c : Core) {p q : Port} (h : q ≠ p) (f : HedgePort → HedgePort) : (c.modHp p f).awaitsD q = c.awaitsD q := by
  unfold awaitsD haveD partsOf seamOf seamOpen joined linkUp
  rw [modHp_hport_of_ne c h]
  rfl

/-- A panel edge awaits nothing (R290). -/
theorem awaitsD_of_edge {c : Core} {p : Port} (h : (c.hport p).edge = true) : c.awaitsD p = false := by
  have hopen : c.seamOpen p = false := by rw [seamOpen, h, Bool.not_true, Bool.and_false, Bool.false_and]
  rw [awaitsD, seamOf, hopen]
  rfl

theorem lt_length_of_awaitsD {c : Core} {p : Port} (h : c.awaitsD p = true) : p.val < c.hp.length := by
  refine lt_length_of_hport (P := fun x => x.edge ≠ true) (fun hedge => ?_) (by simp [HedgePort.reset])
  exact Bool.false_ne_true ((awaitsD_of_edge hedge).symm.trans h)

/-- SEAM_X that goes out leaves the edges of the panel as they are (R290). -/
structure SendsX (c d : Core) : Prop where
  only : d = { c with lnk := d.lnk, hp := d.hp }
  edge : ∀ q, (d.hport q).edge = (c.hport q).edge

namespace SendsX

theorem refl (c : Core) : SendsX c c := ⟨rfl, fun _ => rfl⟩

theorem trans {a b c : Core} (h : SendsX a b) (k : SendsX b c) : SendsX a c := by
  refine ⟨?_, fun q => (k.edge q).trans (h.edge q)⟩
  have honly := h.only
  have konly := k.only
  rw [konly, honly]

end SendsX

theorem sendXs_sends (c : Core) (ps : List Port) (peaks : List Peak) (dest : List Port) : SendsX c (c.sendXs ps peaks dest) := by
  refine foldl_keeps SendsX SendsX.refl (fun _ _ _ => SendsX.trans) _ (fun d b => ?_) _ c
  have hset : SendsX d (d.modHp b.1 (fun h => { h with outX := some b.2, outXLeft := xFrames b.2, outXAcked := false, xOver := false })) :=
    ⟨rfl, fun q => by
      refine modHp_keeps (g := HedgePort.edge) ?_ d b.1 q
      exact fun _ => rfl⟩
  exact hset.trans (foldl_keeps SendsX SendsX.refl (fun _ _ _ => SendsX.trans) (fun e x => e.sendFrame b.1 (.seamX x))
    (fun _ _ => ⟨rfl, fun _ => rfl⟩) (xFrames b.2) _)

theorem tryFinish_computed (c : Core) : Computed c c.tryFinish ∧ (c.tryFinish.trk.phase = c.trk.phase ∨ c.tryFinish.trk.phase = .done) := by
  unfold tryFinish
  split
  · exact ⟨c.finish_spec.1, .inr c.finish_spec.2⟩
  · exact ⟨.refl c, .inl rfl⟩

/-- Once no SEAM_D is awaited the track engine goes on (R290). -/
theorem tryTrack_goes_on {c : Core} (hphase : c.trk.phase = .waitD) (hwait : ∀ p, c.awaitsD p = false) :
    ∃ d, SendsX c d ∧ Computed d c.tryTrack ∧ c.tryTrack.trk.phase ≠ .waitD := by
  have hnone : ports.any c.awaitsD = false := List.any_eq_false.mpr fun p _ => by rw [hwait p]; exact Bool.false_ne_true
  unfold tryTrack
  rw [hphase, hnone, if_pos (by rfl)]
  extract_lets ps peaks
  obtain ⟨hcomputed, hend⟩ := ((c.sendXs ps peaks ps).modTrk (fun t => { t with phase := .waitX })).tryFinish_computed
  refine ⟨_, c.sendXs_sends ps peaks ps, (modTrk_computed _ _).trans hcomputed, ?_⟩
  rcases hend with hsame | hdone
  · rw [hsame]
    exact nofun
  · rw [hdone]
    exact nofun

/-- A deadline that has passed leaves the seams as they were (R290). -/
theorem seamOf_xOver (c : Core) (p q : Port) : (c.modHp p (fun h => { h with xOver := true })).seamOf q = c.seamOf q := by
  have hkeeps : ∀ {α : Type} {g : HedgePort → α}, (∀ h : HedgePort, g { h with xOver := true } = g h) →
      g ((c.modHp p (fun h => { h with xOver := true })).hport q) = g (c.hport q) := fun hg => modHp_keeps hg c p q
  unfold seamOf seamOpen joined linkUp
  rw [hkeeps (g := HedgePort.miswired) fun _ => rfl, hkeeps (g := HedgePort.partner) fun _ => rfl, hkeeps (g := HedgePort.edge) fun _ => rfl,
    hkeeps (g := HedgePort.uncertain) fun _ => rfl, hkeeps (g := HedgePort.digestBad) fun _ => rfl, hkeeps (g := HedgePort.inH) fun _ => rfl]
  rfl

theorem mapped_xOver (c : Core) (p : Port) : (c.modHp p (fun h => { h with xOver := true })).mapped = c.mapped := by
  refine List.filter_congr fun q _ => ?_
  have hout : ((c.modHp p (fun h => { h with xOver := true })).hport q).outX = (c.hport q).outX := by
    refine modHp_keeps (g := HedgePort.outX) ?_ c p q
    exact fun _ => rfl
  rw [seamOf_xOver, hout]
  rfl

theorem lt_length_of_mapped {c : Core} {p : Port} (h : p ∈ c.mapped) : p.val < c.hp.length := by
  have hout : (c.hport p).outX.any (fun x => x.fc == c.hg.fc) = true := (Bool.and_eq_true_iff.mp (List.mem_filter.mp h).2).2
  exact lt_length_of_hport (P := fun x => x.outX.any (fun x => x.fc == c.hg.fc) = true) hout (by simp [HedgePort.reset])

/-- The last deadline settles the frame (R290, R293). -/
theorem xSettled_of_last {c : Core} {p : Port} (h : ∀ q ∈ c.mapped, q ≠ p → (c.hport q).xOver = true ∨
    ((c.heardX q).isSome = true ∧ (c.hport q).outXAcked = true)) : (c.modHp p (fun h => { h with xOver := true })).xSettled = true := by
  refine List.all_eq_true.mpr fun q hq => ?_
  rw [mapped_xOver] at hq
  by_cases hqp : q = p
  · rw [hqp, modHp_hport_self (hqp ▸ lt_length_of_mapped hq)]
    rfl
  · rw [heardX, modHp_hport_of_ne c hqp]
    rcases h q hq hqp with hover | ⟨hcame, hacked⟩
    · rw [hover, Bool.true_or]
    · rw [heardX] at hcame
      rw [hacked, Bool.and_true]
      exact Bool.or_eq_true_iff.mpr (.inr hcame)

/-! REPORT (R189, R213, R216). -/

/-- The encoders once the net detents of some have become records (R216). -/
def spent (es : List (Fin 2)) (c : Core) : List Encoder :=
  es.foldl (fun l e => if (c.enc e).net = 0 then l else modifyAt l e.val (fun x => { x with net := 0, err := false })) c.keys.encs

theorem encoderRecord_only (c : Core) (e : Fin 2) : OnlyRecords { c with keys := { c.keys with encs := spent [e] c } } (c.encoderRecord e) := by
  unfold encoderRecord
  extract_lets keys s
  by_cases hnet : (c.enc e).net = 0
  · have hguard : (s.net != 0) = false := by simp [s, hnet]
    have hsame : spent [e] c = c.keys.encs := if_pos hnet
    rw [hguard, when_false, hsame]
    exact .refl c
  · have hguard : (s.net != 0) = true := by simp [s, hnet]
    have hspent : spent [e] c = modifyAt c.keys.encs e.val (fun x => { x with net := 0, err := false }) := if_neg hnet
    rw [hguard, when_true, hspent]
    exact foldl_only _ (fun d t => placeEncoder_only d t _ _) _ _

theorem encoderRecords_only (c : Core) : OnlyRecords { c with keys := { c.keys with encs := spent [0, 1] c } } c.encoderRecords := by
  have hzero := c.encoderRecord_only 0
  have hone := (c.encoderRecord 0).encoderRecord_only 1
  have hrun : c.encoderRecords = (c.encoderRecord 0).encoderRecord 1 := rfl
  have hkeys : (c.encoderRecord 0).keys = { c.keys with encs := spent [0] c } := by unfold OnlyRecords at hzero; rw [hzero]
  have henc : (c.encoderRecord 0).enc 1 = c.enc 1 := by
    rw [enc, hkeys]
    show (spent [0] c).getD 1 Encoder.reset = c.keys.encs.getD 1 Encoder.reset
    show (if (c.enc 0).net = 0 then c.keys.encs else modifyAt c.keys.encs 0 _).getD 1 Encoder.reset = _
    split
    · rfl
    · rw [modifyAt_getD, if_neg (by omega)]
  have hspent : spent [1] (c.encoderRecord 0) = spent [0, 1] c := by
    show (if ((c.encoderRecord 0).enc 1).net = 0 then (c.encoderRecord 0).keys.encs else modifyAt (c.encoderRecord 0).keys.encs 1 _) = _
    rw [henc, hkeys]
    rfl
  rw [hspent] at hone
  rw [hrun]
  generalize (c.encoderRecord 0).encoderRecord 1 = e at *
  generalize c.encoderRecord 0 = d at *
  unfold OnlyRecords at *
  rw [hone, hzero]

/-- REPORT of a normal frame of an unconfirmed tile places what waits (R189, R267). -/
theorem reportSlot_of_normal {c : Core} (hslot : c.atSlot .compute = true) (hmaint : c.acq.maint = none) (hdone : c.trk.phase = .done)
    (hunconf : c.hg.confirmed = false) (hroot : c.hg.panelRoot = false) :
    OnlyRecords { c with
      acq := { c.acq with slot := some .report }, hp := c.hp.map (fun h => { h with xOver := true }), trk := { c.trk with out := [] }
      keys := { c.keys with recs := [], encs := spent [0, 1] c } } c.reportSlot := by
  generalize hd : ({ c with
      acq := { c.acq with slot := some .report }, hp := c.hp.map (fun h => { h with xOver := true })
      trk := { c.trk with out := [] } } : Core) = d
  have hforce : (c.modAcq (fun a => { a with slot := some .report })).forceCompute =
      { c with acq := { c.acq with slot := some .report }, hp := c.hp.map (fun h => { h with xOver := true }) } := by
    unfold forceCompute
    dsimp only
    rw [if_neg (by show ¬ (c.trk.phase == .waitD || c.trk.phase == .waitX) = true; rw [hdone]; decide)]
    rfl
  have hrun : c.reportSlot = ((d.placeOut c.trk.out).placeKeyRecs.encoderRecords).sendReport := by
    unfold reportSlot
    rw [hslot, when_true]
    dsimp only
    rw [if_neg (by show ¬ c.acq.maint.isSome = true; rw [hmaint]; decide), hforce, ← hd]
    rfl
  have hout := d.placeOut_only c.trk.out
  have hkeys := (d.placeOut c.trk.out).placeKeyRecs_only
  have hencs := (d.placeOut c.trk.out).placeKeyRecs.encoderRecords_only
  have hspent : spent [0, 1] (d.placeOut c.trk.out).placeKeyRecs = spent [0, 1] c := by
    have hsame : (d.placeOut c.trk.out).placeKeyRecs.keys.encs = c.keys.encs := by
      unfold OnlyRecords at hkeys hout
      rw [hkeys, hout, ← hd]
    unfold spent enc
    rw [hsame]
  have hquiet : (d.placeOut c.trk.out).placeKeyRecs.encoderRecords.sendReport = (d.placeOut c.trk.out).placeKeyRecs.encoderRecords := by
    have hsame : (d.placeOut c.trk.out).placeKeyRecs.encoderRecords.hg = c.hg := by
      unfold OnlyRecords at hencs hkeys hout
      rw [hencs, hkeys, hout, ← hd]
    rw [sendReport, hsame, hunconf, hroot]
    rfl
  rw [hspent] at hencs
  rw [hrun, hquiet]
  generalize (d.placeOut c.trk.out).placeKeyRecs.encoderRecords = g at *
  generalize (d.placeOut c.trk.out).placeKeyRecs = f at *
  generalize d.placeOut c.trk.out = e at *
  unfold OnlyRecords at *
  rw [hencs, hkeys, hout, ← hd]

end Core

/-- Settles O8: SEAM, COMPUTE, the deadlines and REPORT. -/
theorem seamComputeReportComplete : Obligations.SeamComputeReportComplete := by
  refine ⟨fun s hslot hmaint => ?_, fun s n hslot hmaint => (gives_computeSlot s).congr ?_,
    fun s hslot hmaint hgiven halone => ⟨_, gives_computeSlot s, ?_⟩,
    fun s hslot hmaint hgiven hvalid halone => ⟨_, gives_computeSlot s, ?_⟩,
    fun s p q hphase hp hq hne => (gives_seamDDeadline p s).congr ?_,
    fun s p hphase hp hothers => ⟨_, gives_seamDDeadline p s, ?_⟩,
    fun s p hphase hothers => ⟨_, gives_seamXDeadline p s, ?_⟩,
    fun s p hphase => (gives_seamXDeadline p s).congr ?_,
    fun s hslot hmaint hdone hunconf hroot => ⟨_, gives_reportSlot s, Core.reportSlot_of_normal hslot hmaint hdone hunconf hroot⟩,
    fun s m hslot hmaint => (gives_reportSlot s).congr ?_⟩
  · intro waits
    have hshape : s.core.seamShape [] = true := by rw [Core.seamShape, Core.inSelftest, hmaint]; rfl
    refine ⟨_, gives_seamSlot hshape, ?_⟩
    obtain ⟨hcore, hports⟩ := Core.seamSlot_of_normal hslot hmaint
    rw [Core.decideSwing_eq] at hcore hports
    refine ⟨?_, ?_, hports⟩
    · rw [hcore]
      rfl
    · rw [hcore]
      rfl
  · unfold Core.computeSlot
    rw [hslot, Core.when_true]
    dsimp only
    have hsame : (s.core.modAcq (fun a => { a with slot := some .compute })).acq.maint = some (.slicecal n) := hmaint
    rw [hsame]
    rfl
  · obtain ⟨honly, hdone⟩ := Core.computeNormal_spec (c := s.core.modAcq (fun a => { a with slot := some .compute })) halone
    rw [Core.computeSlot_of_normal hslot hmaint hgiven]
    generalize (s.core.modAcq (fun a => { a with slot := some .compute })).computeNormal = d at *
    unfold Computed at honly
    refine ⟨?_, hdone, ?_, ?_, ?_⟩ <;> rw [honly] <;> rfl
  · obtain ⟨honly, hdone⟩ := Core.computeNormal_spec (c := s.core.modAcq (fun a => { a with slot := some .compute })) halone
    obtain ⟨htrk, hhg⟩ := Core.computeNormal_of_invalid (c := s.core.modAcq (fun a => { a with slot := some .compute })) halone hvalid
    rw [Core.computeSlot_of_normal hslot hmaint hgiven]
    generalize (s.core.modAcq (fun a => { a with slot := some .compute })).computeNormal = d at *
    unfold Computed at honly
    refine ⟨?_, hdone, ?_, ?_, ?_, ?_, ?_, ?_⟩
    · rw [hhg] at honly
      rw [honly]
      rfl
    · rw [htrk]
      rfl
    · rw [htrk]
      rfl
    · rw [htrk]
      rfl
    · rw [honly]
      rfl
    · rw [honly]
      rfl
    · rw [honly]
      rfl
  · have hwait : Core.ports.any (s.core.modHp p (fun h => { h with edge := true })).awaitsD = true :=
      List.any_eq_true.mpr ⟨q, Core.mem_ports q, by rw [Core.awaitsD_modHp_of_ne _ (Ne.symm hne)]; exact hq⟩
    rw [Core.dDeadline, hphase, hp]
    show Core.tryTrack _ = _
    rw [Core.tryTrack, hwait, Bool.not_true, Bool.and_false, if_neg Bool.false_ne_true]
    rfl
  · have hedge : ((s.core.modHp p (fun h => { h with edge := true })).hport p).edge = true := by
      rw [Core.modHp_hport_self (Core.lt_length_of_awaitsD hp)]
    have hnone : ∀ q, (s.core.modHp p (fun h => { h with edge := true })).awaitsD q = false := fun q => by
      by_cases hqp : q = p
      · rw [hqp]
        exact Core.awaitsD_of_edge hedge
      · rw [Core.awaitsD_modHp_of_ne _ hqp]
        exact hothers q hqp
    have hrun : s.core.dDeadline p = (s.core.modHp p (fun h => { h with edge := true })).tryTrack := by
      rw [Core.dDeadline, hphase, hp]
      rfl
    obtain ⟨d, hsends, hcomputed, hgone⟩ := Core.tryTrack_goes_on (c := s.core.modHp p (fun h => { h with edge := true })) hphase hnone
    have hsent := hsends.only
    have hkept := hsends.edge p
    rw [hrun]
    generalize (s.core.modHp p (fun h => { h with edge := true })).tryTrack = e at *
    unfold Computed at hcomputed
    have hsides : e.hp = d.hp := by rw [hcomputed]
    refine ⟨?_, hgone, ?_, ?_, ?_⟩
    · rw [← hedge, ← hkept, Core.hport, Core.hport, hsides]
    · rw [hcomputed, hsent]
      rfl
    · rw [hcomputed, hsent]
      rfl
    · rw [hcomputed, hsent]
      rfl
  · have hrun : s.core.xDeadline p = (s.core.modHp p (fun h => { h with xOver := true })).finish := by
      rw [Core.xDeadline, hphase]
      show Core.tryFinish _ = _
      rw [Core.tryFinish, Core.xSettled_of_last hothers, Bool.and_true, if_pos (by show (s.core.trk.phase == .waitX) = true; rw [hphase]; rfl)]
    obtain ⟨honly, hdone⟩ := (s.core.modHp p (fun h => { h with xOver := true })).finish_spec
    rw [hrun]
    unfold Computed at honly
    refine ⟨?_, hdone⟩
    rw [honly]
    rfl
  · have hidle : (s.core.trk.phase != .idle) = true := by rcases hphase with h | h <;> rw [h] <;> rfl
    have hX : s.core.trk.phase ≠ .waitX := by rcases hphase with h | h <;> rw [h] <;> exact nofun
    rw [Core.xDeadline, hidle, Core.when_true, Core.tryFinish_of_not (by exact hX)]
    rfl
  · rw [Core.reportSlot, hslot, Core.when_true]
    dsimp only
    rw [if_pos (by show s.core.acq.maint.isSome = true; rw [hmaint]; rfl)]
    rfl

end Sys2Proof.Machine
